-- ==== Sys2Proof/Word.lean ====
section
/-!
DEFINITION. The word types of the part and the sparse tables that hold its arrays. R5: bits are numbered from 0 at
the least significant bit.
-/

namespace Sys2Proof

/-- Eight bits. -/
abbrev Byte := BitVec 8

/-- A sparse table: pairs of an index and an entry, with strictly rising indices and no entry equal to the table's
default. An index that is not listed holds the default. -/
abbrev Tbl (α : Type) := List (Nat × α)

/-- The entry at `k`, or the default `d` when `k` is not listed. -/
def Tbl.get {α : Type} (t : Tbl α) (d : α) (k : Nat) : α :=
  match t with
  | [] => d
  | (i, x) :: r => if i = k then x else Tbl.get r d k

/-- The table without index `k`. -/
def Tbl.drop {α : Type} (t : Tbl α) (k : Nat) : Tbl α :=
  List.filter (fun p => p.1 ≠ k) t

/-- Puts a pair in its place in a table that does not list its index. -/
def Tbl.insert {α : Type} (t : Tbl α) (k : Nat) (v : α) : Tbl α :=
  match t with
  | [] => [(k, v)]
  | (i, x) :: r => if k < i then (k, v) :: (i, x) :: r else (i, x) :: Tbl.insert r k v

/-- The table with `v` at `k`; writing the default removes the entry, so that equal tables are equal data. -/
def Tbl.put {α : Type} [DecidableEq α] (t : Tbl α) (d : α) (k : Nat) (v : α) : Tbl α :=
  if v = d then Tbl.drop t k else Tbl.insert (Tbl.drop t k) k v

/-- The canonical form of a table: indices strictly rising, and no listed entry equal to the default. -/
def Tbl.wf {α : Type} [DecidableEq α] (t : Tbl α) (d : α) : Bool :=
  match t with
  | [] => true
  | (i, x) :: r => decide (x ≠ d) && (match r with | [] => true | (j, _) :: _ => decide (i < j)) && Tbl.wf r d

end Sys2Proof
end

