-- ==== Sys2Proof/Machine/Bits.lean ====
section
/-!
DEFINITION. Bit fields (R5), bytes in the part's order (R8), CRC-32C (R9, R231) and the rounding-noise function
(R60).
-/

namespace Sys2Proof.Machine

/-- Bits `hi` to `lo` of `v` as an unsigned number: a field map's "hi:lo" (R5). -/
def bits (v hi lo : Nat) : Nat := (v >>> lo) % 2 ^ (hi + 1 - lo)

/-- Bit `i` of `v`. -/
def bit (v i : Nat) : Bool := (v >>> i) % 2 == 1

/-- A Bool as a bit. -/
def b2n (b : Bool) : Nat := if b then 1 else 0

/-- `v` with its bits `hi` to `lo` replaced by `x`. -/
def setBits (v hi lo x : Nat) : Nat :=
  (v >>> (hi + 1)) <<< (hi + 1) + (x % 2 ^ (hi + 1 - lo)) <<< lo + v % 2 ^ lo

/-- The `w`-bit number `v` read in two's complement. -/
def signed (w v : Nat) : Int := if v < 2 ^ (w - 1) then (v : Int) else (v : Int) - (2 : Int) ^ w

/-- The low `w` bits of a signed number, in two's complement. -/
def unsign (w : Nat) (v : Int) : Nat := (v % (2 : Int) ^ w).toNat

/-- A number as `n` bytes, least significant first (R8). -/
def toBytes : Nat → Nat → List Nat
  | 0, _ => []
  | n + 1, v => v % 256 :: toBytes n (v / 256)

/-- The number whose bytes, least significant first, are given (R8). -/
def ofBytes : List Nat → Nat
  | [] => 0
  | b :: r => b % 256 + 256 * ofBytes r

/-- `⌈a / b⌉`. -/
def ceilDiv (a b : Nat) : Nat := (a + b - 1) / b

/-- One bit step of CRC-32C (the Castagnoli polynomial, reflected). -/
def crcBit (c : Nat) : Nat := if c % 2 = 1 then Nat.xor (c / 2) 0x82F63B78 else c / 2

/-- One byte step of CRC-32C. -/
def crcByte (c b : Nat) : Nat :=
  crcBit (crcBit (crcBit (crcBit (crcBit (crcBit (crcBit (crcBit (Nat.xor c (b % 256)))))))))

/-- CRC-32C of a byte string in address order (R9: stored as a 32-bit little-endian value). -/
def crc32c (bs : List Nat) : Nat := Nat.xor (bs.foldl crcByte 0xFFFFFFFF) 0xFFFFFFFF

/-- Rotates the 64-bit word `v` left by `n` bits (R60). -/
def rotl64 (v n : Nat) : Nat := Nat.lor ((v <<< n) % 2 ^ 64) (v >>> (64 - n))

/-- One round of the noise function of R60. -/
def noiseRound (ab : Nat × Nat) (i : Nat) : Nat × Nat :=
  let a := (ab.1 + ab.2 + i * 0xB7E34A916C2DF5A7) % 2 ^ 64
  let b := Nat.xor (rotl64 ab.2 17) a
  let a := (a * 0x8E5F13C9A2647D3B) % 2 ^ 64
  (Nat.xor a (a >>> 29), b)

/-- NOISE(seed, step, tensor, index) of R60: a 32-bit noise value. -/
def noise (seed step tensor index : Nat) : Nat :=
  let a := Nat.xor (Nat.lor ((tensor <<< 40) % 2 ^ 64) index) seed
  let b := Nat.xor (Nat.lor ((step <<< 32) % 2 ^ 64) step) (rotl64 seed 32)
  let r := noiseRound (noiseRound (noiseRound (noiseRound (a, b) 0) 1) 2) 3
  (Nat.xor r.1 r.2) >>> 32

/-- `⌊√x⌋` from the `n` low binary digits of the root downwards. -/
def isqrtFrom (x : Nat) : Nat → Nat → Nat
  | 0, r => r
  | n + 1, r => isqrtFrom x n (if (r + 2 ^ n) * (r + 2 ^ n) ≤ x then r + 2 ^ n else r)

/-- `⌊√x⌋`. -/
def isqrt (x : Nat) : Nat := isqrtFrom x (Nat.log2 x / 2 + 1) 0

/-- Puts a number into an ascending list without repeats. -/
def insertNat (r : Nat) : List Nat → List Nat
  | [] => [r]
  | x :: l => if r < x then r :: x :: l else if r = x then x :: l else x :: insertNat r l

/-- Bytes padded with 0, or cut, to a length. -/
def fitBytes (n : Nat) (bs : List Nat) : List Nat := bs.take n ++ List.replicate (n - bs.length) 0

end Sys2Proof.Machine
end

