-- ==== Sys2Proof/Machine/Num.lean ====
section
/-!
DEFINITION. Number formats, exact values, and rounding onto a format's grid (chapter 02). Every value is exact: a
sign, a magnitude and a power of two. Rounding happens only where a rule names it.
-/

namespace Sys2Proof.Machine

/-- The formats of R35. Codes 0xB to 0xF are reserved. -/
inductive Fmt
  | bf16 | fp16 | fp32 | e4m3 | e5m2 | e2m3 | e3m2 | e2m1 | e8m0 | ul8 | raw
  | reserved (code : Fin 16)
deriving DecidableEq, Repr

/-- The format of a 4-bit format code (R35). -/
def Fmt.ofCode (c : Nat) : Fmt :=
  match c with
  | 0 => .bf16 | 1 => .fp16 | 2 => .fp32 | 3 => .e4m3 | 4 => .e5m2 | 5 => .e2m3 | 6 => .e3m2 | 7 => .e2m1
  | 8 => .e8m0 | 9 => .ul8 | 10 => .raw
  | n => .reserved (Fin.ofNat 16 n)

/-- The 4-bit code of a format (R35). -/
def Fmt.code : Fmt → Nat
  | .bf16 => 0 | .fp16 => 1 | .fp32 => 2 | .e4m3 => 3 | .e5m2 => 4 | .e2m3 => 5 | .e3m2 => 6 | .e2m1 => 7
  | .e8m0 => 8 | .ul8 => 9 | .raw => 10
  | .reserved c => c.val

/-- The MX element formats, which carry one E8M0 scale per group of 32 elements. -/
def Fmt.isMX : Fmt → Bool
  | .e4m3 | .e5m2 | .e2m3 | .e3m2 | .e2m1 => true
  | _ => false

/-- The IEEE-like formats of R35. -/
def Fmt.isIeee : Fmt → Bool
  | .bf16 | .fp16 | .fp32 => true
  | _ => false

/-- The FP8 formats. -/
def Fmt.isFp8 : Fmt → Bool
  | .e4m3 | .e5m2 => true
  | _ => false

/-- Product input formats (R36). -/
def Fmt.productInput : Fmt → Bool
  | .bf16 | .fp16 | .e4m3 | .e5m2 | .e2m3 | .e3m2 | .e2m1 => true
  | _ => false

/-- Product output formats (R36). -/
def Fmt.productOutput : Fmt → Bool
  | .bf16 | .fp16 | .fp32 | .e4m3 | .e5m2 => true
  | _ => false

/-- Element width in bits (R37). -/
def Fmt.width : Fmt → Nat
  | .bf16 | .fp16 => 16
  | .fp32 => 32
  | .e2m3 | .e3m2 => 6
  | .e2m1 => 4
  | _ => 8

/-- Elements of one block (R37); RAW and reserved codes count bytes (R155). -/
def Fmt.perBlock : Fmt → Nat
  | .bf16 | .fp16 => 1024
  | .fp32 => 512
  | .e2m3 | .e3m2 => 2560
  | .e2m1 => 4096
  | _ => 2048

/-- Data bytes of a full block (R37). -/
def Fmt.bytesUsed : Fmt → Nat
  | .e2m3 | .e3m2 => 1920
  | _ => 2048

/-- Bytes of one MX group of 32 elements, the G of R237. -/
def Fmt.groupBytes (f : Fmt) : Nat := 32 * f.width / 8

/-- Exponent bits, mantissa bits and bias of a floating format (R35). -/
structure FpShape where
  eb : Nat
  mb : Nat
  bias : Nat
deriving DecidableEq, Repr

/-- The shape of each floating format (R35); the other formats take FP32's, which is not used for them. -/
def Fmt.shape : Fmt → FpShape
  | .bf16 => ⟨8, 7, 127⟩
  | .fp16 => ⟨5, 10, 15⟩
  | .e4m3 => ⟨4, 3, 7⟩
  | .e5m2 => ⟨5, 2, 15⟩
  | .e2m3 => ⟨2, 3, 1⟩
  | .e3m2 => ⟨3, 2, 3⟩
  | .e2m1 => ⟨2, 1, 1⟩
  | _ => ⟨8, 23, 127⟩

/-- The exponent of the smallest normal number. -/
def FpShape.emin (s : FpShape) : Int := 1 - (s.bias : Int)

/-- The largest finite value of an MX element format (R35) as a magnitude and a power of two. -/
def Fmt.mxMax : Fmt → Nat × Int
  | .e4m3 => (7, 6)
  | .e5m2 => (7, 13)
  | .e2m3 => (15, -1)
  | .e3m2 => (7, 2)
  | _ => (3, 1)

/-- The code of the largest finite magnitude of an MX element format. -/
def Fmt.mxMaxCode : Fmt → Nat
  | .e4m3 => 0x7E
  | .e5m2 => 0x7B
  | .e2m3 => 0x1F
  | .e3m2 => 0x1F
  | _ => 0x7

/-- The canonical NaN of a format (R41). FP6, FP4 and RAW have no NaN code. -/
def Fmt.canonNan : Fmt → Nat
  | .fp32 => 0x7FC00000
  | .bf16 => 0x7FC0
  | .fp16 => 0x7E00
  | .e4m3 | .e5m2 => 0x7F
  | .e8m0 | .ul8 => 0xFF
  | _ => 0

/-- An exact value: NaN, an infinity, or `±m × 2^e` (a zero keeps its sign). R42: NaN payloads and signs carry
nothing. -/
inductive Val
  | nan
  | inf (neg : Bool)
  | fin (neg : Bool) (m : Nat) (e : Int)
deriving DecidableEq, Repr

/-- +0. -/
def Val.zero : Val := .fin false 0 0

/-- 1.0. -/
def Val.one : Val := .fin false 1 0

/-- Finite. -/
def Val.isFin : Val → Bool
  | .fin _ _ _ => true
  | _ => false

/-- NaN. -/
def Val.isNan : Val → Bool
  | .nan => true
  | _ => false

/-- The sign flipped (a NaN stays a NaN, R42). -/
def Val.neg : Val → Val
  | .nan => .nan
  | .inf n => .inf (!n)
  | .fin n m e => .fin (!n) m e

/-- The sign flipped when `b` is set. -/
def Val.negIf (b : Bool) (v : Val) : Val := if b then v.neg else v

/-- `±m` as an integer. -/
def sint (neg : Bool) (m : Nat) : Int := if neg then -(m : Int) else (m : Int)

/-- `floor(log2 (m × 2^e))` for a magnitude `m > 0`. -/
def expo (m : Nat) (e : Int) : Int := (Nat.log2 m : Int) + e

/-- `m × 2^e ≤ m' × 2^e'`. -/
def magLe (m : Nat) (e : Int) (m' : Nat) (e' : Int) : Bool :=
  if e ≤ e' then m ≤ m' * 2 ^ (e' - e).toNat else m * 2 ^ (e - e').toNat ≤ m'

/-- The exact sum of two signed dyadics `a × 2^ea + b × 2^eb`. -/
def dyAdd (a : Int) (ea : Int) (b : Int) (eb : Int) : Int × Int :=
  if ea ≤ eb then (a + b * (2 : Int) ^ (eb - ea).toNat, ea) else (a * (2 : Int) ^ (ea - eb).toNat + b, eb)

/-- A signed dyadic as a value; an exact zero is +0. -/
def Val.ofDy (v : Int) (e : Int) : Val := .fin (decide (v < 0)) v.natAbs e

/-- The comparison `a ≤ b` of two values that are no NaN; ±0 are equal. -/
def Val.le : Val → Val → Bool
  | .nan, _ => false
  | _, .nan => false
  | .inf true, _ => true
  | _, .inf false => true
  | .inf false, _ => false
  | _, .inf true => false
  | .fin n m e, .fin n' m' e' =>
    let d := dyAdd (sint n m) e (-(sint n' m')) e'
    decide (d.1 ≤ 0)

/-- Decodes an element code (R41 to R45 and the tables of "Encodings"). FP6 and FP4 have no special codes. -/
def decodeElem (f : Fmt) (c : Nat) : Val :=
  match f with
  | .e8m0 => if c % 256 = 255 then .nan else .fin false 1 ((c % 256 : Nat) - 127)
  | .ul8 =>
    let c := c % 256
    if c = 0 then .zero
    else if c = 255 then .nan
    else
      let d : Int := (c : Int) - 224
      let k := d / 4
      let m := match (d % 4).toNat with
        | 0 => 0x800000
        | 1 => 0x9837F0
        | 2 => 0xB504F3
        | _ => 0xD744FD
      .fin false m (k - 23)
  | .raw => .nan
  | .reserved _ => .nan
  | f =>
    let s := f.shape
    let m := c % 2 ^ s.mb
    let e := (c / 2 ^ s.mb) % 2 ^ s.eb
    let n := decide ((c / 2 ^ (s.mb + s.eb)) % 2 = 1)
    if f.isIeee && e = 2 ^ s.eb - 1 then (if m = 0 then .inf n else .nan)
    else if f = .e5m2 && e = 31 then (if m = 0 then .inf n else .nan)
    else if f = .e4m3 && e = 15 && m = 7 then .nan
    else if e = 0 then .fin n m (s.emin - s.mb)
    else .fin n (2 ^ s.mb + m) ((e : Int) - s.bias - s.mb)

/-- An MX element under its group's E8M0 scale code (R43: scale 0xFF makes it NaN). -/
def scaleElem (sc : Nat) (v : Val) : Val :=
  if sc = 255 then .nan
  else match v with
    | .fin n m e => .fin n m (e + ((sc : Int) - 127))
    | v => v

/-- Input flushing of R47 (counted) and R48: the value used, and whether R47 counts a flush. -/
def flushIn (f : Fmt) (v : Val) : Val × Bool :=
  match v with
  | .fin n m e =>
    if m = 0 then (v, false)
    else if f.isIeee then (if expo m e < f.shape.emin then (.fin n 0 0, true) else (v, false))
    else if f.isMX then (if expo m e < -126 then (.fin n 0 0, false) else (v, false))
    else (v, false)
  | v => (v, false)

/-- R69: a scaled MX magnitude of 2^128 or more. -/
def tooBig (f : Fmt) : Val → Bool
  | .fin _ m e => f.isMX && m ≠ 0 && decide (128 ≤ expo m e)
  | _ => false

/-- The exponent that an element adds to MAXEXP, plus 127 (R68, R69); 0 where it adds none. -/
def elemMaxExp (f : Fmt) (v : Val) : Nat :=
  match v with
  | .fin _ m e =>
    if m = 0 || tooBig f v then 0
    else if expo m e < -126 then 1 else (expo m e + 127).toNat
  | _ => 0

/-- The rounding modes of chapter 02; stochastic rounding carries its 32-bit noise. -/
inductive Rnd
  | nearest
  | stochastic (n : Nat)
deriving DecidableEq, Repr

/-- Rounds `v × 2^e` to a multiple of `2^q`: nearest-even, or stochastically with F truncated to 32 bits
("Rounding and the rounding noise generator"). Answers the multiple. -/
def gridRound (r : Rnd) (v : Int) (e q : Int) : Int :=
  if q ≤ e then v * (2 : Int) ^ (e - q).toNat
  else
    let d : Int := (2 : Int) ^ (q - e).toNat
    let k := v / d
    let x := v % d
    match r with
    | .nearest => if d < 2 * x || (2 * x = d && k % 2 = 1) then k + 1 else k
    | .stochastic n => if (2 : Int) ^ 32 ≤ x * (2 : Int) ^ 32 / d + n then k + 1 else k

/-- The code of a rounded magnitude `k × 2^q` with sign, for a format with subnormal codes or for a normal value. -/
def encodeMag (s : FpShape) (neg : Bool) (k : Nat) (q : Int) : Nat :=
  let sg := if neg then 2 ^ (s.eb + s.mb) else 0
  if k = 0 then sg
  else
    let x := expo k q
    if x < s.emin then sg + k
    else
      let l := Nat.log2 k
      let mant := if s.mb ≤ l then k >>> (l - s.mb) else k <<< (s.mb - l)
      sg + (x + s.bias).toNat * 2 ^ s.mb + (mant - 2 ^ s.mb)

/-- What a rounding gives: the element code, the value it stands for, and the events it makes. -/
structure Rounded where
  code : Nat
  val : Val
  /-- an infinity or NaN formed from a finite value (R53) -/
  ovf : Bool
  /-- a flush that R49 counts -/
  flush : Bool
  /-- a clamp counted in CONVERT_SATURATIONS -/
  sat : Bool
deriving DecidableEq, Repr

/-- The infinity code of an IEEE-like format. -/
def infCode (s : FpShape) (neg : Bool) : Nat :=
  (if neg then 2 ^ (s.eb + s.mb) else 0) + (2 ^ s.eb - 1) * 2 ^ s.mb

/-- Rounds a value once onto the grid of BF16, FP16 or FP32 and applies R53 and R49. The grid keeps the spacing of
the smallest normal binade below it. -/
def roundIeee (f : Fmt) (r : Rnd) (v : Val) : Rounded :=
  let s := f.shape
  match v with
  | .nan => ⟨f.canonNan, .nan, false, false, false⟩
  | .inf n => ⟨infCode s n, .inf n, false, false, false⟩
  | .fin n m e =>
    if m = 0 then ⟨encodeMag s n 0 0, .fin n 0 0, false, false, false⟩
    else
      let q := max (expo m e) s.emin - s.mb
      let k := gridRound r (sint n m) e q
      let a := k.natAbs
      if a = 0 || decide (expo a q < s.emin) then ⟨encodeMag s n 0 0, .fin n 0 0, false, true, false⟩
      else if (s.bias : Int) < expo a q then ⟨infCode s n, .inf n, true, false, false⟩
      else ⟨encodeMag s n a q, .fin n a q, false, false, false⟩

/-- The smallest scale exponent of a group whose largest finite magnitude is `m × 2^e` (R54); an all-zero group
takes 0. -/
def groupScale (f : Fmt) (m : Nat) (e : Int) : Int :=
  if m = 0 then 0
  else
    let (mm, me) := f.mxMax
    let t := expo m e - expo mm me
    let t := if magLe m e mm (me + t) then t else t + 1
    max (-127) (min 127 t)

/-- The largest finite magnitude of a list of values. -/
def largestMag : List Val → Nat × Int
  | [] => (0, 0)
  | v :: r =>
    let p := largestMag r
    match v with
    | .fin _ m e => if p.1 = 0 || !(magLe m e p.1 p.2) then (if m = 0 then p else (m, e)) else p
    | _ => p

/-- R54 for the values of one group: an infinity leaves every scale too small, so it takes t = 127. -/
def groupExp (f : Fmt) (vs : List Val) : Int :=
  if vs.any (fun v => match v with | .inf _ => true | _ => false) then 127
  else let p := largestMag vs; groupScale f p.1 p.2

/-- Rounds a value into an MX element format under the scale 2^t (R54, R48, R59). An infinity saturates; the caller
turns it into NaN where R59 does. -/
def roundMX (f : Fmt) (r : Rnd) (t : Int) (v : Val) : Rounded :=
  let s := f.shape
  let sg (n : Bool) := if n then 2 ^ (s.eb + s.mb) else 0
  let (mm, me) := f.mxMax
  match v with
  | .nan => ⟨f.canonNan, .nan, false, false, false⟩
  | .inf n => ⟨sg n + f.mxMaxCode, .fin n mm (me + t), false, false, true⟩
  | .fin n m e =>
    if m = 0 then ⟨sg n, .fin n 0 0, false, false, false⟩
    else if !(magLe m e mm (me + t)) then ⟨sg n + f.mxMaxCode, .fin n mm (me + t), false, false, true⟩
    else
      let x := e - t
      let q := max (expo m x) s.emin - s.mb
      let a := (gridRound r (sint n m) x q).natAbs
      if a = 0 || decide (expo a (q + t) < -126) then ⟨sg n, .fin n 0 0, false, false, false⟩
      else ⟨encodeMag s n a q, .fin n a (q + t), false, false, false⟩

/-- UL8 encoding of R46; UL8 takes no stochastic rounding. -/
def encodeUL8 (v : Val) : Rounded :=
  match v with
  | .fin n m e =>
    if m = 0 then ⟨0, .zero, false, false, false⟩
    else if n then ⟨0xFF, .nan, true, false, false⟩
    else
      let l := Nat.log2 m
      let x := expo m e
      let fr := if 23 ≤ l then (m >>> (l - 23)) - 2 ^ 23 else (m <<< (23 - l)) - 2 ^ 23
      let q := ([0x0B95C2, 0x25FED7, 0x45672B, 0x6AC0C7].filter (fun t => t ≤ fr)).length
      let c : Int := 224 + 4 * x + q
      if c < 1 then ⟨0, .zero, false, false, false⟩
      else if 254 < c then ⟨254, decodeElem .ul8 254, false, false, true⟩
      else ⟨c.toNat, decodeElem .ul8 c.toNat, false, false, false⟩
  | _ => ⟨0xFF, .nan, false, false, false⟩

/-- E8M0 conversion of R600; every clamp to 0xFE or 0x00 is counted. -/
def encodeE8M0 (r : Rnd) (v : Val) : Rounded :=
  match v with
  | .fin n m e =>
    if m = 0 then ⟨0, decodeElem .e8m0 0, false, false, true⟩
    else if n then ⟨0xFF, .nan, true, false, false⟩
    else
      let x := expo m e
      let l := Nat.log2 m
      let rest := m - 2 ^ l
      let up : Bool := match r with
        | .nearest => decide (2 ^ l < 2 * rest) || (decide (2 * rest = 2 ^ l ∧ rest ≠ 0) && decide ((x + 127) % 2 = 1))
        | .stochastic z => decide (2 ^ 32 ≤ rest * 2 ^ 32 / 2 ^ l + z)
      let c := x + 127 + (if up then 1 else 0)
      if c < 0 then ⟨0, decodeElem .e8m0 0, false, false, true⟩
      else if 254 < c then ⟨254, decodeElem .e8m0 254, false, false, true⟩
      else ⟨c.toNat, decodeElem .e8m0 c.toNat, false, false, false⟩
  | _ => ⟨0xFF, .nan, false, false, false⟩

/-! ### FP32 arithmetic of the vector unit (R57) -/

/-- Why a result is not finite: the CAUSE codes of R65. -/
inductive Cause
  | none | overflow | invalid | divide | input
deriving DecidableEq, Repr

/-- The 4-bit CAUSE code of R65. -/
def Cause.code : Cause → Nat
  | .none => 0 | .overflow => 1 | .invalid => 2 | .divide => 3 | .input => 4

/-- An FP32 result: its value, whether R49 flushed it, and its cause when it is not finite. -/
structure FpRes where
  val : Val
  flush : Bool
  cause : Cause
deriving DecidableEq, Repr

/-- Rounds an exact value once to FP32, nearest-even, then flushes (R57, R49, R53). -/
def toF32 (v : Val) : FpRes :=
  let r := roundIeee .fp32 .nearest v
  ⟨r.val, r.flush, if r.ovf then .overflow else .none⟩

/-- FP32 fused multiply-add with one rounding and IEEE 754 signs of zeros (R57). -/
def fmaF32 (a b c : Val) : FpRes :=
  match a, b, c with
  | .nan, _, _ => ⟨.nan, false, .input⟩
  | _, .nan, _ => ⟨.nan, false, .input⟩
  | _, _, .nan => ⟨.nan, false, .input⟩
  | .fin na ma ea, .fin nb mb eb, .fin nc mc ec =>
    let np := na != nb
    let p := sint np (ma * mb)
    if ma * mb = 0 && mc = 0 then ⟨.fin (np && nc) 0 0, false, .none⟩
    else
      let d := dyAdd p (ea + eb) (sint nc mc) ec
      if d.1 = 0 then ⟨.zero, false, .none⟩ else toF32 (.ofDy d.1 d.2)
  | .fin _ _ _, .fin _ _ _, .inf n => ⟨.inf n, false, .input⟩
  | .inf na, .fin nb mb _, c =>
    if mb = 0 then ⟨.nan, false, .invalid⟩
    else match c with
      | .inf nc => if nc = (na != nb) then ⟨.inf nc, false, .input⟩ else ⟨.nan, false, .invalid⟩
      | _ => ⟨.inf (na != nb), false, .input⟩
  | .fin na ma _, .inf nb, c =>
    if ma = 0 then ⟨.nan, false, .invalid⟩
    else match c with
      | .inf nc => if nc = (na != nb) then ⟨.inf nc, false, .input⟩ else ⟨.nan, false, .invalid⟩
      | _ => ⟨.inf (na != nb), false, .input⟩
  | .inf na, .inf nb, .inf nc => if nc = (na != nb) then ⟨.inf nc, false, .input⟩ else ⟨.nan, false, .invalid⟩
  | .inf na, .inf nb, .fin _ _ _ => ⟨.inf (na != nb), false, .input⟩

/-- a + b (R57). -/
def addF32 (a b : Val) : FpRes := fmaF32 a .one b

/-- a × b (R57): adding −0 changes no product. -/
def mulF32 (a b : Val) : FpRes := fmaF32 a b (.fin true 0 0)

/-- VMAX and VMIN (R154's table): NaN when either is NaN; +0 is larger than −0. -/
def maxVal (a b : Val) : Val :=
  match a, b with
  | .nan, _ => .nan
  | _, .nan => .nan
  | .fin true 0 _, .fin false 0 e => .fin false 0 e
  | .fin false 0 e, .fin true 0 _ => .fin false 0 e
  | a, b => if a.le b then b else a

/-- VMIN. -/
def minVal (a b : Val) : Val :=
  match a, b with
  | .nan, _ => .nan
  | _, .nan => .nan
  | .fin true 0 e, .fin false 0 _ => .fin true 0 e
  | .fin false 0 _, .fin true 0 e => .fin true 0 e
  | a, b => if a.le b then a else b

/-! ### exp2, log2, reciprocal, rsqrt (R58): the exact value, rounded once -/

/-- The FP32 result of the positive value `num / den`, with the low bit of the quotient made odd where a remainder
is left, so that nearest-even rounds the exact quotient. -/
def quotF32 (neg : Bool) (num den : Nat) (e : Int) : FpRes :=
  let sh := Nat.log2 den + 30 - Nat.log2 num
  let q := (num <<< sh) / den
  let st := if (num <<< sh) % den = 0 then 0 else 1
  toF32 (.fin neg (2 * q + st) (e - sh - 1))

/-- Reciprocal (R58). -/
def rcpF32 : Val → FpRes
  | .nan => ⟨.nan, false, .input⟩
  | .inf n => ⟨.fin n 0 0, false, .none⟩
  | .fin n m e => if m = 0 then ⟨.inf n, false, .divide⟩ else quotF32 n 1 m (-e)

/-- Reciprocal square root (R58). -/
def rsqrtF32 : Val → FpRes
  | .nan => ⟨.nan, false, .input⟩
  | .inf n => if n then ⟨.nan, false, .input⟩ else ⟨.zero, false, .none⟩
  | .fin n m e =>
    if m = 0 then ⟨.inf n, false, .divide⟩
    else if n then ⟨.nan, false, .invalid⟩
    else
      let (m, e) := if e % 2 = 0 then (m, e) else (2 * m, e - 1)
      let s := Nat.log2 m + 40
      let r := isqrt (2 ^ (2 * s) / m)
      let st := if r * r * m = 2 ^ (2 * s) then 0 else 1
      toF32 (.fin false (2 * r + st) (-(e / 2) - s - 1))

/-- Products of the constants `2^(2^-i)`, in fixed point with `p` fraction bits, over the set bits of a fraction:
`fr` holds the remaining fraction bits (of `n` bits), `c` the constant of the bit before, and `acc` the product. -/
def exp2Bits (p : Nat) (fr : Nat) : Nat → Nat → Nat → Nat
  | 0, _, acc => acc
  | n + 1, c, acc =>
    let c' := isqrt (c <<< p)
    exp2Bits p fr n c' (if (fr >>> n) % 2 = 1 then (acc * c') >>> p else acc)

/-- FP32 of a value known to lie in `[lo, hi] × 2^e`: the roundings of both ends, equal when the precision
suffices. -/
def bracketF32 (neg : Bool) (lo hi : Nat) (e : Int) : Option FpRes :=
  let a := toF32 (.fin neg lo e)
  let b := toF32 (.fin neg hi e)
  if a = b then some a else none

/-- `2^(n + fr / 2^w)` rounded to FP32, with the working precision doubled until both ends of the error interval
round alike. -/
def exp2Try (n : Int) (fr w : Nat) : Nat → Nat → FpRes
  | 0, p => toF32 (.fin false (exp2Bits p fr w (2 <<< p) (1 <<< p)) (n - p))
  | k + 1, p =>
    let x := exp2Bits p fr w (2 <<< p) (1 <<< p)
    match bracketF32 false x (x + 8 * (w + 2)) (n - p) with
    | some r => r
    | none => exp2Try n fr w k (2 * p)

/-- exp2 (R58): overflow to +infinity, +0 below 2^−126. -/
def exp2F32 : Val → FpRes
  | .nan => ⟨.nan, false, .input⟩
  | .inf n => if n then ⟨.zero, false, .none⟩ else ⟨.inf false, false, .input⟩
  | .fin n m e =>
    if m = 0 then ⟨.one, false, .none⟩
    else if 9 ≤ expo m e then (if n then ⟨.zero, true, .none⟩ else ⟨.inf false, false, .overflow⟩)
    else if 0 ≤ e then toF32 (.fin false 1 (sint n m * (2 : Int) ^ e.toNat))
    else
      let w := (-e).toNat
      let v := sint n m
      let i := v / (2 : Int) ^ w
      let fr := (v % (2 : Int) ^ w).toNat
      if fr = 0 then toF32 (.fin false 1 i) else exp2Try i fr w 6 96

/-- Binary digits of `log2 y` for `y` in `[lo, hi] / 2^p`, `1 ≤ y < 2`: the digits found as a number, and how many. -/
def log2Bits (p : Nat) : Nat → Nat → Nat → Nat → Nat → Nat × Nat
  | 0, _, _, acc, k => (acc, k)
  | f + 1, lo, hi, acc, k =>
    let lo2 := (lo * lo) >>> p
    let hi2 := ((hi * hi) >>> p) + 1
    if 2 <<< p ≤ lo2 then log2Bits p f (lo2 >>> 1) ((hi2 >>> 1) + 1) (2 * acc + 1) (k + 1)
    else if hi2 < 2 <<< p then log2Bits p f lo2 hi2 (2 * acc) (k + 1)
    else (acc, k)

/-- FP32 of `x + log2 y` with `y = m / 2^l`, the precision doubled until both ends round alike. -/
def log2Try (x : Int) (m l : Nat) : Nat → Nat → FpRes
  | 0, p =>
    let (d, k) := log2Bits p p ((m <<< p) >>> l) (((m <<< p) >>> l) + 1) 0 0
    let v : Int := x * (2 : Int) ^ k + d
    toF32 (.ofDy v (-(k : Int)))
  | f + 1, p =>
    let (d, k) := log2Bits p p ((m <<< p) >>> l) (((m <<< p) >>> l) + 1) 0 0
    let v : Int := x * (2 : Int) ^ k + d
    let a := toF32 (.ofDy v (-(k : Int)))
    let b := toF32 (.ofDy (v + 1) (-(k : Int)))
    if a = b then a else log2Try x m l f (2 * p)

/-- log2 (R58). -/
def log2F32 : Val → FpRes
  | .nan => ⟨.nan, false, .input⟩
  | .inf n => if n then ⟨.nan, false, .input⟩ else ⟨.inf false, false, .input⟩
  | .fin n m e =>
    if m = 0 then ⟨.inf true, false, .divide⟩
    else if n then ⟨.nan, false, .invalid⟩
    else
      let l := Nat.log2 m
      if m = 2 ^ l then toF32 (.ofDy (expo m e) 0)
      else log2Try (expo m e) m l 6 128

end Sys2Proof.Machine
end

