-- ==== Sys2Proof/Machine/Operands.lean ====
section
/-!
DEFINITION. The operand forms: tensor blocks and their headers (R37, R230, R231), the fields of a core instruction
(R142 to R172) and of a DMA descriptor (R235).
-/

namespace Sys2Proof.Machine

/-! ### Tensor blocks -/

/-- A tensor block: 2,048 data bytes and the 16-byte header that its slot or sidecar carries (R125, R230). -/
structure Block where
  hdr : BitVec 128
  data : BitVec 16384
deriving DecidableEq, Repr

/-- The block that a pop or peek of the null queue returns (R127). -/
def Block.null : Block := ⟨0, 0⟩

/-- The fields of a block header (R230) other than the CRC. -/
structure Hdr where
  tensor : Nat
  index : Nat
  maxexp : Nat
  fmt : Nat
  bad : Bool
  skewed : Bool
  transposed : Bool
  filled : Bool
  step : Nat
deriving DecidableEq, Repr

/-- Reads the header fields of R230. -/
def Hdr.ofBits (h : BitVec 128) : Hdr :=
  let v := h.toNat
  ⟨bits v 95 72, bits v 71 48, bits v 47 40, bits v 39 36, bit v 35, bit v 34, bit v 33, bit v 32, bits v 31 16⟩

/-- The twelve low header bytes of R230, with the reserved bits 0. -/
def Hdr.low (h : Hdr) : Nat :=
  (h.tensor % 2 ^ 24) <<< 72 + (h.index % 2 ^ 24) <<< 48 + (h.maxexp % 256) <<< 40 + (h.fmt % 16) <<< 36
    + b2n h.bad <<< 35 + b2n h.skewed <<< 34 + b2n h.transposed <<< 33 + b2n h.filled <<< 32 + (h.step % 2 ^ 16) <<< 16

/-- CRC-32C of the data bytes and then header bytes 0 to 11 (R231). -/
def blockCrc (low data : Nat) : Nat := crc32c (toBytes 2048 data ++ toBytes 12 low)

/-- A block with a header built from fields, the CRC written last (R148, R234, R603). -/
def Block.build (h : Hdr) (data : Nat) : Block :=
  let low := h.low
  ⟨BitVec.ofNat 128 (low + blockCrc low data <<< 96), BitVec.ofNat 16384 data⟩

/-- A block's header fields. -/
def Block.h (b : Block) : Hdr := Hdr.ofBits b.hdr

/-- Does the block's CRC match its data and header (R231)? -/
def Block.crcOk (b : Block) : Bool :=
  blockCrc (b.hdr.toNat % 2 ^ 96) b.data.toNat = bits b.hdr.toNat 127 96

/-- The format code of the header. -/
def Block.fmt (b : Block) : Fmt := Fmt.ofCode b.h.fmt

/-- MAXEXP as a product reads it (R70). -/
def Block.maxexp (b : Block) : Nat := min b.h.maxexp 0xFE

/-- The block with MAXEXP replaced and its CRC written anew (R234). -/
def Block.withMaxexp (b : Block) (x : Nat) : Block :=
  let low := setBits (b.hdr.toNat % 2 ^ 96) 47 40 x
  ⟨BitVec.ofNat 128 (low + blockCrc low b.data.toNat <<< 96), b.data⟩

/-- The block with BAD set and its CRC computed over the data as read (R233). -/
def Block.markBad (b : Block) : Block :=
  let low := setBits (b.hdr.toNat % 2 ^ 96) 35 35 1
  ⟨BitVec.ofNat 128 (low + blockCrc low b.data.toNat <<< 96), b.data⟩

/-- The code of element `j` (R37): every format is packed from the low bits upwards. -/
def elemCode (f : Fmt) (data j : Nat) : Nat := (data >>> (f.width * j)) % 2 ^ f.width

/-- Data bits holding the given element codes from element 0 on, the rest 0 (R37). -/
def packCodes (w : Nat) : List Nat → Nat
  | [] => 0
  | c :: r => c % 2 ^ w + packCodes w r <<< w

/-- Splits a list into runs of `n`, at most `fuel` of them. -/
def chunks {α : Type} (n : Nat) : Nat → List α → List (List α)
  | 0, _ => []
  | k + 1, l => match l with
    | [] => []
    | l => l.take n :: chunks n k (l.drop n)

/-- A list cut into runs of `n`; the last run may be shorter. -/
def runs {α : Type} (n : Nat) (l : List α) : List (List α) := chunks n (ceilDiv l.length n) l

/-- The largest of a list of MAXEXP contributions (R68). -/
def listMax (l : List Nat) : Nat := l.foldl max 0

/-! ### Core instructions -/

/-- The opcodes of R143. -/
inductive Op
  | nop | mma | arrayWarm | epiFmt | epiScale | epiClip | epiKeys | epiStride
  | vadd | vsub | vmul | vfma | vmax | vmin | vsel | vexp2 | vlog2 | vrcp | vrsqrt | vdot
  | cvt | semWait | semAdd | semSub | dmaIssue | loop | endProg | qcfg | qreset | qmove | qdrop
deriving DecidableEq, Repr

/-- The operation of an opcode byte (R143); none where the table has no such opcode. -/
def Op.ofCode (c : Nat) : Option Op :=
  match c with
  | 0x00 => some .nop | 0x10 => some .mma | 0x18 => some .arrayWarm
  | 0x20 => some .epiFmt | 0x21 => some .epiScale | 0x22 => some .epiClip | 0x23 => some .epiKeys
  | 0x24 => some .epiStride
  | 0x30 => some .vadd | 0x31 => some .vsub | 0x32 => some .vmul | 0x33 => some .vfma | 0x34 => some .vmax
  | 0x35 => some .vmin | 0x36 => some .vsel | 0x37 => some .vexp2 | 0x38 => some .vlog2 | 0x39 => some .vrcp
  | 0x3A => some .vrsqrt | 0x3B => some .vdot
  | 0x40 => some .cvt
  | 0x50 => some .semWait | 0x51 => some .semAdd | 0x52 => some .semSub
  | 0x60 => some .dmaIssue
  | 0x70 => some .loop | 0x7F => some .endProg
  | 0x80 => some .qcfg | 0x81 => some .qreset | 0x82 => some .qmove | 0x83 => some .qdrop
  | _ => none

/-- The core units that execute instructions (chapter 05). -/
inductive CoreUnit
  | array | vector | convert | dma | queue
deriving DecidableEq, Repr

/-- The unit that a broadcast instruction goes to (R143, R139). EPI.KEYS and EPI.STRIDE with TARGET 1 go to the vector
and the convert unit. -/
def Op.isVector : Op → Bool
  | .vadd | .vsub | .vmul | .vfma | .vmax | .vmin | .vsel | .vexp2 | .vlog2 | .vrcp | .vrsqrt | .vdot => true
  | _ => false

/-- Instructions that the sequencer executes itself (R194). -/
def Op.bySequencer : Op → Bool
  | .nop | .loop | .endProg | .semWait | .semAdd | .semSub => true
  | _ => false

/-- The opcode of an instruction word (R142). -/
def insOp (w : Nat) : Option Op := Op.ofCode (bits w 127 120)
/-- The ID field (R142). -/
def insId (w : Nat) : Nat := bits w 119 104
/-- The CMASK field (R142). -/
def insCmask (w : Nat) : Nat := bits w 103 96

/-- The units that execute an instruction word on a core (R139, R143). -/
def insUnits (w : Nat) : List CoreUnit :=
  match insOp w with
  | some .mma | some .arrayWarm | some .epiFmt | some .epiScale | some .epiClip => [.array]
  | some .epiKeys | some .epiStride => if bit w 95 then [.vector, .convert] else [.array]
  | some .cvt => [.convert]
  | some .dmaIssue => [.dma]
  | some .qcfg | some .qreset | some .qmove | some .qdrop => [.queue]
  | some o => if o.isVector then [.vector] else []
  | none => []

/-- MMA fields. -/
structure MmaF where
  k : Nat
  m : Nat
  n : Nat
  ganchor : Int
  given : Bool
  shape : Nat
  keep : Bool
  bpeek : Bool
  apeek : Bool
  bsq : Nat
  asq : Nat
  bq : Nat
  aq : Nat
  bfmt : Nat
  afmt : Nat
deriving DecidableEq, Repr

/-- The MMA field map. -/
def mmaF (w : Nat) : MmaF :=
  ⟨bits w 95 72, bits w 71 65 + 1, bits w 64 59 + 1, signed 10 (bits w 58 49), bit w 48, bits w 47 46, bit w 45,
   bit w 44, bit w 43, bits w 42 37, bits w 36 31, bits w 30 25, bits w 24 19, bits w 18 15, bits w 14 11⟩

/-- The slice depth D of a SHAPE field (R144, R235). -/
def shapeDepth (s : Nat) : Nat := match s with | 0 => 128 | 1 => 64 | _ => 32

/-- The number S of K slices (R144). -/
def MmaF.slices (f : MmaF) : Nat := ceilDiv f.k (shapeDepth f.shape)

/-- EPI.FMT fields. -/
structure EpiFmtF where
  ofmt : Nat
  oq : Nat
  osq : Nat
  stq : Nat
  rq : Nat
  pq : Nat
  rnd : Bool
  opq : Bool
  koff : Bool
  sten : Bool
  rqen : Bool
  smode : Nat
  bmode : Nat
  pqpeek : Bool
deriving DecidableEq, Repr

/-- The EPI.FMT field map. -/
def epiFmtF (w : Nat) : EpiFmtF :=
  ⟨bits w 95 92, bits w 91 86, bits w 85 80, bits w 79 74, bits w 73 68, bits w 67 62, bit w 61, bit w 60, bit w 59,
   bit w 58, bit w 57, bits w 56 55, bits w 54 53, bit w 52⟩

/-- Vector instruction fields. -/
structure VecF where
  dq : Nat
  dfmt : Nat
  rnd : Bool
  aq : Nat
  bq : Nat
  cq : Nat
  ak : Nat
  bk : Nat
  ck : Nat
  aneg : Bool
  bneg : Bool
  cneg : Bool
  imm : Nat
  count : Nat
deriving DecidableEq, Repr

/-- The vector field map. -/
def vecF (w : Nat) : VecF :=
  ⟨bits w 95 90, bits w 89 88, bit w 87, bits w 86 81, bits w 80 75, bits w 74 69, bits w 68 67, bits w 66 65,
   bits w 64 63, bit w 62, bit w 61, bit w 60, bits w 59 28, bits w 27 4⟩

/-- CVT fields. -/
structure CvtF where
  dq : Nat
  dsq : Nat
  sq : Nat
  ssq : Nat
  sfmt : Nat
  dfmt : Nat
  rnd : Bool
  speek : Bool
  count : Nat
deriving DecidableEq, Repr

/-- The CVT field map. -/
def cvtF (w : Nat) : CvtF :=
  ⟨bits w 95 90, bits w 89 84, bits w 83 78, bits w 77 72, bits w 71 68, bits w 67 64, bit w 63, bit w 62,
   bits w 61 38⟩

/-- Semaphore instruction fields. -/
structure SemF where
  scope : Nat
  die : Nat
  cluster : Nat
  index : Nat
  endpoint : Nat
  value : Nat
  fence : Nat
deriving DecidableEq, Repr

/-- The semaphore instruction field map. -/
def semF (w : Nat) : SemF :=
  ⟨bits w 95 94, bits w 93 92, bits w 91 89, bits w 88 75, bits w 74 57, bits w 56 33, bits w 32 29⟩

/-- DMA.ISSUE fields. -/
structure IssueF where
  desc : Nat
  lsel : Nat
  asel : Bool
  lon : Bool
  lstride : Int
  cstride : Int
deriving DecidableEq, Repr

/-- The DMA.ISSUE field map. -/
def issueF (w : Nat) : IssueF :=
  ⟨bits w 95 76, bits w 75 74, bit w 73, bit w 72, signed 32 (bits w 71 40), signed 32 (bits w 39 8)⟩

/-- LOOP: COUNT and BODY. -/
def loopCount (w : Nat) : Nat := bits w 95 72
/-- LOOP: BODY. -/
def loopBody (w : Nat) : Nat := bits w 71 61

/-- QMOVE fields. -/
structure QmoveF where
  sq : Nat
  die : Nat
  cluster : Nat
  core : Nat
  dq : Nat
  count : Nat
  peek : Bool
  crel : Bool
deriving DecidableEq, Repr

/-- The QMOVE field map. -/
def qmoveF (w : Nat) : QmoveF :=
  ⟨bits w 95 90, bits w 89 88, bits w 87 85, bits w 84 82, bits w 81 76, bits w 75 60, bit w 59, bit w 58⟩

/-! ### DMA descriptors -/

/-- The fields of a descriptor (R235). -/
structure Desc where
  mode : Nat
  skind : Nat
  dkind : Nat
  role : Nat
  shape : Nat
  skew : Bool
  transpose : Bool
  hdrahead : Bool
  record : Bool
  fmt : Nat
  rows : Nat
  skey : Nat
  soff : Nat
  dkey : Nat
  doff : Nat
  sq : Nat
  ssq : Nat
  dq : Nat
  dsq : Nat
  endpoint : Nat
  length : Nat
  pitch : Nat
  tensor : Nat
  block0 : Nat
  ikey : Nat
  ioff : Nat
  gunits : Nat
  scoff : Nat
  cscope : Nat
  cdie : Nat
  ccluster : Nat
  cindex : Nat
  cvalue : Nat
  rkey : Nat
  roff : Nat
deriving DecidableEq, Repr

/-- The descriptor field map of R235. -/
def descF (w : Nat) : Desc :=
  { mode := bits w 511 508, skind := bits w 507 506, dkind := bits w 505 504, role := bits w 503 502,
    shape := bits w 501 500, skew := bit w 499, transpose := bit w 498, hdrahead := bit w 497, record := bit w 496,
    fmt := bits w 495 492, rows := bits w 491 476, skey := bits w 475 460, soff := bits w 459 420,
    dkey := bits w 419 404, doff := bits w 403 364, sq := bits w 363 358, ssq := bits w 357 352, dq := bits w 351 346,
    dsq := bits w 345 340, endpoint := bits w 339 322, length := bits w 321 290, pitch := bits w 289 250,
    tensor := bits w 249 226, block0 := bits w 225 202, ikey := bits w 201 186, ioff := bits w 185 146,
    gunits := bits w 145 139, scoff := bits w 138 104, cscope := bits w 103 102, cdie := bits w 101 100,
    ccluster := bits w 99 97, cindex := bits w 96 83, cvalue := bits w 82 59, rkey := bits w 58 43,
    roff := bits w 42 3 }

/-- The memory rows of a descriptor: ROWS 0 and 1 both mean one row (R235). -/
def Desc.nrows (d : Desc) : Nat := max 1 d.rows

end Sys2Proof.Machine
end

