-- ==== Sys2Proof/Machine/CoreState.lean ====
section
/-!
DEFINITION. The state of a core, of a cluster's sequencer and of its DMA engine (chapters 04 to 08).
-/

namespace Sys2Proof.Machine

/-- A queue of R126: a ring of SIZE block slots from slot BASE. `head` is the ring position of the oldest block and
`count` the blocks held. SIZE 0 is an unconfigured queue. -/
structure Queue where
  base : Nat := 0
  size : Nat := 0
  head : Nat := 0
  count : Nat := 0
deriving DecidableEq, Repr

/-- The epilogue setup that the array holds (R149), with its defaults. -/
structure Epi where
  fmt : EpiFmtF := ⟨2, 63, 63, 63, 63, 63, false, false, false, false, false, 0, 0, false⟩
  s : BitVec 32 := 0x3F800000
  b : BitVec 32 := 0
  lo : BitVec 32 := 0x7FC00000
  hi : BitVec 32 := 0x7FC00000
  tensor : Nat := 0
  base : Nat := 0
  rstride : Nat := 0
  cstride : Nat := 0
  advance : Nat := 0
deriving DecidableEq, Repr

/-- The noise keys that the vector and the convert unit each hold (R139, R149, R153). -/
structure Keys where
  tensor : Nat := 0
  base : Nat := 0
  cstride : Nat := 0
deriving DecidableEq, Repr

/-- A source element of a kept weight tile that is not finite, and the block that held it (R602). -/
structure BadSrc where
  k : Nat
  n : Nat
  tensor : Nat
  index : Nat
  fmt : Nat
deriving DecidableEq, Repr

/-- The active weight tile of a core's array (R106): its elements, row by row of 64 columns (an element that is not
listed is +0), the row sums on the grid `2^(eb - 255)` (R87), the largest MAXEXP of its blocks, its RS count, the
sources of its non-finite elements, and the context and generation of the product that loaded it. -/
structure Tile where
  elems : List Val := []
  sums : List Int := []
  eb : Nat := 0
  rs : Nat := 0
  bad : List BadSrc := []
  ctx : Nat := 0
  gen : Nat := 0
deriving DecidableEq, Repr

/-- The last stream that an OPQ product wrote into a queue (R114): its KOFF and its slots. -/
structure HalfStream where
  koff : Bool := false
  slots : Nat := 0
deriving DecidableEq, Repr

/-- An instruction that a core unit holds (R139, R140): the word with the place it came from, what it latched when it
began, the blocks it has read of each queue, and the pushes it has still to make. -/
structure Job where
  /-- the instruction word -/
  word : BitVec 128
  /-- its place in the cluster's order of broadcasts (R133, R163) -/
  no : Nat
  unit : CoreUnit
  /-- page and slot in the form of R65 -/
  pc : Nat
  ctx : Nat
  gen : Nat
  /-- loop counter of level LSEL for DMA.ISSUE (R165) -/
  iter : Nat
  /-- the unit has begun it -/
  begun : Bool := false
  /-- the I/O die whose table serves the context on its compute die, as EP_DIE_MAP gives it at issue (R420) -/
  io : Nat := 0
  /-- it has read every operand and formed its results -/
  computed : Bool := false
  /-- the epilogue setup latched when a product begins (R141) -/
  epi : Epi := {}
  /-- the noise keys latched when a vector or convert instruction begins (R153) -/
  keys : Keys := {}
  /-- slice maxima of a header pass for the A and the B operand (R247) -/
  passA : Option (List Nat) := none
  passB : Option (List Nat) := none
  /-- blocks read so far, by queue -/
  got : Tbl (List Block) := []
  /-- blocks read before the queue was last emptied, by queue: a peek goes on from the head (R137) -/
  off : Tbl Nat := []
  /-- pushes still to make, in order: queue and block -/
  out : List (Nat × Block) := []
  /-- the operand stream at the head of `out` that has not met its other half yet (R114) -/
  stream : Option HalfStream := none
deriving DecidableEq, Repr

/-- How an array's level is moving: standing, climbing for a product (R119), climbing for an ARRAY.WARM (R122), or
ramping down (R117). -/
inductive Ramp
  | steady | up | warm | down
deriving DecidableEq, Repr

/-- The state of one enabled core (chapters 03 to 05). -/
structure Core where
  /-- the 1,536 block slots of the queue store with their sidecar (R125) -/
  slots : Tbl Block := []
  /-- queues Q0 to Q62 (R126) -/
  queues : Tbl Queue := []
  epi : Epi := {}
  vkeys : Keys := {}
  ckeys : Keys := {}
  /-- instructions of the core's units, in program order -/
  jobs : List Job := []
  tile : Tile := {}
  /-- slice maxima of a header pass that no product has taken yet, by operand queue (R248) -/
  passMax : Tbl (List Nat) := []
  half : Tbl HalfStream := []
  /-- the array's level, 0x00 to 0x05 (R115 to R122) -/
  level : Nat := 0
  ramp : Ramp := .steady
  /-- ARRAY_FILL_GAP as read at the start of the gap (R120) -/
  fillGap : Nat := 64
  /-- HOLD cycles of the last ARRAY.WARM whose dummies are not counted yet, and the time base at which its hold ends
  (R122) -/
  hold : Nat := 0
  holdTill : Nat := 0
  /-- time base at which the gap, or the step at the present level, began (R115, R117, R119) -/
  since : Nat := 0
  /-- a row slot of the last product that entered lasts two cycles (R98) -/
  wide : Bool := false
  /-- the core's event counts since its counters were reset, by event code (R505, R506) -/
  evc : Tbl Nat := []
deriving DecidableEq, Repr

/-- A semaphore by name: a sideboard semaphore of cluster `8d + c` or a package semaphore of an I/O die. -/
inductive SemRef
  | side (cluster index : Nat)
  | pkg (io index : Nat)
deriving DecidableEq, Repr

/-- A loop that a sequencer is repeating (R167): the first and the last slot of its body, the counter and COUNT. -/
structure Frame where
  first : Nat
  last : Nat
  idx : Nat
  count : Nat
deriving DecidableEq, Repr

/-- A wait in force (R205): its semaphore and target, the time base when it came into force and its timeout in units
(R219), whether the store has granted it (R200) and whether it has timed out (R220). -/
structure WaitSt where
  sem : SemRef
  target : Nat
  since : Nat
  limit : Nat
  granted : Bool := false
  timedOut : Bool := false
deriving DecidableEq, Repr

/-- A post that a sequencer holds (R204): its instruction word and its place in the order of broadcasts. -/
structure PostSt where
  word : BitVec 128
  no : Nat
  pc : Nat
deriving DecidableEq, Repr

/-- Completion status of a transfer (R239, R273, R373). -/
inductive XStatus
  | ok | absent | noqueue | addressFault | badDescriptor | timeout | notStashed | aborted | memOffline
deriving DecidableEq, Repr

/-- The 4-bit STATUS code. -/
def XStatus.code : XStatus → Nat
  | .ok => 1 | .absent => 2 | .noqueue => 3 | .addressFault => 4 | .badDescriptor => 5 | .timeout => 6
  | .notStashed => 7 | .aborted => 8 | .memOffline => 9

/-- The status of a code. -/
def XStatus.ofCode : Nat → XStatus
  | 1 => .ok | 2 => .absent | 3 => .noqueue | 4 => .addressFault | 5 => .badDescriptor | 6 => .timeout
  | 7 => .notStashed | 8 => .aborted | _ => .memOffline

/-- A transfer that a DMA engine has accepted (R224, R239). -/
structure Xfer where
  /-- the engine's SEQ -/
  seq : Nat
  /-- issuing core, 64 × die + 8 × cluster + core -/
  core : Nat
  ctx : Nat
  gen : Nat
  /-- slot of the DMA.ISSUE in the form of R65, and the descriptor's index -/
  pc : Nat
  descIdx : Nat
  /-- the descriptor with the offsets of R165 added -/
  desc : Desc
  /-- the I/O die whose table it looks up, as EP_DIE_MAP gives it at issue (R420) -/
  io : Nat := 0
  /-- time base at acceptance, and DMA_TIMEOUT then in force, in units (R240) -/
  start : Nat
  limit : Nat
  /-- the step that it was issued under, and whether that was a replay step (R324, R351) -/
  step : Option Nat := none
  replay : Bool := false
  /-- its source in memory has been read, or its drain has begun -/
  begun : Bool := false
  /-- the header pass has been made (R247), and its maxima while they wait for their queue's pending product (R248) -/
  passed : Bool := false
  pass : Option (Nat × List Nat) := none
  /-- blocks still to land: queue, block and the data bytes that count in MOVED (R128) -/
  land : List (Nat × Block × Nat) := []
  /-- queue blocks still to drain from SQ; scale blocks still to drain from SSQ -/
  want : Nat := 0
  wantS : Nat := 0
  /-- companion scale blocks of a BLOCK drain: all seen, those still to drain in ascending order, and the lowest one of the
  element block drained last (R237) -/
  seen : List Nat := []
  need : List Nat := []
  reach : Nat := 0
  /-- drained bytes that wait to leave; the spans of all drained bytes, by their place in the transfer, that came from
  bad blocks (R234); scale bytes drained, and the numbers of the drained scale blocks that are bad -/
  buf : List Nat := []
  badSpans : List (Nat × Nat) := []
  scales : List Nat := []
  badScales : List Nat := []
  /-- element bytes and blocks that have left -/
  pos : Nat := 0
  blk : Nat := 0
  /-- remote blocks that wait for a WRITE of four -/
  out : List Block := []
  /-- drawer writes that wait for a page: drawer address, bytes within one block, and the header of a whole block -/
  hold : List (Nat × List Nat × Option (BitVec 128)) := []
  /-- the drawer stall in force since this time, with its STASH_TIMEOUT (R279, R281), and time spent in stalls and
  holds, which DMA_TIMEOUT leaves out (R280, R331, R463) -/
  stall : Option (Nat × Nat) := none
  stalled : Nat := 0
  /-- drawer blocks that a read transfer touches: die, entry and block (R272) -/
  dread : List (Nat × Nat × Nat) := []
  /-- drawer entries that a write transfer writes (R271, R283) -/
  dwrite : List Nat := []
  moved : Nat := 0
  /-- blocks of requests answered OK that no RESP has reported visible (R410) -/
  missing : Nat := 0
  status : XStatus := .ok
  clips : Nat := 0
  badBlock : Bool := false
  /-- nothing is left to do but to complete -/
  fin : Bool := false
deriving DecidableEq, Repr

/-- The state of one cluster: its sequencer, instruction pages and DMA engine (R182, R194, R224). -/
structure Cluster where
  /-- instruction pages 0 and 1; a slot that is not listed holds END (R185) -/
  page0 : Tbl (BitVec 128) := []
  page1 : Tbl (BitVec 128) := []
  valid0 : Bool := false
  valid1 : Bool := false
  /-- the active page -/
  active : Bool := false
  /-- the page of the latest successful LOAD since the last RUN (R186) -/
  loaded : Option Bool := none
  running : Bool := false
  /-- the sequencer has executed END and waits for the boundary (R169, R193) -/
  ended : Bool := false
  pc : Nat := 0
  frames : List Frame := []
  wait : Option WaitSt := none
  posts : List PostSt := []
  /-- number of the next broadcast or post -/
  issue : Nat := 0
  /-- context and generation of the program -/
  ctx : Nat := 0
  gen : Nat := 0
  /-- SEQ of the RUN that started the program: the counter tag (R509) -/
  tag : Nat := 0
  /-- COUNTER_EVENTS and mode B as read at the RUN (R509) -/
  codes : BitVec 128 := 0
  modeB : Bool := false
  /-- time base at which the counters were reset (R508) -/
  started : Nat := 0
  /-- the sample of the last boundary (R512) -/
  final : BitVec 16384 := 0
  xfers : List Xfer := []
  /-- the engine's count of accepted descriptors, modulo 2^32 (R239) -/
  seq : Nat := 0
  /-- progress since the last hang scan (R212) -/
  progress : Bool := false
  /-- sequencer, core and engine clocks stopped (R564), and time base at which the cluster became idle -/
  asleep : Bool := false
  idleSince : Nat := 0
  /-- CLUSTER_SLEEP_DELAY in µs as it was when the cluster became idle, when it has been written since (R564) -/
  delay : Option Nat := none
  /-- clock stretched on droop (R559) -/
  stretched : Bool := false
  /-- a self-test is due, or is running on the cluster (R438) -/
  testDue : Bool := false
  testing : Bool := false
  /-- time base at the end of the last self-test, and since when a RUN waits for the one that runs (R438, R439) -/
  tested : Nat := 0
  runSince : Option Nat := none
deriving DecidableEq, Repr

end Sys2Proof.Machine
end

