-- ==== Sys2Proof/Machine/JobState.lean ====
section
/-!
DEFINITION. The state of contexts, their command streams and their steps (chapters 06, 07, 11), of plans (chapter 10)
and of drawers (chapter 09).
-/

namespace Sys2Proof.Machine

/-- The state of a context (R173). -/
inductive CtxSt
  | closed | opened | stopped | teardown
deriving DecidableEq, Repr

/-- The code that CONTEXT_STATE reports. -/
def CtxSt.code : CtxSt → Nat
  | .closed => 0 | .opened => 1 | .stopped => 2 | .teardown => 3

/-- A command that the command processor has read (R177, R179). -/
structure Cmd where
  /-- its number n in the stream -/
  n : Nat
  word : BitVec 512
  /-- generation of the context when it was read (R176) -/
  gen : Nat
  /-- a RUN that is accepted: clusters that have still to reach their boundary -/
  left : Nat := 0
deriving DecidableEq, Repr

/-- States of a step (R320). -/
inductive StepSt
  | none | opened | sealed | replaying | committed | rollingBack
deriving DecidableEq, Repr

/-- The state code of R320. -/
def StepSt.code : StepSt → Nat
  | .none => 0 | .opened => 1 | .sealed => 2 | .replaying => 3 | .committed => 4 | .rollingBack => 5

/-- The counts of a plan that R323 records and R313 restores: fetched or taken, completed, and owned units ready. -/
structure PlanCount where
  taken : Nat := 0
  done : Nat := 0
  ready : Nat := 0
deriving DecidableEq, Repr

/-- A verdict message of R338, as received or made. -/
structure VMsg where
  typ : Nat := 0
  membership : Nat := 0
  step : Nat := 0
  attempt : Nat := 0
  code : Nat := 0
  sender : Nat := 0
  parts : Nat := 0
  flags : Nat := 0
  suspects : Nat := 0
  /-- the eight lowest suspect ranks, ascending -/
  ranks : List Nat := []
  origin : Nat := 0xFFFFF
  matched : Nat := 0
  missed : Nat := 0
  reason : Nat := 0
  failedRank : Nat := 0xFFFFF
  /-- PARTNER_HEALTH: the sender's health word -/
  word : Nat := 0
deriving DecidableEq, Repr

/-- A step of a context (R320 to R339). -/
structure Step where
  num : Nat := 0
  attempt : Nat := 0
  st : StepSt := .none
  seed : BitVec 64 := 0
  /-- a replay step: the suspect's rank and the context whose verdict it serves (R350) -/
  replay : Option (Nat × Nat) := none
  /-- failed, with its first cause (R332) -/
  failed : Bool := false
  cause : Nat := 0
  nonfinite : Bool := false
  unlogged : Bool := false
  /-- VERIFY bit of STEP_CFG as the step's health word takes it -/
  verify : Bool := false
  checks : Nat := 0
  blocks : Nat := 0
  /-- the part of `blocks` counted under R233 (R445) -/
  crcBlocks : Nat := 0
  /-- digest sum and count of digested blocks (R336) -/
  dsum : BitVec 256 := 0
  dcount : Nat := 0
  /-- semaphores of the context's ranges when the step opened (R326), stores in turn -/
  shadowSide : Tbl (BitVec 24) := []
  shadowPkg : Tbl (BitVec 24) := []
  /-- plans' counts when it opened (R323) -/
  planCounts : Tbl PlanCount := []
  /-- log slots of the step: first slot of the ring, slots of its groups, slot of its last group and records there (R328) -/
  logFirst : Nat := 0
  logUsed : Nat := 0
  logGroup : Nat := 0
  logCount : Nat := 0
  /-- gather runs: plan, first unit and units fetched under the step -/
  gathers : Tbl (Nat × Nat) := []
  /-- the health word sent at the seal (R335), and time base and timeout of the seal (R353) -/
  word : BitVec 256 := 0
  sealedAt : Nat := 0
  limit : Nat := 0
  /-- the partner's health word for this step (R339) -/
  partner : Option (BitVec 256) := none
  /-- HEALTH and REPLAY_RESULT received, by child (R339, R352) -/
  childHealth : Tbl (Option VMsg) := []
  childReplay : Tbl (Option VMsg) := []
  /-- HEALTH has gone to the parent, REPLAY_RESULT too -/
  healthSent : Bool := false
  replaySent : Bool := false
  /-- replays that this part owes as partner, and what it has recorded (R349, R352) -/
  owed : Nat := 0
  matched : Nat := 0
  missed : Nat := 0
  /-- the root's combined HEALTH (R340) -/
  combined : Option VMsg := none
  /-- a verdict received and not applied yet (R341, R467) -/
  verdict : Option VMsg := none
  /-- the rank whose replay this part is owed to make -/
  suspectRank : Nat := 0
deriving DecidableEq, Repr

/-- The state of a context (R173) with its command stream and its steps. -/
structure Ctx where
  st : CtxSt := .closed
  gen : Nat := 0
  /-- commands read, modulo 2^32 (R177) -/
  read : Nat := 0
  /-- the command read and not yet accepted, and commands accepted and not completed (R179) -/
  cur : Option Cmd := none
  running : List Cmd := []
  /-- the command WAIT in force (R205) -/
  wait : Option WaitSt := none
  /-- descriptor indices that are valid (R175, R191) -/
  descs : List Nat := []
  /-- progress of the command stream since the last scan, and consecutive scans (R212, R216) -/
  progress : Bool := false
  scans : Nat := 0
  /-- a scan has met the condition for the HANG_SCAN_COUNT-th time, and the declaration is due (R216) -/
  hung : Bool := false
  hang : BitVec 256 := 0
  trap : BitVec 256 := 0
  /-- uncommitted steps, oldest first (R320), and the replay step -/
  steps : List Step := []
  replay : Option Step := none
  /-- seed latched last (R61, R62) -/
  seed : BitVec 64 := 0
  lastCommitted : Nat := 0
  orphaned : Bool := false
  /-- a step has been opened since the context opened or left ORPHANED (R322) -/
  stepped : Bool := false
  /-- number and attempt of the first step of the most recent rollback (R321), while it decides the next number -/
  rolled : Option (Nat × Nat) := none
  /-- number of the first step of the most recent rollback is expected next (R322) -/
  expectRolled : Bool := false
  /-- commands read complete ABORTED until a STEP.OPEN (R344) -/
  aborting : Bool := false
  /-- numbers of steps that the context has opened and that are closed: committed (true) or rolled back (R320) -/
  closedSteps : List (Nat × Bool) := []
  /-- newest sealed word, partner's word, and last verdict record -/
  sealedWord : BitVec 256 := 0
  partnerWord : BitVec 256 := 0
  lastVerdict : BitVec 512 := 0
  /-- next free slot of the log ring (R328) -/
  logNext : Nat := 0
  /-- the step whose log a suspect has sent here whole, until it is announced (R348) -/
  logArrived : Option Nat := none
  /-- a verdict for a later step that waits (R341) -/
  verdicts : List VMsg := []
  /-- time of the next counter sample (R511), in units -/
  sampleDue : Nat := 0
deriving DecidableEq, Repr

/-- A block of a drawer entry: read count, and whether it is stashed (R271, R272). -/
structure DrawerPage where
  entry : Nat
  /-- page within the entry -/
  page : Nat
  /-- page of the resident region, or of the spill region -/
  spilled : Bool
  slot : Nat
  /-- read counts of the stashed blocks, by block of the page (R271); a block that is not listed is not stashed -/
  reads : List (Nat × Nat) := []
  /-- accepted reads in flight that touch the page (R272) -/
  inFlight : Nat := 0
deriving DecidableEq, Repr

/-- An entry of a drawer: the place of its first write's acceptance, the step of that write, and its number (R271, R275,
R283). -/
structure DrawerEntry where
  entry : Nat
  order : Nat
  step : Option Nat
deriving DecidableEq, Repr

/-- The drawer of a context on one die (R266, R268). -/
structure Drawer where
  /-- resident and spill keys with BASE, SIDECAR and pages, as taken when the context opened -/
  key : Nat := 0
  base : Nat := 0
  side : Nat := 0
  pages : Nat := 0
  skey : Nat := 0
  sbase : Nat := 0
  sside : Nat := 0
  spages : Nat := 0
  reads : Nat := 1
  held : List DrawerPage := []
  entries : List DrawerEntry := []
  /-- number of the next acceptance of a first write -/
  order : Nat := 0
  /-- writes that wait for a page, first stalled first: cluster and SEQ of the transfer (R278, R279) -/
  stalled : List (Nat × Nat) := []
  /-- cluster and SEQ of a write in flight when an entry that it writes was closed, with the entry (R283) -/
  closed : List (Nat × Nat × Nat) := []
deriving DecidableEq, Repr

/-- A unit that a GATHER plan has in flight (R295). -/
structure GatherUnit where
  /-- its number k -/
  k : Nat
  tensor : Nat
  unit : Nat
  /-- time base when its fetch began, and COLLECTIVE_TIMEOUT then (R301) -/
  start : Nat
  limit : Nat
  step : Nat
  version : Nat
  /-- blocks received so far, by number in the window format (R413) -/
  got : List (Nat × Block) := []
  /-- it has landed -/
  done : Bool := false
deriving DecidableEq, Repr

/-- A unit's reduction for one round and step at this part (R306). -/
structure Reduction where
  unit : Nat
  tensor : Nat
  /-- list entry of the unit -/
  entry : Nat
  round : Nat
  step : Nat
  /-- submission's number -/
  k : Nat
  attempt : Nat
  /-- the partial so far, as FP32 codes, and the level that it has reached -/
  acc : List (BitVec 32)
  level : Nat
  start : Nat
  limit : Nat
deriving DecidableEq, Repr

/-- A partial received and kept until it is used (R308): its blocks by number, as FP32 codes. -/
structure HeldPartial where
  unit : Nat
  tensor : Nat
  round : Nat
  /-- STEP_TAG and ATTEMPT that its messages carry -/
  tag : Nat
  attempt : Nat
  /-- rank of the child -/
  rank : Nat
  blocks : List (Nat × List (BitVec 32)) := []
deriving DecidableEq, Repr

/-- A round's sum at the root, until it is added into the accumulator (R309). -/
structure UnitSum where
  unit : Nat
  tensor : Nat
  /-- list entry, position in the list, and the pass of the submissions over list and rounds -/
  entry : Nat
  pos : Nat
  pass : Nat
  round : Nat
  step : Nat
  els : List (BitVec 32)
deriving DecidableEq, Repr

/-- A gather that an owner serves (R298, R299): the requester's rank and what its request names; the blocks judged so
far with whether each is stale, and those that are held. -/
structure HeldGather where
  rank : Nat
  entry : Nat
  tensor : Nat
  unit : Nat
  version : Nat
  served : List (Nat × Block × Bool) := []
  waiting : List Nat := []
deriving DecidableEq, Repr

/-- The run-time state of a plan (R294 to R310). -/
structure PlanSt where
  count : PlanCount := {}
  units : List GatherUnit := []
  reds : List Reduction := []
  partials : List HeldPartial := []
  held : List HeldGather := []
  /-- sums at the root that wait for an earlier round, or for their step to open (R309) -/
  sums : List UnitSum := []
  /-- rounds added per owned unit (R309, R310), by pass × 2^48 + position in the list -/
  added : Tbl Nat := []
deriving DecidableEq, Repr

end Sys2Proof.Machine
end

