-- ==== Sys2Proof/Machine/FlightState.lean ====
section
/-!
DEFINITION. What travels inside the package: semaphore posts, queue moves and memory writes on their way (R14, R171,
R199, R228), and the event rings (R515).
-/

namespace Sys2Proof.Machine

/-- A stream that can wait (chapter 07): a cluster's sequencer or a context's command stream. -/
inductive Stream
  | cluster (c : Nat)
  | command (x : Nat)
deriving DecidableEq, Repr

/-- A post on its way to its semaphore (R199, R202). -/
structure Post where
  sem : SemRef
  sub : Bool := false
  value : Nat
  ctx : Nat
  gen : Nat
  /-- the die that it leaves: a compute die, or 4 + the number of an I/O die (R14) -/
  src : Nat
deriving DecidableEq, Repr

/-- A QMOVE on its way (R171): the issuing core, its instruction's ID, the target, the blocks that have left and not
landed, and how many are still to leave; or the blocks of a remote WRITE to a queue. -/
structure MoveFlight where
  src : Nat
  id : Nat
  /-- its place in the cluster's order of broadcasts -/
  no : Nat
  ctx : Nat
  gen : Nat
  dst : Nat
  dq : Nat
  blocks : List Block
  left : Nat := 0
  /-- the step it was issued under (R344), and under which blocks of a WRITE are logged as they land (R325, R328) -/
  step : Option Nat := none
  /-- the judgement of R171, once made, which holds for every block: dropped (true) or landing -/
  judged : Option Bool := none
  /-- blocks of a WRITE that came over a link: its I/O die, endpoint entry and common slot (R408) -/
  remote : Option (Nat × Nat × BitVec 128) := none
deriving DecidableEq, Repr

/-- What a memory write belongs to: a transfer of a cluster's engine, or a WRITE that arrived over a link (its I/O die,
endpoint entry and common slot), which is answered when every block of it is visible (R408). -/
inductive AccOwner
  | xfer (cluster seq : Nat)
  | remote (io entry : Nat) (slot : BitVec 128)
deriving DecidableEq, Repr

/-- A memory write on its way to its controller, or held there (R228, R331, R463): one run of bytes inside a region,
and the header that goes into the sidecar of its block. -/
structure Access where
  owner : AccOwner
  ctx : Nat
  gen : Nat
  key : Nat
  /-- offset within the key's region -/
  off : Nat
  bytes : List Nat
  hdr : Option (BitVec 128) := none
  /-- data bytes among them, where a built block is filled with zeros (R239) -/
  count : Option Nat := none
  /-- the header with which a block of a WRITE came, for the log (R328) -/
  came : Option (BitVec 128) := none
  /-- the step it was issued under (R331, R460), and whether that is a replay step (R469) -/
  step : Option Nat := none
  replay : Bool := false
  /-- it writes a drawer: die, entry and block of the entry -/
  drawer : Option (Nat × Nat × Nat) := none
  /-- held under R331, and under R463 since a time -/
  heldUndo : Bool := false
  heldCopy : Option Nat := none
  /-- when it was first held -/
  heldSince : Option Nat := none
  /-- it has reached its controller and waits there: its place in the order of those (R366) -/
  reached : Option Nat := none
deriving DecidableEq, Repr

/-- An event ring (R515): the write count W and the slots. -/
structure Ring where
  count : Nat := 0
  slots : Tbl (BitVec 128) := []
deriving DecidableEq, Repr

/-- Trace of a die (R519 to R521): the ring offset of the next record, the window's start and its records, records not
drained yet. -/
structure TraceSt where
  next : Nat := 0
  window : Nat := 0
  used : Nat := 0
  drained : Nat := 0
  written : Nat := 0
deriving DecidableEq, Repr

/-- The part's fixed facts (R2, R12, R20, R21). -/
structure Part where
  /-- 680, 682 or 686 -/
  grade : Nat := 680
  /-- fused-unit maps of CD0 to CD3 -/
  fused : List Nat := [0x4000000100200008, 0x4000000100200008, 0x4000000100200008, 0x4000000100200008]
deriving DecidableEq, Repr

/-- The grades' site fillings (R11, R12). -/
def Part.ioDies (p : Part) : Nat := if p.grade = 680 then 2 else if p.grade = 682 then 1 else 3

/-- Is core `64 × die + 8 × cluster + core` fused (R21)? -/
def Part.isFused (p : Part) (core : Nat) : Bool := bit (p.fused.getD (core / 64) 0) (core % 64)

end Sys2Proof.Machine
end

