-- ==== Sys2Proof/Machine/LinkState.lean ====
section
/-!
DEFINITION. The state of the link ports, of the endpoint tables and of requests (chapter 13), and the form of
messages (R405 to R413).
-/

namespace Sys2Proof.Machine

/-- A message: its slots of 128 bits, the common slot of R405 first. -/
abbrev Msg := List (BitVec 128)

/-- Slot `i` of a message as a number. -/
def Msg.slot (m : Msg) (i : Nat) : Nat := (List.getD m i 0).toNat

/-- The fields of the common slot (R405). -/
structure Common where
  mtype : Nat
  vc : Nat
  slots : Nat
  hops : Nat := 0
  daddr : Nat
  dep : Nat
  key : Nat
  membership : Nat
  ctx : Nat
  gen : Nat
  tag : Nat := 0
deriving DecidableEq, Repr

/-- Reads the common slot. -/
def Msg.common (m : Msg) : Common :=
  let w := m.slot 0
  ⟨bits w 127 123, bits w 122 120, bits w 119 110, bits w 109 106, bits w 105 82, bits w 81 64, bits w 63 48,
   bits w 47 32, bits w 31 28, bits w 27 16, bits w 15 0⟩

/-- The common slot of R405. -/
def Common.word (c : Common) : BitVec 128 :=
  BitVec.ofNat 128 ((c.mtype % 32) <<< 123 + (c.vc % 8) <<< 120 + (c.slots % 1024) <<< 110 + (c.hops % 16) <<< 106
    + (c.daddr % 2 ^ 24) <<< 82 + (c.dep % 2 ^ 18) <<< 64 + (c.key % 2 ^ 16) <<< 48 + (c.membership % 2 ^ 16) <<< 32
    + (c.ctx % 16) <<< 28 + (c.gen % 4096) <<< 16 + c.tag % 2 ^ 16)

/-- A message with its SLOTS field set to its length. -/
def Msg.make (c : Common) (body : List (BitVec 128)) : Msg := ({ c with slots := 1 + body.length } : Common).word :: body

/-- A block as 129 slots: its header, then its data (chapter 13, "Messages"). -/
def Block.slots (b : Block) : List (BitVec 128) :=
  b.hdr :: (List.range 128).map (fun i => BitVec.ofNat 128 (b.data.toNat >>> (128 * i)))

/-- The block in 129 slots. -/
def Block.ofSlots (l : List (BitVec 128)) : Block :=
  ⟨List.getD l 0 0, BitVec.ofNat 16384 ((l.drop 1).foldr (fun s acc => s.toNat + acc <<< 128) 0)⟩

/-- The blocks of a message behind its first `n` slots. -/
def Msg.blocks (m : Msg) (n : Nat) : List Block := (runs 129 (List.drop n m)).map Block.ofSlots

/-- The step identity of R407 in the second slot: STEP_TAG, ATTEMPT, NOSTEP. -/
structure StepId where
  tag : Nat
  attempt : Nat
  nostep : Bool
deriving DecidableEq, Repr

/-- Reads R407. -/
def Msg.stepId (m : Msg) : StepId := ⟨bits (m.slot 1) 127 112, bits (m.slot 1) 111 108, bit (m.slot 1) 107⟩

/-- R407's bits of the second slot. -/
def StepId.word (i : StepId) : Nat := (i.tag % 2 ^ 16) <<< 112 + (i.attempt % 16) <<< 108 + b2n i.nostep <<< 107

/-- Port states (R395). -/
inductive PortMode
  | disabled | detect | training | active | retraining | failed
deriving DecidableEq, Repr

/-- The state code of R395. -/
def PortMode.code : PortMode → Nat
  | .disabled => 0 | .detect => 1 | .training => 2 | .active => 3 | .retraining => 4 | .failed => 5

/-- A flit: its sequence number, its 16 slots and how often it has been resent (R391 to R394). -/
structure Flit where
  seq : Nat
  slots : List (BitVec 128)
  resent : Nat := 0
deriving DecidableEq, Repr

/-- A link port (R387 to R404). -/
structure Port where
  mode : PortMode := .detect
  /-- 0 four lanes, 1 lanes 0–1, 2 lanes 2–3 -/
  width : Nat := 0
  host : Bool := false
  rtt : Nat := 0
  fails : Nat := 0
  cause : Nat := 0
  corrected : Nat := 0
  uncorrected : Nat := 0
  resentFlits : Nat := 0
  retrains : Nat := 0
  /-- times of the uncorrectable codewords of the last 1 ms (R397) -/
  recent : List Nat := []
  /-- messages that wait for credits or for the port, first to leave first -/
  out : List Msg := []
  /-- next sequence number to send, retry buffer (R393), slots of started messages not yet in a flit -/
  txSeq : Nat := 0
  retry : List Flit := []
  txPart : List (BitVec 128) := []
  /-- flits still to be sent on the line, by number, and the bits of the first that have been sent (R388) -/
  line : List Nat := []
  lineBits : Nat := 0
  /-- slots sent so far; the VC0 messages among the last 1,024 of them, by first slot and length; and the slots that each VC
  has been served, as R403 weighs them -/
  sentSlots : Nat := 0
  vc0 : List (Nat × Nat) := []
  served : List Nat := [0, 0, 0, 0, 0, 0, 0, 0]
  /-- control fields of the codewords sent last (R389) -/
  ctl : List (BitVec 40) := []
  /-- next flit to receive in sequence, and the slots of a message that is not complete -/
  rxSeq : Nat := 0
  rxPart : List (BitVec 128) := []
  /-- the flit that the received bits have begun: its number, the bits received, their value, and whether one of them lies in
  a codeword that could not be corrected (R388, R390) -/
  rxNo : Nat := 0
  rxBits : Nat := 0
  rxFlit : Nat := 0
  rxBad : Bool := false
  /-- a RETRY_REQ for the next control field: flit to resend from; and whether flits are discarded until it comes (R392) -/
  retryReq : Option Nat := none
  asked : Bool := false
  /-- credits held at the other end's buffers, by VC (R402), once granted -/
  credits : List Nat := [512, 256, 512, 512, 4096, 4096, 2048, 1024]
  /-- credits to return, by VC -/
  owed : List Nat := [0, 0, 0, 0, 0, 0, 0, 0]
  /-- credits that are withheld while a context's hold region is full: context, VC and slots (R330) -/
  withheld : List (Nat × Nat × Nat) := []
deriving DecidableEq, Repr

/-- What a request belongs to (R410, R428): a transfer of a cluster's engine, a scope-3 semaphore operation, a copy of
a context (the codes of CopyKind) with its stage. -/
inductive ReqOwner
  | xfer (cluster seq : Nat)
  | sem (ctx : Nat)
  | copy (ctx kind : Nat) (closing : Bool)
deriving DecidableEq, Repr

/-- A request that waits for its RESP (R427, R428). -/
structure Req where
  io : Nat
  entry : Nat
  tag : Nat
  msg : Msg
  owner : ReqOwner
  sent : Nat
  retries : Nat := 0
  /-- LINK_REQ_RETRY in units and LINK_REQ_RETRIES when it was first sent -/
  wait : Nat
  limit : Nat
  /-- its transfer has completed already (R428) -/
  orphan : Bool := false
  /-- data bytes of each of its blocks, as MOVED counts them (R239) -/
  counts : List Nat := []
deriving DecidableEq, Repr

/-- Tags of an endpoint entry (R427, R429): the next tag to give, the lowest tag not applied, the marked tags of the
window above it, and the RESPs kept for duplicates. -/
structure EpTags where
  next : Nat := 0
  low : Nat := 0
  marked : List Nat := []
  kept : List (Nat × Msg) := []
deriving DecidableEq, Repr

/-- A message that waits for its step to open (R325, R330): the I/O die that it was delivered to. -/
structure HeldMsg where
  io : Nat
  ctx : Nat
  msg : Msg
deriving DecidableEq, Repr

/-- Ports, routes, endpoint entries, requests and messages (chapter 13). -/
structure Links where
  ports : Tbl Port := []
  /-- messages received whole and not yet taken, with the port -/
  inbox : List (Nat × Msg) := []
  /-- route entries (R415) -/
  routes : Tbl Nat := []
  /-- endpoint entries and their tags, by I/O die × 2^18 + index (R418) -/
  eps : Tbl (BitVec 128) := []
  tags : Tbl EpTags := []
  reqs : List Req := []
  /-- requests that wait for a tag (R427) -/
  waiting : List Req := []
  held : List HeldMsg := []
  /-- messages that wait because no port of their mask is ACTIVE (R416): mask and message -/
  parked : List (Nat × Msg) := []
deriving DecidableEq, Repr

end Sys2Proof.Machine
end

