-- ==== Sys2Proof/Machine/Events.lean ====
section
/-!
DEFINITION. Operands of commands that tell what happened outside the model's own working: errors of a memory, received
codewords, results of trainings and tests.
-/

namespace Sys2Proof.Machine

/-- A voted element in which copies of an engine's adder or converter are wrong (R437): how many elements the engines vote
on before it, and the bits in which the result of each copy is wrong. -/
structure CopyFault where
  after : Nat
  m0 : BitVec 32
  m1 : BitVec 32
  m2 : BitVec 32
deriving DecidableEq, Repr

/-- What reaches a memory, and what errs beside it (R228, R253, R366, R370, R380, R436, R437). -/
inductive AccessEv
  /-- the `i`-th write in flight reaches its controller -/
  | write (i : Nat)
  /-- the burst at an address of a site is read with a corrected or an uncorrected error; `flip` is what an uncorrected
  error leaves wrong in the 64-bit word at that address -/
  | hbm (site : Fin 12) (uncorrected : Bool) (addr : BitVec 36) (flip : BitVec 64)
  /-- the transfer of a byte of service memory has an error that link ECC corrects or cannot correct -/
  | lpddr (addr : BitVec 35) (uncorrected : Bool)
  /-- a word of the shelves is read with a single-bit or a double-bit error by a cluster -/
  | shelf (cluster : Fin 32) (addr : BitVec 35) (double : Bool) (flip : BitVec 64)
  /-- a word of a queue store or its sidecar is read with a single-bit or a double-bit error; the word is in the slot -/
  | qstore (core : Fin 256) (slot : Fin 1536) (sidecar : Bool) (word : BitVec 8) (double : Bool) (flip : BitVec 64)
  /-- a running traffic generator has read bursts that do not hold its pattern: what its status then tells of them -/
  | generator (site : Fin 12) (channel : BitVec 5) (found : BitVec 256)
  /-- in voted elements to come, copies of the collective engines are wrong -/
  | copies (faults : List CopyFault)
deriving DecidableEq, Repr

/-- A received pair of codewords (R388 to R390): corrected symbols of each, or none where it could not be corrected; their
control fields; and the 5,100 bits of the flit stream that each carries, the first in bit 0. -/
structure CodePair where
  errA : Option (Fin 16)
  errB : Option (Fin 16)
  ctlA : BitVec 40
  ctlB : BitVec 40
  dataA : BitVec 5100 := 0
  dataB : BitVec 5100 := 0
deriving DecidableEq, Repr

/-- What a boot, a reset or a wake meets outside the model: straps, the flash, trainings, self-tests and repairs. -/
structure BootIn where
  /-- BOOTSEL and SLOT_ID (R579) -/
  bootsel : BitVec 2 := 0
  slot : BitVec 6 := 0
  /-- FLASH_STATUS as the SFDP tables give it: log2 of the size, bit 8 tables read, bit 9 R585 passes -/
  flash : BitVec 10 := 0x31B
  /-- what a board programmer has written into the flash while RESET_L was low (R593): address and bytes -/
  programmed : List (BitVec 27 × List (BitVec 8)) := []
  /-- the two LPDDR5X packages train (R383) -/
  lpddr0 : Bool := true
  lpddr1 : Bool := true
  /-- failed trainings of the stack on each site (R372); a site that is not listed trains at once -/
  failed : List (BitVec 3) := []
  /-- failure records of the self-tests of R440, without the time stamp (R441) -/
  fails : List (BitVec 128) := []
  /-- whether each candidate row still finds a spare, in the list's order (R377); a row that is not listed does -/
  spares : List Bool := []
  /-- its duration in µs -/
  took : BitVec 32 := 0
deriving DecidableEq, Repr

end Sys2Proof.Machine
end

