-- ==== Sys2Proof/Syntax.lean ====
section
/-!
DEFINITION. The commands of the part: one constructor per row of the table of operations and events. A cluster is
numbered `8 × die + cluster`, a core `64 × die + 8 × cluster + core`. Messages are lists of 128-bit slots (R405).
-/

namespace Sys2Proof

/-- A command: an operation or an event of the part, whole and indivisible. -/
inductive Instr
  /-- NOP: the sequencer of cluster `8d + c` executes a NOP. -/
  | nop (cl : Fin 32)
  /-- MMA: the sequencer broadcasts an MMA. -/
  | mma (cl : Fin 32)
  /-- ARRAY_WARM: the sequencer broadcasts an ARRAY.WARM. -/
  | arrayWarm (cl : Fin 32)
  /-- ARRAY_RAMP_DOWN: the gap of core `64d + 8c + n` reaches ARRAY_FILL_GAP, or its ramp-down takes its next step
      (R117). -/
  | arrayRampDown (core : Fin 256)
  /-- ARRAY_RAMP_UP: a product's first row is ready below level 0x05, or the ramp-up takes its next step (R119). -/
  | arrayRampUp (core : Fin 256)
  /-- EPI_FMT: the sequencer broadcasts an EPI.FMT. -/
  | epiFmt (cl : Fin 32)
  /-- EPI_SCALE: the sequencer broadcasts an EPI.SCALE. -/
  | epiScale (cl : Fin 32)
  /-- EPI_CLIP: the sequencer broadcasts an EPI.CLIP. -/
  | epiClip (cl : Fin 32)
  /-- EPI_KEYS: the sequencer broadcasts an EPI.KEYS. -/
  | epiKeys (cl : Fin 32)
  /-- EPI_STRIDE: the sequencer broadcasts an EPI.STRIDE. -/
  | epiStride (cl : Fin 32)
  /-- VADD: the sequencer broadcasts a VADD. -/
  | vadd (cl : Fin 32)
  /-- VSUB: the sequencer broadcasts a VSUB. -/
  | vsub (cl : Fin 32)
  /-- VMUL: the sequencer broadcasts a VMUL. -/
  | vmul (cl : Fin 32)
  /-- VFMA: the sequencer broadcasts a VFMA. -/
  | vfma (cl : Fin 32)
  /-- VMAX: the sequencer broadcasts a VMAX. -/
  | vmax (cl : Fin 32)
  /-- VMIN: the sequencer broadcasts a VMIN. -/
  | vmin (cl : Fin 32)
  /-- VSEL: the sequencer broadcasts a VSEL. -/
  | vsel (cl : Fin 32)
  /-- VEXP2: the sequencer broadcasts a VEXP2. -/
  | vexp2 (cl : Fin 32)
  /-- VLOG2: the sequencer broadcasts a VLOG2. -/
  | vlog2 (cl : Fin 32)
  /-- VRCP: the sequencer broadcasts a VRCP. -/
  | vrcp (cl : Fin 32)
  /-- VRSQRT: the sequencer broadcasts a VRSQRT. -/
  | vrsqrt (cl : Fin 32)
  /-- VDOT: the sequencer broadcasts a VDOT. -/
  | vdot (cl : Fin 32)
  /-- CVT: the sequencer broadcasts a CVT. -/
  | cvt (cl : Fin 32)
  /-- SEM_WAIT: the sequencer executes a SEM.WAIT. -/
  | semWait (cl : Fin 32)
  /-- SEM_ADD: the sequencer executes a SEM.ADD. -/
  | semAdd (cl : Fin 32)
  /-- SEM_SUB: the sequencer executes a SEM.SUB. -/
  | semSub (cl : Fin 32)
  /-- FENCED_POST_EFFECT: the sequencer's oldest waiting post takes effect (R163, R204). -/
  | fencedPostEffect (cl : Fin 32)
  /-- SEMAPHORE_POST_ARRIVAL: the `n`-th post in flight reaches its semaphore (R199). -/
  | semaphorePostArrival (n : Nat)
  /-- SEM_WAIT_WAKE: the wake notice of a granted wait reaches its stream (R200, R207). -/
  | semWaitWake (st : Machine.Stream)
  /-- DMA_ISSUE: the sequencer broadcasts a DMA.ISSUE. -/
  | dmaIssue (cl : Fin 32)
  /-- DMA_COMPLETION: the engine of a cluster completes its transfer SEQ (R239). -/
  | dmaCompletion (cl : Fin 32) (seq : BitVec 32)
  /-- DMA_TIMEOUT: DMA_TIMEOUT ends for the transfer SEQ (R240). -/
  | dmaTimeout (cl : Fin 32) (seq : BitVec 32)
  /-- LOOP: the sequencer executes a LOOP. -/
  | loop (cl : Fin 32)
  /-- END: the sequencer executes an END. -/
  | endProg (cl : Fin 32)
  /-- PROGRAM_BOUNDARY: END completes (R169). -/
  | programBoundary (cl : Fin 32)
  /-- QCFG: the sequencer broadcasts a QCFG. -/
  | qcfg (cl : Fin 32)
  /-- QRESET: the sequencer broadcasts a QRESET. -/
  | qreset (cl : Fin 32)
  /-- QMOVE: the sequencer broadcasts a QMOVE. -/
  | qmove (cl : Fin 32)
  /-- QMOVE_ARRIVAL: the first block of the `n`-th QMOVE in flight arrives (R171). -/
  | qmoveArrival (n : Nat)
  /-- QDROP: the sequencer broadcasts a QDROP. -/
  | qdrop (cl : Fin 32)
  /-- COMMAND_READ: the command processor reads the next command of a context (R177). -/
  | commandRead (x : Fin 16)
  /-- LOAD: the loader takes the context's LOAD (R184). -/
  | load (x : Fin 16)
  /-- RUN: the context's RUN is accepted or refused (R186). -/
  | run (x : Fin 16)
  /-- SIGNAL: the context's SIGNAL is accepted (R179). -/
  | signal (x : Fin 16)
  /-- WAIT: the context's WAIT comes into force or is accepted (R179, R205). -/
  | wait (x : Fin 16)
  /-- CONTEXT_OPEN: OPEN is written to CONTEXT_STATE (R174, R175). -/
  | contextOpen (x : Fin 16)
  /-- CONTEXT_TEARDOWN: CLOSED is written to CONTEXT_STATE, or a fault tears the context down (R479, R480). -/
  | contextTeardown (x : Fin 16)
  /-- HANG_SCAN: the wait-for detectors scan (R214). -/
  | hangScan
  /-- HANG_DECLARATION: a context meets the hang condition for the last time needed (R216). -/
  | hangDeclaration (x : Fin 16)
  /-- SEM_WAIT_TIMEOUT: SEM_WAIT_TIMEOUT ends for a wait in force (R219). -/
  | semWaitTimeout (st : Machine.Stream)
  /-- STATUS_FLAG_CLEAR: software writes 1 to bits of a status entry (R223). -/
  | statusFlagClear (entry : Nat) (mask : BitVec 32)
  /-- KEY_ENTRY_WRITE: software writes a key table entry (R226). -/
  | keyEntryWrite (key : BitVec 16) (value : BitVec 256)
  /-- MEMORY_ACCESS_ARRIVAL: an access reaches its memory controller (R228, R366). -/
  | memoryAccessArrival (ev : Machine.AccessEv)
  /-- DRAWER_SPILL_COPY: the drawer of a context copies a page into its spill region (R275). -/
  | drawerSpillCopy (x : Fin 16) (die : Fin 4)
  /-- DRAWER_PAGE_GRANT: the drawer's oldest stalled write takes a freed page (R279). -/
  | drawerPageGrant (x : Fin 16) (die : Fin 4)
  /-- STASH_TIMEOUT: STASH_TIMEOUT ends for the drawer's oldest stalled write (R281). -/
  | stashTimeout (x : Fin 16) (die : Fin 4)
  /-- GATHER_FETCH: a GATHER plan fetches its next unit (R295). -/
  | gatherFetch (p : Fin 128)
  /-- GATHER_REQ: a gather request arrives (R298). -/
  | gatherReq (m : List (BitVec 128))
  /-- GATHER_REPLY: a gather reply arrives (R303). -/
  | gatherReply (m : List (BitVec 128))
  /-- GATHER_UNIT_TIMEOUT: COLLECTIVE_TIMEOUT ends for a plan's oldest unit in flight (R301). -/
  | gatherUnitTimeout (p : Fin 128)
  /-- REDUCE_SUBMISSION: a REDUCE plan takes its next submission (R304); `faults` are the voted elements in which
      copies of the engine are wrong (R437). -/
  | reduceSubmission (p : Fin 128) (faults : List Machine.CopyFault)
  /-- PARTIAL: a reduction partial arrives (R306); `faults` are the voted elements in which copies of the engine
      are wrong (R437). -/
  | partialMsg (m : List (BitVec 128)) (faults : List Machine.CopyFault)
  /-- COLLECTIVE_TIMEOUT: COLLECTIVE_TIMEOUT ends for a unit that waits on a child (R311). -/
  | collectiveTimeout (p : Fin 128) (unit : BitVec 24) (round : BitVec 8)
  /-- STEP_OPEN: the context's STEP.OPEN is accepted or refused (R322). -/
  | stepOpen (x : Fin 16)
  /-- REPLAY_STEP_OPEN: the context's STEP.OPEN with REPLAY set is accepted (R350). -/
  | replayStepOpen (x : Fin 16)
  /-- STEP_SEAL: the context's STEP.SEAL is accepted or refused (R320). -/
  | stepSeal (x : Fin 16)
  /-- STEP_AWAIT: the context's STEP.AWAIT is accepted or refused (R320). -/
  | stepAwait (x : Fin 16)
  /-- STEP_FAIL: the context's STEP.FAIL is accepted or refused (R320, R332). -/
  | stepFail (x : Fin 16)
  /-- HEALTH: a HEALTH message arrives (R339). -/
  | health (m : List (BitVec 128))
  /-- PARTNER_HEALTH: a PARTNER_HEALTH message arrives (R339). -/
  | partnerHealth (m : List (BitVec 128))
  /-- VERDICT: a VERDICT message arrives (R341). -/
  | verdict (m : List (BitVec 128))
  /-- VERDICT_APPLY: a held verdict is applied (R341, R467). -/
  | verdictApply (x : Fin 16)
  /-- REPLAY_RESULT: a REPLAY_RESULT message arrives (R352). -/
  | replayResult (m : List (BitVec 128))
  /-- VERDICT_TIMEOUT: VERDICT_TIMEOUT ends for the context's oldest sealed step (R353). -/
  | verdictTimeout (x : Fin 16)
  /-- JOB_MEMBERSHIP_WRITE: software writes JOB_MEMBERSHIP (R355, R426). -/
  | jobMembershipWrite (v : BitVec 16)
  /-- HBM_REPAIR_CMD: software writes HBM_REPAIR_CMD (R377). -/
  | hbmRepairCmd (v : BitVec 16)
  /-- HBM_TG_START: software writes 1 to HBM_TG_CTRL (R379). -/
  | hbmTgStart
  /-- HBM_TG_STOP: software writes 2 to HBM_TG_CTRL (R379). -/
  | hbmTgStop
  /-- HBM_TG_DONE: a traffic generator ends its run; `found` is the result where the memory was faulty (R379). -/
  | hbmTgDone (site : Fin 12) (channel : BitVec 5) (found : Option (BitVec 256))
  /-- CODEWORD_RECEIVE: a port receives a pair of codewords (R390). -/
  | codewordReceive (port : Fin 27) (pair : Machine.CodePair)
  /-- FLIT_RETRY_LIMIT: the sender has resent a flit 8 times without an ACK (R394). -/
  | flitRetryLimit (port : Fin 27)
  /-- PORT_UNCORR_LIMIT_EXCEEDED: more than PORT_UNCORR_LIMIT uncorrectable codewords within 1 ms (R397). -/
  | portUncorrLimitExceeded (port : Fin 27)
  /-- PORT_ALIGNMENT_LOSS: codeword alignment is lost for 1 µs (R397). -/
  | portAlignmentLoss (port : Fin 27)
  /-- PORT_SIGNAL_DETECT: a signal is found on every lane of a port in DETECT (R395). -/
  | portSignalDetect (port : Fin 27)
  /-- PORT_TRAINING_END: a training or retraining ends: the lanes that pass, a failure's cause or 0, the round trip
      and the other end's mode (R396, R400). -/
  | portTrainingEnd (port : Fin 27) (lanes : BitVec 4) (cause : Fin 7) (rtt : BitVec 12) (host : Bool)
  /-- PORT_FAILED: a third consecutive training fails (R398). -/
  | portFailed (port : Fin 27)
  /-- PORT_CTRL_RETRAIN: software writes RETRAIN to PORT_CTRL (R397, R398). -/
  | portCtrlRetrain (port : Fin 27)
  /-- DIE_LINK_RETRY: a ring link or die link retries a flit (R16). -/
  | dieLinkRetry
  /-- PACKAGE_FAULT: a ring link or die link, by its number of R493, fails to deliver a flit within 1 µs (R17). -/
  | packageFault (link : BitVec 4)
  /-- MESSAGE_FORWARD: a message for another part arrives at a port (R415). -/
  | messageForward (port : Fin 27) (m : List (BitVec 128))
  /-- WRITE: a WRITE arrives (R408). -/
  | write (m : List (BitVec 128))
  /-- SEM_OP: a SEM_OP arrives (R411). -/
  | semOp (m : List (BitVec 128))
  /-- RESP: a RESP arrives (R410). -/
  | resp (m : List (BitVec 128))
  /-- REQUEST_RETRANSMIT: LINK_REQ_RETRY ends for an outstanding request (R428). -/
  | requestRetransmit (io : Fin 3) (entry : BitVec 18) (tag : BitVec 16)
  /-- REQUEST_EXHAUSTED: an outstanding request has had its last retransmission (R428). -/
  | requestExhausted (io : Fin 3) (entry : BitVec 18) (tag : BitVec 16)
  /-- EP_ENTRY_WRITE: software writes an endpoint entry (R421). -/
  | epEntryWrite (io : Fin 3) (entry : BitVec 18) (value : BitVec 128)
  /-- SELFTEST_START: a due self-test starts on a cluster (R438). -/
  | selftestStart (cl : Fin 32)
  /-- SELFTEST_END: a self-test ends with the failures that it found (R440, R441). -/
  | selftestEnd (cl : Fin 32) (fails : List (BitVec 128))
  /-- HEALTH_DECAY: HEALTH_DECAY_INTERVAL ends (R446). -/
  | healthDecay
  /-- EXPEL_HOLDOFF_END: the hold-off ends (R451). -/
  | expelHoldoffEnd
  /-- EXPEL_ACCEPTED: software writes ACCEPTED to EXPEL_ANSWER (R452). -/
  | expelAccepted (seq : BitVec 16)
  /-- EXPEL_DEFERRED: software writes DEFERRED to EXPEL_ANSWER (R452). -/
  | expelDeferred (seq : BitVec 16)
  /-- EXPEL_ANSWER_TIMEOUT: EXPEL_ANSWER_WAIT ends without an answer (R453). -/
  | expelAnswerTimeout
  /-- OBSERVATION_EXIT_WRITE: software writes 0 to OBSERVATION (R454). -/
  | observationExitWrite
  /-- OBSERVATION_ENTER_WRITE: software writes 1 to OBSERVATION (R454). -/
  | observationEnterWrite
  /-- MIRROR_CTRL_FULL: software writes FULL to MIRROR_CTRL (R466). -/
  | mirrorCtrlFull (x : Fin 16)
  /-- MIRROR_RETRY: MIRROR_RETRY_WAIT ends after a failed copy (R465). -/
  | mirrorRetry (x : Fin 16)
  /-- WARDROBE_SEND: software writes WARDROBE_SEND (R470). -/
  | wardrobeSend (v : BitVec 64)
  /-- RESTORE_CTRL: software writes RESTORE_CTRL (R471). -/
  | restoreCtrl (x : Fin 16) (v : BitVec 32)
  /-- RESTORE_COMPLETE: a restore ends (R472, R473). -/
  | restoreComplete (x : Fin 16)
  /-- CKPT_CTRL: software writes CKPT_CTRL (R474). -/
  | ckptCtrl (x : Fin 16) (v : BitVec 64)
  /-- CORE_RESET: RESET_CTRL resets a core (R481). -/
  | coreReset (core : Fin 256)
  /-- MGMT_CORE_RESET: RESET_CTRL resets the management core (R481, R488). -/
  | mgmtCoreReset
  /-- CLUSTER_RESET: RESET_CTRL resets a cluster (R481). -/
  | clusterReset (cl : Fin 32)
  /-- LINK_PORT_RESET: RESET_CTRL resets a link port (R481). -/
  | linkPortReset (port : Fin 27)
  /-- DIE_RESET: RESET_CTRL resets a compute die (R481). -/
  | dieReset (die : Fin 4)
  /-- PACKAGE_WARM_RESET: RESET_CTRL resets the package (R481, R483). -/
  | packageWarmReset
  /-- DUMP_CTRL: software writes DUMP_CTRL (R486). -/
  | dumpCtrl
  /-- DUMP_END: a dump's last section is written (R487). -/
  | dumpEnd
  /-- DUMP_TRUNCATION: a dump reaches 50 ms (R485). -/
  | dumpTruncation
  /-- MGMT_HEARTBEAT: the management core writes its heartbeat (R488). -/
  | mgmtHeartbeat
  /-- MGMT_WATCHDOG_EXPIRY: MGMT_WATCHDOG ends without a heartbeat (R488). -/
  | mgmtWatchdogExpiry
  /-- MGMT_FAIL_LIMIT_REACHED: the management core has failed MGMT_FAIL_LIMIT times within MGMT_FAIL_WINDOW (R489). -/
  | mgmtFailLimitReached
  /-- AO_STALL_TIMEOUT: AO_STALL_TIMEOUT ends (R490). -/
  | aoStallTimeout
  /-- REPORT_RESEND: REPORT_RESEND ends for unacknowledged records (R492). -/
  | reportResend
  /-- REPORT_ACK: software writes REPORT_ACK (R492). -/
  | reportAck (seq : BitVec 32)
  /-- FENCE_NOTICE: software writes FENCE_NOTICE (R495). -/
  | fenceNotice (v : BitVec 16)
  /-- FENCE_NOTICE_WAIT_EXPIRY: FENCE_NOTICE_WAIT ends (R495). -/
  | fenceNoticeWaitExpiry
  /-- TIME_SYNC_INTERVAL_EXPIRY: TIME_SYNC_INTERVAL ends (R501). -/
  | timeSyncIntervalExpiry
  /-- TIME_SYNC_REQUEST: a TIME_SYNC request arrives; the reply leaves `turn` units later (R500). -/
  | timeSyncRequest (port : Fin 27) (m : List (BitVec 128)) (turn : BitVec 32)
  /-- TIME_SYNC_REPLY: a TIME_SYNC reply arrives (R501, R502). -/
  | timeSyncReply (port : Fin 27) (m : List (BitVec 128))
  /-- TIME_HOLDOVER: no reply for 100 consecutive intervals (R503). -/
  | timeHoldover
  /-- COUNTER_SAMPLE_INTERVAL: COUNTER_SAMPLE_INTERVAL ends for a running cluster (R511). -/
  | counterSampleInterval (cl : Fin 32)
  /-- TRACE_DRAIN: a die drains its next block of trace records (R521). -/
  | traceDrain (die : Fin 4)
  /-- MGMT_READ: a READ request is served (R541). -/
  | mgmtRead (port : Fin 27) (req : List (BitVec 128))
  /-- MGMT_WRITE: a WRITE request is served (R536). -/
  | mgmtWrite (port : Fin 27) (req : List (BitVec 128))
  /-- MGMT_DESCRIBE: a DESCRIBE request is served (R538). -/
  | mgmtDescribe (port : Fin 27) (req : List (BitVec 128))
  /-- NV_COMMIT_END: a commit of non-volatile entries ends (R547, R548). -/
  | nvCommitEnd (ok : Bool)
  /-- NV_RESTORE_DEFAULTS: software writes 1 to NV_CTRL (R549). -/
  | nvRestoreDefaults
  /-- NV_RESTORE_CANCEL: software writes 2 to NV_CTRL (R549). -/
  | nvRestoreCancel
  /-- MAIN_INPUT_LOSS: the main input leaves its range (R555, R556). -/
  | mainInputLoss
  /-- MAIN_INPUT_RESTORE: the main input returns (R556). -/
  | mainInputRestore (b : Machine.BootIn)
  /-- DROOP_DETECT: a cluster detects a droop (R559). -/
  | droopDetect (cl : Fin 32)
  /-- CLUSTER_SLEEP: an idle cluster has waited CLUSTER_SLEEP_DELAY (R564). -/
  | clusterSleep (cl : Fin 32)
  /-- POWER_STATE_RETAIN: software writes RETAIN to POWER_STATE (R567, R568). -/
  | powerStateRetain
  /-- POWER_STATE_DEEP: software writes DEEP to POWER_STATE (R567, R569). -/
  | powerStateDeep
  /-- POWER_STATE_ACTIVE: software writes ACTIVE to POWER_STATE (R572). -/
  | powerStateActive
  /-- POWER_TRANSITION_END: a change of power state ends (R567, R572). -/
  | powerTransitionEnd (b : Machine.BootIn)
  /-- THERMAL_THROTTLE_CHANGE: a die reaches or leaves THERMAL_THROTTLE (R573, R574). -/
  | thermalThrottleChange (die : Fin 4) (hot : Bool)
  /-- POWER_WINDOW_END: a power window ends with its mean power (R575). -/
  | powerWindowEnd (watts : BitVec 16)
  /-- THERMTRIP: a sensor reaches the trip temperature (R576). -/
  | thermtrip (sensor : BitVec 8) (reading : BitVec 16)
  /-- RESET_L_ASSERT: RESET_L goes low (R581). -/
  | resetLAssert
  /-- COLD_BOOT: RESET_L goes high: the boot runs (R578). -/
  | coldBoot (b : Machine.BootIn)
  /-- ANNOUNCE: the recovery sequencer announces itself (R583). -/
  | announce
  /-- IMAGE_BEGIN: an IMAGE_BEGIN request is served (R584). -/
  | imageBegin (port : Fin 27) (req : List (BitVec 128))
  /-- IMAGE_DATA: an IMAGE_DATA request is served (R584). -/
  | imageData (port : Fin 27) (req : List (BitVec 128))
  /-- IMAGE_CHECK: an IMAGE_CHECK request is served (R584). -/
  | imageCheck (port : Fin 27) (req : List (BitVec 128))
  /-- IMAGE_FLASH: an IMAGE_FLASH request is served (R584, R586). -/
  | imageFlash (port : Fin 27) (req : List (BitVec 128))
  /-- IMAGE_FLASH_END: writing an image to flash ends (R586). -/
  | imageFlashEnd (ok : Bool)
  /-- IMAGE_START: an IMAGE_START request is served (R584). -/
  | imageStart (port : Fin 27) (req : List (BitVec 128)) (b : Machine.BootIn)
  /-- ATTEST_REQUEST: software writes ATTEST_REQUEST (R592). -/
  | attestRequest (nonce : BitVec 256)
  /-- ATTEST_BUILD_END: the attestation tree is built (R592). -/
  | attestBuildEnd
  /-- SMBUS_SELECT: the SMBus selects an entry (R595). -/
  | smbusSelect (index : BitVec 16) (sub : BitVec 8)
  /-- SMBUS_READ: the SMBus reads the selected entry (R595). -/
  | smbusRead
  /-- BYPASS: the TAP takes BYPASS (R596). -/
  | bypass
  /-- IDCODE: the TAP takes IDCODE (R596). -/
  | idcode
  /-- SAMPLE_PRELOAD: the TAP takes SAMPLE/PRELOAD (R596). -/
  | samplePreload
  /-- EXTEST: the TAP takes EXTEST (R596). -/
  | extest
  /-- CLAMP: the TAP takes CLAMP (R596). -/
  | clamp
  /-- HIGHZ: the TAP takes HIGHZ (R596). -/
  | highz
  /-- EXTEST_PULSE: the TAP takes EXTEST_PULSE (R596). -/
  | extestPulse
  /-- EXTEST_TRAIN: the TAP takes EXTEST_TRAIN (R596). -/
  | extestTrain
  /-- RESET_DONE: a reset's last phase ends (R482). -/
  | resetDone (b : Machine.BootIn)
  /-- DROOP_RECOVERY: a cluster's voltage recovers (R559). -/
  | droopRecovery (cl : Fin 32)
  /-- POWER_ON: the always-on input comes into range (R557). -/
  | powerOn
  /-- AO_INPUT_REMOVAL: the always-on input is removed (R555). -/
  | aoInputRemoval
  /-- REFCLK_STABLE: REFCLK is stable (R562). -/
  | refclkStable
  /-- TRIP_RECORD_WRITTEN: the trip record is in flash (R576). -/
  | tripRecordWritten
deriving DecidableEq, Repr

end Sys2Proof
end

