-- ==== Sys2Proof/Machine/Keys.lean ====
section
/-!
DEFINITION. The object dictionary's keys: an entry index:subindex (R4) as the number `index × 256 + subindex`. The
counters and parameters that the model's operations name stand here under the names that the spec gives them.
-/

namespace Sys2Proof.Machine.K

/-- 0x1000:03 GRADE_CODE (chapter 00). -/
abbrev GRADE_CODE : Nat := 0x100003
/-- 0x3010:02 ARRAY_FILL_GAP (chapter 00). -/
abbrev ARRAY_FILL_GAP : Nat := 0x301002
/-- 0x1010:01 FUSED_CORES_CD0 (chapter 01). -/
abbrev FUSED_CORES_CD0 : Nat := 0x101001
/-- 0x1010:02 FUSED_CORES_CD1 (chapter 01). -/
abbrev FUSED_CORES_CD1 : Nat := 0x101002
/-- 0x1010:03 FUSED_CORES_CD2 (chapter 01). -/
abbrev FUSED_CORES_CD2 : Nat := 0x101003
/-- 0x1010:04 FUSED_CORES_CD3 (chapter 01). -/
abbrev FUSED_CORES_CD3 : Nat := 0x101004
/-- 0x1010:05 ENABLED_CORES (chapter 01). -/
abbrev ENABLED_CORES : Nat := 0x101005
/-- 0x1010:06 SITE_MAP (chapter 01). -/
abbrev SITE_MAP : Nat := 0x101006
/-- 0x8010:01 ABSENT_TARGET_DROPS (chapter 01). -/
abbrev ABSENT_TARGET_DROPS : Nat := 0x801001
/-- 0x8010:02 DIE_LINK_RETRIES (chapter 01). -/
abbrev DIE_LINK_RETRIES : Nat := 0x801002
/-- 0x3020:01–0x3020:10 ROUND_SEED_CTX0–ROUND_SEED_CTX15 (chapter 02). -/
abbrev ROUND_SEED_CTX0 : Nat := 0x302001
/-- 0x7010:01 NAN_TRAP_RECORDS (chapter 02). -/
abbrev NAN_TRAP_RECORDS : Nat := 0x701001
/-- 0x7010:02 NAN_TRAP_ACTION (chapter 02). -/
abbrev NAN_TRAP_ACTION : Nat := 0x701002
/-- 0x8020:01 NONFINITE_EVENTS (chapter 02). -/
abbrev NONFINITE_EVENTS : Nat := 0x802001
/-- 0x8020:02 INPUT_FLUSHES (chapter 02). -/
abbrev INPUT_FLUSHES : Nat := 0x802002
/-- 0x8020:03 OUTPUT_FLUSHES (chapter 02). -/
abbrev OUTPUT_FLUSHES : Nat := 0x802003
/-- 0x8020:04 CONVERT_SATURATIONS (chapter 02). -/
abbrev CONVERT_SATURATIONS : Nat := 0x802004
/-- 0x7020:01 CHECK_MISMATCH_ACTION (chapter 03). -/
abbrev CHECK_MISMATCH_ACTION : Nat := 0x702001
/-- 0x8030:01 BELOW_WINDOW_PRODUCTS (chapter 03). -/
abbrev BELOW_WINDOW_PRODUCTS : Nat := 0x803001
/-- 0x8030:02 BENCH_SATURATIONS (chapter 03). -/
abbrev BENCH_SATURATIONS : Nat := 0x803002
/-- 0x8030:03 CHECK_MISMATCH_TILES (chapter 03). -/
abbrev CHECK_MISMATCH_TILES : Nat := 0x803003
/-- 0x8030:04 EXPONENT_FAULTS (chapter 03). -/
abbrev EXPONENT_FAULTS : Nat := 0x803004
/-- 0x8030:05 ANCHOR_EXCEEDED_TILES (chapter 03). -/
abbrev ANCHOR_EXCEEDED_TILES : Nat := 0x803005
/-- 0x8030:06 CHECKED_TILES (chapter 03). -/
abbrev CHECKED_TILES : Nat := 0x803006
/-- 0x3010:01 ARRAY_LEVEL_MAP (chapter 04). -/
abbrev ARRAY_LEVEL_MAP : Nat := 0x301001
/-- 0x8040:01 DUMMY_ROW_SLOTS (chapter 04). -/
abbrev DUMMY_ROW_SLOTS : Nat := 0x804001
/-- 0x8040:02 RAMP_DOWNS (chapter 04). -/
abbrev RAMP_DOWNS : Nat := 0x804002
/-- 0x8040:03 RAMP_HELD_SLOTS (chapter 04). -/
abbrev RAMP_HELD_SLOTS : Nat := 0x804003
/-- 0x8040:04 SHADOW_WAIT_CYCLES (chapter 04). -/
abbrev SHADOW_WAIT_CYCLES : Nat := 0x804004
/-- 0x8050:01 QUEUE_POP_STALL_CYCLES (chapter 05). -/
abbrev QUEUE_POP_STALL_CYCLES : Nat := 0x805001
/-- 0x8050:02 QUEUE_PUSH_STALL_CYCLES (chapter 05). -/
abbrev QUEUE_PUSH_STALL_CYCLES : Nat := 0x805002
/-- 0x8050:03 FORMAT_MISMATCH_BLOCKS (chapter 05). -/
abbrev FORMAT_MISMATCH_BLOCKS : Nat := 0x805003
/-- 0x8050:04 NOQUEUE_DROPS (chapter 05). -/
abbrev NOQUEUE_DROPS : Nat := 0x805004
/-- 0x8050:05 QUEUE_RESET_DISCARDS (chapter 05). -/
abbrev QUEUE_RESET_DISCARDS : Nat := 0x805005
/-- 0x3400:01 PAGE_STATE_MAP (chapter 06). -/
abbrev PAGE_STATE_MAP : Nat := 0x340001
/-- 0x3410:01–0x3410:10 CONTEXT_STATE (chapter 06). -/
abbrev CONTEXT_STATE : Nat := 0x341001
/-- 0x3411:01–0x3411:10 CONTEXT_GENERATION (chapter 06). -/
abbrev CONTEXT_GENERATION : Nat := 0x341101
/-- 0x3412:01–0x3412:10 CONTEXT_CLUSTERS (chapter 06). -/
abbrev CONTEXT_CLUSTERS : Nat := 0x341201
/-- 0x3413:01–0x3413:10 CONTEXT_KEYS (chapter 06). -/
abbrev CONTEXT_KEYS : Nat := 0x341301
/-- 0x3414:01–0x3414:10 CONTEXT_SEMS (chapter 06). -/
abbrev CONTEXT_SEMS : Nat := 0x341401
/-- 0x3415:01–0x3415:10 CONTEXT_STREAM_BASE (chapter 06). -/
abbrev CONTEXT_STREAM_BASE : Nat := 0x341501
/-- 0x3416:01–0x3416:10 CONTEXT_STREAM_CFG (chapter 06). -/
abbrev CONTEXT_STREAM_CFG : Nat := 0x341601
/-- 0x3417:01–0x3417:10 CONTEXT_DESC_BASE (chapter 06). -/
abbrev CONTEXT_DESC_BASE : Nat := 0x341701
/-- 0x3418:01–0x3418:10 CONTEXT_DESC_COUNT (chapter 06). -/
abbrev CONTEXT_DESC_COUNT : Nat := 0x341801
/-- 0x8060:01 PAGE_BUSY_DROPS (chapter 06). -/
abbrev PAGE_BUSY_DROPS : Nat := 0x806001
/-- 0x8060:02 IMAGE_REJECTS (chapter 06). -/
abbrev IMAGE_REJECTS : Nat := 0x806002
/-- 0x8060:03 BAD_COMMANDS (chapter 06). -/
abbrev BAD_COMMANDS : Nat := 0x806003
/-- 0x3810:01–0x3810:10 HANG_LOCAL_PKG (chapter 07). -/
abbrev HANG_LOCAL_PKG : Nat := 0x381001
/-- 0x7400:01 SEM_WAIT_TIMEOUT (chapter 07). -/
abbrev SEM_WAIT_TIMEOUT : Nat := 0x740001
/-- 0x7400:02 HANG_SCAN_COUNT (chapter 07). -/
abbrev HANG_SCAN_COUNT : Nat := 0x740002
/-- 0x7410:01 HANG_RECORDS (chapter 07). -/
abbrev HANG_RECORDS : Nat := 0x741001
/-- 0x7410:02 SYNC_STATUS (chapter 07). -/
abbrev SYNC_STATUS : Nat := 0x741002
/-- 0x8070:01 SEM_RANGE_DROPS (chapter 07). -/
abbrev SEM_RANGE_DROPS : Nat := 0x807001
/-- 0x8070:02 HANG_DECLARATIONS (chapter 07). -/
abbrev HANG_DECLARATIONS : Nat := 0x807002
/-- 0x8070:03 WAIT_TIMEOUTS (chapter 07). -/
abbrev WAIT_TIMEOUTS : Nat := 0x807003
/-- 0x4010:01 KEY_SELECT (chapter 08). -/
abbrev KEY_SELECT : Nat := 0x401001
/-- 0x4010:02 KEY_ENTRY (chapter 08). -/
abbrev KEY_ENTRY : Nat := 0x401002
/-- 0x7400:03 DMA_TIMEOUT (chapter 08). -/
abbrev DMA_TIMEOUT : Nat := 0x740003
/-- 0x8080:01 BLOCK_CHECK_FAILS (chapter 08). -/
abbrev BLOCK_CHECK_FAILS : Nat := 0x808001
/-- 0x8080:02 DMA_CLIPS (chapter 08). -/
abbrev DMA_CLIPS : Nat := 0x808002
/-- 0x8080:03 DMA_ADDRESS_FAULTS (chapter 08). -/
abbrev DMA_ADDRESS_FAULTS : Nat := 0x808003
/-- 0x8080:04 REVOKED_WRITE_DROPS (chapter 08). -/
abbrev REVOKED_WRITE_DROPS : Nat := 0x808004
/-- 0x8080:05 DMA_TIMEOUTS (chapter 08). -/
abbrev DMA_TIMEOUTS : Nat := 0x808005
/-- 0x8080:06 BAD_DESCRIPTORS (chapter 08). -/
abbrev BAD_DESCRIPTORS : Nat := 0x808006
/-- 0x8080:07 SHELF_ECC_CORRECTED (chapter 08). -/
abbrev SHELF_ECC_CORRECTED : Nat := 0x808007
/-- 0x8080:08 SHELF_ECC_UNCORRECTED (chapter 08). -/
abbrev SHELF_ECC_UNCORRECTED : Nat := 0x808008
/-- 0x8080:09 SHELF_BANK_WAIT_CYCLES (chapter 08). -/
abbrev SHELF_BANK_WAIT_CYCLES : Nat := 0x808009
/-- 0x8080:0A LATE_DATA_DROPS (chapter 08). -/
abbrev LATE_DATA_DROPS : Nat := 0x80800A
/-- 0x4020:01–0x4020:10 DRAWER_KEYS (chapter 09). -/
abbrev DRAWER_KEYS : Nat := 0x402001
/-- 0x4021:01–0x4021:10 DRAWER_SPILL_KEYS (chapter 09). -/
abbrev DRAWER_SPILL_KEYS : Nat := 0x402101
/-- 0x4022:01–0x4022:10 DRAWER_CFG (chapter 09). -/
abbrev DRAWER_CFG : Nat := 0x402201
/-- 0x4023:01 DRAWER_SPILL_MARK (chapter 09). -/
abbrev DRAWER_SPILL_MARK : Nat := 0x402301
/-- 0x4023:02 DRAWER_OCCUPANCY (chapter 09). -/
abbrev DRAWER_OCCUPANCY : Nat := 0x402302
/-- 0x7400:04 STASH_TIMEOUT (chapter 09). -/
abbrev STASH_TIMEOUT : Nat := 0x740004
/-- 0x8090:01 DRAWER_BLOCKS_WRITTEN (chapter 09). -/
abbrev DRAWER_BLOCKS_WRITTEN : Nat := 0x809001
/-- 0x8090:02 DRAWER_PAGES_SPILLED (chapter 09). -/
abbrev DRAWER_PAGES_SPILLED : Nat := 0x809002
/-- 0x8090:03 DRAWER_SPILL_READ_BLOCKS (chapter 09). -/
abbrev DRAWER_SPILL_READ_BLOCKS : Nat := 0x809003
/-- 0x8090:04 DRAWER_SPILL_WAITS (chapter 09). -/
abbrev DRAWER_SPILL_WAITS : Nat := 0x809004
/-- 0x8090:05 DRAWER_STALL_TIME (chapter 09). -/
abbrev DRAWER_STALL_TIME : Nat := 0x809005
/-- 0x8090:06 STASH_TIMEOUTS (chapter 09). -/
abbrev STASH_TIMEOUTS : Nat := 0x809006
/-- 0x8090:07 NOT_STASHED_READS (chapter 09). -/
abbrev NOT_STASHED_READS : Nat := 0x809007
/-- 0x8090:08 DRAWER_DISCARDED_BLOCKS (chapter 09). -/
abbrev DRAWER_DISCARDED_BLOCKS : Nat := 0x809008
/-- 0x5810:01 GROUP_SELECT (chapter 10). -/
abbrev GROUP_SELECT : Nat := 0x581001
/-- 0x5810:02 GROUP_ENTRY (chapter 10). -/
abbrev GROUP_ENTRY : Nat := 0x581002
/-- 0x5820:01 PLAN_SELECT (chapter 10). -/
abbrev PLAN_SELECT : Nat := 0x582001
/-- 0x5820:02 PLAN_ENTRY (chapter 10). -/
abbrev PLAN_ENTRY : Nat := 0x582002
/-- 0x5820:03 PLAN_PROGRESS (chapter 10). -/
abbrev PLAN_PROGRESS : Nat := 0x582003
/-- 0x7400:05 COLLECTIVE_TIMEOUT (chapter 10). -/
abbrev COLLECTIVE_TIMEOUT : Nat := 0x740005
/-- 0x80A0:01 GATHER_UNITS_SERVED (chapter 10). -/
abbrev GATHER_UNITS_SERVED : Nat := 0x80A001
/-- 0x80A0:02 GATHER_UNDO_SERVED (chapter 10). -/
abbrev GATHER_UNDO_SERVED : Nat := 0x80A002
/-- 0x80A0:03 GATHER_VERSION_HOLDS (chapter 10). -/
abbrev GATHER_VERSION_HOLDS : Nat := 0x80A003
/-- 0x80A0:04 GATHER_STALE_UNITS (chapter 10). -/
abbrev GATHER_STALE_UNITS : Nat := 0x80A004
/-- 0x80A0:05 REDUCE_UNITS_ROOTED (chapter 10). -/
abbrev REDUCE_UNITS_ROOTED : Nat := 0x80A005
/-- 0x80A0:06 REDUCE_PARTIALS_SENT (chapter 10). -/
abbrev REDUCE_PARTIALS_SENT : Nat := 0x80A006
/-- 0x80A0:07 COLLECTIVE_TIMEOUTS (chapter 10). -/
abbrev COLLECTIVE_TIMEOUTS : Nat := 0x80A007
/-- 0x80A0:08 SHAPE_MISMATCH_DROPS (chapter 10). -/
abbrev SHAPE_MISMATCH_DROPS : Nat := 0x80A008
/-- 0x5830:01–0x5830:10 VERDICT_PARENT (chapter 11). -/
abbrev VERDICT_PARENT : Nat := 0x583001
/-- 0x5831:01–0x5831:10 VERDICT_CHILDREN (chapter 11). -/
abbrev VERDICT_CHILDREN : Nat := 0x583101
/-- 0x5832:01–0x5832:10 JOB_POSITION (chapter 11). -/
abbrev JOB_POSITION : Nat := 0x583201
/-- 0x5833:01–0x5833:10 PARTNER_ENDPOINT (chapter 11). -/
abbrev PARTNER_ENDPOINT : Nat := 0x583301
/-- 0x6010:01–0x6010:10 STEP_STATUS (chapter 11). -/
abbrev STEP_STATUS : Nat := 0x601001
/-- 0x6011:01–0x6011:10 LAST_COMMITTED (chapter 11). -/
abbrev LAST_COMMITTED : Nat := 0x601101
/-- 0x6012:01–0x6012:10 CHEST_LOG_KEY (chapter 11). -/
abbrev CHEST_LOG_KEY : Nat := 0x601201
/-- 0x6013:01–0x6013:10 CHEST_HOLD_KEY (chapter 11). -/
abbrev CHEST_HOLD_KEY : Nat := 0x601301
/-- 0x6014:01–0x6014:10 REPLAY_IN_KEY (chapter 11). -/
abbrev REPLAY_IN_KEY : Nat := 0x601401
/-- 0x6015:01–0x6015:10 UNDO_PAIRS (chapter 11). -/
abbrev UNDO_PAIRS : Nat := 0x601501
/-- 0x6016:01–0x6016:10 STEP_CFG (chapter 11). -/
abbrev STEP_CFG : Nat := 0x601601
/-- 0x6017:01 HEALTH_WORDS (chapter 11). -/
abbrev HEALTH_WORDS : Nat := 0x601701
/-- 0x6018:01 LAST_VERDICTS (chapter 11). -/
abbrev LAST_VERDICTS : Nat := 0x601801
/-- 0x7400:06 VERDICT_TIMEOUT (chapter 11). -/
abbrev VERDICT_TIMEOUT : Nat := 0x740006
/-- 0x80B0:01 STEPS_COMMITTED (chapter 11). -/
abbrev STEPS_COMMITTED : Nat := 0x80B001
/-- 0x80B0:02 STEPS_ABORTED (chapter 11). -/
abbrev STEPS_ABORTED : Nat := 0x80B002
/-- 0x80B0:03 STEPS_REPLAYED (chapter 11). -/
abbrev STEPS_REPLAYED : Nat := 0x80B003
/-- 0x80B0:04 REPLAY_MISSES (chapter 11). -/
abbrev REPLAY_MISSES : Nat := 0x80B004
/-- 0x80B0:05 STEP_ARRIVAL_DROPS (chapter 11). -/
abbrev STEP_ARRIVAL_DROPS : Nat := 0x80B005
/-- 0x80B0:06 CHEST_OVERFLOW_BLOCKS (chapter 11). -/
abbrev CHEST_OVERFLOW_BLOCKS : Nat := 0x80B006
/-- 0x80B0:07 UNDO_WRITE_HOLDS (chapter 11). -/
abbrev UNDO_WRITE_HOLDS : Nat := 0x80B007
/-- 0x80B0:08 VERDICT_MESSAGE_DROPS (chapter 11). -/
abbrev VERDICT_MESSAGE_DROPS : Nat := 0x80B008
/-- 0x80B0:09 UNDO_MISSING_BLOCKS (chapter 11). -/
abbrev UNDO_MISSING_BLOCKS : Nat := 0x80B009
/-- 0x80B0:0A VERDICT_TIMEOUTS (chapter 11). -/
abbrev VERDICT_TIMEOUTS : Nat := 0x80B00A
/-- 0x80B0:0B LATE_VERDICT_DROPS (chapter 11). -/
abbrev LATE_VERDICT_DROPS : Nat := 0x80B00B
/-- 0x4400:01 HBM_PIN_RATE (chapter 12). -/
abbrev HBM_PIN_RATE : Nat := 0x440001
/-- 0x4400:02 HBM_CLASS_WHEEL (chapter 12). -/
abbrev HBM_CLASS_WHEEL : Nat := 0x440002
/-- 0x4400:03 HBM_REPAIR_THRESHOLD (chapter 12). -/
abbrev HBM_REPAIR_THRESHOLD : Nat := 0x440003
/-- 0x4410:01 HBM_STACK_STATUS (chapter 12). -/
abbrev HBM_STACK_STATUS : Nat := 0x441001
/-- 0x4410:02 HBM_STACK_CAPACITY (chapter 12). -/
abbrev HBM_STACK_CAPACITY : Nat := 0x441002
/-- 0x4420:01 HBM_REPAIR_LIST (chapter 12). -/
abbrev HBM_REPAIR_LIST : Nat := 0x442001
/-- 0x4420:02 HBM_REPAIR_CMD (chapter 12). -/
abbrev HBM_REPAIR_CMD : Nat := 0x442002
/-- 0x4430:01 HBM_TG_SELECT (chapter 12). -/
abbrev HBM_TG_SELECT : Nat := 0x443001
/-- 0x4430:02 HBM_TG_CFG (chapter 12). -/
abbrev HBM_TG_CFG : Nat := 0x443002
/-- 0x4430:03 HBM_TG_STATUS (chapter 12). -/
abbrev HBM_TG_STATUS : Nat := 0x443003
/-- 0x4430:04 HBM_TG_CTRL (chapter 12). -/
abbrev HBM_TG_CTRL : Nat := 0x443004
/-- 0x4800:01 LPDDR_STATUS (chapter 12). -/
abbrev LPDDR_STATUS : Nat := 0x480001
/-- 0x4800:02 DUMP_SLOT_LOCKS (chapter 12). -/
abbrev DUMP_SLOT_LOCKS : Nat := 0x480002
/-- 0x80C0:01–0x80C0:04 HBM_BURSTS_P0–HBM_BURSTS_P3 (chapter 12). -/
abbrev HBM_BURSTS_P0 : Nat := 0x80C001
/-- 0x80C0:05 HBM_CORRECTED (chapter 12). -/
abbrev HBM_CORRECTED : Nat := 0x80C005
/-- 0x80C0:06 HBM_UNCORRECTED (chapter 12). -/
abbrev HBM_UNCORRECTED : Nat := 0x80C006
/-- 0x80C0:07 HBM_RMW_WRITES (chapter 12). -/
abbrev HBM_RMW_WRITES : Nat := 0x80C007
/-- 0x80C0:08 HBM_OFFLINE_ACCESSES (chapter 12). -/
abbrev HBM_OFFLINE_ACCESSES : Nat := 0x80C008
/-- 0x80C0:09 HBM_REPAIRS (chapter 12). -/
abbrev HBM_REPAIRS : Nat := 0x80C009
/-- 0x80C0:0A HBM_RETRAINS (chapter 12). -/
abbrev HBM_RETRAINS : Nat := 0x80C00A
/-- 0x80C0:0B HBM_REPAIR_LIST_FULL (chapter 12). -/
abbrev HBM_REPAIR_LIST_FULL : Nat := 0x80C00B
/-- 0x80D0:01 LPDDR_LINK_CORRECTED (chapter 12). -/
abbrev LPDDR_LINK_CORRECTED : Nat := 0x80D001
/-- 0x80D0:02 LPDDR_LINK_UNCORRECTED (chapter 12). -/
abbrev LPDDR_LINK_UNCORRECTED : Nat := 0x80D002
/-- 0x80D0:03 DUMPS_DROPPED (chapter 12). -/
abbrev DUMPS_DROPPED : Nat := 0x80D003
/-- 0x5000:01 FABRIC_ADDRESS (chapter 13). -/
abbrev FABRIC_ADDRESS : Nat := 0x500001
/-- 0x5000:02 PORT_ENABLE (chapter 13). -/
abbrev PORT_ENABLE : Nat := 0x500002
/-- 0x5000:03 PORT_HOST (chapter 13). -/
abbrev PORT_HOST : Nat := 0x500003
/-- 0x5000:04 PORT_WIDTH2 (chapter 13). -/
abbrev PORT_WIDTH2 : Nat := 0x500004
/-- 0x5000:05 PORT_CTRL (chapter 13). -/
abbrev PORT_CTRL : Nat := 0x500005
/-- 0x5000:06 PORT_VC_WEIGHTS (chapter 13). -/
abbrev PORT_VC_WEIGHTS : Nat := 0x500006
/-- 0x5000:07 PORT_UNCORR_LIMIT (chapter 13). -/
abbrev PORT_UNCORR_LIMIT : Nat := 0x500007
/-- 0x5010:01 PORT_STATUS (chapter 13). -/
abbrev PORT_STATUS : Nat := 0x501001
/-- 0x5010:02 PORT_COUNTERS (chapter 13). -/
abbrev PORT_COUNTERS : Nat := 0x501002
/-- 0x5020:01 ROUTE_SELECT (chapter 13). -/
abbrev ROUTE_SELECT : Nat := 0x502001
/-- 0x5020:02 ROUTE_ENTRY (chapter 13). -/
abbrev ROUTE_ENTRY : Nat := 0x502002
/-- 0x5400:01 JOB_MEMBERSHIP (chapter 13). -/
abbrev JOB_MEMBERSHIP : Nat := 0x540001
/-- 0x5410:01 EP_SELECT (chapter 13). -/
abbrev EP_SELECT : Nat := 0x541001
/-- 0x5410:02 EP_ENTRY (chapter 13). -/
abbrev EP_ENTRY : Nat := 0x541002
/-- 0x5420:01–0x5420:10 EP_DIE_MAP (chapter 13). -/
abbrev EP_DIE_MAP : Nat := 0x542001
/-- 0x7400:07 LINK_REQ_RETRY (chapter 13). -/
abbrev LINK_REQ_RETRY : Nat := 0x740007
/-- 0x7400:08 LINK_REQ_RETRIES (chapter 13). -/
abbrev LINK_REQ_RETRIES : Nat := 0x740008
/-- 0x80E0:01 FEC_CORRECTED_SYMBOLS (chapter 13). -/
abbrev FEC_CORRECTED_SYMBOLS : Nat := 0x80E001
/-- 0x80E0:02 FEC_UNCORRECTED_CODEWORDS (chapter 13). -/
abbrev FEC_UNCORRECTED_CODEWORDS : Nat := 0x80E002
/-- 0x80E0:03 FLIT_RETRIES (chapter 13). -/
abbrev FLIT_RETRIES : Nat := 0x80E003
/-- 0x80E0:04 PORT_RETRAINS (chapter 13). -/
abbrev PORT_RETRAINS : Nat := 0x80E004
/-- 0x80E0:05 PORT_FLITS_LOST (chapter 13). -/
abbrev PORT_FLITS_LOST : Nat := 0x80E005
/-- 0x80F0:01 EP_INVALID_DROPS (chapter 13). -/
abbrev EP_INVALID_DROPS : Nat := 0x80F001
/-- 0x80F0:02 EP_KEY_DROPS (chapter 13). -/
abbrev EP_KEY_DROPS : Nat := 0x80F002
/-- 0x80F0:03 MEMBERSHIP_DROPS (chapter 13). -/
abbrev MEMBERSHIP_DROPS : Nat := 0x80F003
/-- 0x80F0:04 STALE_REMOTE_DROPS (chapter 13). -/
abbrev STALE_REMOTE_DROPS : Nat := 0x80F004
/-- 0x80F0:05 LATE_REPLY_DROPS (chapter 13). -/
abbrev LATE_REPLY_DROPS : Nat := 0x80F005
/-- 0x80F0:06 NO_ROUTE_DROPS (chapter 13). -/
abbrev NO_ROUTE_DROPS : Nat := 0x80F006
/-- 0x80F0:07 HOP_LIMIT_DROPS (chapter 13). -/
abbrev HOP_LIMIT_DROPS : Nat := 0x80F007
/-- 0x80F0:08 BAD_MESSAGES (chapter 13). -/
abbrev BAD_MESSAGES : Nat := 0x80F008
/-- 0x80F0:09 REQ_RETRANSMITS (chapter 13). -/
abbrev REQ_RETRANSMITS : Nat := 0x80F009
/-- 0x80F0:0A REQ_EXHAUSTED (chapter 13). -/
abbrev REQ_EXHAUSTED : Nat := 0x80F00A
/-- 0x80F0:0B DUPLICATE_REQUESTS (chapter 13). -/
abbrev DUPLICATE_REQUESTS : Nat := 0x80F00B
/-- 0x80F0:0C PASS_THROUGH_MESSAGES (chapter 13). -/
abbrev PASS_THROUGH_MESSAGES : Nat := 0x80F00C
/-- 0x80F0:0D EP_SEND_FAULTS (chapter 13). -/
abbrev EP_SEND_FAULTS : Nat := 0x80F00D
/-- 0x7030:01 SELFTEST_INTERVAL (chapter 14). -/
abbrev SELFTEST_INTERVAL : Nat := 0x703001
/-- 0x7030:02 OBSERVE_SELFTEST_INTERVAL (chapter 14). -/
abbrev OBSERVE_SELFTEST_INTERVAL : Nat := 0x703002
/-- 0x7030:03 SELFTEST_ENABLE (chapter 14). -/
abbrev SELFTEST_ENABLE : Nat := 0x703003
/-- 0x7030:04 SELFTEST_LAST_FAIL (chapter 14). -/
abbrev SELFTEST_LAST_FAIL : Nat := 0x703004
/-- 0x7040:01 HEALTH_SCORE (chapter 14). -/
abbrev HEALTH_SCORE : Nat := 0x704001
/-- 0x7040:02 W_CHECK_STEP (chapter 14). -/
abbrev W_CHECK_STEP : Nat := 0x704002
/-- 0x7040:03 W_BLOCK_STEP (chapter 14). -/
abbrev W_BLOCK_STEP : Nat := 0x704003
/-- 0x7040:04 W_REPLAY_FAILED (chapter 14). -/
abbrev W_REPLAY_FAILED : Nat := 0x704004
/-- 0x7040:05 W_REPLAY_MATCHED (chapter 14). -/
abbrev W_REPLAY_MATCHED : Nat := 0x704005
/-- 0x7040:06 W_SELFTEST (chapter 14). -/
abbrev W_SELFTEST : Nat := 0x704006
/-- 0x7040:07 W_UNCORRECTED (chapter 14). -/
abbrev W_UNCORRECTED : Nat := 0x704007
/-- 0x7040:08 W_VOTE (chapter 14). -/
abbrev W_VOTE : Nat := 0x704008
/-- 0x7040:09 W_NONFINITE_ORIGIN (chapter 14). -/
abbrev W_NONFINITE_ORIGIN : Nat := 0x704009
/-- 0x7040:0A HEALTH_DECAY_INTERVAL (chapter 14). -/
abbrev HEALTH_DECAY_INTERVAL : Nat := 0x70400A
/-- 0x7050:01 EXPEL_THRESHOLD (chapter 14). -/
abbrev EXPEL_THRESHOLD : Nat := 0x705001
/-- 0x7050:02 EXPEL_HOLDOFF (chapter 14). -/
abbrev EXPEL_HOLDOFF : Nat := 0x705002
/-- 0x7050:03 EXPEL_REQUEST (chapter 14). -/
abbrev EXPEL_REQUEST : Nat := 0x705003
/-- 0x7050:04 EXPEL_ANSWER (chapter 14). -/
abbrev EXPEL_ANSWER : Nat := 0x705004
/-- 0x7050:05 EXPEL_ANSWER_WAIT (chapter 14). -/
abbrev EXPEL_ANSWER_WAIT : Nat := 0x705005
/-- 0x7050:06 OBSERVE_EXIT (chapter 14). -/
abbrev OBSERVE_EXIT : Nat := 0x705006
/-- 0x7050:07 OBSERVATION (chapter 14). -/
abbrev OBSERVATION : Nat := 0x705007
/-- 0x7060:01–0x7060:10 VERIFY_POLICY (chapter 14). -/
abbrev VERIFY_POLICY : Nat := 0x706001
/-- 0x8100:01 SELFTEST_RUNS (chapter 14). -/
abbrev SELFTEST_RUNS : Nat := 0x810001
/-- 0x8100:02 SELFTEST_FAILS (chapter 14). -/
abbrev SELFTEST_FAILS : Nat := 0x810002
/-- 0x8100:03 SELFTEST_DELAY_TIME (chapter 14). -/
abbrev SELFTEST_DELAY_TIME : Nat := 0x810003
/-- 0x8100:04 VOTE_DISAGREEMENTS (chapter 14). -/
abbrev VOTE_DISAGREEMENTS : Nat := 0x810004
/-- 0x8100:05 QSTORE_ECC_CORRECTED (chapter 14). -/
abbrev QSTORE_ECC_CORRECTED : Nat := 0x810005
/-- 0x8100:06 QSTORE_ECC_UNCORRECTED (chapter 14). -/
abbrev QSTORE_ECC_UNCORRECTED : Nat := 0x810006
/-- 0x8100:07 EXPEL_REQUESTS (chapter 14). -/
abbrev EXPEL_REQUESTS : Nat := 0x810007
/-- 0x8100:08 EXPEL_DEFERRALS (chapter 14). -/
abbrev EXPEL_DEFERRALS : Nat := 0x810008
/-- 0x8100:09 EXPEL_ANSWER_DROPS (chapter 14). -/
abbrev EXPEL_ANSWER_DROPS : Nat := 0x810009
/-- 0x6400:01–0x6400:10 WARDROBE_KEY (chapter 15). -/
abbrev WARDROBE_KEY : Nat := 0x640001
/-- 0x6401:01–0x6401:10 MIRROR_CFG (chapter 15). -/
abbrev MIRROR_CFG : Nat := 0x640101
/-- 0x6402:01–0x6402:10 JOB_SHAPE_HASH (chapter 15). -/
abbrev JOB_SHAPE_HASH : Nat := 0x640201
/-- 0x6403:01–0x6403:10 MIRROR_STATUS (chapter 15). -/
abbrev MIRROR_STATUS : Nat := 0x640301
/-- 0x6404:01–0x6404:10 MIRROR_CTRL (chapter 15). -/
abbrev MIRROR_CTRL : Nat := 0x640401
/-- 0x6405:01 MIRROR_RETRY_WAIT (chapter 15). -/
abbrev MIRROR_RETRY_WAIT : Nat := 0x640501
/-- 0x6410:01 WARDROBE_SEND (chapter 15). -/
abbrev WARDROBE_SEND : Nat := 0x641001
/-- 0x6410:02 WARDROBE_SEND_STATUS (chapter 15). -/
abbrev WARDROBE_SEND_STATUS : Nat := 0x641002
/-- 0x6420:01–0x6420:10 CKPT_CTRL (chapter 15). -/
abbrev CKPT_CTRL : Nat := 0x642001
/-- 0x6421:01–0x6421:10 CKPT_STATUS (chapter 15). -/
abbrev CKPT_STATUS : Nat := 0x642101
/-- 0x6430:01–0x6430:10 RESTORE_CTRL (chapter 15). -/
abbrev RESTORE_CTRL : Nat := 0x643001
/-- 0x6431:01–0x6431:10 RESTORE_STATUS (chapter 15). -/
abbrev RESTORE_STATUS : Nat := 0x643101
/-- 0x8110:01 MIRROR_BLOCKS_SENT (chapter 15). -/
abbrev MIRROR_BLOCKS_SENT : Nat := 0x811001
/-- 0x8110:02 MIRROR_UPDATE_WAITS (chapter 15). -/
abbrev MIRROR_UPDATE_WAITS : Nat := 0x811002
/-- 0x8110:03 MIRROR_WAIT_TIME (chapter 15). -/
abbrev MIRROR_WAIT_TIME : Nat := 0x811003
/-- 0x8110:04 MIRROR_FAILURES (chapter 15). -/
abbrev MIRROR_FAILURES : Nat := 0x811004
/-- 0x8110:05 MIRROR_UNTRACKED_WRITES (chapter 15). -/
abbrev MIRROR_UNTRACKED_WRITES : Nat := 0x811005
/-- 0x8110:06 CKPT_BLOCKS_SENT (chapter 15). -/
abbrev CKPT_BLOCKS_SENT : Nat := 0x811006
/-- 0x8110:07 RESTORE_REFUSALS (chapter 15). -/
abbrev RESTORE_REFUSALS : Nat := 0x811007
/-- 0x8110:08 WARDROBE_BLOCKS_RECEIVED (chapter 15). -/
abbrev WARDROBE_BLOCKS_RECEIVED : Nat := 0x811008
/-- 0x8110:09 REPLAY_WARDROBE_DROPS (chapter 15). -/
abbrev REPLAY_WARDROBE_DROPS : Nat := 0x811009
/-- 0x7400:09 MGMT_WATCHDOG (chapter 16). -/
abbrev MGMT_WATCHDOG : Nat := 0x740009
/-- 0x7400:0A MGMT_FAIL_LIMIT (chapter 16). -/
abbrev MGMT_FAIL_LIMIT : Nat := 0x74000A
/-- 0x7400:0B MGMT_FAIL_WINDOW (chapter 16). -/
abbrev MGMT_FAIL_WINDOW : Nat := 0x74000B
/-- 0x7400:0C AO_STALL_TIMEOUT (chapter 16). -/
abbrev AO_STALL_TIMEOUT : Nat := 0x74000C
/-- 0x7400:0D FENCE_NOTICE_WAIT (chapter 16). -/
abbrev FENCE_NOTICE_WAIT : Nat := 0x74000D
/-- 0x7420:01 RESET_CTRL (chapter 16). -/
abbrev RESET_CTRL : Nat := 0x742001
/-- 0x7420:02 RESET_STATUS (chapter 16). -/
abbrev RESET_STATUS : Nat := 0x742002
/-- 0x7420:03 DUMP_TRIGGERS (chapter 16). -/
abbrev DUMP_TRIGGERS : Nat := 0x742003
/-- 0x7420:04 DUMP_CTRL (chapter 16). -/
abbrev DUMP_CTRL : Nat := 0x742004
/-- 0x7430:01 FENCE_NOTICE (chapter 16). -/
abbrev FENCE_NOTICE : Nat := 0x743001
/-- 0x7430:02 SPARE_STATUS (chapter 16). -/
abbrev SPARE_STATUS : Nat := 0x743002
/-- 0x7440:01 REPORT_ADDRESS (chapter 16). -/
abbrev REPORT_ADDRESS : Nat := 0x744001
/-- 0x7440:02 REPORT_RING (chapter 16). -/
abbrev REPORT_RING : Nat := 0x744002
/-- 0x7440:03 REPORT_ACK (chapter 16). -/
abbrev REPORT_ACK : Nat := 0x744003
/-- 0x7440:04 REPORT_RESEND (chapter 16). -/
abbrev REPORT_RESEND : Nat := 0x744004
/-- 0x8120:01 STALE_LOCAL_DROPS (chapter 16). -/
abbrev STALE_LOCAL_DROPS : Nat := 0x812001
/-- 0x8120:02 TEARDOWNS (chapter 16). -/
abbrev TEARDOWNS : Nat := 0x812002
/-- 0x8120:03 CORE_RESETS (chapter 16). -/
abbrev CORE_RESETS : Nat := 0x812003
/-- 0x8120:04 CLUSTER_RESETS (chapter 16). -/
abbrev CLUSTER_RESETS : Nat := 0x812004
/-- 0x8120:05 DIE_RESETS (chapter 16). -/
abbrev DIE_RESETS : Nat := 0x812005
/-- 0x8120:06 WARM_RESETS (chapter 16). -/
abbrev WARM_RESETS : Nat := 0x812006
/-- 0x8120:07 MGMT_RESETS (chapter 16). -/
abbrev MGMT_RESETS : Nat := 0x812007
/-- 0x8120:08 DUMPS_WRITTEN (chapter 16). -/
abbrev DUMPS_WRITTEN : Nat := 0x812008
/-- 0x8120:09 DUMPS_TRUNCATED (chapter 16). -/
abbrev DUMPS_TRUNCATED : Nat := 0x812009
/-- 0x8120:0A REPORTS_SENT (chapter 16). -/
abbrev REPORTS_SENT : Nat := 0x81200A
/-- 0x8120:0B REPORTS_OVERWRITTEN (chapter 16). -/
abbrev REPORTS_OVERWRITTEN : Nat := 0x81200B
/-- 0x8120:0C SPARE_DROPS (chapter 16). -/
abbrev SPARE_DROPS : Nat := 0x81200C
/-- 0x1100:01 TIME_NOW (chapter 17). -/
abbrev TIME_NOW : Nat := 0x110001
/-- 0x1100:02 TIME_SOURCE_PORT (chapter 17). -/
abbrev TIME_SOURCE_PORT : Nat := 0x110002
/-- 0x1100:03 TIME_SYNC_INTERVAL (chapter 17). -/
abbrev TIME_SYNC_INTERVAL : Nat := 0x110003
/-- 0x1100:04 TIME_STATUS (chapter 17). -/
abbrev TIME_STATUS : Nat := 0x110004
/-- 0x8201:01–0x8201:10 COUNTER_KEY (chapter 17). -/
abbrev COUNTER_KEY : Nat := 0x820101
/-- 0x8200:01–0x8200:10 COUNTER_EVENTS (chapter 17). -/
abbrev COUNTER_EVENTS : Nat := 0x820001
/-- 0x8202:01–0x8202:10 COUNTER_SAMPLE_INTERVAL (chapter 17). -/
abbrev COUNTER_SAMPLE_INTERVAL : Nat := 0x820201
/-- 0x8203:01 COUNTER_MODE (chapter 17). -/
abbrev COUNTER_MODE : Nat := 0x820301
/-- 0x8210:01 COUNTER_SAMPLE_SELECT (chapter 17). -/
abbrev COUNTER_SAMPLE_SELECT : Nat := 0x821001
/-- 0x8210:02 COUNTER_SAMPLE (chapter 17). -/
abbrev COUNTER_SAMPLE : Nat := 0x821002
/-- 0x8400:01 EVENT_RING_SELECT (chapter 17). -/
abbrev EVENT_RING_SELECT : Nat := 0x840001
/-- 0x8400:02 EVENT_RING (chapter 17). -/
abbrev EVENT_RING : Nat := 0x840002
/-- 0x8410:01 DUMP_WINDOW_SELECT (chapter 17). -/
abbrev DUMP_WINDOW_SELECT : Nat := 0x841001
/-- 0x8410:02 DUMP_WINDOW (chapter 17). -/
abbrev DUMP_WINDOW : Nat := 0x841002
/-- 0x8410:03 DUMP_HEADERS (chapter 17). -/
abbrev DUMP_HEADERS : Nat := 0x841003
/-- 0x8420:01–0x8420:04 TRACE_CFG (chapter 17). -/
abbrev TRACE_CFG : Nat := 0x842001
/-- 0x8130:01 COUNTER_SAMPLE_FAULTS (chapter 17). -/
abbrev COUNTER_SAMPLE_FAULTS : Nat := 0x813001
/-- 0x8130:02 EVENTS_OVERWRITTEN (chapter 17). -/
abbrev EVENTS_OVERWRITTEN : Nat := 0x813002
/-- 0x8130:03 TRACE_RECORDS (chapter 17). -/
abbrev TRACE_RECORDS : Nat := 0x813003
/-- 0x8130:04 TRACE_DROPS (chapter 17). -/
abbrev TRACE_DROPS : Nat := 0x813004
/-- 0x8130:05 TIME_HOLDOVERS (chapter 17). -/
abbrev TIME_HOLDOVERS : Nat := 0x813005
/-- 0x8130:06 TRACE_OVERRUNS (chapter 17). -/
abbrev TRACE_OVERRUNS : Nat := 0x813006
/-- 0x1000:01 VENDOR_NAME (chapter 18). -/
abbrev VENDOR_NAME : Nat := 0x100001
/-- 0x1000:02 PART_NAME (chapter 18). -/
abbrev PART_NAME : Nat := 0x100002
/-- 0x1000:04 SERIAL_NUMBER (chapter 18). -/
abbrev SERIAL_NUMBER : Nat := 0x100004
/-- 0x1000:05 STEPPING (chapter 18). -/
abbrev STEPPING : Nat := 0x100005
/-- 0x1000:06 DICTIONARY_VERSION (chapter 18). -/
abbrev DICTIONARY_VERSION : Nat := 0x100006
/-- 0x1000:07 ASSET_TAG (chapter 18). -/
abbrev ASSET_TAG : Nat := 0x100007
/-- 0x1020:01 NV_STATUS (chapter 18). -/
abbrev NV_STATUS : Nat := 0x102001
/-- 0x1020:02 NV_CTRL (chapter 18). -/
abbrev NV_CTRL : Nat := 0x102002
/-- 0x8140:01 MGMT_REQUESTS (chapter 18). -/
abbrev MGMT_REQUESTS : Nat := 0x814001
/-- 0x8140:02 MGMT_ERROR_REPLIES (chapter 18). -/
abbrev MGMT_ERROR_REPLIES : Nat := 0x814002
/-- 0x8140:03 MGMT_BUSY_REPLIES (chapter 18). -/
abbrev MGMT_BUSY_REPLIES : Nat := 0x814003
/-- 0x8140:04 MGMT_QUEUE_DROPS (chapter 18). -/
abbrev MGMT_QUEUE_DROPS : Nat := 0x814004
/-- 0x8140:05 MGMT_SEND_DROPS (chapter 18). -/
abbrev MGMT_SEND_DROPS : Nat := 0x814005
/-- 0x8140:06 NV_COMMITS (chapter 18). -/
abbrev NV_COMMITS : Nat := 0x814006
/-- 0x2000:01 POWER_STATE (chapter 19). -/
abbrev POWER_STATE : Nat := 0x200001
/-- 0x2000:02 POWER_STATUS (chapter 19). -/
abbrev POWER_STATUS : Nat := 0x200002
/-- 0x2010:01 INPUT_STATUS (chapter 19). -/
abbrev INPUT_STATUS : Nat := 0x201001
/-- 0x2010:02 PACKAGE_POWER (chapter 19). -/
abbrev PACKAGE_POWER : Nat := 0x201002
/-- 0x2010:03 POWER_LIMIT (chapter 19). -/
abbrev POWER_LIMIT : Nat := 0x201003
/-- 0x2010:04 BOOT_CAUSE (chapter 19). -/
abbrev BOOT_CAUSE : Nat := 0x201004
/-- 0x2010:05 TRIP_RECORD (chapter 19). -/
abbrev TRIP_RECORD : Nat := 0x201005
/-- 0x2020:01 TEMPERATURES (chapter 19). -/
abbrev TEMPERATURES : Nat := 0x202001
/-- 0x2020:02 THERMAL_THROTTLE (chapter 19). -/
abbrev THERMAL_THROTTLE : Nat := 0x202002
/-- 0x2020:03 THERMAL_STATUS (chapter 19). -/
abbrev THERMAL_STATUS : Nat := 0x202003
/-- 0x2030:01 DROOP_STRETCH_CYCLES (chapter 19). -/
abbrev DROOP_STRETCH_CYCLES : Nat := 0x203001
/-- 0x2030:02 THERMAL_THROTTLE_TIME (chapter 19). -/
abbrev THERMAL_THROTTLE_TIME : Nat := 0x203002
/-- 0x2030:03 POWER_CAP_TIME (chapter 19). -/
abbrev POWER_CAP_TIME : Nat := 0x203003
/-- 0x2030:04 POWER_STATE_CHANGES (chapter 19). -/
abbrev POWER_STATE_CHANGES : Nat := 0x203004
/-- 0x2030:05 DEEP_CROSSING_DROPS (chapter 19). -/
abbrev DEEP_CROSSING_DROPS : Nat := 0x203005
/-- 0x2030:06 CLUSTER_WAKES (chapter 19). -/
abbrev CLUSTER_WAKES : Nat := 0x203006
/-- 0x2400:01 CLOCK_STATUS (chapter 19). -/
abbrev CLOCK_STATUS : Nat := 0x240001
/-- 0x2400:02 CLUSTER_SLEEP_DELAY (chapter 19). -/
abbrev CLUSTER_SLEEP_DELAY : Nat := 0x240002
/-- 0x2400:03 LEVEL_CAPS (chapter 19). -/
abbrev LEVEL_CAPS : Nat := 0x240003
/-- 0x9000:01 FW_VERSION (chapter 20). -/
abbrev FW_VERSION : Nat := 0x900001
/-- 0x9000:02 FW_HASH (chapter 20). -/
abbrev FW_HASH : Nat := 0x900002
/-- 0x9000:03 VENDOR_KEY_HASH (chapter 20). -/
abbrev VENDOR_KEY_HASH : Nat := 0x900003
/-- 0x9010:01 ATTEST_GENERATION (chapter 20). -/
abbrev ATTEST_GENERATION : Nat := 0x901001
/-- 0x9010:02 ATTEST_NEXT_LEAF (chapter 20). -/
abbrev ATTEST_NEXT_LEAF : Nat := 0x901002
/-- 0x9010:03 ATTEST_PUBKEY (chapter 20). -/
abbrev ATTEST_PUBKEY : Nat := 0x901003
/-- 0x9010:04 ATTEST_CERT (chapter 20). -/
abbrev ATTEST_CERT : Nat := 0x901004
/-- 0x9010:05 ATTEST_REQUEST (chapter 20). -/
abbrev ATTEST_REQUEST : Nat := 0x901005
/-- 0x9010:06 ATTEST_QUOTE (chapter 20). -/
abbrev ATTEST_QUOTE : Nat := 0x901006
/-- 0x9010:07 ATTEST_STATUS (chapter 20). -/
abbrev ATTEST_STATUS : Nat := 0x901007
/-- 0xA000:01 STRAPS (chapter 20). -/
abbrev STRAPS : Nat := 0xA00001
/-- 0xA000:02 SIDEBAND_STATUS (chapter 20). -/
abbrev SIDEBAND_STATUS : Nat := 0xA00002
/-- 0xA010:01 BOOT_STATUS (chapter 20). -/
abbrev BOOT_STATUS : Nat := 0xA01001
/-- 0xA010:02 BOOT_TIME (chapter 20). -/
abbrev BOOT_TIME : Nat := 0xA01002
/-- 0xA010:03 FLASH_STATUS (chapter 20). -/
abbrev FLASH_STATUS : Nat := 0xA01003

end Sys2Proof.Machine.K
end

