-- ==== Sys2Proof/Machine/ReportState.lean ====
section
/-!
DEFINITION. The report ring (R491 to R493) and the health score with observation and expulsion (R445 to R454).
-/

namespace Sys2Proof.Machine

/-- The report ring: the number of the next record, the records by SEQ mod 64, and the SEQs of unacknowledged records
with the time at which they are due to be sent again, oldest first. -/
structure Reports where
  next : Nat := 1
  ring : Tbl (BitVec 256) := []
  unacked : List (Nat × Nat) := []
deriving DecidableEq, Repr

/-- The weighted events of R445, in the order of its table. -/
inductive Charge
  | checkStep | blockStep | replayFailed | replayMatched | selftest | uncorrected | vote | nonfiniteOrigin
deriving DecidableEq, Repr

/-- The health score, observation and the request to be expelled (R445 to R454). -/
structure Defence where
  score : Nat := 0
  observing : Bool := false
  /-- time base at which the running hold-off ends (R449) -/
  holdoff : Option Nat := none
  /-- number of the last request, its record with STATE (R451), time of the request and EXPEL_ANSWER_WAIT then -/
  seq : Nat := 0
  request : BitVec 256 := 0
  asked : Nat := 0
  wait : Nat := 0
  /-- an ACCEPTED answer bars further requests until the membership changes (R452) -/
  barred : Bool := false
  /-- events since the previous request: self-test failures, then the events of R451's record in its order -/
  counts : List Nat := [0, 0, 0, 0, 0, 0, 0, 0]
  /-- SELFTEST_LAST_FAIL (R441) -/
  lastFail : BitVec 128 := 0
  /-- time base of the last decay (R446) -/
  decayed : Nat := 0
  /-- the time base when the score last changed, and score, observation and hold-off before the first change at that time
  (R447) -/
  cycle : Nat × Nat × Bool × Option Nat := (0, 0, false, none)
  /-- elements to come in which the copies of the collective engines disagree (R437) -/
  copies : List CopyFault := []
deriving DecidableEq, Repr

end Sys2Proof.Machine
end

