-- ==== Sys2Proof/Machine/BootState.lean ====
section
/-!
DEFINITION. The state of boot, firmware, flash, attestation and the board connections (chapter 20).
-/

namespace Sys2Proof.Machine

/-- What runs (R578 to R583, R555, R556, R576): everything; ROM recovery; the test hold; the always-on domain alone
with RESET_L low; the always-on domain alone after the main rails were removed; nothing. -/
inductive RunMode
  | running | rom | hold | resetLow | dark | unpowered
deriving DecidableEq, Repr

/-- An image that is being staged (R584): its length, the chunks held, and what its last check answered. -/
structure Staged where
  length : Nat := 0
  chunks : List Nat := []
  verdict : Option Nat := none
deriving DecidableEq, Repr

/-- Attestation (R589 to R592). -/
structure Attest where
  /-- blown bits of the fuse counter, F -/
  fuse : Nat := 0
  /-- A, the highest R written since the 3.3 V input was applied -/
  high : Nat := 1
  /-- next leaf of the generation and the end of the reserved batch -/
  leaf : Nat := 0
  stop : Nat := 256
  /-- the node cache is being built -/
  building : Bool := false
  /-- no handover is possible any more (R591) -/
  ended : Bool := false
  /-- a nonce that waits, and the last quote with its signature -/
  want : Option (BitVec 256) := none
  quote : List Nat := []
deriving DecidableEq, Repr

/-- Instructions of the TAP (R596). -/
inductive TapIns
  | bypass | idcode | samplePreload | extest | clamp | highz | extestPulse | extestTrain
deriving DecidableEq, Repr

/-- The TAP: the instruction taken, and the data register that it selects (one bit for BYPASS, 32 for IDCODE). -/
structure Tap where
  taken : TapIns := .idcode
  dr : BitVec 32 := 0
deriving DecidableEq, Repr

/-- The SMBus target: the entry selected, the bytes of the last Block Read. -/
structure Smbus where
  entry : Nat := 0
  out : List Nat := []
deriving DecidableEq, Repr

/-- Boot, firmware, flash and board connections. -/
structure Boot where
  mode : RunMode := .running
  /-- BOOT_STATUS: last step ended, cause of ROM recovery -/
  last : Nat := 11
  cause : Nat := 0
  /-- BOOT_TIME in ms -/
  time : Nat := 0
  /-- the straps as sampled (R579) -/
  straps : Nat := 0
  /-- READY is high; FAULT_L is driven (R594) -/
  ready : Bool := true
  fault : Bool := false
  fwVersion : Nat := 0
  fwHash : Nat := 0
  /-- the flash: bytes other than 0xFF, and FLASH_STATUS -/
  flash : Tbl Nat := []
  flashStatus : Nat := 0x31B
  /-- an IMAGE_FLASH that runs, and its progress in percent (R586) -/
  writing : Bool := false
  progress : Nat := 0
  staged : Option Staged := none
  /-- time base of the next ANNOUNCE (R583) -/
  announce : Nat := 0
  attest : Attest := {}
  tap : Tap := {}
  smbus : Smbus := {}
deriving DecidableEq, Repr

end Sys2Proof.Machine
end

