-- ==== Sys2Proof/Machine/MgmtState.lean ====
section
/-!
DEFINITION. The state of the management channel and the non-volatile area (chapter 18), of the management core, resets,
dumps and the spare state (chapter 16), and of the time base's alignment (chapter 17).
-/

namespace Sys2Proof.Machine

/-- A snapshot buffer (R541, R542). -/
structure Snapshot where
  saddr : Nat
  entry : Nat
  bytes : List Nat
deriving DecidableEq, Repr

/-- A commit of a non-volatile entry (R547): its value, and the reply that waits with the port that it leaves by. -/
structure Commit where
  key : Nat
  value : List Nat
  reply : Option (Nat × Msg)
deriving DecidableEq, Repr

/-- The management channel. -/
structure Mgmt where
  /-- requests that wait, with their ports (R534) -/
  queue : List (Nat × Msg) := []
  /-- snapshots, the least recently read first -/
  snaps : List Snapshot := []
  commits : List Commit := []
  /-- the last commit failed; a restore is pending (NV_STATUS) -/
  nvFailed : Bool := false
  nvRestore : Bool := false
  /-- stored values of non-volatile entries other than their factory defaults, and SEQ of the valid copy (R588) -/
  nv : Tbl (List Nat) := []
  nvSeq : Nat := 0
  /-- the copy of the NV area that is valid: 0 or 1 -/
  nvCopy : Nat := 0
  asset : List Nat := []
  /-- the management core runs (R488), time base of its last heartbeat, resets within the window (R489) -/
  coreUp : Bool := true
  beat : Nat := 0
  /-- MGMT_WATCHDOG as it was at the last heartbeat, in 0.25 ns units -/
  watch : Nat := 2000000000
  beats : Nat := 0
  fails : List Nat := []
deriving DecidableEq, Repr

/-- Domains of RESET_CTRL (R481). -/
inductive Domain
  | core | mgmt | cluster | port | die | warm
deriving DecidableEq, Repr

/-- The domain code of RESET_CTRL. -/
def Domain.code : Domain → Nat
  | .core => 1 | .mgmt => 2 | .cluster => 3 | .port => 4 | .die => 5 | .warm => 6

/-- A reset in progress (R482): its domain, the unit field, when it began, its phase (0 while it waits for its dump)
and the time of the last progress mark (R490), with the AO_STALL_TIMEOUT that runs from it. For a repair under R377, its
site and mode. `served`: a dump has already been taken for it (R497). For the management core `unit` holds the DETAIL of
its report. -/
structure ResetRun where
  domain : Domain
  unit : Nat
  began : Nat
  phase : Nat := 0
  mark : Nat
  limit : Nat := 0
  served : Bool := false
  repair : Option (Nat × Bool) := none
deriving DecidableEq, Repr

/-- Resets: the one in progress, those whose trigger waits for a dump (R487), and what RESET_STATUS keeps. -/
structure Resets where
  cur : Option ResetRun := none
  waiting : List ResetRun := []
  last : Nat := 0
  lasted : Nat := 0
deriving DecidableEq, Repr

/-- A dump that runs (R484 to R487): its trigger, slot, time and the reset that waits for it; later triggers. -/
structure DumpRun where
  trigger : Nat
  slot : Nat
  start : Nat
  before : Bool := false
  also : List Nat := []
deriving DecidableEq, Repr

/-- The spare state and the fence notice wait (R495): time base and length of the wait. -/
structure Spare where
  isSpare : Bool := false
  cause : Nat := 0
  given : Nat := 0
  wait : Option (Nat × Nat) := none
deriving DecidableEq, Repr

/-- Alignment of the time base (R500 to R503): the request that waits, when requests leave, intervals without a reply,
and the correction that slewing has still to make. -/
structure TimeSync where
  tag : Nat := 0
  t1 : Option Nat := none
  due : Nat := 0
  misses : Nat := 0
  locked : Bool := false
  holdover : Bool := false
  theta : Int := 0
  slew : Int := 0
  /-- the count has just left out a unit -/
  omitted : Bool := false
deriving DecidableEq, Repr

/-- Management, resets, dumps, the spare state and time. -/
structure Service where
  mgmt : Mgmt := {}
  resets : Resets := {}
  dump : Option DumpRun := none
  spare : Spare := {}
  time : TimeSync := {}
deriving DecidableEq, Repr

end Sys2Proof.Machine
end

