-- ==== Sys2Proof/Machine/HbmState.lean ====
section
/-!
DEFINITION. The state of the HBM stacks, the repair list, the traffic generators and service memory (chapter 12).
-/

namespace Sys2Proof.Machine

/-- A stack's state (R371). -/
inductive StackMode
  | training | inService | selfRefresh | repair | failed
deriving DecidableEq, Repr

/-- The state code of R371. -/
def StackMode.code : StackMode → Nat
  | .training => 1 | .inService => 2 | .selfRefresh => 3 | .repair => 4 | .failed => 5

/-- A stack: state, rate code of R371, hard repairs made, the rows that a soft repair holds in force (R378), and by row,
channel, pseudo-channel, bank and row as one number, the errors since the last cold boot: all of them, the corrected
ones, and the time of the first (R375). -/
structure Stack where
  mode : StackMode := .inService
  rate : Nat := 4
  hard : Nat := 0
  soft : List Nat := []
  rows : Tbl (Nat × Nat × Nat) := []
deriving DecidableEq, Repr

/-- A record of the repair list (R376). -/
structure Repair where
  time : Nat
  site : Nat
  /-- channel, pseudo-channel, bank and row as bits 59:30 of the record -/
  row : Nat
  errors : Nat
  uncorrected : Bool
  /-- 0 CANDIDATE, 1 SOFT, 2 HARD, 3 REFUSED -/
  st : Nat
deriving DecidableEq, Repr

/-- The traffic generator of a channel (R379): HBM_TG_CFG, the setup of its run, and its status word. -/
structure TrafficGen where
  cfg : Nat := 0
  /-- HBM_TG_CFG when the run began -/
  setup : Nat := 0
  status : BitVec 256 := 0
  /-- what the run has found wrong in a memory that errs (R380) -/
  found : Option (BitVec 256) := none
deriving DecidableEq, Repr

/-- HBM and service memory beside their contents. -/
structure Hbm where
  sites : Tbl Stack := []
  repairs : List Repair := []
  /-- generators by site × 32 + channel -/
  gens : Tbl TrafficGen := []
  /-- LPDDR packages out of service (R383) -/
  lpddrFail : List Bool := [false, false]
  /-- slot of the next dump (R385) -/
  dumpSlot : Nat := 0
deriving DecidableEq, Repr

/-- What is left of HBM and service memory when their rails are removed: the hard repairs of the stacks, which are permanent
(R378); every stack waits for its training. -/
def Hbm.unpowered (sites : List Nat) (x : Hbm) : Hbm :=
  { sites := sites.foldl (fun t h => Tbl.put t {} h
      { mode := .training, rate := 0, hard := (Tbl.get x.sites {} h).hard }) [] }

end Sys2Proof.Machine
end

