-- ==== Sys2Proof/Machine/MirrorState.lean ====
section
/-!
DEFINITION. The state of mirror copies, wardrobe sends, checkpoints, restores and log streams (chapter 15, R348).
-/

namespace Sys2Proof.Machine

/-- What a copy sends (the table of chapter 15, and the log stream of R348). -/
inductive CopyKind
  | mirror | checkpoint | takeover | log
deriving DecidableEq, Repr

/-- The manifest KIND (R457). -/
def CopyKind.code : CopyKind → Nat
  | .mirror => 0 | .checkpoint => 1 | .takeover => 2 | .log => 3

/-- A copy that is running (R461 to R464, R470, R474): the blocks that it has still to read, those moved to the front
first (R463). For a log stream the blocks are slots of the log ring. -/
structure Copy where
  kind : CopyKind
  step : Nat
  /-- entry of IO0 and remote key -/
  ep : Nat
  key : Nat
  front : List Nat := []
  todo : List Nat := []
  /-- blocks of the set, and those read -/
  total : Nat := 0
  done : Nat := 0
  /-- digest sum over the blocks sent (R458) -/
  dsum : BitVec 256 := 0
  /-- blocks sent that a RESP has left unreported (R464) -/
  missing : Nat := 0
  /-- the manifest, or the request record, has been sent -/
  closing : Bool := false
deriving DecidableEq, Repr

/-- States of RESTORE_STATUS. -/
inductive RestoreSt
  | none | checking | accepted | refused
deriving DecidableEq, Repr

/-- The mirror of a context, its checkpoint and its restore (chapter 15). -/
structure Mirror where
  /-- blocks changed in each uncommitted step, as image blocks in ascending order (R460) -/
  marks : Tbl (List Nat) := []
  /-- MIRROR_STEP, and whether the last copy failed -/
  step : Nat := 0
  failed : Bool := false
  /-- a full copy has been requested (R466); the time of MIRROR_CTRL's last request that still waits (R475); the time at
  which R465 requests one -/
  full : Bool := false
  fullAt : Option Nat := none
  retryAt : Option Nat := none
  copy : Option Copy := none
  /-- a checkpoint that waits for its start, with its endpoint and key; state code and STEP of CKPT_STATUS -/
  ckptWait : Option (Nat × Nat) := none
  ckpt : Option Copy := none
  ckptState : Nat := 0
  ckptStep : Nat := 0
  /-- RESTORE_STATUS: state and reason; the check in progress: the step asked for and the reason found, 0 for none;
  a refusal bars every STEP.OPEN (R473) -/
  restore : RestoreSt := .none
  reason : Nat := 0
  check : Option (Nat × Nat) := none
  barred : Bool := false
  /-- the log stream of a suspect: the step waits for running copies (R468), or streams -/
  logWait : Option Nat := none
  log : Option Copy := none
deriving DecidableEq, Repr

/-- The wardrobe send of the part (R470). -/
structure Send where
  state : Nat := 0
  ctx : Nat := 0
  copy : Option Copy := none
  /-- first sixteen bytes words of the manifest that it copies, as a number -/
  manifest : Nat := 0
deriving DecidableEq, Repr

end Sys2Proof.Machine
end

