-- ==== Sys2Proof/Machine/PowerState.lean ====
section
/-!
DEFINITION. The state of power, clocks and limits (chapter 19).
-/

namespace Sys2Proof.Machine

/-- Package states; ENGINE-IDLE is ACTIVE with every cluster asleep (R566). -/
inductive PkgState
  | active | retain | deep
deriving DecidableEq, Repr

/-- The value of POWER_STATE for a state. -/
def PkgState.code : PkgState → Nat
  | .active => 0 | .retain => 2 | .deep => 3

/-- Power, clocks and limits. -/
structure Power where
  state : PkgState := .active
  /-- the state that a transition in progress ends in, and when it began (R567, R572) -/
  target : Option PkgState := none
  began : Nat := 0
  /-- duration of the last transition, in units -/
  lasted : Nat := 0
  /-- a write of ACTIVE that waits for the end of an entry (R572) -/
  wake : Bool := false
  /-- dies at THERMAL_THROTTLE, and since when (R574) -/
  hot : List Bool := [false, false, false, false]
  hotSince : List Nat := [0, 0, 0, 0]
  /-- the power cap, and since when it has been below 0x05 (R575) -/
  cap : Nat := 5
  capSince : Nat := 0
  /-- end of the next power window (R575), and mean power of the last -/
  window : Nat := 4000000
  mean : Nat := 0
  /-- flags of THERMAL_STATUS that software has not cleared -/
  flags : BitVec 8 := 0
  /-- the main input lies outside its range (R555, R556) -/
  mainLost : Bool := false
  /-- the always-on input is present (R557) and REFCLK is stable (R562) -/
  aoOn : Bool := true
  refclk : Bool := true
  /-- the rails are removed after a trip (R576); the trip record in the NV area, and the one that is being written -/
  tripped : Bool := false
  trip : BitVec 128 := 0
  tripWait : Option (BitVec 128) := none
  /-- BOOT_CAUSE, and the cause that the next cold boot will report (R557) -/
  cause : Nat := 0
  next : Nat := 1
deriving DecidableEq, Repr

/-- Bits of THERMAL_STATUS that stand while their condition holds (R574, R575): thermal caps, then dies whose cap the power
cap lowers. -/
def Power.thermalNow (p : Power) : Nat :=
  ((List.range 4).map (fun d => if p.hot.getD d false then 2 ^ d else 0)).sum
    + ((List.range 4).map (fun d => if p.cap < (if p.hot.getD d false then 3 else 5) then 2 ^ (4 + d) else 0)).sum

end Sys2Proof.Machine
end

