-- ==== Sys2Proof/Config.lean ====
section
/-!
DEFINITION. What the spec leaves open, as constants without a body: nothing can be proved about their values, and a
statement about the model holds whatever they are. Each is named in the assumption log.
-/

namespace Sys2Proof.Config

/-- Byte `addr` of a store whose contents were lost `n` times (R229, R254, R556, R569: lost contents read as
unpredictable data). The first argument numbers the store. -/
opaque freeByte : Nat → Nat → Nat → BitVec 8

/-- The `n`-th amount of a quantity that the spec does not fix: cycles waited, energy, a free order. -/
opaque freeWord : Nat → BitVec 64

/-- Bank (bits 23 to 18) and row of an address within a pseudo-channel: the controllers' fixed function (R363). -/
opaque bankRow : Nat → BitVec 24

/-- Header bytes and identity words of the part that the spec does not give: serial number, stepping, versions. -/
opaque partWord : Nat → BitVec 64

/-- The element code that a convert to FP6 or FP4 writes for a NaN (kind 0), +infinity (1) or −infinity (2) under the
group scale 0xFF that R59 makes it write: the spec states only the scale. First argument: the format code. -/
opaque convertSpecial : Nat → Nat → BitVec 6

/-- The signature over a message digest by the attestation or firmware scheme (XMSS, chapter 20): the key's number,
the leaf and the message. -/
opaque xmssSign : Nat → Nat → List (BitVec 8) → List (BitVec 8)

/-- Does a signature verify under a key (chapter 20)? Public key, message, signature. -/
opaque xmssVerify : List (BitVec 8) → List (BitVec 8) → List (BitVec 8) → Bool

end Sys2Proof.Config
end

