-- ==== Sys2Proof/Machine/Store.lean ====
section
/-!
DEFINITION. Byte stores: HBM, shelves, service memory and the flash (chapters 08, 12, 20). R229: a store is never
cleared by the part; R254, R374, R556: a region whose contents were lost reads as unpredictable data.
-/

namespace Sys2Proof.Machine

/-- A store of bytes. `cells` lists bytes by address in one canonical form: addresses strictly rising, and no byte
equal to what its address reads as when it is not listed. `lost` counts, by region, how often contents were lost, and
`wiped` how often all of them were. -/
structure Store where
  /-- which store: 0 HBM, 1 shelves, 2 service memory, 3 flash -/
  kind : Nat
  /-- log2 of the size of a region that loses its contents as one -/
  regionBits : Nat
  lost : Tbl Nat := []
  cells : List (Nat × BitVec 8) := []
  wiped : Nat := 0
deriving DecidableEq, Repr

/-- What an unlisted byte of a store reads as: 0 until its region loses its contents (DESIGN CHOICE: the spec gives no
first contents), then unpredictable data. -/
def Store.blank (m : Store) (a : Nat) : BitVec 8 :=
  let n := m.wiped + Tbl.get m.lost 0 (a / 2 ^ m.regionBits)
  if n = 0 then 0 else Config.freeByte m.kind n a

/-- The listed byte at `a`, or the default. -/
def cellGet (l : List (Nat × BitVec 8)) (d : BitVec 8) (a : Nat) : BitVec 8 := Tbl.get l d a

/-- One byte of a store. -/
def Store.byte (m : Store) (a : Nat) : BitVec 8 := cellGet m.cells (m.blank a) a

/-- `n` bytes of a store from address `a`, in address order. -/
def Store.read (m : Store) (a n : Nat) : List Nat :=
  let near := m.cells.filter (fun c => decide (a ≤ c.1) && decide (c.1 < a + n))
  (List.range n).map (fun i => (cellGet near (m.blank (a + i)) (a + i)).toNat)

/-- The bytes that a write lists: those that differ from the blank. -/
def Store.listed (m : Store) (a : Nat) (bs : List Nat) : List (Nat × BitVec 8) :=
  (bs.zipIdx).filterMap (fun p =>
    let b := BitVec.ofNat 8 p.1
    if b = m.blank (a + p.2) then none else some (a + p.2, b))

/-- Writes bytes from address `a` on. -/
def Store.write (m : Store) (a : Nat) (bs : List Nat) : Store :=
  { m with cells := m.cells.filter (fun c => decide (c.1 < a)) ++ m.listed a bs
      ++ m.cells.filter (fun c => decide (a + bs.length ≤ c.1)) }

/-- The contents of a region are lost. -/
def Store.lose (m : Store) (region : Nat) : Store :=
  { m with
    lost := Tbl.put m.lost 0 region (Tbl.get m.lost 0 region + 1)
    cells := m.cells.filter (fun c => decide (c.1 / 2 ^ m.regionBits ≠ region)) }

/-- The contents of the whole store are lost. -/
def Store.wipe (m : Store) : Store := { m with wiped := m.wiped + 1, cells := [] }

/-- The canonical form of a list of cells above an address, under a blank. -/
def cellsWf (blank : Nat → BitVec 8) : Nat → List (Nat × BitVec 8) → Bool
  | _, [] => true
  | lo, (a, b) :: r => decide (lo ≤ a) && decide (b ≠ blank a) && cellsWf blank (a + 1) r

/-- The canonical form of a store. -/
def Store.wf (m : Store) : Bool := cellsWf m.blank 0 m.cells

/-- The memory of the part: HBM by site (2^36 bytes of address per site), shelves by die (R251), service memory by
areas of 64 MiB (R384). -/
structure Memory where
  hbm : Store := { kind := 0, regionBits := 36 }
  shelf : Store := { kind := 1, regionBits := 33 }
  service : Store := { kind := 2, regionBits := 26 }
deriving DecidableEq, Repr

/-- Every store is in its canonical form. -/
def Memory.wf (m : Memory) : Bool := m.hbm.wf && m.shelf.wf && m.service.wf

end Sys2Proof.Machine
end

