-- ==== Sys2Proof/Machine/State.lean ====
section
/-!
DEFINITION. The state of the part: every register, queue, counter, mode and pin that the spec names, as plain data,
and the queue of waiting commands. Reset values: State.reset.
-/

namespace Sys2Proof.Machine

/-- Reasons for which the machine would stop with a fault. -/
inductive Fault
  /-- raised by no command: every effect that the spec describes is a next state (safe) -/
  | never
deriving DecidableEq, Repr

/-- Reasons for which a command is refused. -/
inductive Refusal
  /-- a command without a meaning in this model (safe) -/
  | notModelled (mnemonic : String)
deriving DecidableEq, Repr

/-- The state of the part. -/
structure State where
  /-- commands that wait, first in, first out -/
  pending : List Instr := []
  /-- the global time base, in units of 0.25 ns (R498) -/
  now : Nat := 0
  /-- the model's own counter of free values drawn so far -/
  free : Nat := 0
  /-- grade and fused-unit map -/
  part : Part := {}
  /-- parameters and counters of the object dictionary that differ from their defaults, by key -/
  od : Tbl Nat := []
  ctxs : Tbl Ctx := []
  /-- clusters `8d + c` -/
  clusters : Tbl Cluster := []
  /-- cores `64d + 8c + n` -/
  cores : Tbl Core := []
  /-- sideboard semaphores, by cluster × 4096 + index, and package semaphores, by I/O die × 16384 + index (R196) -/
  side : Tbl (BitVec 24) := []
  pkg : Tbl (BitVec 24) := []
  posts : List Post := []
  moves : List MoveFlight := []
  accesses : List Access := []
  mem : Memory := {}
  hbm : Hbm := {}
  /-- key table (R225), group entries (R288), plan entries (R289) -/
  keys : Tbl (BitVec 256) := []
  groups : Tbl (BitVec 256) := []
  plans : Tbl (BitVec 512) := []
  planSt : Tbl PlanSt := []
  /-- drawers, by context × 4 + die -/
  drawers : Tbl Drawer := []
  rings : Tbl Ring := []
  traces : Tbl TraceSt := []
  links : Links := {}
  mirrors : Tbl Mirror := []
  send : Send := {}
  power : Power := {}
  reports : Reports := {}
  defence : Defence := {}
  boot : Boot := {}
  service : Service := {}
deriving DecidableEq, Repr

/-- The machine right after reset. -/
def State.reset : State := {}

end Sys2Proof.Machine
end

