-- ==== Sys2Proof/Machine/Ops.lean ====
section
/-!
DEFINITION. The named operations over the state: dictionary entries, clusters, cores and contexts, semaphores, memory
through keys, messages, event rings, trace and reports.
-/

namespace Sys2Proof.Machine

/-! ### Dictionary entries -/

/-- Defaults other than 0 of the read-write entries (the Entries tables of the chapters). -/
def odDefault (k : Nat) : Nat :=
  if k = K.ARRAY_FILL_GAP then 64
  else if k / 256 = 0x7400 then
    (match k % 256 with
     | 1 => 50 | 2 => 3 | 3 => 10 | 4 => 200 | 5 => 2000 | 6 => 30000 | 7 => 2 | 8 => 4 | 9 => 500 | 0xA => 3
     | 0xB => 60000 | 0xC => 5000 | 0xD => 10000 | _ => 0)
  else if k / 256 = 0x4022 then 0x0010
  else if k = K.DRAWER_SPILL_MARK then 1024
  else if k / 256 = 0x5830 then 0x3FFFF
  else if k / 256 = 0x6016 then 8
  else if k = K.HBM_PIN_RATE then 8000
  else if k = K.HBM_CLASS_WHEEL then 0x0021
  else if k = K.HBM_REPAIR_THRESHOLD then 16
  else if k = K.PORT_ENABLE then 0x07FFFFFF
  else if k = K.PORT_WIDTH2 then 0x07FFFFFF
  else if k = K.PORT_VC_WEIGHTS then 0x6631
  else if k = K.PORT_UNCORR_LIMIT then 64
  else if k = K.SELFTEST_INTERVAL then 60000
  else if k = K.OBSERVE_SELFTEST_INTERVAL then 1000
  else if k = K.SELFTEST_ENABLE then 0x0F
  else if k / 256 = 0x7040 then
    (match k % 256 with
     | 2 => 16 | 3 => 8 | 4 => 32 | 5 => 4 | 6 => 128 | 7 => 8 | 8 => 16 | 0xA => 600000 | _ => 0)
  else if k = K.EXPEL_THRESHOLD then 128
  else if k = K.EXPEL_HOLDOFF then 300000
  else if k = K.EXPEL_ANSWER_WAIT then 10000
  else if k = K.OBSERVE_EXIT then 32
  else if k = K.MIRROR_RETRY_WAIT then 1000
  else if k = K.DUMP_TRIGGERS then 0x7C
  else if k = K.REPORT_RESEND then 1000
  else if k = K.TIME_SOURCE_PORT then 0x1F
  else if k = K.TIME_SYNC_INTERVAL then 1
  else if k = K.POWER_LIMIT then 3200
  else if k = K.THERMAL_THROTTLE then 100
  else if k = K.CLUSTER_SLEEP_DELAY then 10
  else 0

/-- EP_DIE_MAP's default by grade (chapter 13). -/
def Part.epDieMap (p : Part) : Nat := if p.grade = 682 then 0x00 else 0x41

/-- The default of an entry on this part. -/
def State.odDflt (s : State) (k : Nat) : Nat := if k / 256 = 0x5420 then s.part.epDieMap else odDefault k

/-- The value of a stored dictionary entry. -/
def State.par (s : State) (k : Nat) : Nat := Tbl.get s.od (s.odDflt k) k

/-- Sets a stored dictionary entry. -/
def State.setPar (s : State) (k v : Nat) : State := { s with od := Tbl.put s.od (s.odDflt k) k v }

/-- Adds `n` to a counter, which wraps modulo 2^64. -/
def State.bump (s : State) (k n : Nat) : State := s.setPar k ((s.par k + n) % 2 ^ 64)

/-- Time base units in a millisecond (R498). -/
def unitsPerMs : Nat := 4000000

/-- A duration entry in ms, as time base units. -/
def State.parMs (s : State) (k : Nat) : Nat := s.par k * unitsPerMs

/-- The event of a deadline happens at the deadline or later. -/
def State.reach (s : State) (t : Nat) : State := { s with now := max s.now t }

/-- Draws a free value (log entry 2). -/
def State.draw (s : State) : Nat × State := ((Config.freeWord s.free).toNat, { s with free := s.free + 1 })

/-! ### Units -/

/-- A cluster. -/
def State.cl (s : State) (c : Nat) : Cluster := Tbl.get s.clusters {} c
/-- Replaces a cluster. -/
def State.setCl (s : State) (c : Nat) (x : Cluster) : State := { s with clusters := Tbl.put s.clusters {} c x }
/-- A core. -/
def State.co (s : State) (k : Nat) : Core := Tbl.get s.cores {} k
/-- Replaces a core. -/
def State.setCo (s : State) (k : Nat) (x : Core) : State := { s with cores := Tbl.put s.cores {} k x }
/-- A context. -/
def State.cx (s : State) (x : Nat) : Ctx := Tbl.get s.ctxs {} x
/-- Replaces a context. -/
def State.setCx (s : State) (x : Nat) (c : Ctx) : State := { s with ctxs := Tbl.put s.ctxs {} x c }
/-- Changes a cluster. -/
def State.modCl (s : State) (c : Nat) (f : Cluster → Cluster) : State := s.setCl c (f (s.cl c))
/-- Changes a core. -/
def State.modCo (s : State) (k : Nat) (f : Core → Core) : State := s.setCo k (f (s.co k))
/-- Changes a context. -/
def State.modCx (s : State) (x : Nat) (f : Ctx → Ctx) : State := s.setCx x (f (s.cx x))

/-- The enabled cores of a cluster (R21). -/
def State.coresOf (s : State) (c : Nat) : List Nat :=
  ((List.range 8).map (fun n => 8 * c + n)).filter (fun k => !s.part.isFused k)

/-- The enabled cores of a cluster that a core mask selects (R22). -/
def State.masked (s : State) (c mask : Nat) : List Nat := (s.coresOf c).filter (fun k => bit mask (k % 8))

/-- The clusters of a context (R173). -/
def State.clustersOf (s : State) (x : Nat) : List Nat :=
  (List.range 32).filter (fun c => bit (s.par (K.CONTEXT_CLUSTERS + x)) c)

/-- Does the context hold the cluster? -/
def State.holds (s : State) (x c : Nat) : Bool := bit (s.par (K.CONTEXT_CLUSTERS + x)) c

/-- R478: an item of context `x` with generation `g` is stale. -/
def State.stale (s : State) (x g : Nat) : Bool :=
  (s.cx x).gen ≠ g || (s.cx x).st = .teardown || (s.cx x).st = .closed

/-- A stale item is dropped and counted (R478). -/
def State.dropStale (s : State) : State := s.bump K.STALE_LOCAL_DROPS 1

/-- Progress of a stream (R212). -/
def State.progressCl (s : State) (c : Nat) : State := s.modCl c (fun l => { l with progress := true })
/-- Progress of a context's command stream (R212). -/
def State.progressCx (s : State) (x : Nat) : State := s.modCx x (fun l => { l with progress := true })

/-- R486: the cluster is stopped from issuing, because a dump that precedes a reset of its domain runs. -/
def State.frozen (s : State) (c : Nat) : Bool :=
  match s.service.resets.cur with
  | none => false
  | some r =>
    r.phase = 0 && (match r.domain with
      | .core => decide (r.unit / 8 = c)
      | .cluster => decide (r.unit / 8 = c)
      | .die => decide (r.unit / 64 = c / 8)
      | .warm => true
      | _ => false)

/-! ### Steps -/

/-- The context's step in state OPEN (R320). -/
def Ctx.openStep (c : Ctx) : Option Step := c.steps.find? (fun t => t.st = .opened)

/-- The context's step that is OPEN, or its replay step (R62, R351). -/
def Ctx.curStep (c : Ctx) : Option Step :=
  match c.openStep with
  | some t => some t
  | none => match c.replay with
    | some t => if t.st = .opened then some t else none
    | none => none

/-- The step number of R62. -/
def Ctx.stepNo (c : Ctx) : Nat := match c.curStep with | some t => t.num | none => c.lastCommitted

/-- The step of the identity that messages and writes carry (R324). -/
def Ctx.openNo (c : Ctx) : Option Nat := c.curStep.map (·.num)

/-- Changes the OPEN step, or the replay step when that is the one open (R334: nothing is charged otherwise). -/
def Ctx.charge (c : Ctx) (f : Step → Step) : Ctx :=
  if c.openStep.isSome then { c with steps := c.steps.map (fun t => if t.st = .opened then f t else t) }
  else { c with replay := c.replay.map (fun t => if t.st = .opened then f t else t) }

/-- A 16-bit health count saturates (R335). -/
def sat16 (n : Nat) : Nat := min n 0xFFFF

/-! ### Event rings and trace -/

/-- The sites that hold HBM stacks (R12). -/
def Part.hbmSites (p : Part) : List Nat :=
  if p.grade = 680 then [0, 1, 2, 3, 6, 7, 8, 9]
  else if p.grade = 682 then [0, 1, 2, 3, 6, 7, 8, 9, 10, 11]
  else [0, 1, 2, 3, 6, 9]

/-- The sites of a compute die's interfaces (R11). -/
def dieSites (d : Nat) : List Nat :=
  match d with | 0 => [0, 1, 11] | 1 => [2, 3, 4] | 2 => [5, 6, 7] | _ => [8, 9, 10]

/-- The stacks of a view in order (R360); none where the view is reserved or names no stack. -/
def Part.viewStacks (p : Part) (v : Nat) : List Nat :=
  if v = 0 then p.hbmSites
  else if 0x10 ≤ v ∧ v ≤ 0x13 then p.hbmSites.filter (fun h => (dieSites (v - 0x10)).contains h)
  else if 0x20 ≤ v ∧ v ≤ 0x2B then p.hbmSites.filter (fun h => h = v - 0x20)
  else []

/-- Bytes of a stack (R12, R358). -/
def stackBytes : Nat := 48 * 2 ^ 30

/-- The HBM cell of a byte of a view (R362): site × 2^36 + offset in the stack, where whole 2,048-byte blocks rotate
over the stacks of the view. -/
def Part.hbmCell (p : Part) (a : Nat) : Nat :=
  let l := p.viewStacks (bits a 47 40)
  let x := bits a 39 0
  let n := max 1 l.length
  l.getD ((x / 2048) % n) 0 * 2 ^ 36 + 2048 * (x / 2048 / n) + x % 2048

/-- Splits `n` bytes from address `a` at the 2,048-byte boundaries: address and length of each piece. -/
def pieces (a n : Nat) : List (Nat × Nat) :=
  (List.range (ceilDiv (a % 2048 + n) 2048)).map (fun i =>
    let lo := max a (a / 2048 * 2048 + 2048 * i)
    let hi := min (a + n) (a / 2048 * 2048 + 2048 * (i + 1))
    (lo, hi - lo))

/-- Reads bytes of an address space: 0 HBM, 1 shelves, else service memory. -/
def State.readSpace (s : State) (space a n : Nat) : List Nat :=
  match space with
  | 0 => ((pieces a n).map (fun p => s.mem.hbm.read (s.part.hbmCell p.1) p.2)).flatten
  | 1 => s.mem.shelf.read a n
  | _ => s.mem.service.read a n

/-- Writes bytes of an address space. -/
def State.writeSpace (s : State) (space a : Nat) (bs : List Nat) : State :=
  match space with
  | 0 => { s with mem := { s.mem with hbm := (pieces a bs.length).foldl (fun m p =>
      m.write (s.part.hbmCell p.1) ((bs.drop (p.1 - a)).take p.2)) s.mem.hbm } }
  | 1 => { s with mem := { s.mem with shelf := s.mem.shelf.write a bs } }
  | _ => { s with mem := { s.mem with service := s.mem.service.write a bs } }

/-- A stack. -/
def State.stack (s : State) (h : Nat) : Stack := Tbl.get s.hbm.sites {} h

/-- Is a site out of service for accesses (R373)? -/
def State.siteOff (s : State) (h : Nat) : Bool :=
  match (s.stack h).mode with
  | .training | .repair | .failed => true
  | _ => false

/-- The sites that hold `n` bytes from offset `off` of a region of HBM from `base` on (R362). -/
def State.sitesAt (s : State) (base off n : Nat) : List Nat :=
  if n = 0 then []
  else
    let l := s.part.viewStacks (bits base 47 40)
    let b := (bits base 39 0 + off) / 2048
    let m := ceilDiv ((bits base 39 0 + off) % 2048 + n) 2048
    ((List.range (min m l.length)).map (fun i => l.getD ((b + i) % max 1 l.length) 0)).eraseDups

/-- How many of the stacks that hold a range are out of service (R373). -/
def State.offSites (s : State) (base off n : Nat) : Nat := ((s.sitesAt base off n).filter s.siteOff).length

/-- Does an access to a range wait for a stack in self-refresh (R373)? -/
def State.asleepSites (s : State) (base off n : Nat) : Bool :=
  (s.sitesAt base off n).any (fun h => (s.stack h).mode = .selfRefresh)

/-- Counts the bursts of `n` bytes of HBM from address `a` in a class (R365, R367). -/
def State.countBursts (s : State) (cls a n : Nat) : State :=
  if n = 0 then s else s.bump (K.HBM_BURSTS_P0 + cls) ((a + n - 1) / 32 - a / 32 + 1)

/-- Bursts that a write covers only in part (R365). -/
def partBursts (a n : Nat) : Nat :=
  if n = 0 then 0
  else if a / 32 = (a + n - 1) / 32 then b2n (n ≠ 32)
  else b2n (a % 32 ≠ 0) + b2n ((a + n) % 32 ≠ 0)

/-- Counts the read-modify-writes of `n` bytes written at `a`, and of a 16-byte header (R365). -/
def State.countRmw (s : State) (a n : Nat) (hdr : Bool) : State :=
  let k := partBursts a n + b2n hdr
  if k = 0 then s else s.bump K.HBM_RMW_WRITES k

/-- Adds an amount that timing decides, which the spec does not fix, to a counter. -/
def State.bumpFree (s : State) (k : Nat) : State :=
  let f := s.draw
  f.2.bump k f.1

/-- Byte `i` of TRACE_CFG's fields for a die: the value of bits `hi` to `lo`. -/
def State.traceCfg (s : State) (d hi lo : Nat) : Nat := bits (s.par (K.TRACE_CFG + d)) hi lo

/-- The most records of a window (R520): ⌊0.03 × L × 1,024 / 16⌋, L being the bytes per ns of the die's stacks in service
at their trained rates, 2,048 per stack at 8,000 Mb/s. -/
def State.traceCap (s : State) (d : Nat) : Nat :=
  let sites := s.part.hbmSites.filter (fun h => (dieSites d).contains h && (s.stack h).mode = .inService)
  let rates := (sites.map (fun h => 6400 + 400 * (s.stack h).rate)).sum
  3 * (2048 * rates) * 1024 / (1600 * 8000)

/-- Writes a trace record of a class on a die, in class P3 (R519, R520, R365, R367, R373). -/
def State.trace (s : State) (d cls : Nat) (ev : BitVec 128) : State :=
  if !bit (s.traceCfg d 5 0) 4 || !bit (s.traceCfg d 5 0) cls then s
  else
    let t := Tbl.get s.traces {} d
    let w := s.now / 4096
    let used := if t.window = w then t.used else 0
    let len := s.traceCfg d 191 128
    if s.traceCap d ≤ used || len = 0 then
      ({ s with traces := Tbl.put s.traces {} d { t with window := w, used := used } }).bump K.TRACE_DROPS 1
    else
      let overrun := t.drained + len / 16 ≤ t.written && bit (s.traceCfg d 5 0) 5
      let t' := { t with
        window := w
        used := used + 1
        next := (t.next + 16) % len
        written := t.written + 1
        drained := if overrun then t.drained + 1 else t.drained }
      let a := (0x10 + d) <<< 40 + (s.traceCfg d 127 64 + t.next) % 2 ^ 40
      let s := ({ s with traces := Tbl.put s.traces {} d t' }).bump K.TRACE_RECORDS 1
      let s := if overrun then s.bump K.TRACE_OVERRUNS 1 else s
      let off := s.offSites a 0 16
      if off ≠ 0 then s.bump K.HBM_OFFLINE_ACCESSES off
      else ((s.writeSpace 0 a (toBytes 16 ev.toNat)).countBursts 3 a 16).countRmw a 16 false

/-- An event word (R516). -/
def State.eventWord (s : State) (code detail : Nat) : BitVec 128 :=
  BitVec.ofNat 128 ((s.now % 2 ^ 64) <<< 64 + (code % 256) <<< 56 + detail % 2 ^ 56)

/-- Puts an event into slot `n` of a ring, or further down: events of one cycle stand in ascending order of CODE (R518). -/
def placeEvent (ev : BitVec 128) : Nat → Nat → Tbl (BitVec 128) → Tbl (BitVec 128)
  | 0, n, t => Tbl.put t 0 n ev
  | fuel + 1, n, t =>
    let m := (n + 255) % 256
    let old := Tbl.get t 0 m
    if bits old.toNat 127 64 = bits ev.toNat 127 64 && decide (bits ev.toNat 63 56 < bits old.toNat 63 56) then
      placeEvent ev fuel m (Tbl.put t 0 n old)
    else Tbl.put t 0 n ev

/-- Writes an event into ring `u`: clusters 0 to 31, I/O dies 32 to 34 (R515); a cluster's event is traced (class 0). A
slot that holds an event, whose CODE is never 0, is overwritten. -/
def State.event (s : State) (u code detail : Nat) : State :=
  let r := Tbl.get s.rings {} u
  let ev := s.eventWord code detail
  let n := r.count % 256
  let r' : Ring := ⟨(r.count + 1) % 2 ^ 32, placeEvent ev 255 n r.slots⟩
  let s := { s with rings := Tbl.put s.rings {} u r' }
  let s := if Tbl.get r.slots 0 n ≠ 0 then s.bump K.EVENTS_OVERWRITTEN 1 else s
  if u < 32 then s.trace (u / 8) 0 ev else s

/-! ### Messages and ports -/

/-- The ports present in the grade: nine per I/O die (chapter 00). -/
def Part.hasPort (p : Part) (q : Nat) : Bool := q < 9 * p.ioDies

/-- A port. -/
def State.port (s : State) (p : Nat) : Port := Tbl.get s.links.ports {} p
/-- Replaces a port. -/
def State.setPort (s : State) (p : Nat) (x : Port) : State :=
  { s with links := { s.links with ports := Tbl.put s.links.ports {} p x } }

/-- A NULL slot (R391, R406): MTYPE 0 with SLOTS 1. -/
def nullSlot : BitVec 128 := BitVec.ofNat 128 (1 <<< 110)

/-- May a message of VC0 start: with it, VC0 takes at most 64 of any 1,024 slots sent, or nothing else of VC0 lies among
them (R403)? -/
def Port.vc0Free (p : Port) (n : Nat) : Bool :=
  let near := p.vc0.filter (fun e => decide (p.sentSlots + n < e.1 + e.2 + 1024))
  near = [] || decide ((near.map (·.2)).sum + n ≤ 64)

/-- The message of a VC that leaves next: the first that waits on it, since no message overtakes another of its VC (R416),
when the port holds credits for all its slots (R402). -/
def Port.head (p : Port) (v : Nat) : Option Msg :=
  match p.out.find? (fun m => m.common.vc = v) with
  | none => none
  | some m => if m.length ≤ p.credits.getD v 0 && (v ≠ 0 || p.vc0Free m.length) then some m else none

/-- The message that a port starts next (R403): VC1, VC0, VC3, VC2, then among VC5, VC4, VC6 and VC7, which have weights
`w` in this order, the one that has been served least by its weight. -/
def Port.next (w : List Nat) (p : Port) : Option Msg :=
  match [1, 0, 3, 2].findSome? p.head with
  | some m => some m
  | none =>
    let l := ([5, 4, 6, 7].zip w).filter (fun q => (p.head q.1).isSome)
    (l.find? (fun q => l.all (fun r => decide (p.served.getD q.1 0 * r.2 ≤ p.served.getD r.1 0 * q.2)))).bind
      (fun q => p.head q.1)

/-- A message starts: its slots join those that wait for a flit and take their credits (R402), and its VC is served; a
weighted VC on which no message waits gains nothing meanwhile (R403). -/
def Port.start (w : List Nat) (p : Port) (m : Msg) : Port :=
  let v := m.common.vc
  let n := m.length
  let out := p.out.erase m
  let had := p.served.getD v 0 + n
  let wv := ((([5, 4, 6, 7].zip w).find? (fun q => q.1 = v)).map (·.2)).getD 1
  let idle (q : Nat × Nat) : Bool := q.1 ≠ v && !out.any (fun m => m.common.vc = q.1)
  { p with
    out := out
    txPart := p.txPart ++ m
    credits := p.credits.set v (p.credits.getD v 0 - n)
    vc0 := if v = 0 then p.vc0.filter (fun e => decide (p.sentSlots < e.1 + e.2 + 1024)) ++ [(p.sentSlots, n)] else p.vc0
    served := if v < 4 then p.served
      else (([5, 4, 6, 7].zip w).filter idle).foldl (fun l q => l.set q.1 (max (l.getD q.1 0) (had * q.2 / max 1 wv)))
        (p.served.set v had) }

/-- The next flit is made of 16 slots, those that hold no message NULL (R391), and kept in the retry buffer (R393). -/
def Port.flit (p : Port) : Port :=
  let l := p.txPart.take 16
  { p with
    txPart := p.txPart.drop 16
    retry := p.retry ++ [⟨p.txSeq, l ++ List.replicate (16 - l.length) nullSlot, 0⟩]
    line := p.line ++ [p.txSeq]
    txSeq := (p.txSeq + 1) % 4096
    sentSlots := p.sentSlots + 16 }

/-- Sends what can be sent, as long as the port is ACTIVE and its retry buffer has room (R391, R393): a message goes on in
the flit in which another ends. -/
def Port.pump (w : List Nat) : Nat → Port → Port
  | 0, p => p
  | n + 1, p =>
    if p.mode ≠ .active || decide (2048 ≤ p.retry.length) then p
    else if 16 ≤ p.txPart.length then Port.pump w n p.flit
    else
      match p.next w with
      | some m => Port.pump w n (p.start w m)
      | none => if p.txPart = [] then p else Port.pump w n p.flit

/-- The weights of VC5, VC4, VC6 and VC7 (R403). -/
def State.vcWeights (s : State) : List Nat :=
  let w := s.par K.PORT_VC_WEIGHTS
  [bits w 15 12, bits w 11 8, bits w 7 4, bits w 3 0]

/-- Enough turns of `Port.pump` for all that waits: one for each message and one for each flit. -/
def Port.turns (p : Port) : Nat := 2 * ((p.out.map (fun m => m.length + 1)).sum + p.txPart.length) + 1

/-- Sends what a port can send. A request is transmitted when its message starts on the port (R428). -/
def State.sendOn (s : State) (q : Nat) (p : Port) : State :=
  let p' := Port.pump s.vcWeights p.turns p
  let left := p.out.filter (fun m => !p'.out.contains m)
  let s := s.setPort q p'
  if left = [] then s
  else { s with links := { s.links with
      reqs := s.links.reqs.map (fun r => if left.contains r.msg then { r with sent := s.now } else r) } }

/-- Gives a message to a port. -/
def State.toPort (s : State) (p : Nat) (m : Msg) : State :=
  let x := s.port p
  s.sendOn p { x with out := x.out ++ [m] }

/-- The port of a mask that R416 chooses: ACTIVE, the most free credits on the VC, the lowest number on a tie. -/
def State.choosePort (s : State) (mask vc : Nat) : Option Nat :=
  ((List.range 27).filter (fun p => bit mask p && s.part.hasPort p && (s.port p).mode = .active)).foldl
    (fun best p =>
      match best with
      | none => some p
      | some q => if (s.port q).credits.getD vc 0 < (s.port p).credits.getD vc 0 then some p else some q) none

/-- Sends a message through a port mask, or lets it wait for an ACTIVE port (R416). -/
def State.sendMask (s : State) (mask : Nat) (m : Msg) : State :=
  match s.choosePort mask m.common.vc with
  | some p => s.toPort p m
  | none => { s with links := { s.links with parked := s.links.parked ++ [(mask, m)] } }

/-- Messages that wait for an ACTIVE port of their mask leave by one that has become ACTIVE (R416). -/
def State.unpark (s : State) : State :=
  s.links.parked.foldl (fun s p => s.sendMask p.1 p.2) { s with links := { s.links with parked := [] } }

/-- The route entry of an address: its port mask, when it is VALID (R415). -/
def State.route (s : State) (daddr : Nat) : Option Nat :=
  let e := Tbl.get s.links.routes 0 (bits daddr 23 12)
  if bit e 31 then some (bits e 26 0) else none

/-- The fabric address of an I/O die (R414). -/
def State.ioAddr (s : State) (n : Nat) : Nat := s.par K.FABRIC_ADDRESS + n

/-- The 16-byte slots of a byte string (R528). -/
def slotsOf (bs : List Nat) : List (BitVec 128) := (runs 16 bs).map (fun r => BitVec.ofNat 128 (ofBytes r))

/-- A management message (R528, R530). -/
def mgmtMsg (daddr tag hdr : Nat) (data : List Nat) : Msg :=
  Msg.make ⟨1, 0, 0, 0, daddr, 0, 0, 0, 0, 0, tag⟩ (BitVec.ofNat 128 hdr :: slotsOf data)

/-! ### Reports -/

/-- Sends a report record as a notification (R491, R552). -/
def State.sendReport (s : State) (rcd : BitVec 256) : State :=
  let addr := bits (s.par K.REPORT_ADDRESS) 23 0
  if addr = 0 then s
  else
    let hdr := 0x40 <<< 120 + 0x7440 <<< 96 + 0x02 <<< 88 + (s.ioAddr 0) <<< 64 + bits rcd.toNat 191 160 <<< 32 + 32 <<< 20
    match (s.route addr).bind (fun mask => s.choosePort mask 0) with
    | none => s.bump K.MGMT_SEND_DROPS 1
    | some p => (s.toPort p (mgmtMsg addr 0 hdr (toBytes 32 rcd.toNat))).bump K.REPORTS_SENT 1

/-- The step that a report of a context names: its newest step (R493). -/
def Ctx.newest (c : Ctx) : Nat := match c.steps.getLast? with | some t => t.num | none => c.lastCommitted

/-- Records an event in the report ring and sends it (R491 to R493). `ctx` is the context, when the event has one, and
the step that the record names. -/
def State.report (s : State) (kind : Nat) (ctx : Option (Nat × Nat)) (detail : Nat) : State :=
  let seq := s.reports.next
  let tail := match ctx with
    | none => 0
    | some (x, st) => x <<< 148 + (s.cx x).gen <<< 136 + (st % 2 ^ 32) <<< 104
        + bits (s.par (K.JOB_POSITION + x)) 19 0 <<< 84 + 1 <<< 67
  let rec' := BitVec.ofNat 256 ((s.now % 2 ^ 64) <<< 192 + (seq % 2 ^ 32) <<< 160 + kind <<< 152 + tail
    + (s.par K.JOB_MEMBERSHIP % 2 ^ 16) <<< 68 + detail % 2 ^ 64)
  let full := 64 ≤ s.reports.unacked.length
  let s := if full then s.bump K.REPORTS_OVERWRITTEN 1 else s
  let un := if full then s.reports.unacked.drop 1 else s.reports.unacked
  let s := { s with reports := ⟨(seq + 1) % 2 ^ 32, Tbl.put s.reports.ring 0 (seq % 64) rec', un ++ [(seq, s.now + s.parMs K.REPORT_RESEND)]⟩ }
  s.sendReport rec'

/-- A report about a context at its newest step. -/
def State.reportCtx (s : State) (kind x detail : Nat) : State := s.report kind (some (x, (s.cx x).newest)) detail

/-! ### Semaphores -/

/-- The value of a semaphore (R196). -/
def State.sem (s : State) : SemRef → BitVec 24
  | .side c i => Tbl.get s.side 0 (c * 4096 + i)
  | .pkg n i => Tbl.get s.pkg 0 (n * 16384 + i)

/-- WAIT_GE (R198): `(s − t) mod 2^24` is below 2^23. -/
def waitGe (v : BitVec 24) (t : Nat) : Bool := decide ((v - BitVec.ofNat 24 t).toNat < 2 ^ 23)

/-- Sets a semaphore's value. -/
def State.putSem (s : State) (r : SemRef) (v : BitVec 24) : State :=
  match r with
  | .side c i => { s with side := Tbl.put s.side 0 (c * 4096 + i) v }
  | .pkg n i => { s with pkg := Tbl.put s.pkg 0 (n * 16384 + i) v }

/-- A waiter on the semaphore whose target its new value satisfies is granted (R200). -/
def WaitSt.test (w : WaitSt) (r : SemRef) (v : BitVec 24) : WaitSt :=
  if w.sem = r && waitGe v w.target then { w with granted := true } else w

/-- Tests every waiter on a semaphore against its value (R200). -/
def State.grant (s : State) (r : SemRef) : State :=
  let v := s.sem r
  let cls := (List.range 32).foldl (fun t c =>
    let l := Tbl.get t {} c
    match l.wait with
    | none => t
    | some w => Tbl.put t {} c { l with wait := some (w.test r v) }) s.clusters
  let cxs := (List.range 16).foldl (fun t x =>
    let l := Tbl.get t {} x
    match l.wait with
    | none => t
    | some w => Tbl.put t {} x { l with wait := some (w.test r v) }) s.ctxs
  { s with clusters := cls, ctxs := cxs }

/-- Tests every waiter against the value of its own semaphore, when many values have changed at once (R200). -/
def State.grantAll (s : State) : State :=
  let test (w : WaitSt) : WaitSt := w.test w.sem (s.sem w.sem)
  { s with
    clusters := (List.range 32).foldl (fun t c =>
      let l := Tbl.get t {} c
      if l.wait.isNone then t else Tbl.put t {} c { l with wait := l.wait.map test }) s.clusters
    ctxs := (List.range 16).foldl (fun t x =>
      let l := Tbl.get t {} x
      if l.wait.isNone then t else Tbl.put t {} x { l with wait := l.wait.map test }) s.ctxs }

/-- One operation on a semaphore (R196, R199, R200): ADD or SUB modulo 2^24, then its waiters are tested. -/
def State.applySem (s : State) (r : SemRef) (sub : Bool) (v : Nat) : State :=
  let old := s.sem r
  let new := if sub then old - BitVec.ofNat 24 v else old + BitVec.ofNat 24 v
  (s.putSem r new).grant r

/-- The semaphore of a completion ADD's C fields: none for scope 0 (R179, R235). -/
def semOfC (scope die cluster index : Nat) : Option SemRef :=
  match scope with
  | 1 => some (.side (8 * die + cluster) (index % 4096))
  | 2 => some (.pkg die index)
  | _ => none

/-- Puts a post on its way (R206). -/
def State.post (s : State) (p : Post) : State := { s with posts := s.posts ++ [p] }

/-- Is a package semaphore index inside the context's range (R173)? -/
def State.inPkgRange (s : State) (x i : Nat) : Bool :=
  let w := s.par (K.CONTEXT_SEMS + x)
  decide (bits w 28 15 ≤ i) && decide (i < bits w 28 15 + bits w 14 0)

/-- Is a sideboard semaphore index inside the context's range (R173)? -/
def State.inSideRange (s : State) (x i : Nat) : Bool :=
  let w := s.par (K.CONTEXT_SEMS + x)
  decide (bits w 53 42 ≤ i) && decide (i < bits w 53 42 + bits w 41 29)

/-! ### Keys -/

/-- The fields of a key entry (R225). -/
structure KeyF where
  base : Nat
  side : Nat
  length : Nat
  space : Nat
  read : Bool
  write : Bool
  check : Bool
  ctx : Nat
  valid : Bool
deriving DecidableEq, Repr

/-- Reads a key entry's fields. -/
def keyF (w : Nat) : KeyF :=
  ⟨bits w 255 192, bits w 191 128, bits w 127 88, bits w 87 84, bit w 83, bit w 82, bit w 81, bits w 79 76, bit w 0⟩

/-- A key. -/
def State.key (s : State) (k : Nat) : KeyF := keyF (Tbl.get s.keys 0 k).toNat

/-- R227 for a transfer of context `x`. -/
def State.keyOk (s : State) (x k : Nat) (needRead needWrite : Bool) : Bool :=
  let e := s.key k
  let w := s.par (K.CONTEXT_KEYS + x)
  e.valid && e.ctx = x && decide (bits w 31 16 ≤ k) && decide (k < bits w 31 16 + bits w 15 0)
    && (!needRead || e.read) && (!needWrite || e.write) && decide (e.space ≤ 1)

/-- Bytes of a key's region. -/
def State.readKey (s : State) (k off n : Nat) : List Nat := s.readSpace (s.key k).space ((s.key k).base + off) n

/-- The header of block `b` of a key's region. -/
def State.readHdr (s : State) (k b : Nat) : BitVec 128 :=
  BitVec.ofNat 128 (ofBytes (s.readSpace (s.key k).space ((s.key k).side + 16 * b) 16))

/-- Block `b` of a key's region with its header. -/
def State.readBlock (s : State) (k b : Nat) : Block :=
  ⟨s.readHdr k b, BitVec.ofNat 16384 (ofBytes (s.readKey k (2048 * b) 2048))⟩

/-- Writes bytes of a key's region. -/
def State.writeKey (s : State) (k off : Nat) (bs : List Nat) : State :=
  s.writeSpace (s.key k).space ((s.key k).base + off) bs

/-- Writes the header of block `b` of a key's region. -/
def State.writeHdr (s : State) (k b : Nat) (h : BitVec 128) : State :=
  s.writeSpace (s.key k).space ((s.key k).side + 16 * b) (toBytes 16 h.toNat)

/-- Writes a block and, when the key's CHECK is 1, its header (R605). -/
def State.writeBlock (s : State) (k b : Nat) (x : Block) : State :=
  let s := s.writeKey k (2048 * b) (toBytes 2048 x.data.toNat)
  if (s.key k).check then s.writeHdr k b x.hdr else s

end Sys2Proof.Machine
end

