-- ==== Sys2Proof/Machine/Guard.lean ====
section
/-!
DEFINITION. How a command ends, and when it has an effect at all: the queue and the part's fixed facts are changed by no
command, and software's writes and the links act only while the part runs (R551, R555, R583).
-/

namespace Sys2Proof.Machine

/-- What a command answers. -/
abbrev Outcome := Host.Outcome State Fault Refusal

/-- The outcome of a command in state `s` that leaves the part as `t`: waiting commands, grade and fused map stay. -/
def State.ends (s t : State) : Outcome :=
  .next { t with pending := s.pending, part := s.part }

/-- The part runs its firmware's steps: it is past a boot and its main rails stand (R578, R583). -/
def State.live (s : State) : Bool := s.boot.mode = .running

/-- The management channel answers: the part runs, in ROM recovery or in the test hold (R551, R583). -/
def State.answering (s : State) : Bool := s.boot.mode = .running || s.boot.mode = .rom || s.boot.mode = .hold

/-- One tick of an idle queue: the time base counts one unit, and while it slews one more or one less in every 1,024
units of the count; without the 3.3 V input or a stable REFCLK it stands (R498, R502, R555, R562; log entry 1). -/
def State.tick (s : State) : State :=
  let t := s.service.time
  let go (n : Nat) (u : TimeSync) : State := { s with now := s.now + n, service := { s.service with time := u } }
  if !s.power.aoOn || !s.power.refclk then s
  else if t.slew = 0 || s.now % 1024 ≠ 0 || t.omitted then go 1 { t with omitted := false }
  else if 0 < t.slew then go 2 { t with slew := t.slew - 1 }
  else go 0 { t with slew := t.slew + 1, omitted := true }

end Sys2Proof.Machine
end

