-- ==== Sys2Proof/Machine/Paths.lean ====
section
/-!
DEFINITION. The fixed paths between the dies of the package (R14), and what waits on them while a compute die is reset
(R482). A die is a node: compute die `d` is node `d`, I/O die `n` is node `4 + n`.
-/

namespace Sys2Proof.Machine

/-- The two sites of an I/O die's interfaces, lower first (R11, R12). -/
def ioSites (n : Nat) : List Nat :=
  match n with | 0 => [4, 5] | 1 => [10, 11] | _ => [7, 8]

/-- The compute die whose site interface a site is. -/
def siteDie (h : Nat) : Nat := ((List.range 4).find? (fun d => (dieSites d).contains h)).getD 0

/-- The compute dies that an I/O die is attached to, that of its lower site first. -/
def ioDies (n : Nat) : List Nat := (ioSites n).map siteDie

/-- Are two compute dies neighbours on the ring? -/
def ringNeighbour (a b : Nat) : Bool := (a + 1) % 4 = b || (b + 1) % 4 = a

/-- The path between two compute dies: a diagonal one goes through the lower of the two dies between its ends. -/
def diePath (a b : Nat) : List Nat :=
  if a = b then [a]
  else if ringNeighbour a b then [a, b]
  else [a, ((List.range 4).find? (fun d => d ≠ a && d ≠ b)).getD 0, b]

/-- The path from a compute die to an I/O die: direct, or through the neighbour that the I/O die is attached to. -/
def toIoPath (d n : Nat) : List Nat :=
  if (ioDies n).contains d then [d, 4 + n]
  else [d, ((ioDies n).find? (ringNeighbour d)).getD 0, 4 + n]

/-- The path of a transfer from one die to another (R14). -/
def path (a b : Nat) : List Nat :=
  if a = b then [a]
  else if a < 4 then (if b < 4 then diePath a b else toIoPath a (b - 4))
  else if b < 4 then (toIoPath b (a - 4)).reverse
  else a :: toIoPath (((ioDies (a - 4)).head?).getD 0) (b - 4)

/-- The compute die whose ring links and site interfaces stand still, while the phases of its reset run (R482). -/
def State.stoppedDie (s : State) : Option Nat :=
  match s.service.resets.cur with
  | some r => if r.domain = .die && 1 ≤ r.phase then some (r.unit / 64) else none
  | none => none

/-- Does a transfer between two dies wait, because its path crosses a link of a die that is being reset (R14, R482)? -/
def State.pathWaits (s : State) (a b : Nat) : Bool :=
  match s.stoppedDie with
  | some d => a ≠ b && (path a b).contains d
  | none => false

/-- The die of a semaphore (R197). -/
def SemRef.node : SemRef → Nat
  | .side c _ => c / 8
  | .pkg n _ => 4 + n

/-- The dies that hold a range of a region: those of its stacks or its shelf; IO0 for service memory. -/
def State.memNodes (s : State) (space base off n : Nat) : List Nat :=
  match space with
  | 0 => ((s.sitesAt base off n).map siteDie).eraseDups
  | 1 => if n = 0 then [] else [(base + off) / 2 ^ 33 % 4]
  | _ => if n = 0 then [] else [4]

/-- Does an access from a die to a range of memory wait (R15, R482)? The stacks of the die that is being reset are out of
service instead (R373). -/
def State.memWaits (s : State) (node space base off n : Nat) : Bool :=
  (s.memNodes space base off n).any (fun d => (space ≠ 0 || s.stoppedDie ≠ some d) && s.pathWaits node d)

end Sys2Proof.Machine
end

