-- ==== Sys2Proof/Machine/Sha3.lean ====
section
/-!
DEFINITION. SHAKE256 of FIPS 202, which R336, R351 and chapter 20 use. The permutation and the padding are those of
the published standard (log entry 3). The 1,600-bit state is one number: lane x of plane y in bits 64 (x + 5y) on, so that a
block is taken in by one exclusive or and read out as its bytes.
-/

namespace Sys2Proof.Machine

/-- Lane `i` of a plane or of the state. -/
def lane64 (v i : Nat) : Nat := v >>> (64 * i) % 2 ^ 64

/-- A plane whose lane x is lane x + k, modulo 5, of `p`. -/
def turnPlane (p k : Nat) : Nat := p >>> (64 * k) + (p % 2 ^ (64 * k)) <<< (320 - 64 * k)

/-- A plane with every lane rotated left by one bit. -/
def rotPlane (p : Nat) : Nat := ((List.range 5).map (fun x => rotl64 (lane64 p x) 1 <<< (64 * x))).sum

/-- The five planes of the state. -/
def planes (a : Nat) : List Nat := (List.range 5).map (fun y => a >>> (320 * y) % 2 ^ 320)

/-- A state from five planes. -/
def ofPlanes (l : List Nat) : Nat := l.foldr (fun p acc => p + acc <<< 320) 0

/-- Step θ: every plane takes in the parities of the columns on either side. -/
def stepTheta (a : Nat) : Nat :=
  let l := planes a
  let c := l.foldl Nat.xor 0
  let d := Nat.xor (turnPlane c 4) (rotPlane (turnPlane c 1))
  ofPlanes (l.map (Nat.xor d))

/-- Steps ρ and π along the walk of the standard from lane (1, 0): the lane met after `t` turns is rotated by
(t + 1)(t + 2) / 2 and put where the walk goes next. -/
def walkLanes (a : Nat) : Nat → Nat → Nat → Nat → Nat
  | 0, _, _, _ => lane64 a 0
  | n + 1, t, x, y =>
    let z := (2 * x + 3 * y) % 5
    rotl64 (lane64 a (x + 5 * y)) ((t + 1) * (t + 2) / 2 % 64) <<< (64 * (y + 5 * z)) + walkLanes a n (t + 1) y z

/-- Step χ of one plane. -/
def stepChi (p : Nat) : Nat := Nat.xor p (Nat.land (2 ^ 320 - 1 - turnPlane p 1) (turnPlane p 2))

/-- The bits that step ι of one round sets, from the shift register of the standard, and the register after it. -/
def iotaBits : Nat → Nat → Nat → Nat × Nat
  | 0, _, r => (0, r)
  | n + 1, j, r =>
    let r := Nat.xor (2 * r) (r / 128 * 0x71) % 256
    let q := iotaBits n (j + 1) r
    ((if r / 2 % 2 = 1 then 2 ^ (2 ^ j - 1) else 0) + q.1, q.2)

/-- Rounds of the permutation, with the register of step ι. -/
def keccakRounds : Nat → Nat → Nat → Nat
  | 0, _, a => a
  | n + 1, r, a =>
    let q := iotaBits 7 0 r
    keccakRounds n q.2 (Nat.xor (ofPlanes ((planes (walkLanes (stepTheta a) 24 0 1 0)).map stepChi)) q.1)

/-- Takes padded blocks of 136 bytes into the state, one after another. -/
def sponge : Nat → List Nat → Nat → Nat
  | 0, _, a => a
  | n + 1, m, a => sponge n (m.drop 136) (keccakRounds 24 1 (Nat.xor a (ofBytes (m.take 136))))

/-- The first `n` bytes, at most 136, of SHAKE256 of a byte string. -/
def shake256 (msg : List Nat) (n : Nat) : List Nat :=
  let free := 136 - msg.length % 136
  let pad := if free = 1 then [0x1F + 0x80] else [0x1F] ++ List.replicate (free - 2) 0 ++ [0x80]
  toBytes n (sponge (msg.length / 136 + 1) (msg ++ pad) 0)

end Sys2Proof.Machine
end

