-- ==== Sys2Proof/Machine/Steps.lean ====
section
/-!
DEFINITION. What becomes of a step before its verdict: charges, the health word and its digest, the log, the seal and
the verdict messages (R328, R332 to R341, R351, R352); the health score (R445, R449).
-/

namespace Sys2Proof.Machine

/-! ### The health score -/

/-- The weight entry and the place of the count in R451's record. -/
def Charge.entry : Charge → Nat × Nat
  | .checkStep => (K.W_CHECK_STEP, 1)
  | .blockStep => (K.W_BLOCK_STEP, 2)
  | .replayFailed => (K.W_REPLAY_FAILED, 3)
  | .replayMatched => (K.W_REPLAY_MATCHED, 4)
  | .selftest => (K.W_SELFTEST, 0)
  | .uncorrected => (K.W_UNCORRECTED, 5)
  | .vote => (K.W_VOTE, 6)
  | .nonfiniteOrigin => (K.W_NONFINITE_ORIGIN, 7)

/-- Score, observation and hold-off as they were before this time base: what changes at one time applies together
(R447). -/
def State.cycleStart (s : State) : Nat × Bool × Option Nat :=
  let d := s.defence
  if d.cycle.1 = s.now then d.cycle.2 else (d.score, d.observing, d.holdoff)

/-- Compares a changed score with EXPEL_THRESHOLD: a rise to it starts observation and a hold-off, a fall below it
cancels the hold-off (R449, R454). All changes of one time are compared as one (R447). -/
def State.scored (s : State) (new : Nat) : State :=
  let d := s.defence
  let was := s.cycleStart
  let thr := s.par K.EXPEL_THRESHOLD
  let rise := decide (was.1 < thr) && decide (thr ≤ new)
  let pendingReq := bits d.request.toNat 1 0 = 1
  let obs := if rise then true
    else if was.2.1 && decide (new < s.par K.OBSERVE_EXIT) && !pendingReq then false else was.2.1
  let hold := if rise then some (s.now + s.parMs K.EXPEL_HOLDOFF) else if new < thr then none else was.2.2
  { s with defence := { d with score := new, observing := obs, holdoff := hold, cycle := (s.now, was) } }

/-- A weighted event, `n` times (R445). -/
def State.health (s : State) (c : Charge) (n : Nat) : State :=
  let (k, i) := c.entry
  let cs := s.defence.counts.set i (sat16 (s.defence.counts.getD i 0 + n))
  let s := { s with defence := { s.defence with counts := cs } }
  s.scored (min 0xFFFF (s.defence.score + n * s.par k))

/-! ### Verdict messages -/

/-- The 64 bytes of a verdict message (R338). -/
def VMsg.bytes (m : VMsg) : Nat :=
  let head := m.typ <<< 504 + (m.membership % 2 ^ 16) <<< 488 + (m.step % 2 ^ 32) <<< 456 + (m.attempt % 16) <<< 452
    + (m.code % 16) <<< 448 + (m.sender % 2 ^ 20) <<< 428 + (m.parts % 2 ^ 20) <<< 408
  if m.typ = 4 then head + m.word % 2 ^ 256
  else
    head + (m.flags % 256) <<< 400 + min m.suspects 255 <<< 392
      + ((List.range 8).map (fun i => (m.ranks.getD i 0xFFFFF) <<< (20 * i + 232))).sum
      + (m.origin % 2 ^ 20) <<< 212 + (m.matched % 2 ^ 20) <<< 192 + (m.missed % 2 ^ 20) <<< 172
      + (m.reason % 16) <<< 168 + (m.failedRank % 2 ^ 20) <<< 148

/-- Reads a verdict message. -/
def VMsg.ofWord (w : Nat) : VMsg :=
  { typ := bits w 511 504
    membership := bits w 503 488
    step := bits w 487 456
    attempt := bits w 455 452
    code := bits w 451 448
    sender := bits w 447 428
    parts := bits w 427 408
    flags := bits w 407 400
    suspects := bits w 399 392
    ranks := ((List.range 8).map (fun i => bits w (20 * i + 251) (20 * i + 232))).filter (fun r => r ≠ 0xFFFFF)
    origin := bits w 231 212
    matched := bits w 211 192
    missed := bits w 191 172
    reason := bits w 171 168
    failedRank := bits w 167 148
    word := bits w 255 0 }

/-- The body of a VERDICT-type message: 64 bytes in four slots. -/
def Msg.verdict (m : Msg) : VMsg := VMsg.ofWord (ofSlots (List.drop 1 m))
where
  /-- slots as one number, the first least significant -/
  ofSlots (l : List (BitVec 128)) : Nat := l.foldr (fun s acc => s.toNat + acc <<< 128) 0

/-- An endpoint entry (R418). -/
def State.ep (s : State) (io e : Nat) : Nat := (Tbl.get s.links.eps 0 (io * 2 ^ 18 + e)).toNat

/-- The common slot that R422 stamps through an entry. -/
def State.stamp (s : State) (e x gen mtype vc tag : Nat) : Common :=
  ⟨mtype, vc, 0, 0, bits e 127 104, bits e 103 86, bits e 85 70, if bit e 40 then 0 else s.par K.JOB_MEMBERSHIP,
   x, gen, tag⟩

/-- The ports of an entry of an I/O die (R418). -/
def epPorts (io e : Nat) : Nat := bits e 69 61 <<< (9 * io)

/-- Sends a message without a tag through an entry of an I/O die, when it is VALID and serves the context. -/
def State.sendEp (s : State) (io e x mtype vc : Nat) (body : List (BitVec 128)) : State :=
  let w := s.ep io e
  if bit w 0 && bits w 60 57 = x then
    s.sendMask (epPorts io w) (Msg.make (s.stamp w x (s.cx x).gen mtype vc 0) body)
  else s

/-- Sends a verdict message to an endpoint of IO0 (R338). -/
def State.sendVerdict (s : State) (x e : Nat) (m : VMsg) : State :=
  s.sendEp 0 e x 2 1 ((List.range 4).map (fun i => BitVec.ofNat 128 (m.bytes >>> (128 * i))))

/-- The children of a context in the verdict tree (0x5831). -/
def State.children (s : State) (x : Nat) : List Nat :=
  let w := s.par (K.VERDICT_CHILDREN + x)
  (List.range (min 8 (bits w 7 0))).map (fun i => bits w (32 * i + 32 + 17) (32 * i + 32))

/-- JOB_SIZE and JOB_RANK (0x5832). -/
def State.jobSize (s : State) (x : Nat) : Nat := bits (s.par (K.JOB_POSITION + x)) 39 20
/-- JOB_RANK. -/
def State.jobRank (s : State) (x : Nat) : Nat := bits (s.par (K.JOB_POSITION + x)) 19 0

/-! ### The log -/

/-- Is slot `j` of the log ring of `slots` slots taken by a step other than `n` (R328)? -/
def Ctx.logTaken (c : Ctx) (slots n j : Nat) : Bool :=
  c.steps.any (fun u => u.num ≠ n && decide ((j + slots - u.logFirst) % slots < u.logUsed))

/-- Slots of the group that begins at a slot of a ring: 128, or what is left at the ring's end (R328). -/
def logGroupSize (slots group : Nat) : Nat := min 128 (slots - group)

/-- The slot of the group behind a group of a ring: the next multiple of 128, while a data slot follows it. -/
def logNextGroup (slots group : Nat) : Nat := if group + 129 < slots then group + 128 else 0

/-- Where the next entry of a step's log goes: the slot of its group and its number there, whether it begins the group, and
whether the step has room for it (R328). A step's log begins where the last log ends. -/
def Ctx.logPlace (c : Ctx) (t : Step) (slots : Nat) : Nat × Nat × Bool × Bool :=
  let room (group : Nat) : Bool := decide (t.logUsed + logGroupSize slots group ≤ slots) && !c.logTaken slots t.num group
    && decide (2 ≤ logGroupSize slots group)
  if t.logUsed = 0 then (c.logNext, 0, true, room c.logNext)
  else if t.logCount + 1 < logGroupSize slots t.logGroup then (t.logGroup, t.logCount, false, true)
  else
    let g := logNextGroup slots t.logGroup
    (g, 0, true, room g)

/-- Adds an entry to the log of step `stepNo` (R328): its record, and the block when it has one. It answers false when no
log slot is free (R329). -/
def State.logEntry (s : State) (x : Nat) (stepNo : Nat) (rcd : Nat) (blk : Option Block) : Bool × State :=
  let c := s.cx x
  let k := s.par (K.CHEST_LOG_KEY + x)
  let slots := (s.key k).length / 2048
  match c.steps.find? (fun t => t.num = stepNo) with
  | none => (true, s)
  | some t =>
    let (group, i, begins, room) := c.logPlace t slots
    if !room then (false, s)
    else
      let s := match blk with
        | some b => s.writeBlock k (group + 1 + i) b
        | none => s
      let s := s.writeKey k (2048 * group + 16 * i) (toBytes 16 (rcd + b2n blk.isSome <<< 1 + 1))
      (true, s.modCx x (fun c => { c with
        steps := c.steps.map (fun u =>
          if u.num = stepNo then { u with
            logFirst := if t.logUsed = 0 then group else t.logFirst
            logUsed := if begins then t.logUsed + logGroupSize slots group else t.logUsed
            logGroup := group
            logCount := i + 1 }
          else u)
        logNext := if begins then logNextGroup slots group else c.logNext }))

/-- Logs something under a step; where no slot is free, the step is UNLOGGED, and a block is counted (R329). -/
def State.log (s : State) (x stepNo rcd : Nat) (blk : Option Block) : State :=
  let r := s.logEntry x stepNo rcd blk
  if r.1 then r.2
  else
    let s := r.2.modCx x (fun c => { c with
      steps := c.steps.map (fun t => if t.num = stepNo && t.st = .opened then { t with unlogged := true } else t) })
    if blk.isSome then s.bump K.CHEST_OVERFLOW_BLOCKS 1 else s

/-- The record of a landed block or of a semaphore operation (R328): kind, key or index, offset, queue, place. -/
def logRecord (e kind key off q cluster die core attempt : Nat) : Nat :=
  e <<< 110 + kind <<< 108 + (key % 2 ^ 16) <<< 92 + (off % 2 ^ 40) <<< 52 + q <<< 46 + cluster <<< 43 + die <<< 41
    + core <<< 38 + attempt <<< 34

/-- Logs under the step that a message lands in, when it does; `rcd` takes the step's attempt. -/
def State.logUnder (s : State) (x : Nat) (step : Option Nat) (rcd : Nat → Nat) (blk : Option Block) : State :=
  match step.bind (fun n => (s.cx x).steps.find? (fun t => t.num = n)) with
  | none => s
  | some t => s.log x t.num (rcd t.attempt) blk

/-! ### The seal -/

/-- A block that a context sends is added to the digest sum of its open step (R336). -/
def Step.digest (t : Step) (b : Block) : Step :=
  let h := ofBytes (shake256 (toBytes 16 b.hdr.toNat ++ toBytes 2048 b.data.toNat) 32)
  { t with dsum := t.dsum + BitVec.ofNat 256 h, dcount := t.dcount + 1 }

/-- DIGEST of R336. -/
def Step.digestWord (t : Step) : Nat :=
  ofBytes (shake256 (toBytes 32 t.dsum.toNat ++ toBytes 8 t.dcount ++ toBytes 4 t.num ++ toBytes 1 t.attempt) 24)

/-- Would the step's part be a suspect (R335)? -/
def Step.suspect (t : Step) : Bool := t.checks ≠ 0 || t.blocks ≠ 0 || t.verify

/-- The health word of R335. ORIGIN comes from the context's trap record. -/
def Step.healthWord (t : Step) (trap : Nat) : BitVec 256 :=
  let origin := bit trap 0 && bits trap 55 52 ≠ 4 && t.replay.isNone
  BitVec.ofNat 256 (b2n t.nonfinite <<< 255 + b2n origin <<< 254 + b2n t.failed <<< 253 + b2n t.unlogged <<< 252
    + b2n t.verify <<< 251 + sat16 t.checks <<< 232 + sat16 t.blocks <<< 216
    + (if t.failed then t.cause else 0) <<< 212 + t.digestWord)

/-- A step's own word as a HEALTH message (R339). -/
def healthOf (w : BitVec 256) (rank : Nat) : VMsg :=
  let v := w.toNat
  let sus := bits v 247 232 ≠ 0 || bits v 231 216 ≠ 0 || bit v 251
  { typ := 1
    sender := rank
    parts := 1
    flags := bits v 255 248
    suspects := b2n sus
    ranks := if sus then [rank] else []
    origin := if bit v 254 then rank else 0xFFFFF
    failedRank := if bit v 253 then rank else 0xFFFFF }

/-- R339: combines two HEALTH messages. -/
def VMsg.combine (a b : VMsg) : VMsg :=
  { a with
    parts := a.parts + b.parts
    flags := Nat.lor a.flags b.flags
    suspects := min 255 (a.suspects + b.suspects)
    ranks := (b.ranks.foldl (fun l r => insertNat r l) a.ranks).take 8
    origin := min a.origin b.origin
    failedRank := min a.failedRank b.failedRank }

/-- The root's decision (R340): CODE and REASON. -/
def decideVerdict (jobSize limit : Nat) (h : VMsg) : Nat × Nat :=
  if h.parts ≠ jobSize then (3, 5)
  else if bit h.flags 7 then (3, 1)
  else if bit h.flags 5 then (3, 2)
  else if h.suspects = 0 then (1, 0)
  else if h.suspects ≤ limit then (2, 0)
  else (3, 3)

/-- Changes the step of a context that carries a number and an attempt. -/
def Ctx.modStep (c : Ctx) (num attempt : Nat) (f : Step → Step) : Ctx :=
  { c with steps := c.steps.map (fun t => if t.num = num && t.attempt = attempt then f t else t) }

/-- The root issues a VERDICT: it forwards it to its children and holds it for itself (R340, R341). -/
def State.issueVerdict (s : State) (x : Nat) (v : VMsg) : State :=
  let s := (s.children x).foldl (fun s e => s.sendVerdict x e v) s
  s.modCx x (fun c => c.modStep v.step v.attempt (fun t => { t with verdict := some v }))

/-- Have the final verdicts of every earlier step of the context been issued (R341)? -/
def Ctx.earlierDone (c : Ctx) (t : Step) : Bool := match c.steps.head? with | some u => u.num = t.num | none => true

/-- Sends HEALTH once the step is sealed and every child has reported; at the root, decides (R339, R340). -/
def State.tryHealth (s : State) (x num attempt : Nat) : State :=
  let c := s.cx x
  match c.steps.find? (fun t => t.num = num && t.attempt = attempt) with
  | none => s
  | some t =>
    let ch := s.children x
    let got := (List.range ch.length).filterMap (fun i => Tbl.get t.childHealth none i)
    if t.st ≠ .sealed || t.healthSent || got.length ≠ ch.length then s
    else
      let own := { healthOf t.word (s.jobRank x) with
        membership := s.par K.JOB_MEMBERSHIP
        step := num
        attempt := attempt }
      let all := got.foldl VMsg.combine own
      let parent := s.par (K.VERDICT_PARENT + x)
      let mark (f : Step → Step) (s : State) : State := s.modCx x (fun c => c.modStep num attempt f)
      if parent ≠ 0x3FFFF then mark (fun t => { t with healthSent := true }) (s.sendVerdict x parent all)
      else if !c.earlierDone t then mark (fun t => { t with combined := some all }) s
      else
        let d := decideVerdict (s.jobSize x) (min 8 (bits (s.par (K.STEP_CFG + x)) 3 0)) all
        let s := mark (fun t => { t with healthSent := true, combined := some all }) s
        s.issueVerdict x { all with typ := 3, code := d.1, reason := d.2 }

/-- Sends REPLAY_RESULT once every replay that the part owes is recorded and every child has reported; at the root,
decides (R352). -/
def State.tryReplay (s : State) (x num attempt : Nat) : State :=
  let c := s.cx x
  match c.steps.find? (fun t => t.num = num && t.attempt = attempt) with
  | none => s
  | some t =>
    let ch := s.children x
    let got := (List.range ch.length).filterMap (fun i => Tbl.get t.childReplay none i)
    if t.st ≠ .replaying || t.replaySent || t.matched + t.missed < t.owed || got.length ≠ ch.length then s
    else
      let m := t.matched + (got.map (·.matched)).sum
      let n := t.missed + (got.map (·.missed)).sum
      let parent := s.par (K.VERDICT_PARENT + x)
      let base : VMsg := { typ := 2 }
      let msg := { base with
        membership := s.par K.JOB_MEMBERSHIP
        step := num
        attempt := attempt
        sender := s.jobRank x
        matched := m
        missed := n }
      let s := s.modCx x (fun c => c.modStep num attempt (fun t => { t with replaySent := true }))
      if parent ≠ 0x3FFFF then s.sendVerdict x parent msg
      else
        let all := (t.combined.getD msg)
        let ok := m = all.suspects && n = 0
        s.issueVerdict x { all with
          typ := 3
          code := if ok then 1 else 3
          reason := if ok then 0 else 4
          matched := m
          missed := n }

/-- Does the part owe a replay of a step whose result it has not recorded (R349, R351)? -/
def Step.owes (t : Step) : Bool := t.st = .replaying && !t.replaySent && decide (t.matched + t.missed < t.owed)

/-- Counts a replay that the part owes as a miss without running it (R349, R468). -/
def State.recordMiss (s : State) (x num : Nat) : State :=
  let s := s.bump K.REPLAY_MISSES 1
  match (s.cx x).steps.find? (fun t => t.num = num && t.st = .replaying) with
  | none => s
  | some t =>
    (s.modCx x (fun c => c.modStep num t.attempt (fun t => { t with missed := t.missed + 1 }))).tryReplay x num t.attempt

/-- Records a replay that the part owes for step `num` of context `x` (R351, R352). -/
def State.recordReplay (s : State) (x num : Nat) (isMatch : Bool) : State :=
  let s := s.bump K.STEPS_REPLAYED 1
  let s := if isMatch then s else s.bump K.REPLAY_MISSES 1
  match (s.cx x).steps.find? (fun t => t.num = num && t.st = .replaying) with
  | none => s
  | some t =>
    let s := s.modCx x (fun c => c.modStep num t.attempt (fun t =>
      { t with matched := t.matched + b2n isMatch, missed := t.missed + b2n (!isMatch) }))
    s.tryReplay x num t.attempt

/-- Empties and unconfigures the queues of the clusters of a context (R135, R351). -/
def State.emptyQueues (s : State) (c : Nat) : State :=
  (s.coresOf c).foldl (fun s k => s.modCo k (fun co => { co with queues := [], half := [] })) s

/-- Sets the semaphores of a context's ranges to their shadows (R326): at a rollback all but the stream semaphore (R344), at
the seal of a replay step all of them (R351). -/
def State.restoreSems (s : State) (x : Nat) (t : Step) : State :=
  let inSide (k : Nat) : Bool := s.holds x (k / 4096) && s.inSideRange x (k % 4096)
  let stream := bits (s.par (K.CONTEXT_STREAM_CFG + x)) 45 32
  let inPkg (k : Nat) : Bool := s.inPkgRange x (k % 16384) && (t.replay.isSome || k ≠ stream)
  let merge (cur shadow : Tbl (BitVec 24)) (inR : Nat → Bool) : Tbl (BitVec 24) :=
    (shadow.filter (fun p => inR p.1)).foldl (fun m p => Tbl.put m 0 p.1 p.2) (cur.filter (fun p => !inR p.1))
  ({ s with side := merge s.side t.shadowSide inSide, pkg := merge s.pkg t.shadowPkg inPkg } : State).grantAll

/-- The seal of a replay step (R351): semaphores and queues are restored and the result is recorded. -/
def State.sealReplay (s : State) (x : Nat) (t : Step) : State :=
  let w := t.healthWord 0
  let v := w.toNat
  let clear := !bit v 255 && !bit v 253 && !bit v 252 && bits v 247 232 = 0 && bits v 231 216 = 0
  let (suspect, job) := t.replay.getD (0, 0)
  let theirs := ((s.cx job).steps.find? (fun u => u.num = t.num && u.suspectRank = suspect)).bind (·.partner)
  let same := match theirs with | some p => bits p.toNat 191 0 = bits v 191 0 | none => false
  let s := s.restoreSems x t
  let s := (s.clustersOf x).foldl (fun s c => s.emptyQueues c) s
  let s := s.modCx x (fun c => { c with replay := none })
  s.recordReplay job t.num (clear && same)

/-- The seal of a step (R333, R337, R339): the health word is formed and sent. -/
def State.sealStep (s : State) (x : Nat) (t : Step) : State :=
  let s := t.gathers.foldl (fun s p =>
    if p.2.2 = 0 then s
    else s.log x t.num (p.1 <<< 110 + 3 <<< 108 + (p.2.1 % 2 ^ 40) <<< 52 + t.attempt <<< 34 + p.2.2 <<< 2) none) s
  let unl := (((s.cx x).steps.find? (fun u => u.num = t.num)).map (·.unlogged)).getD false
  let t : Step := { t with unlogged := t.unlogged || unl }
  let t : Step := if t.suspect && t.unlogged && !t.failed then { t with failed := true, cause := 7 } else t
  let w := t.healthWord (s.cx x).trap.toNat
  let s := if t.checks ≠ 0 then s.health .checkStep 1 else s
  let s := if t.crcBlocks ≠ 0 then s.health .blockStep 1 else s
  let s := s.modCx x (fun c => { c.modStep t.num t.attempt (fun u => { u with
        st := .sealed
        failed := t.failed
        cause := t.cause
        unlogged := t.unlogged
        word := w
        sealedAt := s.now
        limit := s.parMs K.VERDICT_TIMEOUT }) with
    sealedWord := w
    partnerWord := t.partner.getD 0 })
  let base : VMsg := { typ := 4 }
  let s := s.sendVerdict x (s.par (K.PARTNER_ENDPOINT + x)) { base with
    membership := s.par K.JOB_MEMBERSHIP
    step := t.num
    attempt := t.attempt
    sender := s.jobRank x
    word := w.toNat }
  s.tryHealth x t.num t.attempt

/-- Marks the OPEN step, or the open replay step, failed with a first cause and seals it at once (R332, R333, R351). -/
def State.failStep (s : State) (x cause : Nat) : State :=
  match (s.cx x).openStep with
  | some t => s.sealStep x (if t.failed then t else { t with failed := true, cause := cause })
  | none =>
    match (s.cx x).replay with
    | some t => if t.st = .opened then s.sealReplay x { t with failed := true, cause := cause } else s
    | none => s

/-- The context enters STOPPED under R66 or R93: its sequencers broadcast nothing further, and its open step fails
(R332, R604). -/
def State.stopCtx (s : State) (x : Nat) : State :=
  if (s.cx x).st = .opened then
    (s.modCx x (fun c => { c with st := .stopped })).failStep x 6
  else s

end Sys2Proof.Machine
end

