-- ==== Sys2Proof/Machine/LinkOps.lean ====
section
/-!
DEFINITION. Requests over the links: tags, the window of 64 and retransmission state (R422, R427, R428), and the WRITE,
SEM_OP and RESP messages (R407 to R412).
-/

namespace Sys2Proof.Machine

/-- The I/O die whose table serves a context on a compute die (R420). -/
def State.epDie (s : State) (x die : Nat) : Nat := bits (s.par (0x542001 + x)) (2 * die + 1) (2 * die)

/-- R420: the entry is VALID and serves the context. -/
def State.epOk (s : State) (io e x : Nat) : Bool :=
  let w := s.ep io e
  bit w 0 && bits w 60 57 = x && e ≠ 0x3FFFF

/-- The step identity of a context's messages (R324). -/
def State.identity (s : State) (x : Nat) : StepId :=
  match (s.cx x).curStep with
  | some t => ⟨t.num % 2 ^ 16, t.attempt, false⟩
  | none => ⟨0, 0, true⟩

/-- The tags of an endpoint entry. -/
def State.tags (s : State) (io e : Nat) : EpTags := Tbl.get s.links.tags {} (io * 2 ^ 18 + e)

/-- Replaces the tags of an endpoint entry. -/
def State.setTags (s : State) (io e : Nat) (t : EpTags) : State :=
  { s with links := { s.links with tags := Tbl.put s.links.tags {} (io * 2 ^ 18 + e) t } }

/-- Requests outstanding on an entry (R427). -/
def State.outstanding (s : State) (io e : Nat) : Nat :=
  (s.links.reqs.filter (fun r => r.io = io && r.entry = e)).length

/-- A message with TAG set. -/
def Msg.withTag (m : Msg) (t : Nat) : Msg :=
  match m with
  | [] => []
  | h :: r => BitVec.ofNat 128 (setBits h.toNat 15 0 t) :: r

/-- A message as the part stamps it when it leaves through an entry (R422): what the entry and JOB_MEMBERSHIP hold then. -/
def State.restamp (s : State) (io e : Nat) (m : Msg) : Msg :=
  let c := m.common
  ({ s.stamp (s.ep io e) c.ctx c.gen c.mtype c.vc c.tag with slots := c.slots } : Common).word :: m.drop 1

/-- Does a request of a cluster's engine wait for its way to the I/O die (R14, R482)? -/
def State.reqWaits (s : State) (r : Req) : Bool :=
  match r.owner with
  | .xfer c _ => s.pathWaits (c / 8) (4 + r.io)
  | .sem _ | .copy _ _ _ => false

/-- Sends a request with the next tag of its entry, or lets it wait for a tag, or for its way to the I/O die (R427,
R482). -/
def State.issueReq (s : State) (r : Req) : State :=
  if 64 ≤ s.outstanding r.io r.entry || s.reqWaits r then { s with links := { s.links with waiting := s.links.waiting ++ [r] } }
  else
    let t := s.tags r.io r.entry
    let r := { r with
      tag := t.next
      msg := s.restamp r.io r.entry (Msg.withTag r.msg t.next)
      sent := s.now
      wait := s.parMs K.LINK_REQ_RETRY
      limit := s.par K.LINK_REQ_RETRIES }
    let s := s.setTags r.io r.entry { t with next := (t.next + 1) % 2 ^ 16 }
    ({ s with links := { s.links with reqs := s.links.reqs ++ [r] } }).sendMask (epPorts r.io (s.ep r.io r.entry)) r.msg

/-- Requests of an entry that wait take the tags that have become free (R427). -/
def State.pumpReqs (s : State) (io e : Nat) : State :=
  let mine := s.links.waiting.filter (fun r => r.io = io && r.entry = e && !s.reqWaits r)
  let go := mine.take (64 - s.outstanding io e)
  let s := { s with links := { s.links with waiting := go.foldl List.erase s.links.waiting } }
  go.foldl State.issueReq s

/-- A request built for an entry: its tag is given when it is sent. -/
def State.mkReq (s : State) (io e x gen mtype vc : Nat) (body : List (BitVec 128)) (owner : ReqOwner) : Req :=
  ⟨io, e, 0, Msg.make (s.stamp (s.ep io e) x gen mtype vc 0) body, owner, 0, 0, 0, 0, false, []⟩

/-- The second slot of a WRITE (R408) with the step identity of R407; VC6 and VC7 carry none. -/
def writeSlot (id : Option StepId) (dsel : Bool) (dkey doff bcount : Nat) : BitVec 128 :=
  BitVec.ofNat 128 ((match id with | some i => i.word | none => 0) + b2n dsel <<< 106 + (dkey % 2 ^ 16) <<< 90
    + (doff % 2 ^ 40) <<< 50 + bcount <<< 47)

/-- A WRITE request of up to four blocks (R408). -/
def State.writeReq (s : State) (io e x gen vc : Nat) (id : Option StepId) (dsel : Bool) (dkey doff : Nat)
    (bs : List Block) (owner : ReqOwner) : Req :=
  s.mkReq io e x gen 5 vc (writeSlot id dsel dkey doff bs.length :: (bs.map Block.slots).flatten) owner

/-- The DOFF field of a WRITE to a queue (R408) from the 14 bits of a descriptor's DOFF (R609). -/
def queueOff (d : Nat) : Nat := bits d 13 0 <<< 26

/-- A SEM_OP request (R411). -/
def State.semReq (s : State) (io e x gen : Nat) (sub : Bool) (iodie index value : Nat) : Req :=
  s.mkReq io e x gen 4 2 [BitVec.ofNat 128 ((s.identity x).word + b2n sub <<< 106 + (iodie % 4) <<< 104
    + (index % 2 ^ 14) <<< 90 + (value % 2 ^ 24) <<< 66)] (.sem x)

/-- A RESP to a request that came through an entry (R412). -/
def State.mkResp (s : State) (io e : Nat) (req : Common) (status blocks : Nat) : Msg :=
  let w := s.ep io e
  let x := bits w 60 57
  Msg.make (s.stamp w x (s.cx x).gen 6 3 req.tag)
    [BitVec.ofNat 128 ((s.identity x).word + status <<< 103 + req.gen <<< 91 + blocks <<< 88)]

/-- Credits of slots that leave the receive buffer go back in control fields to come (R402). -/
def Port.owe (p : Port) (vc n : Nat) : Port := { p with owed := p.owed.set vc (p.owed.getD vc 0 + n) }

/-- The credits of a message of context `x` go back, or are withheld (R330). -/
def Port.free (p : Port) (x vc n : Nat) : Port :=
  if p.withheld.any (fun w => w.1 = x && w.2.1 = vc) then { p with withheld := p.withheld ++ [(x, vc, n)] } else p.owe vc n

/-- The context that a message for this part is for: the one that its entry serves. -/
def State.msgCtx (s : State) (m : Msg) : Nat :=
  bits (s.ep (m.common.daddr - s.par K.FABRIC_ADDRESS) m.common.dep) 60 57

/-- Takes a message out of the ports' receive buffers when it stands there; its slots' credits go back (R402, R330). -/
def State.takeMsg (s : State) (m : Msg) : State :=
  match s.links.inbox.find? (fun p => p.2 = m) with
  | none => s
  | some p =>
    let s := { s with links := { s.links with inbox := s.links.inbox.erase p } }
    s.setPort p.1 ((s.port p.1).free (s.msgCtx m) m.common.vc m.length)

/-- A message waits because the hold region of its context is full: its port withholds the context's credits on its VC
(R330). -/
def State.withhold (s : State) (x : Nat) (m : Msg) : State :=
  match s.links.inbox.find? (fun p => p.2 = m) with
  | none => s
  | some p =>
    let q := s.port p.1
    if q.withheld.any (fun w => w.1 = x && w.2.1 = m.common.vc) then s
    else s.setPort p.1 { q with withheld := q.withheld ++ [(x, m.common.vc, 0)] }

/-- The hold region of a context has room again: the credits withheld for it go back (R330). -/
def State.grantHeld (s : State) (x : Nat) : State :=
  (List.range 27).foldl (fun s q =>
    let p := s.port q
    let mine := p.withheld.filter (fun w => w.1 = x)
    if mine = [] then s
    else s.setPort q (mine.foldl (fun p w => p.owe w.2.1 w.2.2) { p with withheld := p.withheld.filter (fun w => w.1 ≠ x) }))
    s

end Sys2Proof.Machine
end

