-- ==== Sys2Proof/Machine/Arrive.lean ====
section
/-!
DEFINITION. Writes at the memory controllers (R228, R331, R365, R366, R373, R460, R463, R469), HBM stacks (R371, R373)
and drawers as places (R266 to R272).
-/

namespace Sys2Proof.Machine

/-! ### Stacks -/

/-- Replaces a stack. -/
def State.setStack (s : State) (h : Nat) (x : Stack) : State :=
  { s with hbm := { s.hbm with sites := Tbl.put s.hbm.sites {} h x } }

/-- Stacks out of service among those that hold a range of a key's region, its data and where `hdr` says so its sidecar;
none for the shelves (R373). -/
def State.offlineAt (s : State) (k off n : Nat) (hdr : Bool := false) : Nat :=
  let e := s.key k
  if e.space ≠ 0 then 0
  else
    let side := if hdr && n ≠ 0 then s.sitesAt e.side (16 * (off / 2048)) (16 * ceilDiv (off % 2048 + n) 2048) else []
    ((s.sitesAt e.base off n ++ side).eraseDups.filter s.siteOff).length

/-- Does the access wait for a stack in self-refresh (R373)? -/
def State.asleepAt (s : State) (k off n : Nat) (hdr : Bool := false) : Bool :=
  let e := s.key k
  e.space = 0 && (s.asleepSites e.base off n
    || (hdr && n ≠ 0 && s.asleepSites e.side (16 * (off / 2048)) (16 * ceilDiv (off % 2048 + n) 2048)))

/-- Counts an access to a key's region: its bursts in HBM by class (R365, R367), and in a shelf the cycles that it waits for
a busy bank (R252), which are timing. -/
def State.bursts (s : State) (cls k off n : Nat) : State :=
  let e := s.key k
  if n = 0 then s
  else if e.space = 0 then s.countBursts cls (e.base + off) n
  else if e.space = 1 then s.bumpFree K.SHELF_BANK_WAIT_CYCLES
  else s

/-- Writes bytes through a key in a class, with a header into the sidecar of its block. -/
def State.put (s : State) (cls k off : Nat) (bs : List Nat) (hdr : Option (BitVec 128)) : State :=
  let e := s.key k
  let s := (s.writeKey k off bs).bursts cls k off bs.length
  let s := match hdr with
    | some h => s.writeHdr k (off / 2048) h
    | none => s
  if e.space = 0 then s.countRmw (e.base + off) bs.length hdr.isSome else s

/-- A write that a unit of the part makes for context `x`, with the checks at its controller (R228, R373). -/
def State.putChecked (s : State) (cls x k off : Nat) (bs : List Nat) (hdr : Option (BitVec 128)) : State :=
  let e := s.key k
  let n := s.offlineAt k off bs.length hdr.isSome
  if !(e.valid && e.ctx = x) then s.bump K.REVOKED_WRITE_DROPS 1
  else if n ≠ 0 then s.bump K.HBM_OFFLINE_ACCESSES n
  else s.put cls k off bs hdr

/-! ### Undo pairs, the mirror's marks and pending blocks -/

/-- The mirror of a context. -/
def State.mir (s : State) (x : Nat) : Mirror := Tbl.get s.mirrors {} x
/-- Changes the mirror of a context. -/
def State.modMir (s : State) (x : Nat) (f : Mirror → Mirror) : State :=
  { s with mirrors := Tbl.put s.mirrors {} x (f (s.mir x)) }

/-- UNDO_PAIRS of a context: store and undo key of each pair, in order, unused pairs left out (0x6015). -/
def State.undoPairs (s : State) (x : Nat) : List (Nat × Nat) :=
  let w := s.par (K.UNDO_PAIRS + x)
  ((List.range 8).map (fun i => (bits w (32 * i + 15) (32 * i), bits w (32 * i + 31) (32 * i + 16)))).filter
    (fun p => p ≠ (0, 0))

/-- Blocks of a key's region. -/
def State.keyBlocks (s : State) (k : Nat) : Nat := (s.key k).length / 2048

/-- The image block of block `b` of a store region (R456), when key `k` is a store key of the context. -/
def State.imageBlock (s : State) (x k b : Nat) : Option Nat :=
  let rec go (base : Nat) : List (Nat × Nat) → Option Nat
    | [] => none
    | p :: r => if p.1 = k then some (base + b) else go (base + s.keyBlocks p.1) r
  go 1 (s.undoPairs x)

/-- Marks a store block as changed in a step, or counts a write that belongs to no step (R460). -/
def State.markStore (s : State) (x k off n : Nat) (step : Option Nat) : State :=
  match s.imageBlock x k (off / 2048) with
  | none => s
  | some b =>
    match step with
    | none => s.bump K.MIRROR_UNTRACKED_WRITES 1
    | some t => s.modMir x (fun m => { m with
        marks := Tbl.put m.marks [] t ((List.range (ceilDiv (off % 2048 + n) 2048)).foldl (fun l i =>
          insertNat (b + i) l) (Tbl.get m.marks [] t)) })

/-- Is an image block pending for a copy (R463)? -/
def Copy.pends (c : Copy) (b : Nat) : Bool := c.front.contains b || c.todo.contains b

/-- The copy with a pending block moved to its front, behind those moved before (R463). -/
def Copy.advance (c : Copy) (b : Nat) : Copy :=
  if c.todo.contains b then { c with front := c.front ++ [b], todo := c.todo.erase b } else c

/-- The image blocks that a write touches and that are pending for a copy of the context (R463). -/
def State.pendingOf (s : State) (x k off n : Nat) : List Nat :=
  let m := s.mir x
  match s.imageBlock x k (off / 2048) with
  | none => []
  | some b => ((List.range (ceilDiv (off % 2048 + n) 2048)).map (fun i => b + i)).filter (fun i =>
      (m.copy.map (fun c => c.pends i)).getD false || (m.ckpt.map (fun c => c.pends i)).getD false)

/-- Is the key an undo key of the context whose older step is uncommitted when step `t` writes (R331)? -/
def State.undoHeld (s : State) (x k : Nat) (step : Option Nat) : Bool :=
  match step with
  | none => false
  | some t => (s.undoPairs x).any (fun p => p.2 = k)
    && (s.cx x).steps.any (fun u => u.num = t) && ((s.cx x).steps.head?.map (·.num)) ≠ some t

/-! ### Drawers -/

/-- The die whose drawer of context `x` has `k` as its resident key (R269). -/
def State.drawerDie (s : State) (x k : Nat) : Option Nat :=
  (List.range 4).find? (fun d => bit (s.par (K.DRAWER_CFG + x)) d
    && bits (s.par (K.DRAWER_KEYS + x)) (16 * d + 15) (16 * d) = k)

/-- Does the context name `k` as a spill key (R270)? -/
def State.isSpillKey (s : State) (x k : Nat) : Bool :=
  (List.range 4).any (fun d => bit (s.par (K.DRAWER_CFG + x)) d
    && bits (s.par (K.DRAWER_SPILL_KEYS + x)) (16 * d + 15) (16 * d) = k)

/-- The drawer of a context on a die. -/
def State.drawer (s : State) (x d : Nat) : Drawer := Tbl.get s.drawers {} (4 * x + d)
/-- Replaces a drawer. -/
def State.setDrawer (s : State) (x d : Nat) (w : Drawer) : State :=
  { s with drawers := Tbl.put s.drawers {} (4 * x + d) w }

/-- Entry (VSTAGE × 128 + MBATCH) and block of the entry of a drawer address (R269). -/
def drawerAt (a : Nat) : Nat × Nat := (bits a 39 30, bits a 29 11)

/-- The page of a drawer that holds block `b` of an entry. -/
def Drawer.page (w : Drawer) (entry b : Nat) : Option DrawerPage :=
  w.held.find? (fun p => p.entry = entry && p.page = b / 32)

/-- Is the block stashed (R271)? -/
def Drawer.stashed (w : Drawer) (entry b : Nat) : Bool :=
  match w.page entry b with
  | some p => p.reads.any (fun r => r.1 = b % 32)
  | none => false

/-- Changes the page that holds a block. -/
def Drawer.modPage (w : Drawer) (entry b : Nat) (f : DrawerPage → DrawerPage) : Drawer :=
  { w with held := w.held.map (fun p => if p.entry = entry && p.page = b / 32 then f p else p) }

/-- Number of a block of a page within its region. -/
def DrawerPage.index (p : DrawerPage) (b : Nat) : Nat := p.slot * 32 + b % 32

/-- Byte addresses of a drawer block's data and header: space, data address, header address (R268). -/
def Drawer.place (w : Drawer) (p : DrawerPage) (b : Nat) : Nat × Nat × Nat :=
  let i := p.index b
  if p.spilled then (0, w.sbase + 2048 * i, w.sside + 16 * i) else (1, w.base + 2048 * i, w.side + 16 * i)

/-- Reads a block of a drawer; a null block where it is not stashed. -/
def State.drawerBlock (s : State) (x d entry b : Nat) : Block :=
  let w := s.drawer x d
  match w.page entry b with
  | none => Block.null
  | some p =>
    let (sp, a, h) := w.place p b
    ⟨BitVec.ofNat 128 (ofBytes (s.readSpace sp h 16)), BitVec.ofNat 16384 (ofBytes (s.readSpace sp a 2048))⟩

/-- Frees a page when every stashed block of it has been read often enough and no accepted read touches it (R272). -/
def Drawer.sweep (w : Drawer) : Drawer :=
  { w with held := w.held.filter (fun p => p.inFlight ≠ 0 || p.reads = [] || p.reads.any (fun r => r.2 < w.reads)) }

/-- The lowest free page of a drawer's resident or spill region; none when the region is full (R271, R275). -/
def Drawer.freePage (w : Drawer) (spill : Bool) : Option Nat :=
  (List.range (if spill then w.spages else w.pages)).find? (fun i =>
    !w.held.any (fun p => p.spilled = spill && p.slot = i))

/-- A first write of entries is accepted: those that the drawer does not hold yet are opened, with one place in the order
of acceptances and the step of the write (R271, R275, R283). -/
def Drawer.openEntries (w : Drawer) (l : List Nat) (step : Option Nat) : Drawer :=
  let new := (l.filter (fun e => !w.entries.any (fun x => x.entry = e))).eraseDups
  if new = [] then w
  else { w with entries := w.entries ++ new.map (fun e => ⟨e, w.order, step⟩), order := w.order + 1 }

/-- Gives an entry a resident page for block `b`. -/
def Drawer.allocate (w : Drawer) (entry b slot : Nat) (step : Option Nat) : Drawer :=
  let w := w.openEntries [entry] step
  { w with held := w.held ++ [⟨entry, b / 32, false, slot, [], 0⟩] }

/-- Does a write in flight still belong to an entry of a drawer? -/
def State.writesEntry (s : State) (x : Nat) (w : Drawer) (entry : Nat) : Bool :=
  (List.range 32).any (fun c => (s.cl c).xfers.any (fun t => t.ctx = x && t.desc.dkey = w.key
    && t.dwrite.contains entry && !w.closed.contains (c, t.seq, entry)))

/-- An entry with no page and no write in flight is gone: its next write is a first write again (R271). -/
def State.pruneDrawer (s : State) (x d : Nat) : State :=
  let w := s.drawer x d
  s.setDrawer x d { w with entries := w.entries.filter (fun e =>
    w.held.any (fun p => p.entry = e.entry) || s.writesEntry x w e.entry) }

/-! ### Transfers by SEQ -/

/-- A transfer of a cluster's engine. -/
def State.xfer (s : State) (c seq : Nat) : Option Xfer := (s.cl c).xfers.find? (fun t => t.seq = seq)

/-- Changes a transfer. -/
def State.modXfer (s : State) (c seq : Nat) (f : Xfer → Xfer) : State :=
  s.modCl c (fun l => { l with xfers := l.xfers.map (fun t => if t.seq = seq then f t else t) })

/-- The first status other than OK stands (R410). -/
def Xfer.setStatus (t : Xfer) (st : XStatus) : Xfer := if t.status = .ok then { t with status := st } else t

/-- Answers a remote request (R410, R412, R429): a RESP with a status. A WRITE on VC7 is no request and gets none. -/
def State.answer (s : State) (io entry : Nat) (slot : BitVec 128) (status blocks : Nat) : State :=
  if bits slot.toNat 122 120 = 7 then s
  else
    let m := s.mkResp io entry (Msg.common [slot]) status blocks
    let t := s.tags io entry
    let tag := bits slot.toNat 15 0
    let s := s.setTags io entry { t with kept := (t.kept.filter (fun p => p.1 ≠ tag)) ++ [(tag, m)] }
    s.sendMask (epPorts io (s.ep io entry)) m

/-- Blocks of a WRITE message by its length (R406). -/
def writeBlocks (slot : BitVec 128) : Nat := (bits slot.toNat 119 110 - 2) / 129

/-- The owner of a write learns how it ended. -/
def State.accessDone (s : State) (o : AccOwner) (st : XStatus) (n : Nat) : State :=
  match o with
  | .xfer c q => s.modXfer c q (fun t =>
      if st = .ok then { t with moved := t.moved + n } else t.setStatus st)
  | .remote io e slot =>
    let rest := s.accesses.any (fun a => a.owner = o)
    if st ≠ .ok then
      ({ s with accesses := s.accesses.filter (fun a => a.owner ≠ o) }).answer io e slot st.code 0
    else if rest then s
    else s.answer io e slot st.code (writeBlocks slot)

/-- Has a write's transfer ended already (R240, R425)? -/
def State.lateAccess (s : State) : AccOwner → Bool
  | .xfer c q => (s.xfer c q).isNone
  | .remote _ _ _ => false

/-! ### The order of accesses to one burst (R366) -/

/-- The 32-byte bursts that a write touches, each as an address of its space; those of a drawer by drawer address (R366). -/
def State.burstsOf (s : State) (a : Access) : List (Nat × Nat) :=
  let e := s.key a.key
  let run (sp at' n : Nat) : List (Nat × Nat) :=
    (List.range ((at' + n - 1) / 32 - at' / 32 + 1)).map (fun i => (sp, at' / 32 + i))
  if a.bytes = [] then []
  else if a.drawer.isSome then run (3 + a.key) a.off a.bytes.length
  else if e.space = 0 then
    ((pieces (e.base + a.off) a.bytes.length).map (fun p => run 0 (s.part.hbmCell p.1) p.2)).flatten
  else run e.space (e.base + a.off) a.bytes.length

/-- Has a write to one of its bursts reached the controller before it, and does it still wait there (R366)? -/
def State.behind (s : State) (a : Access) : Bool :=
  s.accesses.any (fun b => (match b.reached, a.reached with
    | some i, some j => decide (i < j)
    | some _, none => true
    | none, _ => false) && (s.burstsOf b).any (fun q => (s.burstsOf a).contains q))

/-- A write waits at its controller, in the place in which it has reached it (R366). -/
def State.waitAt (s : State) (a : Access) : State :=
  let next := (s.accesses.map (fun b => (b.reached.map (· + 1)).getD 0)).foldl max 0
  { s with accesses := s.accesses ++ [{ a with reached := some (a.reached.getD next) }] }

/-! ### Writes that wait for a drawer's page (R278 to R281) -/

/-- The drawer address of the write that a transfer offers next. -/
def Xfer.offer (t : Xfer) : Option Nat := t.hold.head?.map (·.1)

/-- A stall ends: its time is added (R281), and DMA_TIMEOUT leaves it out (R280). -/
def State.stopStall (s : State) (c : Nat) (t : Xfer) : State :=
  match t.stall with
  | none => s
  | some (since, _) =>
    let dt := s.now - since
    (s.bump K.DRAWER_STALL_TIME dt).modXfer c t.seq (fun t => { t with stall := none, stalled := t.stalled + dt })

/-- Takes a transfer out of the list of its drawer's waiting writes. -/
def State.unstall (s : State) (c : Nat) (t : Xfer) : State :=
  match s.drawerDie t.ctx t.desc.dkey with
  | none => s
  | some die =>
    let w := s.drawer t.ctx die
    s.setDrawer t.ctx die { w with stalled := w.stalled.filter (fun p => p ≠ (c, t.seq)) }

/-- A write waits no longer. -/
def State.endStall (s : State) (c : Nat) (t : Xfer) : State := (s.stopStall c t).unstall c t

/-- The waiting writes in the order in which they stall: those in stalled order first, then those that begin to stall now in
ascending order of their clusters (R279). -/
def stallOrder (old new : List (Nat × Nat)) : List (Nat × Nat) :=
  old ++ ((List.range 32).map (fun c => new.filter (fun q => q.1 = c))).flatten

/-- A drawer's waiting writes after its free pages have changed (R278): while neither region has a free page, all of them are
stalled; once a spill page is free, they wait for a spill copy, each such wait counted. -/
def State.rejudge (s : State) (x d : Nat) : State :=
  let w := s.drawer x d
  let inStall (q : Nat × Nat) : Bool := ((s.xfer q.1 q.2).bind (·.stall)).isSome
  if w.stalled = [] || (w.freePage false).isSome then s
  else if (w.freePage true).isSome then
    (w.stalled.filter inStall).foldl (fun s q =>
      match s.xfer q.1 q.2 with
      | some t => (s.stopStall q.1 t).bump K.DRAWER_SPILL_WAITS 1
      | none => s) s
  else
    let new := w.stalled.filter (fun q => !inStall q)
    let s := s.setDrawer x d { w with stalled := stallOrder (w.stalled.filter inStall) new }
    new.foldl (fun s q => s.modXfer q.1 q.2 (fun t => { t with stall := some (s.now, s.parMs K.STASH_TIMEOUT) })) s

/-- A transfer's write finds no page that it could have: it joins the writes that wait (R278, R279). -/
def State.drawerJoin (s : State) (x d c seq : Nat) : State :=
  let w := s.drawer x d
  if w.stalled.contains (c, seq) then s
  else
    let s := s.setDrawer x d { w with stalled := w.stalled ++ [(c, seq)] }
    let s := if (w.freePage false).isNone && (w.freePage true).isSome then s.bump K.DRAWER_SPILL_WAITS 1 else s
    s.rejudge x d

/-- A write lands in a block of a drawer page: the block's read count becomes 0 (R272). Its bytes go to its place, its header
beside them (R271). -/
def State.drawerPut (s : State) (x d entry b : Nat) (p : DrawerPage) (a : Access) : State :=
  let w := s.drawer x d
  let (sp, at', h) := w.place p b
  let at' := at' + a.off % 2048
  let s := s.writeSpace sp at' a.bytes
  let s := match a.hdr with
    | some v => s.writeSpace sp h (toBytes 16 v.toNat)
    | none => s
  let s := if sp = 0 then (s.countBursts 1 at' a.bytes.length).countRmw at' a.bytes.length a.hdr.isSome
    else s.bumpFree K.SHELF_BANK_WAIT_CYCLES
  let put (p : DrawerPage) : DrawerPage := { p with reads := (p.reads.filter (fun r => r.1 ≠ b % 32)) ++ [(b % 32, 0)] }
  (s.setDrawer x d (w.modPage entry b put)).bump K.DRAWER_BLOCKS_WRITTEN 1

/-- A write reaches its drawer. A write to a closed entry is freed and counted at once (R283); a write whose page has been
freed on its way takes a page again, or waits for one (R271, R278); a write to a spilled page is an access of HBM (R277,
R373). -/
def State.drawerArrive (s : State) (d entry b : Nat) (a : Access) : State :=
  let x := a.ctx
  let w := s.drawer x d
  let (c, q) := match a.owner with
    | .xfer c q => (c, q)
    | .remote _ _ _ => (0, 0)
  let n := a.count.getD a.bytes.length
  if w.closed.contains (c, q, entry) then
    ((s.bump K.DRAWER_BLOCKS_WRITTEN 1).bump K.DRAWER_DISCARDED_BLOCKS 1).accessDone a.owner .ok n
  else
    match w.page entry b with
    | some p =>
      let (sp, at', h) := w.place p b
      let off := if sp = 0 then s.offSites at' 0 2048 + s.offSites h 0 16 else 0
      if off ≠ 0 then (s.bump K.HBM_OFFLINE_ACCESSES off).accessDone a.owner .memOffline 0
      else if (sp = 0 && (s.asleepSites at' 0 2048 || s.asleepSites h 0 16)) || s.behind a then s.waitAt a
      else (s.drawerPut x d entry b p a).accessDone a.owner .ok n
    | none =>
      match w.stalled, w.freePage false with
      | [], some i =>
        let s := s.setDrawer x d (w.allocate entry b i a.step)
        match (s.drawer x d).page entry b with
        | some p => (s.drawerPut x d entry b p a).accessDone a.owner .ok n
        | none => s
      | _, _ => (s.modXfer c q (fun t => { t with hold := (a.off, a.bytes, a.hdr) :: t.hold })).drawerJoin x d c q

/-- A block of a WRITE that has landed in memory is logged (R328). -/
def State.logWrite (s : State) (a : Access) : State :=
  match a.owner, a.came with
  | .remote _ e _, some h =>
    s.logUnder a.ctx a.step (logRecord e 0 a.key a.off 0 0 0 0) (some ⟨h, BitVec.ofNat 16384 (ofBytes a.bytes)⟩)
  | _, _ => s

/-- STEP of the manifest in a context's wardrobe (R457); none where no manifest stands there. -/
def State.wardrobeStep (s : State) (x : Nat) : Option Nat :=
  let m := bits (ofBytes (s.readKey (s.par (K.WARDROBE_KEY + x)) 0 128)) 1023 0
  if bits m 1023 992 = 0x5357534D then some (bits m 983 952) else none

/-- A suspect's log that has arrived is announced (R348): an ADD of 1 leaves for REPLAY_SEM once the wardrobe holds the
suspect's state of LAST_COMMITTED, which is this part's as long as the step to replay is its oldest uncommitted one. Where
the wardrobe's manifest names another step, the replay that the part owes is a miss, and no ADD leaves (R468). -/
def State.announceReplay (s : State) (x : Nat) : State :=
  let c := s.cx x
  match c.logArrived, c.steps.head? with
  | some n, some t =>
    let taken := s.modCx x (fun c => { c with logArrived := none })
    if t.num ≠ n then s
    else if s.wardrobeStep x = some c.lastCommitted then
      taken.post ⟨.pkg 0 (bits (s.par (K.STEP_CFG + x)) 31 18), false, 1, x, c.gen, 4⟩
    else if t.owes then taken.recordMiss x n
    else s
  | _, _ => s

/-- A block of another part that has landed at the start of REPLAY_IN_KEY's region is the request record that ends a log
(R348); one at the start of the wardrobe is a manifest. -/
def State.replayArrived (s : State) (a : Access) : State :=
  match a.owner with
  | .xfer _ _ => s
  | .remote _ _ slot =>
    if bits slot.toNat 122 120 ≠ 6 || a.off ≠ 0 then s
    else if a.key = s.par (K.REPLAY_IN_KEY + a.ctx) then
      (s.modCx a.ctx (fun c => { c with logArrived := some (bits (ofBytes a.bytes) 255 224) })).announceReplay a.ctx
    else if a.key = s.par (K.WARDROBE_KEY + a.ctx) then s.announceReplay a.ctx
    else s

/-- Does a write wait on its way for a path that a die's reset has stopped (R14, R482)? -/
def State.accessWaits (s : State) (a : Access) : Bool :=
  let src := match a.owner with
    | .xfer c _ => c / 8
    | .remote io _ _ => 4 + io
  match a.drawer with
  | some (d, _, _) => s.pathWaits src d
  | none => let e := s.key a.key; s.memWaits src e.space e.base a.off a.bytes.length

/-- A write reaches its controller: it is dropped, held or takes effect. The write has been taken out of the list of
writes on their way. -/
def State.arrive (s : State) (a : Access) : State :=
  let n := a.bytes.length
  let e := s.key a.key
  if s.accessWaits a then { s with accesses := s.accesses ++ [a] }
  else if s.stale a.ctx a.gen then s.dropStale
  else if s.lateAccess a.owner then s.bump K.LATE_DATA_DROPS 1
  else if !(e.valid && e.ctx = a.ctx) then (s.bump K.REVOKED_WRITE_DROPS 1).accessDone a.owner .addressFault 0
  else if a.replay && a.key = s.par (K.WARDROBE_KEY + a.ctx) then
    (s.bump K.REPLAY_WARDROBE_DROPS 1).accessDone a.owner .ok (a.count.getD n)
  else
    match a.drawer with
    | some (d, entry, b) => s.drawerArrive d entry b a
    | none =>
      let off := s.offlineAt a.key a.off n a.hdr.isSome
      if off ≠ 0 then (s.bump K.HBM_OFFLINE_ACCESSES off).accessDone a.owner .memOffline 0
      else if s.asleepAt a.key a.off n a.hdr.isSome || s.behind a then s.waitAt a
      else
        let undo := s.undoHeld a.ctx a.key a.step && !a.replay
        let pend := s.pendingOf a.ctx a.key a.off n
        if undo || pend ≠ [] then
          let s := if undo && !a.heldUndo then s.bump K.UNDO_WRITE_HOLDS 1 else s
          let s := if pend ≠ [] && a.heldCopy.isNone then s.bump K.MIRROR_UPDATE_WAITS 1 else s
          let s := s.modMir a.ctx (fun m => { m with
            copy := m.copy.map (fun c => pend.foldl Copy.advance c)
            ckpt := m.ckpt.map (fun c => pend.foldl Copy.advance c) })
          s.waitAt { a with
            heldUndo := undo
            heldCopy := if pend = [] then none else some (a.heldCopy.getD s.now)
            heldSince := some (a.heldSince.getD s.now) }
        else
          let s := match a.heldCopy with
            | some t => s.bump K.MIRROR_WAIT_TIME (s.now - t)
            | none => s
          let s := match a.heldSince, a.owner with
            | some t, .xfer c q => s.modXfer c q (fun u => { u with stalled := u.stalled + (s.now - t) })
            | _, _ => s
          let s := s.put 1 a.key a.off a.bytes a.hdr
          let s := if a.replay then s else s.markStore a.ctx a.key a.off n a.step
          ((s.logWrite a).replayArrived a).accessDone a.owner .ok (a.count.getD n)

/-- Takes the `i`-th write on its way to its controller. -/
def State.arriveAt (s : State) (i : Nat) : State :=
  match s.accesses[i]? with
  | none => s
  | some a => ({ s with accesses := s.accesses.eraseIdx i }).arrive a

/-- Writes that no rule holds any more take effect (R331, R343, R463): the held writes are judged again. -/
def State.releaseHeld (s : State) : State :=
  let held := s.accesses.filter (fun a => a.heldUndo || a.heldCopy.isSome)
  held.foldl State.arrive { s with accesses := s.accesses.filter (fun a => !(a.heldUndo || a.heldCopy.isSome)) }

/-- The writes of a transfer that are on their way and not held reach their controllers. -/
def State.flushXfer (s : State) (c seq : Nat) : State :=
  let mine (a : Access) : Bool := a.owner = .xfer c seq && !a.heldUndo && a.heldCopy.isNone
  (s.accesses.filter mine).foldl State.arrive { s with accesses := s.accesses.filter (fun a => !mine a) }

end Sys2Proof.Machine
end

