-- ==== Sys2Proof/Machine/Effects.lean ====
section
/-!
DEFINITION. What an instruction of a core unit does beside reading and pushing blocks: counts, events and trap
records, as a list that one operation applies to the state (R47 to R65, R92, R146, R505).
-/

namespace Sys2Proof.Machine

/-- The unit of a trap record (R65). -/
inductive TrapUnit
  | epilogue | vector | convert
deriving DecidableEq, Repr

/-- The 4-bit UNIT code of R65. -/
def TrapUnit.code : TrapUnit → Nat
  | .epilogue => 1 | .vector => 2 | .convert => 3

/-- One non-finite event (R64) with what its trap record would hold (R65, R602). -/
structure TrapEv where
  tensor : Nat
  index : Nat
  unit : TrapUnit
  cause : Cause
  fmt : Nat
  row : Nat
  col : Nat
deriving DecidableEq, Repr

/-- An effect of a core instruction beside its blocks. -/
inductive Eff
  /-- add `n` to the counter of dictionary key `key` -/
  | count (key n : Nat)
  /-- add an amount that timing decides, which the spec does not fix (R138, R105, R115, R118) -/
  | countFree (key : Nat)
  /-- add such an amount, at most `most` (R115) -/
  | countMost (key most : Nat)
  /-- a non-finite event (R64) -/
  | nonfinite (e : TrapEv)
  /-- an event of the cluster's ring: code, and DETAIL below the context (R516) -/
  | event (code detail : Nat)
  /-- a failed tile: 1 more in the health word's check-column mismatch count (R92) -/
  | checkFail
  /-- add `n` to the core's event count `code` (R505, R506) -/
  | core (code n : Nat)
deriving DecidableEq, Repr

/-- The effects of a list of per-element results: flattened in order. -/
def effCat (l : List (List Eff)) : List Eff := l.flatten

/-- `count key n`, left out when `n` is 0. -/
def effCount (key n : Nat) : List Eff := if n = 0 then [] else [.count key n]

end Sys2Proof.Machine
end

