-- ==== Sys2Proof/Machine/Product.lean ====
section
/-!
DEFINITION. One matrix product: operand elements, anchor, exact accumulation, check column, epilogue (chapters 02 to
04, R144 to R152). Everything before the single rounding of R51 is exact integer arithmetic.
-/

namespace Sys2Proof.Machine

/-- What a product reads: its fields, the epilogue setup it latched (R141), its core number, the noise seed and step
of R60 and R62, its blocks, the slice maxima of header passes, and the tile that is active on the core. -/
structure MmaIn where
  f : MmaF
  epi : Epi
  id : Nat
  core : Nat
  seed : Nat
  step : Nat
  ctx : Nat
  gen : Nat
  a : List Block
  asc : List Block
  b : List Block
  bsc : List Block
  pq : Option Block
  passA : Option (List Nat)
  passB : Option (List Nat)
  tile : Tile
  /-- the scale queues name Q63 (R127) -/
  nullA : Bool
  nullB : Bool

/-- An operand element as it enters the array: the value used (+0 where R599 says so), whether it is non-finite under
R56, R43 or R69, whether R47 counts a flush, its MAXEXP contribution, the MAXEXP of its block, and the header of the
block that holds it. `badScale` names the scale block when the group's scale is 0xFF. -/
structure Elem where
  val : Val := .zero
  bad : Bool := false
  flushed : Bool := false
  exp : Nat := 0
  max : Nat := 0
  tensor : Nat := 0
  index : Nat := 0
  badScale : Option (Nat × Nat × Nat) := none
deriving DecidableEq, Repr

/-- Element code `code` of a block with header `h`, in format `f`, under a scale: none where `f` takes no scale; the
scale is `some none` for a null scale block (every element +0, R127) and else carries its code, group and block. -/
def elemOf (f : Fmt) (h : Hdr) (max : Nat) (code : Nat) (sc : Option (Option (Nat × Nat × Hdr))) : Elem :=
  let raw := decodeElem f code
  match sc with
  | some none => { max := max, tensor := h.tensor, index := h.index }
  | some (some (s, g, sh)) =>
    if s = 255 then
      { bad := true, max := max, tensor := h.tensor, index := h.index, badScale := some (g, sh.tensor, sh.index) }
    else
      let v := scaleElem s raw
      let p := flushIn f v
      if !p.1.isFin || tooBig f p.1 then
        { bad := true, max := max, tensor := h.tensor, index := h.index }
      else { val := p.1, flushed := p.2, exp := elemMaxExp f p.1, max := max, tensor := h.tensor, index := h.index }
  | none =>
    let p := flushIn f raw
    if !p.1.isFin then { bad := true, max := max, tensor := h.tensor, index := h.index }
    else { val := p.1, flushed := p.2, exp := elemMaxExp f p.1, max := max, tensor := h.tensor, index := h.index }

/-- A block prepared for many element reads. -/
structure BlockView where
  h : Hdr := Hdr.ofBits 0
  max : Nat := 0
  data : Nat := 0
deriving Repr

/-- Reads a block's header and data once. -/
def viewBlock (b : Block) : BlockView := ⟨b.h, b.maxexp, b.data.toNat⟩

/-- The scale of group `g` from a scale operand (R146: 2,048 scales per block, in group order). -/
def groupScaleOf (mx null : Bool) (sc : Array BlockView) (g : Nat) : Option (Option (Nat × Nat × Hdr)) :=
  if !mx then none
  else if null then some none
  else
    let v := sc.getD (g / 2048) {}
    some (some (elemCode .e8m0 v.data (g % 2048), g, v.h))

/-- Slots of one K slice of the A stream (R101): `⌈M / L⌉`. -/
def aSlots (f : MmaF) : Nat := ceilDiv f.m ((Fmt.ofCode f.afmt).perBlock / shapeDepth f.shape)

/-- All slots that a product pops of its A stream (R101). -/
def aBlocks (f : MmaF) : Nat :=
  if f.k = 0 then 0
  else f.slices * aSlots f + ceilDiv (shapeDepth f.shape - 1) ((Fmt.ofCode f.afmt).perBlock / shapeDepth f.shape)

/-- B blocks of one K slice (R244). -/
def bSliceBlocks (f : MmaF) : Nat := ceilDiv (shapeDepth f.shape * f.n) (Fmt.ofCode f.bfmt).perBlock

/-- All blocks that a product pops of B; none for KEEP (R106) or K = 0 (R145). -/
def bBlocks (f : MmaF) : Nat := if f.keep || f.k = 0 then 0 else f.slices * bSliceBlocks f

/-- Scale blocks of the A operand (R146). -/
def aScaleBlocks (f : MmaF) : Nat :=
  if (Fmt.ofCode f.afmt).isMX && f.k ≠ 0 then ceilDiv (ceilDiv (f.m * f.k) 32) 2048 else 0

/-- Scale blocks of the B operand (R146, R106). -/
def bScaleBlocks (f : MmaF) : Nat :=
  if (Fmt.ofCode f.bfmt).isMX && f.k ≠ 0 && !f.keep then ceilDiv (ceilDiv (f.k * f.n) 32) 2048 else 0

/-- Slot and line of the stream that hold line `t` of the A operand (R101). -/
def lineSlot (f : MmaF) (t : Nat) : Nat × Nat :=
  let l := (Fmt.ofCode f.afmt).perBlock / shapeDepth f.shape
  let rows := f.slices * f.m
  if t < rows then ((t / f.m) * aSlots f + (t % f.m) / l, (t % f.m) % l)
  else (f.slices * aSlots f + (t - rows) / l, (t - rows) % l)

/-- Element (m, k) of A (R101, R146): element `k mod D` of line `sM + m + k mod D`, compared with the MAXEXP of its
row's slot (R77, R246). -/
def aElem (f : MmaF) (blocks scales : Array BlockView) (null : Bool) (m k : Nat) : Elem :=
  let d := shapeDepth f.shape
  let fm := Fmt.ofCode f.afmt
  let row := (k / d) * f.m + m
  let (slot, line) := lineSlot f (row + k % d)
  let v := blocks.getD slot {}
  let rowSlot := (lineSlot f row).1
  let g := (if v.h.transposed then k * f.m + m else m * f.k + k) / 32
  elemOf fm v.h (blocks.getD rowSlot {}).max (elemCode fm v.data (line * d + k % d))
    (groupScaleOf fm.isMX null scales g)

/-- Element (k, n) of B (R244, R146). -/
def bElem (f : MmaF) (blocks scales : Array BlockView) (null : Bool) (k n : Nat) : Elem :=
  let d := shapeDepth f.shape
  let fm := Fmt.ofCode f.bfmt
  let e := (k % d) * f.n + n
  let v := blocks.getD ((k / d) * bSliceBlocks f + e / fm.perBlock) {}
  let g := (if v.h.transposed then n * f.k + k else k * f.n + n) / 32
  elemOf fm v.h v.max (elemCode fm v.data (e % fm.perBlock)) (groupScaleOf fm.isMX null scales g)

/-- `floor(v × 2^e / 2^q)`, and whether that changes the value (R79, R87). -/
def floorTo (v : Int) (e q : Int) : Int × Bool :=
  if q ≤ e then (v * (2 : Int) ^ (e - q).toNat, false)
  else
    let d : Int := (2 : Int) ^ (q - e).toNat
    (v / d, v % d ≠ 0)

/-- The value of a finite element as a signed dyadic. -/
def Val.dy : Val → Int × Int
  | .fin n m e => (sint n m, e)
  | _ => (0, 0)

/-- 136-bit two's-complement wrap (R67, R81). -/
def wrap136 (v : Int) : Int := signed 136 (unsign 136 v)

/-- One aligned product (R79): its bench value, and whether R79 changed it. -/
def alignProduct (anchor : Int) (a b : Int × Int) : Int × Bool := floorTo (a.1 * b.1) (a.2 + b.2) (anchor - 110)

/-- The sum of a row's aligned products and how many of them R79 changed. -/
def dotAligned (anchor : Int) : List ((Int × Int) × (Int × Int)) → Int × Nat
  | [] => (0, 0)
  | (x, y) :: r =>
    let p := alignProduct anchor x y
    let q := dotAligned anchor r
    (p.1 + q.1, q.2 + b2n p.2)

/-- The row sum c_k of R87 on the grid `2^(eb - 255)`, and how many weights R87 changed (R88). -/
def rowSum (eb : Nat) (row : List (Int × Int)) : Int × Nat :=
  row.foldl (fun acc v => let p := floorTo v.1 v.2 ((eb : Int) - 255); (acc.1 + p.1, acc.2 + b2n p.2)) (0, 0)

/-- The anchor of R72: the largest EA + EB over the slices in which both are non-zero. -/
def anchorOf (ea eb : List Nat) : Option Int :=
  (List.zip ea eb).foldl (fun acc p =>
    if p.1 = 0 || p.2 = 0 then acc
    else
      let x : Int := (p.1 : Int) + p.2 - 254
      match acc with | none => some x | some y => some (max x y)) none

/-- R78: some slice's EA + EB exceeds the given anchor. -/
def anchorExceeded (anchor : Int) (ea eb : List Nat) : Bool :=
  (List.zip ea eb).any (fun p => p.1 ≠ 0 && p.2 ≠ 0 && decide (anchor < (p.1 : Int) + p.2 - 254))

/-- The tile status word of R95. -/
def statusWord (anchor : Option Int) (below rows first sat : Nat) (skip given exceeded fault fail : Bool) : Nat :=
  (match anchor with | none => 0x200 | some a => unsign 10 a) <<< 54 + min below 0x3FFFF <<< 36 + rows <<< 28
    + first <<< 20 + sat <<< 12 + b2n skip <<< 5 + b2n given <<< 4 + b2n exceeded <<< 3 + b2n fault <<< 2
    + b2n fail <<< 1 + 1

/-- An output before rounding: NaN with its cause, or the exact clipped value. -/
inductive PreOut
  | nan (c : Cause)
  | inf (neg : Bool)
  | val (v e : Int)
deriving DecidableEq, Repr

/-- R51: min(max(V × s + b, lo), hi), exactly. A NaN bound disables its side; an exact zero is +0 (R50). -/
def epiValue (v : Int × Int) (s b lo hi : Val) : PreOut :=
  match s, b with
  | .fin ns ms es, .fin nb mb eb =>
    let x := dyAdd (v.1 * sint ns ms) (v.2 + es) (sint nb mb) eb
    let c : Val := .ofDy x.1 x.2
    let c := if lo.isNan then c else if c.le lo then lo else c
    let c := if hi.isNan then c else if hi.le c then hi else c
    match c with
    | .fin n m e => .val (sint n m) e
    | .inf n => .inf n
    | .nan => .nan .input
  | _, _ => .nan .input

/-- The value handed to the rounding. -/
def PreOut.toVal : PreOut → Val
  | .nan _ => .nan
  | .inf n => .inf n
  | .val v e => .ofDy v e

/-- A rounded output (R51 to R54) with its cause when it is not finite. -/
structure OutEl where
  r : Rounded
  cause : Cause
deriving Repr

/-- Rounds one output into the output format under the group scale `t` (stages 6 to 8). -/
def roundOut (f : Fmt) (r : Rnd) (t : Int) (p : PreOut) : OutEl :=
  match p with
  | .nan c => ⟨⟨f.canonNan, .nan, false, false, false⟩, c⟩
  | p =>
    if f.isMX then ⟨roundMX f r t p.toVal, .none⟩
    else
      let x := roundIeee f r p.toVal
      ⟨x, if x.val.isFin then .none else .overflow⟩

/-- The exact sum and largest value of a row's rounded outputs (R55): values and causes. -/
def rowReduce (vs : List Val) : (FpRes × FpRes) :=
  if vs.any Val.isNan then (⟨.nan, false, .input⟩, ⟨.nan, false, .input⟩)
  else
    let pinf := vs.contains (.inf false)
    let ninf := vs.contains (.inf true)
    let sum : FpRes :=
      if pinf && ninf then ⟨.nan, false, .invalid⟩
      else if pinf then ⟨.inf false, false, .input⟩
      else if ninf then ⟨.inf true, false, .input⟩
      else
        let d := vs.foldl (fun acc v => let p := v.dy; dyAdd acc.1 acc.2 p.1 p.2) ((0 : Int), (0 : Int))
        if d.1 = 0 then ⟨.zero, false, .none⟩ else toF32 (.ofDy d.1 d.2)
    let top : Val := match vs with | [] => .zero | v :: r => r.foldl maxVal v
    let mx : FpRes := match top with
      | .inf n => ⟨.inf n, false, .input⟩
      | v => toF32 v
    (sum, mx)

/-- Merges two lists of timed effect groups by their key; groups of the first list come first at equal keys. -/
def mergeTimed : List (Nat × List Eff) → List (Nat × List Eff) → Nat → List (Nat × List Eff)
  | l, [], _ => l
  | [], r, _ => r
  | l, _, 0 => l
  | (a, x) :: l, (b, y) :: r, n + 1 =>
    if a ≤ b then (a, x) :: mergeTimed l ((b, y) :: r) n else (b, y) :: mergeTimed ((a, x) :: l) r n

/-- A non-finite event of the epilogue (R65). -/
def epiTrap (tensor index : Nat) (c : Cause) (fmt row col : Nat) : Eff :=
  .nonfinite ⟨tensor, index, .epilogue, c, fmt, row, col⟩

/-- Blocks of a list of element codes in one format (R37, R148): FILLED where a block holds fewer elements. `first` is
the index of the first block, `mx` the elements' MAXEXP contributions. -/
def buildBlocks (f : Fmt) (tensor first step : Nat) (skewed : Bool) (codes : List (Nat × Nat)) : List Block :=
  ((runs f.perBlock codes).zipIdx).map (fun p =>
    Block.build ⟨tensor, first + p.2, listMax (p.1.map (·.2)), f.code, false, skewed, false,
      decide (p.1.length < f.perBlock), step⟩ (packCodes f.width (p.1.map (·.1))))

/-- What a product gives: its pushes in the order of R148, the operand-form stream of R114 in place of the output
blocks when OPQ is set, the tile that is active after it, and its effects. -/
structure MmaOut where
  out : List (Nat × Block)
  stream : Option (List Block)
  tile : Tile
  effs : List Eff

/-- The stream of R114: element (m, n) of the outputs at `k = n + KOFF` of row m, as the skewed stream of one 128-row
K slice. `els m` lists row m's element codes with their MAXEXP contributions. -/
def operandStream (f : Fmt) (tensor step m n koff : Nat) (els : Array (Nat × Nat)) : List Block :=
  let l := f.perBlock / 128
  let head := ceilDiv m l
  let tail := ceilDiv 127 l
  (List.range (head + tail)).map (fun i =>
    let first := if i < head then i * l else m + (i - head) * l
    let nl := if i < head then min l (m - i * l) else min l (127 - (i - head) * l)
    let cells := (List.range (nl * 128)).map (fun e =>
      let t := first + e / 128
      let k := e % 128
      if k ≤ t ∧ t - k < m ∧ koff ≤ k ∧ k - koff < n then els.getD ((t - k) * n + (k - koff)) (0, 0) else (0, 0))
    Block.build ⟨tensor, i, listMax (cells.map (·.2)), f.code, false, true, false, decide (nl < l), step⟩
      (packCodes f.width (cells.map (·.1))))

/-- The operands of a product: elements of A and of B row by row, the slice maxima of R72 (as MAXEXP values), and the
anchor. -/
structure MmaOps where
  as : List Elem
  bs : List Elem
  ea : List Nat
  eb : List Nat
  anchor : Option Int
  exceeded : Bool

/-- KEEP in force: the product uses the active tile (R106). -/
def MmaIn.keep (i : MmaIn) : Bool := i.f.keep && i.f.k ≠ 0

/-- Reads the operand elements and fixes the anchor (R72 to R74, R78, R144 to R146). -/
def mmaOps (i : MmaIn) : MmaOps :=
  let f := i.f
  let sn := f.slices
  let ba := (i.a.map viewBlock).toArray
  let bb := (i.b.map viewBlock).toArray
  let sa := (i.asc.map viewBlock).toArray
  let sb := (i.bsc.map viewBlock).toArray
  let ea := match i.passA with
    | some l => (List.range sn).map (fun s => min (l.getD s 0) 0xFE)
    | none => (List.range sn).map (fun s =>
        listMax ((List.range (aSlots f)).map (fun x => (ba.getD (s * aSlots f + x) {}).max)))
  let eb := if i.keep then [i.tile.eb] else match i.passB with
    | some l => (List.range sn).map (fun s => min (l.getD s 0) 0xFE)
    | none => (List.range sn).map (fun s =>
        listMax ((List.range (bSliceBlocks f)).map (fun x => (bb.getD (s * bSliceBlocks f + x) {}).max)))
  { as := (List.range (f.m * f.k)).map (fun x => aElem f ba sa i.nullA (x / f.k) (x % f.k))
    bs := if i.keep || f.k = 0 then [] else
      (List.range (f.k * f.n)).map (fun x => bElem f bb sb i.nullB (x / f.n) (x % f.n))
    ea := ea
    eb := eb
    anchor := if f.k = 0 then none else if f.given then some f.ganchor else anchorOf ea eb
    exceeded := f.given && f.k ≠ 0 && anchorExceeded f.ganchor ea eb }

/-- What accumulation gives: for each output row the 64 output benches and the check bench, each as an exact sum with
the count of its products that R79 changed; the row sums of the weight tile with their counts; and RS. -/
structure MmaAcc where
  rows : List (List (Int × Nat) × (Int × Nat))
  sums : List (Int × Nat)
  rs : Nat

/-- Accumulates the product exactly (R79 to R81, R87 to R89, R100). Without an anchor every bench value is 0 (R73). -/
def mmaAcc (i : MmaIn) (o : MmaOps) : MmaAcc :=
  let f := i.f
  let d := shapeDepth f.shape
  let aA := o.as.toArray
  let bA := o.bs.toArray
  let kept := i.tile.elems.toArray
  let keptSums := i.tile.sums.toArray
  let wrows := (List.range f.k).map (fun k => (List.range 64).map (fun n =>
    if i.keep then (kept.getD (k * 64 + n) .zero).dy
    else if n < f.n then (bA.getD (k * f.n + n) {}).val.dy else (0, 0)))
  let sums := wrows.zipIdx.map (fun p =>
    if i.keep then (keptSums.getD p.2 0, 0)
    else let q := rowSum (o.eb.getD (p.2 / d) 0) p.1; (wrap136 q.1, q.2))
  let cols := (List.range 64).map (fun n => wrows.map (fun r => r.getD n (0, 0)))
  let check := sums.zipIdx.map (fun p => (p.1.1, ((o.eb.getD (p.2 / d) 0 : Nat) : Int) - 255))
  { rows := (List.range f.m).map (fun m =>
      match o.anchor with
      | none => (List.replicate 64 (0, 0), (0, 0))
      | some x =>
        let r := (List.range f.k).map (fun k => (aA.getD (m * f.k + k) {}).val.dy)
        (cols.map (fun c => dotAligned x (r.zip c)), dotAligned x (r.zip check)))
    sums := sums
    rs := if i.keep then i.tile.rs else (sums.map (·.2)).sum }

/-- The OUT count of a tile (R80). -/
def MmaAcc.out (a : MmaAcc) : Nat := (a.rows.map (fun b => (b.1.map (·.2)).sum)).sum

/-- The CHK count of a tile (R80). -/
def MmaAcc.chk (a : MmaAcc) : Nat := (a.rows.map (fun b => b.2.2)).sum

/-- A column is saturated when some bench value of it left the 136-bit range (R81). -/
def MmaAcc.saturated (a : MmaAcc) (n : Nat) : Bool :=
  a.rows.any (fun b => decide (wrap136 (b.1.getD n (0, 0)).1 ≠ (b.1.getD n (0, 0)).1))

/-- D_m of R90 for one row. -/
def checkDiff (r : List (Int × Nat) × (Int × Nat)) : Int :=
  wrap136 ((r.1.map (fun x => wrap136 x.1)).foldl (· + ·) 0 - r.2.1)

/-- The bound of R90. -/
def checkPasses (out chk rs : Nat) (d : Int) : Bool :=
  let t : Int := (ceilDiv rs 131072 : Nat)
  decide (-((out : Int) + t) ≤ d) && decide (d ≤ (chk : Int) + t)

/-- The rows that fail the check of R90, lowest first. -/
def MmaAcc.failing (a : MmaAcc) : List Nat :=
  (a.rows.zipIdx.filter (fun p => !checkPasses a.out a.chk a.rs (checkDiff p.1))).map (·.2)

/-- Element `j` of the parameter block (R150). -/
def pqElem (i : MmaIn) (j : Nat) : Val × Bool :=
  flushIn .fp32 (decodeElem .fp32 (match i.pq with | some b => elemCode .fp32 b.data.toNat j | none => 0))

/-- The scale of column `n` (R51, R150) and whether R47 flushes it. -/
def mmaScale (i : MmaIn) (n : Nat) : Val × Bool :=
  match i.epi.fmt.smode with
  | 1 => flushIn .fp32 (decodeElem .fp32 i.epi.s.toNat)
  | 2 => pqElem i n
  | _ => (.one, false)

/-- The bias of column `n` (R51, R150). -/
def mmaBias (i : MmaIn) (n : Nat) : Val × Bool :=
  match i.epi.fmt.bmode with
  | 1 => flushIn .fp32 (decodeElem .fp32 i.epi.b.toNat)
  | 2 => pqElem i (64 + n)
  | _ => (.zero, false)

/-- The outputs before rounding, row by row (R51, R52, R56, R82, R84). -/
def mmaPre (i : MmaIn) (o : MmaOps) (a : MmaAcc) : List (List PreOut) :=
  let f := i.f
  let aA := o.as.toArray
  let bA := o.bs.toArray
  let lo := (flushIn .fp32 (decodeElem .fp32 i.epi.lo.toNat)).1
  let hi := (flushIn .fp32 (decodeElem .fp32 i.epi.hi.toNat)).1
  let colBad := ((List.range f.n).map (fun n =>
    if i.keep then i.tile.bad.any (fun x => x.n = n && decide (x.k < f.k))
    else (List.range f.k).any (fun k => (bA.getD (k * f.n + n) {}).bad))).toArray
  let satA := ((List.range 64).map a.saturated).toArray
  let q := match o.anchor with | none => 0 | some x => x - 110
  a.rows.zipIdx.map (fun r =>
    let rowBad := (List.range f.k).any (fun k => (aA.getD (r.2 * f.k + k) {}).bad)
    (List.range f.n).map (fun n =>
      if rowBad || colBad.getD n false || !(mmaScale i n).1.isFin || !(mmaBias i n).1.isFin then .nan .input
      else if satA.getD n false then .nan .overflow
      else epiValue (wrap136 (r.1.1.getD n (0, 0)).1, q) (mmaScale i n).1 (mmaBias i n).1 lo hi))

/-- The logical index of output (m, n) for the rounding noise (R152). -/
def mmaIndex (i : MmaIn) (m n : Nat) : Nat :=
  (i.epi.base + i.epi.cstride * i.core + i.epi.rstride * m + n) % 2 ^ 40

/-- The rounding of output (m, n) (R60, R152). -/
def mmaRnd (i : MmaIn) (m n : Nat) : Rnd :=
  if i.epi.fmt.rnd then .stochastic (noise i.seed i.step i.epi.tensor (mmaIndex i m n)) else .nearest

/-- The rounded outputs of each row with the group scales of the row (R51 to R54). -/
def mmaOuts (i : MmaIn) (pre : List (List PreOut)) : List (List OutEl × List Int) :=
  let fo := Fmt.ofCode i.epi.fmt.ofmt
  pre.zipIdx.map (fun r =>
    let ts := if fo.isMX then (runs 32 (r.1.map PreOut.toVal)).map (groupExp fo) else []
    let ta := ts.toArray
    (r.1.zipIdx.map (fun p => roundOut fo (mmaRnd i r.2 p.2) (ta.getD (p.2 / 32) 0) p.1), ts))

/-- The non-finite events of a product in the order in which its outputs leave the epilogue (R64, R65, R602). -/
def mmaTraps (i : MmaIn) (o : MmaOps) (rows : List (List OutEl × List Int)) (reds : List (FpRes × FpRes))
    (redIndex : Nat) : List Eff :=
  let f := i.f
  let e := i.epi
  let fo := Fmt.ofCode e.fmt.ofmt
  let aA := o.as.toArray
  let bA := o.bs.toArray
  let time (m : Nat) : Nat :=
    if f.afmt ≤ 1 || f.bfmt ≤ 1 then 2 * m else if f.afmt = 7 && f.bfmt = 7 then m / 2 else m
  let aCons (m : Nat) : List Eff := (List.range f.k).filterMap (fun k =>
    let x := aA.getD (m * f.k + k) {}
    if x.bad then some (epiTrap x.tensor x.index .input f.afmt m 0) else none)
  let bCons (n : Nat) : List Eff := (List.range f.k).filterMap (fun k =>
    let x := bA.getD (k * f.n + n) {}
    if x.bad then some (epiTrap x.tensor x.index .input f.bfmt 0 n) else none)
  -- each bad group scale once, at the first output that its group feeds
  let scaleCons (l : List (Elem × Nat × Nat)) (row col : Nat) : List Eff :=
    l.zipIdx.filterMap (fun p =>
      match p.1.1.badScale with
      | none => none
      | some (g, t, b) =>
        let same (q : Elem × Nat × Nat) : Bool := match q.1.badScale with | some (g', _, _) => g' = g | none => false
        let mine := l.filter same
        let r0 := mine.foldl (fun acc q => min acc q.2.1) p.1.2.1
        let c0 := mine.foldl (fun acc q => min acc q.2.2) p.1.2.2
        if !((l.take p.2).any same) && r0 = row && c0 = col then some (epiTrap t b .input 8 row col) else none)
  let badA := (o.as.zipIdx.filter (fun p => p.1.badScale ≠ none)).map (fun p => (p.1, p.2 / f.k, 0))
  let badB := (o.bs.zipIdx.filter (fun p => p.1.badScale ≠ none)).map (fun p => (p.1, 0, p.2 % f.n))
  let pqHdr : Hdr := match i.pq with | some b => b.h | none => Hdr.ofBits 0
  let setupCons (n : Nat) : List Eff :=
    (if e.fmt.smode = 2 && !(mmaScale i n).1.isFin then [epiTrap pqHdr.tensor pqHdr.index .input 2 0 n] else []) ++
    (if e.fmt.bmode = 2 && !(mmaBias i n).1.isFin then [epiTrap pqHdr.tensor pqHdr.index .input 2 0 n] else []) ++
    (if n = 0 && e.fmt.smode = 1 && !(mmaScale i 0).1.isFin then [epiTrap e.tensor 0xFFFFFF .input 2 0 0] else []) ++
    (if n = 0 && e.fmt.bmode = 1 && !(mmaBias i 0).1.isFin then [epiTrap e.tensor 0xFFFFFF .input 2 0 0] else [])
  let prod (m n : Nat) (x : OutEl) : List Eff :=
    if x.r.val.isFin then []
    else match (if x.cause = .input && i.keep then i.tile.bad.find? (fun y => y.n = n && decide (y.k < f.k)) else none) with
      | some y => [epiTrap y.tensor y.index .input y.fmt m n]
      | none => [epiTrap e.tensor ((m * f.n + n) / fo.perBlock) x.cause fo.code m n]
  let rowEv := rows.zipIdx.map (fun p =>
    (time p.2, effCat (p.1.1.zipIdx.map (fun x =>
      scaleCons badA p.2 x.2 ++ scaleCons badB p.2 x.2 ++
      (if x.2 = 0 then aCons p.2 else []) ++ (if p.2 = 0 then bCons x.2 else []) ++
      (if p.2 = 0 then setupCons x.2 else []) ++ prod p.2 x.2 x.1))))
  let redEv := reds.zipIdx.map (fun p =>
    (time p.2 + 4, [p.1.1, p.1.2].filterMap (fun r =>
      if r.val.isFin then none else some (epiTrap e.tensor redIndex r.cause 2 p.2 0))))
  effCat ((mergeTimed redEv rowEv (redEv.length + rowEv.length)).map (·.2))

/-- The weight tile that is active after a product (R106): the last slice that it loaded. -/
def mmaTile (i : MmaIn) (o : MmaOps) (a : MmaAcc) : Tile :=
  let f := i.f
  if i.keep || f.k = 0 then i.tile
  else
    let bA := o.bs.toArray
    let lo := (f.slices - 1) * shapeDepth f.shape
    { elems := ((List.range (f.k - lo)).map (fun k => (List.range 64).map (fun n =>
        if n < f.n then (bA.getD ((lo + k) * f.n + n) {}).val else .zero))).flatten
      sums := (a.sums.drop lo).map (·.1)
      eb := o.eb.getD (f.slices - 1) 0
      rs := ((a.sums.drop lo).map (·.2)).sum
      bad := o.bs.zipIdx.filterMap (fun p =>
        if p.1.bad && decide (lo ≤ p.2 / f.n) then
          some (match p.1.badScale with
            | some (_, t, b) => ⟨p.2 / f.n - lo, p.2 % f.n, t, b, 8⟩
            | none => ⟨p.2 / f.n - lo, p.2 % f.n, p.1.tensor, p.1.index, f.bfmt⟩)
        else none)
      ctx := i.ctx
      gen := i.gen }

/-- Elements that R47 flushes on input: operand elements, scales, biases and clip bounds that the product uses. -/
def mmaInFlushes (i : MmaIn) (o : MmaOps) : Nat :=
  let perCol (mode : Nat) (g : Nat → Val × Bool) : Nat :=
    if mode = 1 then b2n (g 0).2
    else if mode = 2 then ((List.range i.f.n).filter (fun n => (g n).2)).length else 0
  (o.as.filter (·.flushed)).length + (o.bs.filter (·.flushed)).length
    + perCol i.epi.fmt.smode (mmaScale i) + perCol i.epi.fmt.bmode (mmaBias i)
    + b2n (flushIn .fp32 (decodeElem .fp32 i.epi.lo.toNat)).2
    + b2n (flushIn .fp32 (decodeElem .fp32 i.epi.hi.toNat)).2

/-- The matrix product of R144: everything from the popped blocks to the pushes, the tile and the effects. -/
def mma (i : MmaIn) : MmaOut :=
  let f := i.f
  let e := i.epi
  let fo := Fmt.ofCode e.fmt.ofmt
  let o := mmaOps i
  let a := mmaAcc i o
  let outN := a.out
  let chkN := a.chk
  let newRs := if i.keep then 0 else a.rs
  let faults := (o.as.filter (fun x => decide (x.max < x.exp))).length
    + (o.bs.filter (fun x => decide (x.max < x.exp))).length
  let satN := ((List.range 64).filter a.saturated).length
  let skip := o.exceeded && a.rs ≠ 0
  let failing := if skip then [] else a.failing
  let firstBad := match failing with | [] => 0xFF | r :: _ => r
  let fault := decide (faults ≠ 0)
  let fail := !failing.isEmpty || fault
  let rows := mmaOuts i (mmaPre i o a)
  let outs := (rows.map (·.1)).flatten
  let reds := if e.fmt.rqen then rows.map (fun r => rowReduce (r.1.map (fun x => x.r.val))) else []
  let tag := i.step % 2 ^ 16
  let cell (x : OutEl) : Nat × Nat := (x.r.code, elemMaxExp fo x.r.val)
  let stream := if e.fmt.opq then
      some (operandStream fo e.tensor tag f.m f.n (if e.fmt.koff then 64 else 0) ((outs.map cell).toArray))
    else none
  let before (q : Nat) (l : List (Nat × Block)) : Nat :=
    (l.filter (fun p => p.1 = q)).length + (if e.fmt.oq = q then (stream.map (·.length)).getD 0 else 0)
  let o1 := if e.fmt.opq then [] else (buildBlocks fo e.tensor 0 tag false (outs.map cell)).map (fun b => (e.fmt.oq, b))
  let o2 := o1 ++ (if fo.isFp8 then
      (buildBlocks .e8m0 (e.tensor ||| 2 ^ 23) (before e.fmt.osq o1) tag false
        ((rows.map (fun r => r.2.map (fun t => ((t + 127).toNat, max 1 (t + 127).toNat)))).flatten)).map
        (fun b => (e.fmt.osq, b))
    else [])
  let redIndex := before e.fmt.rq o2
  let f32 (v : Val) : Nat × Nat := ((roundIeee .fp32 .nearest v).code, elemMaxExp .fp32 v)
  let o3 := o2 ++ (if e.fmt.rqen then
      (buildBlocks .fp32 e.tensor redIndex tag false
        ((reds.map (fun p => [f32 p.1.val, f32 p.2.val])).flatten)).map (fun b => (e.fmt.rq, b))
    else [])
  let word := statusWord o.anchor (outN + chkN + a.rs) failing.length firstBad satN skip f.given o.exceeded fault fail
  let o4 := o3 ++ (if e.fmt.sten then
      [(e.fmt.stq,
        Block.build ⟨e.tensor, before e.fmt.stq o3, 0, Fmt.raw.code, false, false, false, false, tag⟩ word)]
    else [])
  let wide := f.afmt ≤ 1 || f.bfmt ≤ 1
  let fp4 := f.afmt = 7 && f.bfmt = 7
  { out := o4
    stream := stream
    tile := mmaTile i o a
    effs := mmaTraps i o rows reds redIndex
      ++ effCount K.INPUT_FLUSHES (mmaInFlushes i o)
      ++ effCount K.OUTPUT_FLUSHES
          ((outs.filter (fun x => x.r.flush)).length + (reds.map (fun p => b2n p.1.flush + b2n p.2.flush)).sum)
      ++ effCount K.CONVERT_SATURATIONS (outs.filter (fun x => x.r.sat)).length
      ++ effCount K.BELOW_WINDOW_PRODUCTS (outN + chkN + newRs)
      ++ effCount K.BENCH_SATURATIONS satN
      ++ effCount K.EXPONENT_FAULTS faults
      ++ effCount K.ANCHOR_EXCEEDED_TILES (b2n o.exceeded)
      ++ effCount K.CHECKED_TILES (b2n (!skip))
      ++ (if fail then [.count K.CHECK_MISMATCH_TILES 1, .checkFail, .event 0x02 (i.id <<< 24 + firstBad)] else [])
      ++ [.core 2 (if fp4 then f.slices * ceilDiv f.m 2 else f.slices * f.m),
          .core (if wide then 5 else if fp4 then 3 else 4) (f.m * f.k * f.n),
          .core 6 1, .core 7 (b2n (!skip)), .core 8 (outN + chkN + newRs)] }

/-- Blocks of a declared format whose header names another (R146): one count and one event each. -/
def mismatches (q declared id : Nat) (bs : List Block) : List Eff :=
  bs.foldr (fun b acc =>
    if b.h.fmt = declared then acc
    else .count K.FORMAT_MISMATCH_BLOCKS 1 ::
      .event 0x03 (q <<< 38 + declared <<< 34 + b.h.fmt <<< 30 + id) :: acc) []

end Sys2Proof.Machine
end

