-- ==== Sys2Proof/Machine/Vector.lean ====
section
/-!
DEFINITION. The vector unit's instructions (R57, R58, R152 to R158, R603).
-/

namespace Sys2Proof.Machine

/-- Is source `x` (0 a, 1 b, 2 c) used by the operation (the table under R155)? -/
def vecUses (o : Op) (x : Nat) : Bool :=
  match o with
  | .vfma | .vsel => true
  | .vexp2 | .vlog2 | .vrcp | .vrsqrt => x = 0
  | _ => x ≤ 1

/-- Kind, queue and negation of source `x`. -/
def VecF.src (f : VecF) (x : Nat) : Nat × Nat × Bool :=
  match x with
  | 0 => (f.ak, f.aq, f.aneg)
  | 1 => (f.bk, f.bq, f.bneg)
  | _ => (f.ck, f.cq, f.cneg)

/-- The destination format (DFMT of the vector map). -/
def VecF.fmt (f : VecF) : Fmt := match f.dfmt with | 1 => .bf16 | 2 => .fp16 | _ => .fp32

/-- Formats that the vector unit decodes (R155). -/
def Fmt.vectorSource : Fmt → Bool
  | .bf16 | .fp16 | .fp32 | .ul8 => true
  | _ => false

/-- A source element of a vector or convert instruction: the value used, whether it is not finite, whether R47 counts
a flush, and the header of its block. -/
structure SrcEl where
  val : Val := .zero
  bad : Bool := false
  flushed : Bool := false
  tensor : Nat := 0
  index : Nat := 0
  fmt : Nat := 2
deriving DecidableEq, Repr

/-- The elements that one block supplies to a vector source (R154, R155). -/
def vecBlockElems (b : Block) : List SrcEl :=
  let h := b.h
  let f := Fmt.ofCode h.fmt
  let d := b.data.toNat
  (List.range f.perBlock).map (fun j =>
    if f.vectorSource then
      let p := flushIn f (decodeElem f (elemCode f d j))
      ⟨p.1, !p.1.isFin, p.2, h.tensor, h.index, h.fmt⟩
    else ⟨.nan, true, false, h.tensor, h.index, h.fmt⟩)

/-- Elements supplied by the blocks read so far (R155). -/
def vecSupply (bs : List Block) : Nat := (bs.map (fun b => b.fmt.perBlock)).sum

/-- What a vector instruction reads. -/
structure VecIn where
  op : Op
  f : VecF
  core : Nat
  keys : Keys
  seed : Nat
  step : Nat
  /-- blocks of each queue that a source names -/
  blocks : Nat → List Block

/-- The elements of source `x` for j = 0 to COUNT − 1: the immediate in every element (kind 2; it has no block, so
its record names the unit's TENSOR and block 0xFFFFFF), +0 from the null queue (R127), or the blocks' elements. -/
def vecSource (i : VecIn) (x : Nat) : List SrcEl :=
  let (kind, q, neg) := i.f.src x
  let raw : List SrcEl :=
    if kind = 2 then
      let p := flushIn .fp32 (decodeElem .fp32 i.f.imm)
      List.replicate i.f.count ⟨p.1, !p.1.isFin, p.2, i.keys.tensor, 0xFFFFFF, 2⟩
    else if q = 63 then List.replicate i.f.count {}
    else (((i.blocks q).map vecBlockElems).flatten).take i.f.count
  raw.map (fun e => { e with val := e.val.negIf neg })

/-- One FP32 result (R57, R58 and the table under R155). -/
def vecOp (o : Op) (a b c : Val) : FpRes :=
  let pick (v : Val) : FpRes := ⟨v, false, if v.isFin then .none else .input⟩
  match o with
  | .vadd => addF32 a b
  | .vsub => addF32 a b.neg
  | .vmul => mulF32 a b
  | .vfma => fmaF32 a b c
  | .vmax => pick (maxVal a b)
  | .vmin => pick (minVal a b)
  | .vsel => if a.isNan then ⟨.nan, false, .input⟩ else if Val.zero.le a then pick b else pick c
  | .vexp2 => exp2F32 a
  | .vlog2 => log2F32 a
  | .vrcp => rcpF32 a
  | .vrsqrt => rsqrtF32 a
  | _ => mulF32 a b

/-- The result rounded once more into DFMT (R154): code, value, flush count and cause. -/
def vecFinish (f : Fmt) (rnd : Rnd) (r : FpRes) : Rounded × Nat × Cause :=
  if f = .fp32 then
    (roundIeee .fp32 .nearest r.val, b2n r.flush, if r.val.isFin then .none else r.cause)
  else
    let x := roundIeee f rnd r.val
    (x, b2n r.flush + b2n x.flush, if x.val.isFin then .none else if r.val.isFin then .overflow else r.cause)

/-- Carries the cause of a value that was already not finite through an operation that only passes it on. -/
def carry (old : FpRes) (new : FpRes) : FpRes :=
  if new.cause = .input && !old.val.isFin then { new with cause := old.cause } else new

/-- Lane `l` of VDOT (R156): the products of every j with j mod 256 = l, in increasing j. The second component counts
flushes. -/
def dotLane (ps : List (Val × Val)) : FpRes × Nat :=
  ps.foldl (fun acc p =>
    let r := fmaF32 p.1 p.2 acc.1.val
    (carry acc.1 r, acc.2 + b2n r.flush)) (⟨.zero, false, .none⟩, 0)

/-- One pairwise level of VDOT (R156), lower lane first. -/
def dotLevel : List (FpRes × Nat) → List (FpRes × Nat)
  | (a, n) :: (b, m) :: r =>
    let s := addF32 a.val b.val
    let s := if !a.val.isFin then carry a s else carry b s
    (s, n + m + b2n s.flush) :: dotLevel r
  | l => l

/-- VDOT's sum over the element pairs (R156). -/
def dotSum (ps : List (Val × Val)) : FpRes × Nat :=
  let arr := ps.toArray
  let n := ps.length
  let lanes := (List.range 256).map (fun l =>
    dotLane ((List.range (ceilDiv (n - l) 256)).map (fun i => arr.getD (256 * i + l) (.zero, .zero))))
  let l8 := dotLevel (dotLevel (dotLevel (dotLevel (dotLevel (dotLevel (dotLevel (dotLevel lanes)))))))
  l8.headD (⟨.zero, false, .none⟩, 0)

/-- A non-finite event of the vector unit (R65, R602). -/
def vecTrap (tensor index : Nat) (c : Cause) (fmt row : Nat) : Eff :=
  .nonfinite ⟨tensor, index, .vector, c, fmt, row, 0⟩

/-- The sources whose elements an instruction counts: each queue once (R132, R47), every immediate by itself. -/
def vecCounted (i : VecIn) : List Nat :=
  ([0, 1, 2].filter (vecUses i.op)).filter (fun x =>
    let (k, q, _) := i.f.src x
    k = 2 || !([0, 1, 2].any (fun y => decide (y < x) && vecUses i.op y && (i.f.src y).1 ≠ 2 && (i.f.src y).2.1 = q)))

/-- Input flushes that R47 counts: queue elements, and an immediate once per instruction. -/
def vecInFlushes (i : VecIn) : Nat :=
  let qs := (vecCounted i).filter (fun x => (i.f.src x).1 ≠ 2)
  let imm := ([0, 1, 2].filter (vecUses i.op)).any (fun x => (i.f.src x).1 = 2)
  (qs.map (fun x => ((vecSource i x).filter (·.flushed)).length)).sum
    + (if imm then b2n (flushIn .fp32 (decodeElem .fp32 i.f.imm)).2 else 0)

/-- A vector instruction with COUNT above 0: its pushes to DQ and its effects (R154 to R156, R603). -/
def vec (i : VecIn) : List Block × List Eff :=
  let f := i.f
  let a := (vecSource i 0).toArray
  let b := (if vecUses i.op 1 then vecSource i 1 else []).toArray
  let c := (if vecUses i.op 2 then vecSource i 2 else []).toArray
  let get (s : Array SrcEl) (j : Nat) : Val := (s.getD j {}).val
  let srcs := (vecCounted i).map (fun x => if x = 0 then a else if x = 1 then b else c)
  let consumed (j : Nat) : List Eff := srcs.filterMap (fun s =>
    let e := s.getD j {}
    if e.bad then some (vecTrap e.tensor e.index .input e.fmt (j % 256)) else none)
  let fd := f.fmt
  let tag := i.step % 2 ^ 16
  let produced (j : Nat) (r : Rounded × Nat × Cause) : List Eff :=
    if r.1.val.isFin then []
    else [vecTrap i.keys.tensor (j / fd.perBlock) r.2.2 fd.code (j % 256)]
  if i.op = .vdot then
    let s := dotSum ((List.range f.count).map (fun j => (get a j, get b j)))
    let r := vecFinish .fp32 .nearest s.1
    (buildBlocks .fp32 i.keys.tensor 0 tag false ((r.1.code, elemMaxExp .fp32 r.1.val) :: List.replicate 511 (0, 0)),
     effCat ((List.range f.count).map consumed) ++ produced 0 r
       ++ effCount K.INPUT_FLUSHES (vecInFlushes i) ++ effCount K.OUTPUT_FLUSHES s.2 ++ [.core 9 f.count])
  else
    let rnd (j : Nat) : Rnd :=
      if f.rnd then
        .stochastic (noise i.seed i.step i.keys.tensor ((i.keys.base + i.keys.cstride * i.core + j) % 2 ^ 40))
      else .nearest
    let rs := (List.range f.count).map (fun j => vecFinish fd (rnd j) (vecOp i.op (get a j) (get b j) (get c j)))
    let special := i.op = .vexp2 || i.op = .vlog2 || i.op = .vrcp || i.op = .vrsqrt
    (buildBlocks fd i.keys.tensor 0 tag false (rs.map (fun r => (r.1.code, elemMaxExp fd r.1.val))),
     effCat (rs.zipIdx.map (fun r => consumed r.2 ++ produced r.2 r.1))
       ++ effCount K.INPUT_FLUSHES (vecInFlushes i)
       ++ effCount K.OUTPUT_FLUSHES ((rs.map (fun r => r.2.1)).sum)
       ++ [.core (if special then 10 else 9) f.count])

/-! ### Convert -/

/-- What a CVT reads. -/
structure CvtIn where
  f : CvtF
  id : Nat
  core : Nat
  keys : Keys
  seed : Nat
  step : Nat
  src : List Block
  scales : List Block

/-- The source elements of a CVT (R159): decoded as SFMT under their group scales; +0 from the null queue (R127). -/
def cvtSource (i : CvtIn) : List SrcEl :=
  let f := Fmt.ofCode i.f.sfmt
  if i.f.sq = 63 then List.replicate i.f.count { fmt := i.f.sfmt }
  else
    let bs := (i.src.map viewBlock).toArray
    let ss := (i.scales.map viewBlock).toArray
    (List.range i.f.count).map (fun j =>
      let v := bs.getD (j / f.perBlock) {}
      let raw := decodeElem f (elemCode f v.data (j % f.perBlock))
      let el (p : Val × Bool) : SrcEl := ⟨p.1, !p.1.isFin, p.2, v.h.tensor, v.h.index, v.h.fmt⟩
      match groupScaleOf f.isMX (decide (i.f.ssq = 63)) ss (j / 32) with
      | none => el (flushIn f raw)
      | some none => el (.zero, false)
      | some (some (s, _, _)) => el (flushIn f (scaleElem s raw)))

/-- The header of the scale block that gives source group `g` of a CVT the scale 0xFF, which it consumes beside the
group's elements (R43, R64). -/
def cvtBadScale (i : CvtIn) (g : Nat) : Option Hdr :=
  if i.f.sq = 63 then none
  else
    match groupScaleOf (Fmt.ofCode i.f.sfmt).isMX (decide (i.f.ssq = 63)) ((i.scales.map viewBlock).toArray) g with
    | some (some (255, _, h)) => some h
    | _ => none

/-- One group of an MX destination: the scale code, and for each element its rounding (R54, R59). -/
def cvtGroup (f : Fmt) (rnds : List Rnd) (vs : List Val) : Nat × List Rounded :=
  let p := largestMag vs
  let t := groupScale f p.1 p.2
  let small := !f.isFp8
  let nanScale := small && vs.any (fun v => !v.isFin)
  let one (r : Rnd) (v : Val) : Rounded :=
    match v with
    | .fin _ _ _ =>
      let x := roundMX f r t v
      if nanScale then { x with val := .nan } else x
    | .nan => if small then ⟨(Config.convertSpecial f.code 0).toNat % 2 ^ f.width, .nan, false, false, false⟩
        else ⟨f.canonNan, .nan, false, false, false⟩
    | .inf n =>
      if small then ⟨(Config.convertSpecial f.code (if n then 2 else 1)).toNat % 2 ^ f.width, .nan, false, false, false⟩
      else if f = .e5m2 then ⟨infCode f.shape n, .inf n, false, false, false⟩
      else ⟨f.canonNan, .nan, false, false, false⟩
  (if nanScale then 255 else (t + 127).toNat, (rnds.zip vs).map (fun x => one x.1 x.2))

/-- A CVT with COUNT above 0: pushes to DQ and DSQ, and effects (R159, R600, R601, R603). -/
def cvt (i : CvtIn) : List (Nat × Block) × List Eff :=
  let f := i.f
  let fd := Fmt.ofCode f.dfmt
  let src := cvtSource i
  let rnd (j : Nat) : Rnd :=
    if f.rnd then
      .stochastic (noise i.seed i.step i.keys.tensor ((i.keys.base + i.keys.cstride * i.core + j) % 2 ^ 40))
    else .nearest
  let plain (j : Nat) (v : Val) : Rounded :=
    match fd with
    | .ul8 => encodeUL8 v
    | .e8m0 => encodeE8M0 (rnd j) v
    | _ => roundIeee fd (rnd j) v
  let gs := (runs 32 src).zipIdx
  let groups := if fd.isMX then
      gs.map (fun g => cvtGroup fd ((List.range 32).map (fun k => rnd (32 * g.2 + k))) (g.1.map (·.val)))
    else gs.map (fun g => (0, g.1.zipIdx.map (fun e => plain (32 * g.2 + e.2) e.1.val)))
  let tag := i.step % 2 ^ 16
  let cause (s : SrcEl) (r : Rounded) : Cause :=
    if s.bad then .input else if r.ovf && !fd.isIeee then .invalid else if r.ovf then .overflow else .input
  let trap (t b : Nat) (c : Cause) (fmt j : Nat) : Eff := .nonfinite ⟨t, b, .convert, c, fmt, j % 256, 0⟩
  let evs := (gs.zip groups).map (fun p =>
    (match cvtBadScale i p.1.2 with
      | some h => [trap h.tensor h.index .input h.fmt (32 * p.1.2)]
      | none => [])
    ++ effCat (((p.1.1.zip p.2.2).zipIdx).map (fun e =>
      let j := 32 * p.1.2 + e.2
      (if e.1.1.bad then [trap e.1.1.tensor e.1.1.index .input e.1.1.fmt j] else [])
      ++ (if e.1.2.val.isFin then []
        else [trap i.keys.tensor (j / fd.perBlock) (cause e.1.1 e.1.2) fd.code j]))))
  let all := (groups.map (·.2)).flatten
  let els := buildBlocks fd i.keys.tensor 0 tag false (all.map (fun r => (r.code, elemMaxExp fd r.val)))
  let first := if f.dsq = f.dq then els.length else 0
  let scs := if fd.isMX then
      buildBlocks .e8m0 (i.keys.tensor ||| 2 ^ 23) first tag false
        (groups.map (fun g => (g.1, elemMaxExp .e8m0 (decodeElem .e8m0 g.1))))
    else []
  (els.map (fun b => (f.dq, b)) ++ scs.map (fun b => (f.dsq, b)),
   effCat evs ++ effCount K.INPUT_FLUSHES (src.filter (·.flushed)).length
     ++ effCount K.OUTPUT_FLUSHES (all.filter (·.flush)).length
     ++ effCount K.CONVERT_SATURATIONS (all.filter (·.sat)).length
     ++ [.core 11 f.count])

end Sys2Proof.Machine
end

