-- ==== Sys2Proof/Machine/CoreRun.lean ====
section
/-!
DEFINITION. How a core's units work off the instructions that they hold: queue ends (R126 to R138), order between
units (R133, R139, R141), products, vector and convert instructions and queue control.
-/

namespace Sys2Proof.Machine

/-! ### Effects -/

/-- A trap record (R65). -/
def State.trapRecord (s : State) (k : Nat) (j : Job) (stepNo : Nat) (e : TrapEv) : BitVec 256 :=
  BitVec.ofNat 256 ((s.now % 2 ^ 64) <<< 192 + (stepNo % 2 ^ 32) <<< 160 + (e.tensor % 2 ^ 24) <<< 136
    + (e.index % 2 ^ 24) <<< 112 + (insId j.word.toNat) <<< 96 + (j.pc % 4096) <<< 84 + j.ctx <<< 80 + j.gen <<< 68
    + k <<< 60 + e.unit.code <<< 56 + e.cause.code <<< 52 + (e.fmt % 16) <<< 48 + (e.row % 256) <<< 40
    + (e.col % 256) <<< 32 + 1)

/-- An event takes the place of the recorded one when both have one time stamp, another unit met it (a unit of a core meets
its events one after the other), and its DIE, CLUSTER, CORE, ROW and COLUMN come first (R65; log entry 18). `w` is its
record, `r` the one that is held. -/
def trapBefore (w r : Nat) : Bool :=
  let place (v : Nat) : Nat := bits v 67 60 <<< 16 + bits v 47 32
  let met (v : Nat) : Nat := bits v 67 60 <<< 1 + b2n (bits v 59 56 = 1)
  bits w 255 192 = bits r 255 192 && met w ≠ met r && decide (place w < place r)

/-- A non-finite event (R64 to R66): counted, charged to the open step, and recorded when it is the first. -/
def State.nonfinite (s : State) (k : Nat) (j : Job) (e : TrapEv) : State :=
  let s := (s.bump K.NONFINITE_EVENTS 1).modCx j.ctx (fun c => c.charge (fun t => { t with nonfinite := true }))
  match (s.cx j.ctx).openStep with
  | none => s
  | some t =>
    let r := (s.cx j.ctx).trap.toNat
    let w := s.trapRecord k j t.num e
    if bit r 0 then
      let r' := if trapBefore w.toNat r then setBits w.toNat 31 16 (bits r 31 16) else r
      s.modCx j.ctx (fun c => { c with trap := BitVec.ofNat 256 (setBits r' 31 16 (min (bits r' 31 16 + 1) 0xFFFF)) })
    else
      let s := s.modCx j.ctx (fun c => { c with trap := w })
      if s.par K.NAN_TRAP_ACTION = 1 then s.stopCtx j.ctx else s

/-- Adds to an event count of a core (R505, R506). -/
def Core.countEv (c : Core) (code n : Nat) : Core := { c with evc := Tbl.put c.evc 0 code (Tbl.get c.evc 0 code + n) }

/-- Applies one effect of an instruction of core `k`. -/
def State.applyEff (k : Nat) (j : Job) (s : State) (e : Eff) : State :=
  match e with
  | .count key n => s.bump key n
  | .countFree key => let d := s.draw; d.2.bump key d.1
  | .countMost key most => let d := s.draw; d.2.bump key (d.1 % (most + 1))
  | .nonfinite e => s.nonfinite k j e
  | .event code detail => s.event (k / 8) code (j.ctx <<< 52 + k <<< 44 + detail)
  | .checkFail =>
    let s := s.modCx j.ctx (fun c => c.charge (fun t => { t with checks := t.checks + 1 }))
    if s.par K.CHECK_MISMATCH_ACTION = 1 then s.stopCtx j.ctx else s
  | .core code n => s.modCo k (fun c => c.countEv code n)

/-- Applies the effects of an instruction in order. -/
def State.applyEffs (s : State) (k : Nat) (j : Job) (es : List Eff) : State := es.foldl (fun s e => s.applyEff k j e) s

/-- Adds an amount that timing decides to a counter and to the core's event count (R105, R138). -/
def State.stalls (s : State) (k key code : Nat) : State :=
  let d := s.draw
  (d.2.bump key d.1).modCo k (fun c => c.countEv code d.1)

/-! ### Queues -/

/-- Queue `q` of a core. -/
def Core.queue (c : Core) (q : Nat) : Queue := Tbl.get c.queues {} q

/-- Replaces queue `q`. -/
def Core.setQueue (c : Core) (q : Nat) (x : Queue) : Core := { c with queues := Tbl.put c.queues {} q x }

/-- Block slot of the `i`-th block from the head. -/
def Queue.slot (x : Queue) (i : Nat) : Nat := x.base + (x.head + i) % x.size

/-- The `i`-th block from the head of queue `q`. -/
def Core.peek (c : Core) (q i : Nat) : Block := Tbl.get c.slots Block.null ((c.queue q).slot i)

/-- Removes the oldest block of queue `q`. -/
def Core.pop (c : Core) (q : Nat) : Core :=
  let x := c.queue q
  c.setQueue q { x with head := (x.head + 1) % x.size, count := x.count - 1 }

/-- Is there a free slot in queue `q`? -/
def Core.room (c : Core) (q : Nat) : Bool := decide ((c.queue q).count < (c.queue q).size)

/-- Puts a block at the end of queue `q`, which has a free slot (R128); an operand stream that ended there is no longer
the queue's last (R114). -/
def Core.put (c : Core) (q : Nat) (b : Block) : Core :=
  let x := c.queue q
  { c with
    slots := Tbl.put c.slots Block.null (x.slot x.count) b
    half := Tbl.put c.half {} q {} }.setQueue q { x with count := x.count + 1 }

/-- Empties queue `q` and gives it a new layout (R137, R170); a peek in progress goes on from the new head. -/
def Core.resetQueue (c : Core) (q : Nat) (x : Queue) : Core :=
  { c.setQueue q x with
    half := Tbl.put c.half {} q {}
    jobs := c.jobs.map (fun j => { j with off := Tbl.put j.off 0 q (Tbl.get j.got [] q).length }) }

/-! ### What an instruction reads and pushes -/

/-- How many blocks an instruction takes from a queue: a number of blocks, or as many as supply a number of elements
(R155). -/
inductive Need
  | blocks (n : Nat)
  | elems (n : Nat)
deriving DecidableEq, Repr

/-- Are the blocks read so far enough? -/
def Need.enough : Need → List Block → Bool
  | .blocks n, l => decide (n ≤ l.length)
  | .elems n, l => decide (n ≤ vecSupply l)

/-- The larger of two needs of one queue (R132). -/
def Need.max : Need → Need → Need
  | .blocks a, .blocks b => .blocks (Nat.max a b)
  | .elems a, .elems b => .elems (Nat.max a b)
  | a, _ => a

/-- One queue that an instruction reads: whether it pops or peeks (R129, R130). -/
structure QRead where
  q : Nat
  need : Need
  pop : Bool
deriving DecidableEq, Repr

/-- Sources that name one queue are one read, which pops when either does (R132). -/
def mergeReads : List QRead → List QRead
  | [] => []
  | r :: l =>
    let l' := mergeReads l
    match l'.find? (fun x => x.q = r.q) with
    | none => r :: l'
    | some x => { r with need := r.need.max x.need, pop := r.pop || x.pop } :: l'.filter (fun y => y.q ≠ r.q)

/-- The queues that an instruction reads, under the epilogue setup `e` in force for a product. -/
def jobReads (w : Nat) (u : CoreUnit) (e : EpiFmtF) : List QRead :=
  let raw : List QRead :=
    match insOp w with
    | some .mma =>
      let f := mmaF w
      [⟨f.aq, .blocks (aBlocks f), !f.apeek⟩, ⟨f.asq, .blocks (aScaleBlocks f), !f.apeek⟩,
       ⟨f.bq, .blocks (bBlocks f), !f.bpeek⟩, ⟨f.bsq, .blocks (bScaleBlocks f), !f.bpeek⟩,
       ⟨e.pq, .blocks (if f.k ≠ 0 && (e.smode = 2 || e.bmode = 2) then 1 else 0), !e.pqpeek⟩]
    | some .cvt =>
      let f := cvtF w
      [⟨f.sq, .blocks (ceilDiv f.count (Fmt.ofCode f.sfmt).perBlock), !f.speek⟩,
       ⟨f.ssq, .blocks (if (Fmt.ofCode f.sfmt).isMX then ceilDiv (ceilDiv f.count 32) 2048 else 0), !f.speek⟩]
    | some .qmove => let f := qmoveF w; [⟨f.sq, .blocks f.count, !f.peek⟩]
    | some .qdrop => [⟨bits w 95 90, .blocks (bits w 89 74), true⟩]
    | some o =>
      if u = .vector && o.isVector then
        let f := vecF w
        (([0, 1, 2].filter (vecUses o)).filter (fun x => (f.src x).1 ≤ 1)).map (fun x =>
          ⟨(f.src x).2.1, .elems f.count, decide ((f.src x).1 = 0)⟩)
      else []
    | none => []
  mergeReads (raw.filter (fun r => r.need ≠ .blocks 0 && r.need ≠ .elems 0))

/-- The core that a QMOVE of core `k` names (R171). -/
def qmoveDst (k w : Nat) : Nat :=
  let f := qmoveF w
  64 * f.die + 8 * f.cluster + (if f.crel then k % 8 else f.core)

/-- The queues of its own core `k` that an instruction pushes (R148, R154, R159, R171). -/
def jobPushes (k w : Nat) (u : CoreUnit) (e : EpiFmtF) : List Nat :=
  match insOp w with
  | some .qmove =>
    let f := qmoveF w
    if f.count ≠ 0 && qmoveDst k w = k then [f.dq] else []
  | some .mma =>
    e.oq :: (if (Fmt.ofCode e.ofmt).isFp8 then [e.osq] else []) ++ (if e.rqen then [e.rq] else [])
      ++ (if e.sten then [e.stq] else [])
  | some .cvt =>
    let f := cvtF w
    if f.count = 0 then [] else f.dq :: (if (Fmt.ofCode f.dfmt).isMX then [f.dsq] else [])
  | some o => if u = .vector && o.isVector && (vecF w).count ≠ 0 then [(vecF w).dq] else []
  | none => []

/-- EPI.* with TARGET 0 on the array's setup (R149). -/
def epiSet (e : Epi) (w : Nat) : Epi :=
  match insOp w with
  | some .epiFmt => { e with fmt := epiFmtF w }
  | some .epiScale => { e with s := BitVec.ofNat 32 (bits w 95 64), b := BitVec.ofNat 32 (bits w 63 32) }
  | some .epiClip => { e with lo := BitVec.ofNat 32 (bits w 95 64), hi := BitVec.ofNat 32 (bits w 63 32) }
  | some .epiKeys => { e with tensor := bits w 94 71, base := bits w 70 31 }
  | some .epiStride => { e with rstride := bits w 94 64, cstride := bits w 63 33, advance := bits w 32 2 }
  | _ => e

/-- EPI.KEYS and EPI.STRIDE with TARGET 1 on a unit's own keys (R139). -/
def keysSet (u : Keys) (w : Nat) : Keys :=
  match insOp w with
  | some .epiKeys => { u with tensor := bits w 94 71, base := bits w 70 31 }
  | some .epiStride => { u with cstride := bits w 63 33 }
  | _ => u

/-- The epilogue setup that a job will meet, after the array instructions before it in `pre` that have not run. -/
def epiAt (c : Core) (pre : List Job) : Epi :=
  pre.foldl (fun e j => if j.unit = .array && !j.begun then epiSet e j.word.toNat else e) c.epi

/-- The epilogue setup of a job: latched when it has begun (R141). -/
def jobEpi (c : Core) (pre : List Job) (j : Job) : EpiFmtF := if j.begun then j.epi.fmt else (epiAt c pre).fmt

/-- A read of queue `q` waits behind every earlier instruction that reads the queue and has not read all (R133). -/
def readBlocked (c : Core) (pre : List Job) (q : Nat) : Bool :=
  (pre.zipIdx).any (fun p =>
    !p.1.computed && (jobReads p.1.word.toNat p.1.unit (jobEpi c (pre.take p.2) p.1)).any (fun r => r.q = q))

/-- A push into queue `q` waits behind every earlier instruction that pushes the queue and has pushes to make (R133). -/
def pushBlocked (k : Nat) (c : Core) (pre : List Job) (q : Nat) : Bool :=
  (pre.zipIdx).any (fun p =>
    (!p.1.computed || p.1.out.any (fun x => x.1 = q))
      && (jobPushes k p.1.word.toNat p.1.unit (jobEpi c (pre.take p.2) p.1)).contains q)

/-- Blocks of an earlier QMOVE of core `k` into its own queue `q` have not landed (R133, R163). -/
def State.moveBlocks (s : State) (k q no : Nat) : Bool :=
  s.moves.any (fun m => m.remote.isNone && m.src = k && m.dst = k && m.dq = q && decide (m.no < no))

/-! ### Reading -/

/-- Reads blocks of one queue for a job as far as they are there. -/
def readQueue (r : QRead) : Nat → Core × Job → Core × Job
  | 0, p => p
  | n + 1, (c, j) =>
    let got := Tbl.get j.got [] r.q
    if r.need.enough got then (c, j)
    else if r.pop then
      if (c.queue r.q).count = 0 then (c, j)
      else
        readQueue r n (c.pop r.q, { j with got := Tbl.put j.got [] r.q (got ++ [c.peek r.q 0]) })
    else
      let i := got.length - Tbl.get j.off 0 r.q
      if (c.queue r.q).count ≤ i then (c, j)
      else readQueue r n (c, { j with got := Tbl.put j.got [] r.q (got ++ [c.peek r.q i]) })

/-- Null blocks stand for a read of Q63 (R127). -/
def nullBlocks : Need → List Block
  | .blocks n => List.replicate n Block.null
  | .elems _ => []

/-- The blocks that a job has read of a queue. -/
def Job.blocks (j : Job) (reads : List QRead) (q : Nat) : List Block :=
  if q = 63 then (match reads.find? (fun r => r.q = 63) with | some r => nullBlocks r.need | none => [])
  else Tbl.get j.got [] q

/-- Has the job read all of a queue? -/
def Job.has (j : Job) (r : QRead) : Bool := r.q = 63 || r.need.enough (Tbl.get j.got [] r.q)

/-- R248: a product in mode HEADERS without a header pass of an operand waits until every block of it is queued. -/
def anchorReady (c : Core) (j : Job) (reads : List QRead) : Bool :=
  match insOp j.word.toNat with
  | some .mma =>
    let f := mmaF j.word.toNat
    let queued (q : Nat) : Bool := match reads.find? (fun r => r.q = q) with
      | some ⟨_, .blocks n, _⟩ => q = 63 || decide (n ≤ (c.queue q).count + (Tbl.get j.got [] q).length)
      | _ => true
    f.given || ((j.passA.isSome || queued f.aq) && (f.keep || j.passB.isSome || queued f.bq))
  | _ => true

/-! ### Executing -/

/-- The context's noise seed and step of R60 and R62. -/
def State.noiseKeys (s : State) (x : Nat) : Nat × Nat :=
  let c := s.cx x
  ((match c.curStep with | some t => t.seed | none => c.seed).toNat, c.stepNo)

/-- Merges the second half of an operand stream into the slots that the first half filled (R114). -/
def mergeHalf (old new : Block) : Block :=
  let h := old.h
  Block.build { h with maxexp := max h.maxexp new.h.maxexp } (Nat.lor old.data.toNat new.data.toNat)

/-- An operand stream meets its other half, the last blocks of queue `q` (R114). -/
def halfMeets (c : Core) (q : Nat) (t : HalfStream) : Bool :=
  let h := Tbl.get c.half {} q
  h.slots = t.slots && t.slots ≠ 0 && h.koff ≠ t.koff && decide (t.slots ≤ (c.queue q).count)

/-- Writes the second half into the last slots of the queue. -/
def putHalf (c : Core) (q : Nat) (bs : List Block) : Core :=
  let x := c.queue q
  let c := (bs.zipIdx).foldl (fun c p =>
    let sl := x.slot (x.count - bs.length + p.2)
    { c with slots := Tbl.put c.slots Block.null sl (mergeHalf (Tbl.get c.slots Block.null sl) p.1) }) c
  { c with half := Tbl.put c.half {} q {} }

/-- Replaces a job of a core (by its place in the order of broadcasts and its unit). -/
def Core.setJob (c : Core) (j : Job) : Core :=
  { c with jobs := c.jobs.map (fun i => if i.no = j.no && i.unit = j.unit then j else i) }

/-- Takes a finished job out of its core. -/
def Core.dropJob (c : Core) (j : Job) : Core :=
  { c with jobs := c.jobs.filter (fun i => !(i.no = j.no && i.unit = j.unit)) }

/-- The product record of trace (0x80). -/
def State.traceProduct (s : State) (k : Nat) (j : Job) (fin : Bool) : State :=
  s.trace (k / 64) 1 (s.eventWord 0x80 (j.ctx <<< 52 + k <<< 44 + b2n fin <<< 40 + (insId j.word.toNat) <<< 24 + j.pc % 4096))

/-! ### Array levels (R115 to R122, R573) -/

/-- The level cap of a die (R573). -/
def State.levelCap (s : State) (d : Nat) : Nat := min (if s.power.hot.getD d false then 3 else 5) s.power.cap

/-- Units of the time base that `n` array cycles take: a cycle is 0.4 ns (R110), a unit 0.25 ns. -/
def cycleUnits (n : Nat) : Nat := ceilDiv (8 * n) 5

/-- Row slots in `n` cycles: one a cycle, or one in two after a product whose slots last two cycles (R98, R116). -/
def Core.rowSlots (c : Core) (n : Nat) : Nat := if c.wide then ceilDiv n 2 else n

/-- The array begins to climb for a product or an ARRAY.WARM, when it is below the cap and does not climb (R119, R122). -/
def Core.climb (c : Core) (cap now : Nat) (r : Ramp) : Core :=
  if cap ≤ c.level || c.ramp = .up || c.ramp = .warm then c else { c with ramp := r, since := now }

/-- Is a product's first row ready at a level that admits no row (R118)? A product with K = 0 has no rows (R145). -/
def Core.rowHeld (c : Core) (j : Job) : Bool :=
  insOp j.word.toNat = some .mma && (mmaF j.word.toNat).k ≠ 0 && decide (c.level < 2)

/-- The rows of a product have entered (R98, R115, R118 to R120): the gap that they end and the slots that hold back rows
are counted, an array below its cap climbs, and the next gap begins. -/
def State.enterRows (s : State) (k : Nat) (j : Job) : State :=
  let f := mmaF j.word.toNat
  let c := s.co k
  if f.k = 0 then s
  else
    let cap := s.levelCap (k / 64)
    let s := if c.level < cap then s.applyEffs k j [.countFree K.DUMMY_ROW_SLOTS]
      else s.applyEffs k j [.countMost K.DUMMY_ROW_SLOTS (c.rowSlots (c.hold + c.fillGap))]
    let s := if c.level < 5 then s.applyEffs k j [.countFree K.RAMP_HELD_SLOTS] else s
    let gap := s.par K.ARRAY_FILL_GAP
    let now := s.now
    s.modCo k (fun c =>
      let c := c.climb cap now .up
      { c with
        hold := 0
        wide := decide (f.afmt ≤ 1 || f.bfmt ≤ 1)
        fillGap := gap
        since := if c.level < cap then c.since else now })

/-- Operands that a product with K = 0 takes from PQ without reading it (R145, R150): free elements. -/
def freeParams (n : Nat) : Block :=
  ⟨0, BitVec.ofNat 16384 (ofBytes ((List.range 512).map (fun i => (Config.freeByte 0xFFFF n i).toNat)))⟩

/-- A product whose operands are read: its tile, pushes and effects (R144 to R152). -/
def runMma (s : State) (k : Nat) (j : Job) (reads : List QRead) : State :=
  let f := mmaF j.word.toNat
  let c := s.co k
  let nk := s.noiseKeys j.ctx
  let params := j.epi.fmt.smode = 2 || j.epi.fmt.bmode = 2
  let s := if params && f.k = 0 then s.draw.2 else s
  let bl (q n : Nat) : List Block := (j.blocks reads q).take n
  let i : MmaIn :=
    { f := f
      epi := j.epi
      id := insId j.word.toNat
      core := k % 8
      seed := nk.1
      step := nk.2
      ctx := j.ctx
      gen := j.gen
      a := bl f.aq (aBlocks f)
      asc := bl f.asq (aScaleBlocks f)
      b := bl f.bq (bBlocks f)
      bsc := bl f.bsq (bScaleBlocks f)
      pq := if !params then none else if f.k = 0 then some (freeParams s.free)
        else (j.blocks reads j.epi.fmt.pq).head?
      passA := j.passA
      passB := j.passB
      tile := c.tile
      nullA := decide (f.asq = 63)
      nullB := decide (f.bsq = 63) }
  let o := mma i
  let mis (q fmt : Nat) (bs : List Block) : List Eff := if q = 63 then [] else mismatches q fmt i.id bs
  let effs := mis f.aq f.afmt i.a ++ (if (Fmt.ofCode f.afmt).isMX then mis f.asq 8 i.asc else [])
    ++ mis f.bq f.bfmt i.b ++ (if (Fmt.ofCode f.bfmt).isMX then mis f.bsq 8 i.bsc else [])
  let stream := o.stream.getD []
  let oq := j.epi.fmt.oq
  let push := stream.map (fun b => (oq, b)) ++ o.out
  let s := s.setCo k ({ c with tile := o.tile }.setJob { j with
    computed := true
    got := []
    out := push.filter (fun p => p.1 ≠ 63)
    stream := if o.stream.isSome && oq ≠ 63 then some ⟨j.epi.fmt.koff, stream.length⟩ else none })
  (s.applyEffs k j (effs ++ o.effs
    ++ (if f.keep || f.k = 0 then [] else [.countFree K.SHADOW_WAIT_CYCLES]))).enterRows k j

/-- A vector instruction whose sources are read (R154). -/
def runVec (s : State) (k : Nat) (j : Job) (o : Op) (reads : List QRead) : State :=
  let f := vecF j.word.toNat
  let nk := s.noiseKeys j.ctx
  let r := if f.count = 0 then ([], []) else
    vec ⟨o, f, k % 8, j.keys, nk.1, nk.2, fun q => j.blocks reads q⟩
  let s := s.modCo k (fun c => c.setJob { j with
    computed := true
    got := []
    out := if f.dq = 63 then [] else r.1.map (fun b => (f.dq, b)) })
  s.applyEffs k j r.2

/-- A convert instruction whose sources are read (R159). -/
def runCvt (s : State) (k : Nat) (j : Job) (reads : List QRead) : State :=
  let f := cvtF j.word.toNat
  let nk := s.noiseKeys j.ctx
  let src := j.blocks reads f.sq
  let sc := j.blocks reads f.ssq
  let id := insId j.word.toNat
  let mis := (if f.sq = 63 then [] else mismatches f.sq f.sfmt id src)
    ++ (if f.ssq = 63 || !(Fmt.ofCode f.sfmt).isMX then [] else mismatches f.ssq 8 id sc)
  let r := if f.count = 0 then ([], []) else cvt ⟨f, id, k % 8, j.keys, nk.1, nk.2, src, sc⟩
  let s := s.modCo k (fun c => c.setJob { j with
    computed := true
    got := []
    out := r.1.filter (fun p => p.1 ≠ 63) })
  s.applyEffs k j (mis ++ r.2)

/-- The blocks `bs` that a QMOVE has read leave for its destination, behind the `sent` blocks that left before (R171). A
QMOVE that has been dropped goes on reading, and its blocks go nowhere. -/
def State.sendMove (s : State) (k : Nat) (j : Job) (sent : Nat) (bs : List Block) : State :=
  let f := qmoveF j.word.toNat
  if bs = [] then s
  else if sent = 0 then
    { s with moves := s.moves ++ [{
      src := k
      id := insId j.word.toNat
      no := j.no
      ctx := j.ctx
      gen := j.gen
      dst := qmoveDst k j.word.toNat
      dq := f.dq
      blocks := bs
      left := f.count - bs.length
      step := (s.cx j.ctx).openNo }] }
  else
    { s with moves := (s.moves.map (fun m =>
        if m.remote.isNone && m.src = k && m.no = j.no then
          { m with
            blocks := if m.judged = some true then [] else m.blocks ++ bs
            left := m.left - bs.length }
        else m)).filter (fun m => !(m.judged = some true && m.left = 0)) }

/-- Blocks of a QMOVE leave as it reads them (R171): those read since `old`. -/
def State.sendRead (s : State) (k : Nat) (old new : Job) (reads : List QRead) : State :=
  if insOp new.word.toNat ≠ some .qmove then s
  else
    let q := (qmoveF new.word.toNat).sq
    let sent := if q = 63 then 0 else (old.blocks reads q).length
    s.sendMove k new sent ((new.blocks reads q).drop sent)

/-- Queues that QRESET empties (R137). -/
def qresetList (w : Nat) : List Nat := (List.range 63).filter (fun q => bit (bits w 95 32) q)

/-- Blocks that were pushed in the very cycle of a QRESET or QCFG are discarded and counted (R137): how many of the
blocks that a queue holds came in that cycle is timing, a free number. -/
def State.discards (s : State) (k : Nat) (j : Job) (qs : List Nat) : State :=
  qs.foldl (fun s q =>
    let n := ((s.co k).queue q).count
    if n = 0 then s else s.applyEffs k j [.countMost K.QUEUE_RESET_DISCARDS n]) s

/-- Runs an instruction whose reads are complete. DMA.ISSUE is left to the engine. -/
def runJob (s : State) (k : Nat) (j : Job) (reads : List QRead) : State :=
  let w := j.word.toNat
  let done (f : Core → Core) : State := s.modCo k (fun c => (f c).setJob { j with computed := true })
  match insOp w with
  | some .mma => runMma s k j reads
  | some .arrayWarm =>
    let n := bits w 95 80
    let gap := s.par K.ARRAY_FILL_GAP
    done (fun c => { c.climb (s.levelCap (k / 64)) s.now .warm with
      hold := n
      holdTill := s.now + cycleUnits n
      fillGap := gap })
  | some .cvt => runCvt s k j reads
  | some .qcfg => (s.discards k j [bits w 95 90]).modCo k (fun c =>
      (c.resetQueue (bits w 95 90) ⟨bits w 89 79, bits w 78 68, 0, 0⟩).setJob { j with computed := true })
  | some .qreset => (s.discards k j (qresetList w)).modCo k (fun c =>
      ((qresetList w).foldl (fun c q =>
        let x := c.queue q
        c.resetQueue q ⟨x.base, x.size, 0, 0⟩) c).setJob { j with computed := true })
  | some o =>
    if o.isVector then runVec s k j o reads
    else
      match j.unit with
      | .array => done (fun c => { c with epi := epiSet c.epi w })
      | .vector => done (fun c => { c with vkeys := keysSet c.vkeys w })
      | .convert => done (fun c => { c with ckeys := keysSet c.ckeys w })
      | _ => done id
  | none => done id

/-- May the job begin on its unit (R108, R139)? -/
def mayBegin (pre : List Job) (j : Job) : Bool :=
  let mine := pre.filter (fun i => i.unit = j.unit)
  match j.unit with
  | .array => mine.all (·.computed) && (insOp j.word.toNat ≠ some .mma || decide (mine.length < 2))
  | _ => mine.isEmpty

/-- A job begins: it latches the epilogue setup or the noise keys (R141, R153), and the units' own BASE moves on. -/
def beginJob (s : State) (k : Nat) (j : Job) : State :=
  let w := j.word.toNat
  let c := s.co k
  match insOp w with
  | some .mma =>
    let c := { c with epi := { c.epi with base := (c.epi.base + c.epi.advance) % 2 ^ 40 } }
    (s.setCo k (c.setJob { j with begun := true, epi := (s.co k).epi })).traceProduct k j false
  | some .cvt =>
    let n := (cvtF w).count
    s.setCo k ({ c with ckeys := { c.ckeys with base := (c.ckeys.base + n) % 2 ^ 40 } }.setJob
      { j with begun := true, keys := c.ckeys })
  | some o =>
    if o.isVector then
      let n := (vecF w).count
      s.setCo k ({ c with vkeys := { c.vkeys with base := (c.vkeys.base + n) % 2 ^ 40 } }.setJob
        { j with begun := true, keys := c.vkeys })
    else s.setCo k (c.setJob { j with begun := true })
  | none => s.setCo k (c.setJob { j with begun := true })

/-- A product takes the header passes that are pending for the operand queues that it pops (R247, R248). -/
def takePasses (c : Core) (j : Job) : Core × Job :=
  match insOp j.word.toNat with
  | some .mma =>
    let f := mmaF j.word.toNat
    let a := if j.passA.isNone && !f.apeek && Tbl.get c.passMax [] f.aq ≠ [] then some (Tbl.get c.passMax [] f.aq) else j.passA
    let b := if j.passB.isNone && !f.keep && !f.bpeek && Tbl.get c.passMax [] f.bq ≠ [] then some (Tbl.get c.passMax [] f.bq)
      else j.passB
    let t := if a ≠ j.passA then Tbl.put c.passMax [] f.aq [] else c.passMax
    let t := if b ≠ j.passB then Tbl.put t [] f.bq [] else t
    ({ c with passMax := t }, { j with passA := a, passB := b })
  | _ => (c, j)

/-- The pushes of a computed job, as far as there is room; a push into an unconfigured queue is dropped and counted
(R136). -/
def pushOut (k : Nat) (pre : List Job) : Nat → State × Job → State × Job
  | 0, p => p
  | n + 1, (s, j) =>
    match j.out with
    | [] => (s, j)
    | (q, b) :: r =>
      let c := s.co k
      if pushBlocked k c pre q || s.moveBlocks k q j.no then (s, j)
      else if (c.queue q).size = 0 then pushOut k pre n (s.bump K.NOQUEUE_DROPS 1, { j with out := r })
      else if c.room q then pushOut k pre n (s.setCo k (c.put q b), { j with out := r })
      else (s, j)

/-- A product whose operand stream comes to the head of its pushes: it fills the blocks of its other half when these are
the last of their queue, and is pushed as blocks of its own otherwise (R114). -/
def meetHalf (k : Nat) (pre : List Job) (s : State) (j : Job) : State × Job :=
  match j.stream with
  | none => (s, j)
  | some t =>
    let c := s.co k
    let q := j.epi.fmt.oq
    if pushBlocked k c pre q || s.moveBlocks k q j.no || !halfMeets c q t then (s, j)
    else
      (s.setCo k (putHalf c q ((j.out.take t.slots).map (·.2))), { j with out := j.out.drop t.slots, stream := none })

/-- An operand stream that has been pushed whole and ends its queue may meet its other half (R114). -/
def Core.endStream (c : Core) (j : Job) : Core :=
  match j.stream with
  | none => c
  | some t =>
    let e := j.epi.fmt
    if e.rqen && e.rq = e.oq || e.sten && e.stq = e.oq then c else { c with half := Tbl.put c.half {} e.oq t }

/-- Advances one job as far as it goes now; none when nothing changes. `pre` are the earlier jobs of the core. -/
def advanceJob (s : State) (k : Nat) (pre : List Job) (j : Job) : Option State :=
  let c := s.co k
  if !j.begun then
    if mayBegin pre j && j.unit ≠ .dma then some (beginJob s k j) else none
  else if !j.computed then
    let (c, j') := takePasses c j
    let reads := jobReads j.word.toNat j.unit (jobEpi c pre j)
    if !anchorReady c j' reads then (if j' = j then none else some (s.setCo k (c.setJob j')))
    else
      let before := c.queues
      let (c, j') := reads.foldl (fun p r =>
        if r.q = 63 || readBlocked p.1 pre r.q then p
        else readQueue r (max 1 (p.1.queue r.q).count) p) (c, j')
      let popped (s : State) : State := if c.queues = before then s else s.progressCl (k / 8)
      let c' := if reads.all j'.has && c.rowHeld j' then c.climb (s.levelCap (k / 64)) s.now .up else c
      if reads.all j'.has && !c.rowHeld j' then
        some (runJob (popped ((s.setCo k (c.setJob j')).sendRead k j j' reads)) k j' reads)
      else if j' = j && c'.ramp = c.ramp then none
      else
        let s' := (s.setCo k (c'.setJob j')).sendRead k j j' reads
        some (popped s')
  else
    let (s', j') := meetHalf k pre s j
    let (s', j') := pushOut k pre j'.out.length (s', j')
    if j'.out = [] then
      let s' := s'.modCo k (fun c => (c.dropJob j).endStream j')
      let s' := if insOp j.word.toNat = some .mma then s'.traceProduct k j true else s'
      let rd := jobReads j.word.toNat j.unit j.epi.fmt
      let s' := if rd = [] then s' else s'.stalls k K.QUEUE_POP_STALL_CYCLES 0x0E
      let s' := if j.unit = .queue || jobPushes k j.word.toNat j.unit j.epi.fmt = [] then s'
        else s'.stalls k K.QUEUE_PUSH_STALL_CYCLES 0x0F
      some (s'.progressCl (k / 8))
    else if j'.out.length = j.out.length then none
    else some ((s'.modCo k (fun c => c.setJob j')).progressCl (k / 8))

/-- The first job of a core, from `pre` on, that can advance. -/
def advanceFirst (s : State) (k : Nat) : List Job → List Job → Option State
  | _, [] => none
  | pre, j :: r =>
    match advanceJob s k pre j with
    | some s' => some s'
    | none => advanceFirst s k (pre ++ [j]) r

/-- One advance of some core of a cluster. -/
def advanceCores (s : State) : List Nat → Option State
  | [] => none
  | k :: r =>
    match advanceFirst s k [] (s.co k).jobs with
    | some s' => some s'
    | none => advanceCores s r

end Sys2Proof.Machine
end

