-- ==== Sys2Proof/Machine/DmaPlan.lean ====
section
/-!
DEFINITION. Descriptors and landings as data: which descriptors the engine refuses by their own fields (R236 to R238,
R607, R609), how bytes are packed into blocks with built headers (R234, R237), and how operands are laid out for the
array (R244 to R247).
-/

namespace Sys2Proof.Machine

/-- Offsets are taken modulo 2^40 (R243). -/
def off40 (v : Int) : Nat := (v % 2 ^ 40).toNat

/-- The descriptor with the offset of R165 added to the address that ASEL chooses, and in a BYTE transfer of an MX
format, divided by G, to SCOFF (R238). -/
def Desc.shift (d : Desc) (dst : Bool) (by' : Int) : Desc :=
  let d := if dst then { d with doff := off40 (d.doff + by') } else { d with soff := off40 (d.soff + by') }
  let f := Fmt.ofCode d.fmt
  if d.mode = 1 && f.isMX then { d with scoff := off40 (d.scoff + by' / (f.groupBytes : Int)) } else d

/-- Does the transfer name a remote queue (R609)? -/
def Desc.remoteQueue (d : Desc) : Bool := d.dkind = 2 && d.dkey = 0xFFFF

/-- A transfer over a link as its scales travel (R237, R408, R609; log entry 93): to the queue DSQ of the core whose queue
holds the elements, or to SCOFF, taken down to a block, of the remote key. -/
def Desc.toScales (d : Desc) : Desc :=
  if d.remoteQueue then { d with doff := d.doff / 64 * 64 + d.dsq } else { d with doff := d.scoff / 2048 * 2048 }

/-- Does a BLOCK transfer move companion scale blocks (R237)? -/
def Desc.blockScales (d : Desc) : Bool := d.mode = 0 && (d.ssq ≠ 0 || d.dsq ≠ 0)

/-- Element blocks or bytes that LENGTH and ROWS ask for. -/
def Desc.total (d : Desc) : Nat := d.nrows * d.length

/-- R607, first judgement: reserved values, combinations outside R236, and the conditions of R237, R238 and R609 that
depend on the descriptor alone; `by'` is the offset that DMA.ISSUE added. Its reserved bits are taken as 0 (R7). -/
def Desc.bad (d : Desc) (by' : Int) : Bool :=
  let f := Fmt.ofCode d.fmt
  let flags := d.skew || d.transpose || d.hdrahead
  let fmtUsed := d.mode ≠ 0 || d.ssq ≠ 0 || d.dsq ≠ 0
  let reserved := 2 < d.mode || 2 ≤ d.skind || d.dkind = 3 || d.role = 3 || d.shape = 3 || d.cscope = 3
    || (fmtUsed && 0xB ≤ d.fmt) || (d.record && d.roff % 16 ≠ 0)
  let toQueue := d.dkind = 1
  let fromMem := d.skind = 0
  let byMode := match d.mode with
    | 0 => (d.skind = 1 && toQueue) || 1 < d.rows || flags || d.role ≠ 0
        || (fromMem && d.soff % 2048 ≠ 0) || ((d.dkind = 0 || (d.dkind = 2 && !d.remoteQueue)) && d.doff % 2048 ≠ 0)
        || ((d.ssq ≠ 0 || d.dsq ≠ 0) && (!f.isMX || (d.blockScales && (fromMem || !d.remoteQueue) && d.scoff % 2048 ≠ 0)))
    | 1 => (d.skind = 1 && toQueue) || (flags && d.role = 0) || (d.role ≠ 0 && !(fromMem && toQueue))
        || (d.skew && d.role ≠ 1)
        || (f.isMX && (d.length % f.groupBytes ≠ 0 || d.pitch % f.groupBytes ≠ 0 || by' % (f.groupBytes : Int) ≠ 0))
        || (d.dkind = 2 && !d.remoteQueue && (d.total % f.bytesUsed ≠ 0 || d.doff % 2048 ≠ 0))
    | _ => !fromMem || d.dkind = 2 || 1 < d.rows || flags || d.role ≠ 0 || d.gunits = 0 || 64 < d.gunits
        || d.ioff % 4 ≠ 0
  reserved || byMode || (d.remoteQueue && bits d.doff 39 14 ≠ 0)

/-! ### Elements and blocks -/

/-- One element on its way into a block: its code, its MAXEXP contribution, whether its bytes were delivered and
whether they come from a bad block. -/
structure LandEl where
  code : Nat := 0
  exp : Nat := 0
  real : Bool := false
  bad : Bool := false
deriving DecidableEq, Repr

/-- What an element of format `f` under group scale `sc` adds to MAXEXP (R68). -/
def landExp (f : Fmt) (sc code : Nat) : Nat :=
  let v := decodeElem f code
  elemMaxExp f (flushIn f (if f.isMX then scaleElem sc v else v)).1

/-- MAXEXP of a block's data in a format, the scale of group `g` being `scale g` (R68). -/
def dataMaxexp (f : Fmt) (scale : Nat → Nat) (data : Nat) : Nat :=
  listMax ((List.range f.perBlock).map (fun j => landExp f (scale (j / 32)) (elemCode f data j)))

/-- A block as it lands in a queue without its scales: MAXEXP with every scale 1.0 (R68, R234). -/
def Block.landPlain (b : Block) : Block := b.withMaxexp (dataMaxexp b.fmt (fun _ => 0x7F) b.data.toNat)

/-- A block as it lands with the scales of its groups (R68). -/
def Block.landScaled (b : Block) (scale : Nat → Nat) : Block := b.withMaxexp (dataMaxexp b.fmt scale b.data.toNat)

/-- The header fields of a built block beside those that its elements give. -/
structure BuildF where
  fmt : Nat
  tensor : Nat
  step : Nat
  skewed : Bool := false
  transposed : Bool := false

/-- A built block (R234). -/
def buildEls (p : BuildF) (index : Nat) (mx : Nat) (filled : Bool) (l : List LandEl) : Block :=
  Block.build ⟨p.tensor, index, mx, p.fmt, l.any (·.bad), p.skewed, p.transposed, filled, p.step⟩
    (packCodes (Fmt.ofCode p.fmt).width (l.map (·.code)))

/-- Delivered data bytes of a run of elements. -/
def realBytes (f : Fmt) (l : List LandEl) : Nat := (l.filter (·.real)).length * f.width / 8

/-- Elements packed into blocks from `first` on, the last one FILLED when it holds fewer (R37, R242), with the data
bytes that each delivers. -/
def packEls (p : BuildF) (first : Nat) (l : List LandEl) : List (Block × Nat) :=
  let f := Fmt.ofCode p.fmt
  ((runs f.perBlock l).zipIdx).map (fun c =>
    (buildEls p (first + c.2) (listMax (c.1.map (·.exp))) (decide (c.1.length < f.perBlock)) c.1, realBytes f c.1))

/-- A memory block of at most 2,048 bytes written through a CHECK key by a BYTE or GATHER transfer (R234). -/
def buildBytes (p : BuildF) (index : Nat) (bad : Bool) (scale : Nat → Nat) (bs : List Nat) : Block :=
  let f := Fmt.ofCode p.fmt
  let data := ofBytes bs
  Block.build ⟨p.tensor, index, dataMaxexp f scale data, p.fmt, bad, false, false, decide (bs.length < f.bytesUsed),
    p.step⟩ data

/-- Scale bytes as built blocks of the companion tensor (R234, R39); `bad` tells which draw on a bad block. -/
def scaleBlocks (tensor step : Nat) (bad : Nat → Bool) (l : List Nat) : List (Block × Nat) :=
  ((runs 2048 l).zipIdx).map (fun c =>
    (Block.build ⟨Nat.lor tensor (2 ^ 23), c.2, dataMaxexp .e8m0 (fun _ => 0x7F) (ofBytes c.1), 8, bad c.2, false, false,
      decide (c.1.length < 2048), step⟩ (ofBytes c.1), c.1.length))

/-- One memory row of a BYTE transfer as elements: its bytes (those that were delivered, then zeros up to `len` bytes),
the scales of its groups and whether byte `i` comes from a bad block. -/
def rowEls (f : Fmt) (len : Nat) (bytes : List Nat) (scales : List Nat) (bad : Nat → Bool) : List LandEl :=
  let data := ofBytes bytes
  (List.range (len * 8 / f.width)).map (fun j =>
    let at' := j * f.width / 8
    if at' < bytes.length then
      let c := elemCode f data j
      ⟨c, landExp f (if f.isMX then scales.getD (j / 32) 0 else 0x7F) c, true, bad at' || bad (at' + (f.width - 1) / 8)⟩
    else {})

/-! ### Operand landings (R244 to R247) -/

/-- Element (r, c) of the operand matrix, which is the source or its transpose. -/
def matEl (t : Bool) (src : Array (Array LandEl)) (r c : Nat) : LandEl :=
  if t then (src.getD c #[]).getD r {} else (src.getD r #[]).getD c {}

/-- The blocks of a landing for the array with the data bytes that each delivers, and the slice maxima (R247). -/
structure OperandLanding where
  blocks : List (Block × Nat)
  maxes : List Nat

/-- ROLE 2 (R244): the K × N matrix, each block within one K slice. -/
def landB (p : BuildF) (first d rows cols : Nat) (el : Nat → Nat → LandEl) : OperandLanding :=
  let f := Fmt.ofCode p.fmt
  let slices := (List.range (ceilDiv rows d)).map (fun s =>
    runs f.perBlock (((List.range (min d (rows - s * d))).map (fun r =>
      (List.range cols).map (fun c => el (s * d + r) c))).flatten))
  let bl := ((slices.flatten).zipIdx).map (fun c =>
    (buildEls p (first + c.2) (listMax (c.1.map (·.exp))) (decide (c.1.length < f.perBlock)) c.1, realBytes f c.1))
  ⟨bl, slices.map (fun s => listMax (s.map (fun l => listMax (l.map (·.exp)))))⟩

/-- ROLE 1 (R245, R246): the M × K matrix as a stream of slots. -/
def landA (p : BuildF) (first d rows cols : Nat) (skew : Bool) (el : Nat → Nat → LandEl) : OperandLanding :=
  let f := Fmt.ofCode p.fmt
  let nl := f.perBlock / d
  let n := ceilDiv cols d
  let total := n * rows
  let elem (t k : Nat) : LandEl :=
    if t < total && t / rows * d + k < cols then el (t % rows) (t / rows * d + k) else {}
  let line (t : Nat) : List LandEl :=
    (List.range d).map (fun k => if skew then (if k ≤ t then elem (t - k) k else {}) else elem t k)
  let rowExp (t : Nat) : Nat := listMax ((List.range d).map (fun k => (elem t k).exp))
  let heads := ((List.range n).map (fun s => runs nl ((List.range rows).map (fun m => s * rows + m)))).flatten
  let tails := if skew && total ≠ 0 then runs nl ((List.range (d - 1)).map (fun i => total + i)) else []
  let slots := ((heads ++ tails).zipIdx).map (fun c =>
    let els := (c.1.map line).flatten
    (buildEls { p with skewed := skew } (first + c.2)
      (listMax (c.1.map (fun t => if t < total then rowExp t else 0))) (decide (c.1.length < nl)) els, realBytes f els))
  ⟨slots, (List.range n).map (fun s => listMax ((List.range rows).map (fun m => rowExp (s * rows + m))))⟩

/-- A landing with ROLE 1 or 2 from source rows of elements. -/
def landOperand (d : Desc) (step : Nat) (src : Array (Array LandEl)) : OperandLanding :=
  let f := Fmt.ofCode d.fmt
  let r := d.nrows
  let c := d.length * 8 / f.width
  let el := matEl d.transpose src
  let p : BuildF := { fmt := d.fmt, tensor := d.tensor, step := step, transposed := d.transpose }
  let rows := if d.transpose then c else r
  let cols := if d.transpose then r else c
  if d.role = 2 then landB p d.block0 (shapeDepth d.shape) rows cols el
  else landA p d.block0 (shapeDepth d.shape) rows cols d.skew el

/-! ### Companion scale blocks (R237) -/

/-- Groups of an element block of an MX format. -/
def Fmt.groups (f : Fmt) : Nat := f.perBlock / 32

/-- The scale blocks that hold the groups of element block `j`. -/
def scaleBlocksOf (f : Fmt) (j : Nat) : List Nat :=
  let a := f.groups * j / 2048
  let b := (f.groups * j + f.groups - 1) / 2048
  if a = b then [a] else [a, b]

end Sys2Proof.Machine
end

