-- ==== Sys2Proof/Machine/Dma.lean ====
section
/-!
DEFINITION. The DMA engines (chapter 08): acceptance and judgement of descriptors, reads of memory and drawers,
landings, drains of queues, writes to memory, to drawers and over the links, completion.
-/

namespace Sys2Proof.Machine

/-! ### Reading sources -/

/-- Bytes that lie inside a key's region, of `n` from offset `off` (R242). -/
def State.inside (s : State) (k off n : Nat) : Nat := min n ((s.key k).length - off)

/-- Counts a block that failed its check (R233): global count, the open step's counts and an event. `src` holds the
event's bits 51 to 32. -/
def State.blockFail (s : State) (cl x : Nat) (src : Nat) (b : Block) : State :=
  let s := (s.bump K.BLOCK_CHECK_FAILS 1).modCx x (fun c => c.charge (fun t =>
    { t with blocks := t.blocks + 1, crcBlocks := t.crcBlocks + 1 }))
  s.event cl 0x04 (x <<< 52 + src <<< 32 + b.h.index)

/-- Checks a block as it is read (R232, R233): the block as delivered, and whether its check failed; a block whose BAD is
already set passes. In a replay step, a block that is re-landed from the log with BAD set is charged to the replay (R442). -/
def State.checkBlock (s : State) (cl x src : Nat) (log : Bool) (b : Block) : State × Block × Bool :=
  if b.h.bad then
    let s := if log then s.modCx x (fun c => c.charge (fun t => { t with blocks := t.blocks + 1 })) else s
    (s, b, false)
  else if b.crcOk then (s, b, false)
  else
    let b' := b.markBad
    (s.blockFail cl x src b', b', true)

/-- Where a transfer's memory side reads blocks: a key's region or a drawer. -/
inductive Place
  | key (k : Nat)
  | drawer (x d k : Nat)
deriving DecidableEq, Repr

/-- The place that a key names for a context (R269). -/
def State.placeOf (s : State) (x k : Nat) : Place :=
  match s.drawerDie x k with
  | some d => .drawer x d k
  | none => .key k

/-- The key of a place. -/
def Place.keyNo : Place → Nat
  | .key k => k
  | .drawer _ _ k => k

/-- Block `b` (offset 2,048 b) of a place with its header. -/
def State.placeBlock (s : State) (p : Place) (b : Nat) : Block :=
  match p with
  | .key k => s.readBlock k b
  | .drawer x d _ => let e := drawerAt (2048 * b); s.drawerBlock x d e.1 e.2

/-- Bytes of a place that a row of `n` bytes from `off` holds: all of them in a drawer (R269, R242). -/
def State.placeInside (s : State) (p : Place) (off n : Nat) : Nat :=
  match p with
  | .key k => s.inside k off n
  | .drawer _ _ _ => n

/-- Are a place's blocks checked as they are read (R232)? A drawer's key has CHECK 1 for good (R267, R268). -/
def State.placeCheck (s : State) (p : Place) : Bool :=
  match p with
  | .key k => (s.key k).check
  | .drawer _ _ _ => true

/-- The ranges of HBM addresses that hold a range of a place: of a drawer, its spilled part (R268, R277). -/
def State.placeHbm (s : State) (p : Place) (off n : Nat) : List (Nat × Nat) :=
  match p with
  | .key k => if (s.key k).space = 0 && n ≠ 0 then [((s.key k).base + off, n)] else []
  | .drawer x d _ => (pieces off n).filterMap (fun q =>
      let e := drawerAt q.1
      let w := s.drawer x d
      (w.page e.1 e.2).bind (fun g =>
        if g.spilled && q.2 ≠ 0 then some (w.sbase + 2048 * g.index e.2 + q.1 % 2048, q.2) else none))

/-- Does a read of a place from a cluster wait for a path that a die's reset has stopped (R14, R482)? -/
def State.placeWaits (s : State) (c : Nat) (p : Place) (off n : Nat) : Bool :=
  match p with
  | .key k => let e := s.key k; s.memWaits (c / 8) e.space e.base off n
  | .drawer _ d _ => n ≠ 0 && s.pathWaits (c / 8) d

/-- Counts a read of a place: bursts of HBM in class P1 (R277, R365, R367), waits for a shelf's banks (R252). -/
def State.placeRead (s : State) (p : Place) (off n : Nat) : State :=
  match p with
  | .key k => s.bursts 1 k off n
  | .drawer _ _ _ =>
    let l := s.placeHbm p off n
    let s := l.foldl (fun s q => s.countBursts 1 q.1 q.2) s
    if (l.map (·.2)).sum < n then s.bumpFree K.SHELF_BANK_WAIT_CYCLES else s

/-- Bytes of a place. -/
def State.placeBytes (s : State) (p : Place) (off n : Nat) : List Nat :=
  match p with
  | .key k => s.readKey k off n
  | .drawer _ _ _ =>
    (((List.range (ceilDiv (off % 2048 + n) 2048)).map (fun i =>
      toBytes 2048 (s.placeBlock p (off / 2048 + i)).data.toNat)).flatten.drop (off % 2048)).take n

/-- Blocks of 2,048 bytes that a range touches. -/
def touched (off n : Nat) : List Nat :=
  if n = 0 then [] else (List.range (ceilDiv (off % 2048 + n) 2048)).map (fun i => off / 2048 + i)

/-- Start of memory row `r` (R237, R243). -/
def Desc.rowOff (d : Desc) (base r : Nat) : Nat := (base + r * d.pitch) % 2 ^ 40

/-- Start of the scales of memory row `r` (R237). -/
def Desc.scaleOff (d : Desc) (r : Nat) : Nat := (d.scoff + r * d.pitch / (Fmt.ofCode d.fmt).groupBytes) % 2 ^ 40

/-- Bytes of a place from `off`, as bytes: those outside the region read as 0. -/
def State.padBytes (s : State) (p : Place) (off n : Nat) : List Nat :=
  let m := s.placeInside p off n
  s.placeBytes p off m ++ List.replicate (n - m) 0

/-- What a transfer reads of memory: the state with its counts, and what it yields. -/
structure Reading where
  /-- element blocks and scale blocks as they leave for a queue or a link, with the bytes that count in MOVED -/
  blocks : List (Block × Nat) := []
  scales : List (Block × Nat) := []
  /-- slice maxima (R247) -/
  maxes : List Nat := []
  /-- rows of bytes for a destination in memory: offset at the destination, bytes, and the spans of them that come from
  bad blocks -/
  rows : List (Nat × List Nat × List (Nat × Nat)) := []
  /-- the scales of those rows, with their offset at the destination (R237) -/
  scaleRows : List (Nat × List Nat) := []
  clips : Nat := 0
  bad : Bool := false

/-- The step of headers that a context builds (R62, R234). -/
def State.tagStep (s : State) (x : Nat) : Nat := (s.cx x).stepNo

/-- The transfer re-lands the log in a replay step (R442). -/
def State.relands (s : State) (t : Xfer) : Bool :=
  let job := (((s.cx t.ctx).replay.bind (·.replay)).map (·.2)).getD t.ctx
  t.replay && (t.desc.skey = s.par (K.REPLAY_IN_KEY + t.ctx) || t.desc.skey = s.par (K.REPLAY_IN_KEY + job))

/-- Checks blocks of a place in ascending order (R232), once each: the numbers of the blocks that are BAD from then on, and
whether a check failed. -/
def State.checkPlace (s : State) (cl x : Nat) (log : Bool) (p : Place) (bs : List Nat) : State × List Nat × Bool :=
  bs.foldl (fun acc b =>
    let r := acc.1.checkBlock cl x p.keyNo log (acc.1.placeBlock p b)
    (r.1, if r.2.1.h.bad then acc.2.1 ++ [b] else acc.2.1, acc.2.2 || r.2.2)) (s, [], false)

/-- The companion scale blocks that the element blocks of a BLOCK transfer from memory need (R237). -/
def State.scaleNeeds (s : State) (p : Place) (d : Desc) : List Nat :=
  if !d.blockScales then []
  else (List.range (s.placeInside p d.soff (2048 * d.length) / 2048)).foldl (fun l i =>
    (scaleBlocksOf (Fmt.ofCode d.fmt) (s.placeBlock p (d.soff / 2048 + i)).h.index).foldl (fun l i => insertNat i l) l) []

/-- What a source in memory is read at, in the order of the reads: places with offset and length (R237, R249). -/
def State.sources (s : State) (x : Nat) (d : Desc) : List (Place × Nat × Nat) :=
  let p := s.placeOf x d.skey
  let f := Fmt.ofCode d.fmt
  match d.mode with
  | 0 => (p, d.soff, s.placeInside p d.soff (2048 * d.length))
      :: (s.scaleNeeds p d).map (fun i => (p, (d.scoff + 2048 * i) % 2 ^ 40, s.placeInside p (d.scoff + 2048 * i) 2048))
  | 1 => (List.range d.nrows).map (fun r => let o := d.rowOff d.soff r; (p, o, s.placeInside p o d.length))
      ++ (if f.isMX then (List.range d.nrows).map (fun r =>
          let o := d.scaleOff r
          (p, o, s.placeInside p o (d.length / f.groupBytes)))
        else [])
  | _ =>
    let n := min d.length (((s.key d.ikey).length - d.ioff) / 4)
    (.key d.ikey, d.ioff, 4 * n) :: (List.range n).map (fun i =>
      let o := d.soff + ofBytes (s.readKey d.ikey (d.ioff + 4 * i) 4) * d.pitch
      (p, o, s.placeInside p o (32 * d.gunits)))

/-- The spans of a run of `n` bytes from `off` that lie in one of some blocks. -/
def badSpansOf (bad : List Nat) (off n : Nat) : List (Nat × Nat) :=
  ((touched off n).filter bad.contains).map (fun b => (2048 * b - off, min n (2048 * (b + 1) - off)))

/-- Does a run of bytes meet one of some spans? -/
def meetsSpan (l : List (Nat × Nat)) (lo hi : Nat) : Bool := l.any (fun p => decide (p.1 < hi) && decide (lo < p.2))

/-- Reads the source of a BLOCK transfer in memory (R234, R236, R237). -/
def State.readBlocks (s : State) (cl : Nat) (t : Xfer) (p : Place) : State × Reading :=
  let d := t.desc
  let k := p.keyNo
  let n := s.placeInside p d.soff (2048 * d.length) / 2048
  let check := s.placeCheck p
  let s := s.placeRead p d.soff (2048 * n)
  let (s, bl, bad) := (List.range n).foldl (fun acc i =>
    let b := acc.1.placeBlock p (d.soff / 2048 + i)
    if check then
      let r := acc.1.checkBlock cl t.ctx k (s.relands t) b
      (r.1, acc.2.1 ++ [r.2.1], acc.2.2 || r.2.2)
    else (acc.1, acc.2.1 ++ [b], acc.2.2)) (s, [], false)
  let f := Fmt.ofCode d.fmt
  let (s, sc, badS) := (s.scaleNeeds p d).foldl (fun acc i =>
    let off := d.scoff + 2048 * i
    if acc.1.placeInside p off 2048 < 2048 then acc
    else
      let s := acc.1.placeRead p off 2048
      let b := s.placeBlock p (off % 2 ^ 40 / 2048)
      if check then
        let r := s.checkBlock cl t.ctx k (s.relands t) b
        (r.1, acc.2.1 ++ [(i, r.2.1)], acc.2.2 || r.2.2)
      else (s, acc.2.1 ++ [(i, b)], acc.2.2)) (s, ([] : List (Nat × Block)), false)
  let land (b : Block) : Block :=
    if d.dkind ≠ 1 then b
    else if d.blockScales then
      b.landScaled (fun g =>
        let a := f.groups * b.h.index + g
        match sc.find? (fun q => q.1 = a / 2048) with
        | some q => elemCode .e8m0 q.2.data.toNat (a % 2048)
        | none => 0x7F)
    else b.landPlain
  (s, {
    blocks := bl.map (fun b => (land b, 2048))
    scales := sc.map (fun q => (if d.dkind = 1 then q.2.landPlain else q.2, 2048))
    clips := b2n (decide (n < d.length))
    bad := bad || badS })

/-- Reads the rows of a BYTE transfer from memory and lays them out for its destination. -/
def State.readRows (s : State) (cl : Nat) (t : Xfer) (p : Place) : State × Reading :=
  let d := t.desc
  let f := Fmt.ofCode d.fmt
  let spans := (List.range d.nrows).map (fun r => let o := d.rowOff d.soff r; (o, s.placeInside p o d.length))
  let s := (s.sources t.ctx d).foldl (fun s q => s.placeRead p q.2.1 q.2.2) s
  let (s, badBlocks, failed) :=
    if s.placeCheck p then
      s.checkPlace cl t.ctx (s.relands t) p ((spans.map (fun q => touched q.1 q.2)).flatten.eraseDups)
    else (s, [], false)
  let rows := spans.map (fun q => (q.1, s.placeBytes p q.1 q.2))
  let isBad (o : Nat) : Bool := badBlocks.contains (o / 2048)
  let step := s.tagStep t.ctx
  let clips := (spans.filter (fun q => decide (q.2 < d.length))).length
  let scs := if f.isMX then (List.range d.nrows).map (fun r => s.padBytes p (d.scaleOff r) (d.length / f.groupBytes))
    else []
  let scaleRow (r : Nat) : List Nat := scs.getD r []
  let padTo (bs : List Nat) : Nat := if d.role = 0 then bs.length else d.length
  let els := (rows.zipIdx).map (fun q =>
    rowEls f (padTo q.1.2) q.1.2 (scaleRow q.2) (fun i => isBad (q.1.1 + i)))
  let cut := (scs.zipIdx).map (fun q => q.1.take (ceilDiv (spans.getD q.2 (0, 0)).2 f.groupBytes))
  let sent := if d.role = 0 then cut.flatten else scs.flatten
  let base : Reading := { clips := clips, bad := failed, scales := scaleBlocks d.tensor step (fun _ => false) sent }
  if d.dkind = 0 then
    (s, { base with
      rows := (rows.zipIdx).map (fun q =>
        (d.rowOff d.doff q.2, q.1.2, badSpansOf badBlocks q.1.1 q.1.2.length))
      scaleRows := (cut.zipIdx).map (fun q => (d.scaleOff q.2, q.1)) })
  else if d.role = 0 then
    (s, { base with blocks := packEls { fmt := d.fmt, tensor := d.tensor, step := step } d.block0 els.flatten })
  else
    let r := landOperand d step ((els.map List.toArray).toArray)
    (s, { base with blocks := r.blocks, maxes := r.maxes })

/-- Reads the rows of a GATHER (R249, R250): its indices, then the rows in index order. Its blocks are not checked (R232),
and a source block of a CHECK key that carries BAD makes the blocks built from it BAD (R234). -/
def State.readGather (s : State) (t : Xfer) : State × Reading :=
  let d := t.desc
  let f := Fmt.ofCode d.fmt
  let n := min d.length (((s.key d.ikey).length - d.ioff) / 4)
  let s := s.bursts 0 d.ikey d.ioff (4 * n)
  let w := 32 * d.gunits
  let idx := (List.range n).map (fun i => ofBytes (s.readKey d.ikey (d.ioff + 4 * i) 4))
  let check := (s.key d.skey).check
  let rows := idx.map (fun i =>
    let o := d.soff + i * d.pitch
    let bad := (touched o w).filter (fun b => check && bit (s.readHdr d.skey b).toNat 1)
    if o + w ≤ (s.key d.skey).length then (s.readKey d.skey o w, false, badSpansOf bad o w)
    else (List.replicate w 0, true, []))
  let s := idx.foldl (fun s i =>
    let o := d.soff + i * d.pitch
    if o + w ≤ (s.key d.skey).length then s.bursts 1 d.skey o w else s) s
  let clips := (rows.filter (·.2.1)).length + b2n (decide (n < d.length))
  let step := s.tagStep t.ctx
  let all := (rows.map (·.1)).flatten
  let bad := ((rows.zipIdx).map (fun r => r.1.2.2.map (fun q => (w * r.2 + q.1, w * r.2 + q.2)))).flatten
  if d.dkind = 0 then (s, { rows := [(d.doff, all, bad)], clips := clips })
  else
    let els := rowEls f all.length all (List.replicate (all.length / max 1 f.groupBytes + 1) 0x7F) (fun i => meetsSpan bad i (i + 1))
    (s, { blocks := packEls { fmt := d.fmt, tensor := d.tensor, step := step } d.block0 els, clips := clips })

/-! ### Destinations -/

/-- A write of the transfer on its way to memory (R228). -/
def Xfer.access (t : Xfer) (c key off : Nat) (bytes : List Nat) (hdr : Option (BitVec 128)) : Access :=
  { owner := .xfer c t.seq
    ctx := t.ctx
    gen := t.gen
    key := key
    off := off
    bytes := bytes
    hdr := hdr
    step := t.step
    replay := t.replay }

/-- Puts writes on their way. -/
def State.launch (s : State) (l : List Access) : State := { s with accesses := s.accesses ++ l }

/-- Writes blocks of the transfer, each with the number of its data bytes, at offsets of its destination key, as far as
they lie inside the region; the rest is discarded (R242). Headers go into the sidecar of a CHECK key (R605). -/
def State.writeBuilt (s : State) (c : Nat) (t : Xfer) (l : List (Nat × Block × Nat)) : State :=
  let k := t.desc.dkey
  let fits := l.filter (fun p => p.1 + 2048 ≤ (s.key k).length)
  s.launch (fits.map (fun p =>
    { t.access c k p.1 (toBytes 2048 p.2.1.data.toNat) (if (s.key k).check then some p.2.1.hdr else none) with
      count := some p.2.2 }))

/-- Writes whole blocks of the transfer (R242, R605). -/
def State.writeBlocks (s : State) (c : Nat) (t : Xfer) (l : List (Nat × Block)) : State :=
  s.writeBuilt c t (l.map (fun p => (p.1, p.2, 2048)))

/-- Writes plain bytes through a key whose CHECK is 0, clipped to the region, cut at block boundaries. -/
def State.writeBytes (s : State) (c : Nat) (t : Xfer) (k off : Nat) (bs : List Nat) : State :=
  let n := s.inside k off bs.length
  s.launch ((pieces off n).filter (fun p => p.2 ≠ 0) |>.map (fun p =>
    t.access c k p.1 ((bs.drop (p.1 - off)).take p.2) none))

/-- Ends a transfer with a status, nothing moved from here on. The status takes the place of one that a RESP has reported
(R240, R428); a transfer that has ended keeps its own. -/
def State.endXfer (s : State) (c seq : Nat) (st : XStatus) : State :=
  s.modXfer c seq (fun t => { t with
    status := if t.fin then t.status else st
    land := []
    pass := none
    want := 0
    wantS := 0
    need := []
    out := []
    hold := []
    stall := none
    fin := true })

/-- A request of a transfer finds no entry that serves its context: the transfer ends with ADDRESS_FAULT, counted once
(R420). -/
def State.sendFault (s : State) (c seq : Nat) : State :=
  match s.xfer c seq with
  | some u => if u.fin then s else (s.bump K.EP_SEND_FAULTS 1).endXfer c seq .addressFault
  | none => s

/-- Sends blocks of the transfer over a link in WRITEs of up to four (R408), the first as block `blk`; digested under
R336. The entry is looked up as each WRITE leaves (R420). In a replay step they are digested and discarded (R351). -/
def State.sendBlocks (s : State) (c : Nat) (t : Xfer) (blk : Nat) (l : List (Block × Nat)) : State :=
  let d := t.desc
  let io := t.io
  if !t.replay && !s.epOk io d.endpoint t.ctx then s.sendFault c t.seq
  else
    let s := s.modCx t.ctx (fun x => x.charge (fun st => (l.map (·.1)).foldl Step.digest st))
    if t.replay then s.modXfer c t.seq (fun t => { t with moved := t.moved + (l.map (·.2)).sum })
    else
      let off := if d.remoteQueue then queueOff d.doff else d.doff + 2048 * blk
      s.issueReq { s.writeReq io d.endpoint t.ctx t.gen 4 (some (s.identity t.ctx)) d.remoteQueue
        (if d.remoteQueue then 0 else d.dkey) off (l.map (·.1)) (.xfer c t.seq) with counts := l.map (·.2) }

/-- Sends a list of blocks in runs of four. -/
def State.sendAll (s : State) (c : Nat) (t : Xfer) (blk : Nat) (l : List (Block × Nat)) : State :=
  ((runs 4 l).zipIdx).foldl (fun s p => s.sendBlocks c t (blk + 4 * p.2) p.1) s

/-! ### Beginning a transfer -/

/-- Replaces a transfer. -/
def State.setXfer (s : State) (c : Nat) (t : Xfer) : State := s.modXfer c t.seq (fun _ => t)

/-- The header pass of a transfer (R247): the maxima go to the anchor unit; nothing lands. -/
def State.headerPass (s : State) (c : Nat) (t : Xfer) (r : Reading) : State :=
  s.setXfer c { t with
    passed := true
    badBlock := t.badBlock || r.bad
    pass := if r.maxes = [] then none else some (t.desc.dq, r.maxes) }

/-- Lays what was read into the transfer: landings, writes or messages. -/
def State.placeReading (s : State) (c : Nat) (t : Xfer) (r : Reading) : State :=
  let d := t.desc
  let t : Xfer := { t with
    begun := true
    clips := t.clips + r.clips
    badBlock := t.badBlock || r.bad }
  let s := s.bump K.DMA_CLIPS r.clips
  match d.dkind with
  | 1 =>
    s.setXfer c { t with
      land := r.blocks.map (fun b => (d.dq, b.1, b.2)) ++ r.scales.map (fun b => (d.dsq, b.1, b.2)) }
  | 2 =>
    let s := s.setXfer c t
    let s := s.sendAll c t 0 r.blocks
    let u : Xfer := { t with desc := d.toScales }
    if d.blockScales then
      let f := Fmt.ofCode d.fmt
      let idx := r.blocks.foldl (fun l b => (scaleBlocksOf f b.1.h.index).foldl (fun l i => insertNat i l) l) []
      (idx.zip r.scales).foldl (fun s p => s.sendBlocks c u p.1 [p.2]) s
    else s.sendAll c u 0 r.scales
  | _ =>
    let k := d.dkey
    let reg := (s.key k).length
    match d.mode with
    | 0 =>
      let cut := b2n (decide (r.blocks ≠ []) && decide (reg < d.doff + 2048 * r.blocks.length))
      let s := (s.bump K.DMA_CLIPS cut).setXfer c { t with clips := t.clips + cut }
      let s := s.writeBlocks c t ((r.blocks.zipIdx).map (fun p => (d.doff + 2048 * p.2, p.1.1)))
      if d.blockScales then
        let f := Fmt.ofCode d.fmt
        let idx := r.blocks.foldl (fun l b => (scaleBlocksOf f b.1.h.index).foldl (fun l i => insertNat i l) l) []
        s.writeBlocks c t ((idx.zip (r.scales.map (·.1))).map (fun p => (d.scoff + 2048 * p.1, p.2)))
      else s
    | _ =>
      let asked (q : Nat × List Nat × List (Nat × Nat)) : Nat := if d.mode = 1 then d.length else q.2.1.length
      let cut := (r.rows.filter (fun q => decide (s.inside k q.1 (asked q) < asked q))).length
      let s := (s.bump K.DMA_CLIPS cut).setXfer c { t with clips := t.clips + cut }
      let s :=
        if (s.key k).check then
          let p : BuildF := { fmt := d.fmt, tensor := d.tensor, step := s.tagStep t.ctx }
          let g := (Fmt.ofCode d.fmt).groupBytes
          let bl := ((r.rows.zipIdx).map (fun q => ((runs 2048 q.1.2.1).zipIdx).map (fun c =>
            (q.1.1 + 2048 * c.2, c.1, meetsSpan q.1.2.2 (2048 * c.2) (2048 * c.2 + c.1.length), (r.scaleRows.getD q.2 (0, [])).2.drop (2048 * c.2 / g))))).flatten
          s.writeBuilt c t ((bl.zipIdx).map (fun q =>
            let (off, bs, bad, sc) := q.1
            (off, buildBytes p (d.block0 + q.2) bad (fun i => sc.getD i 0x7F) bs, bs.length)))
        else r.rows.foldl (fun s q => s.writeBytes c t k q.1 q.2.1) s
      r.scaleRows.foldl (fun s q => s.writeBytes c t k q.1 q.2) s

/-- Begins a transfer: a source in memory is read whole, twice where a header pass goes ahead (R247); a source queue is
drained as its blocks come. The transfer waits while a stack of its source is in self-refresh or a path is stopped, and ends when a stack is out of service (R373,
R482). -/
def State.beginXfer (s : State) (c : Nat) (t : Xfer) : State :=
  let d := t.desc
  if d.skind = 1 then
    let f := Fmt.ofCode d.fmt
    let byte := d.mode = 1
    let n := if byte then ceilDiv d.total f.bytesUsed else d.length
    let groups := if byte && f.isMX then d.total / f.groupBytes else 0
    let reg := (s.key d.dkey).length
    let cut := if d.dkind ≠ 0 || (s.drawerDie t.ctx d.dkey).isSome then 0
      else if byte then ((List.range d.nrows).filter (fun r =>
        decide (s.inside d.dkey (d.rowOff d.doff r) d.length < d.length))).length
      else b2n (decide (reg < d.doff + 2048 * d.length))
    (s.bump K.DMA_CLIPS cut).setXfer c { t with
      begun := true
      clips := t.clips + cut
      want := n
      wantS := ceilDiv groups 2048 }
  else
    let p := s.placeOf t.ctx d.skey
    let reads := ((s.sources t.ctx d).map (fun q => s.placeHbm q.1 q.2.1 q.2.2)).flatten
    let off := (reads.map (fun q => s.offSites q.1 0 q.2)).sum
    if off ≠ 0 then (s.bump K.HBM_OFFLINE_ACCESSES off).endXfer c t.seq .memOffline
    else if reads.any (fun q => s.asleepSites q.1 0 q.2)
        || (s.sources t.ctx d).any (fun q => s.placeWaits c q.1 q.2.1 q.2.2) then s
    else
      let r := match d.mode with
        | 0 => s.readBlocks c t p
        | 1 => s.readRows c t p
        | _ => s.readGather t
      if d.hdrahead && !t.passed then r.1.headerPass c t r.2 else r.1.placeReading c t r.2

/-! ### Acceptance (R165, R224, R607) -/

/-- The drawer blocks that a read transfer touches, those of its scales too: entry and block (R237, R273). -/
def State.drawerBlocks (s : State) (x : Nat) (d : Desc) : List (Nat × Nat) :=
  ((s.sources x d).map (fun q => touched q.2.1 q.2.2)).flatten.eraseDups.map (fun b => drawerAt (2048 * b))

/-- The drawer entries that a write transfer writes (R271): its rows or blocks, and where its scales begin. -/
def Desc.drawerEntries (d : Desc) : List Nat :=
  let n := if d.mode = 0 then 2048 * d.length else d.length
  let rows := (List.range d.nrows).map (fun r => (d.rowOff d.doff r, n))
  let scales := if d.mode = 0 then (if d.blockScales then [(d.scoff, 1)] else [])
    else if (Fmt.ofCode d.fmt).isMX then (List.range d.nrows).map (fun r =>
      (d.scaleOff r, d.length / (Fmt.ofCode d.fmt).groupBytes))
    else []
  ((rows ++ scales).map (fun q => (touched q.1 q.2).map (fun b => (drawerAt (2048 * b)).1))).flatten.eraseDups

/-- R270: a transfer that names a drawer's key or a spill key in a way that drawers do not take. -/
def State.drawerFault (s : State) (x : Nat) (d : Desc) : Bool :=
  let names (k : Nat) : Bool := (s.drawerDie x k).isSome
  let used := (if d.skind = 0 then [d.skey] else []) ++ (if d.dkind = 0 then [d.dkey] else [])
    ++ (if d.mode = 2 then [d.ikey] else []) ++ (if d.record then [d.rkey] else [])
  used.any (s.isSpillKey x)
    || (used.any names && (d.mode = 2 || (d.record && names d.rkey) || (d.skind = 0 && d.dkind ≠ 1 && names d.skey)
      || (d.skind = 0 && d.dkind = 0)))

/-- R227 for the keys that move data. -/
def State.keysFail (s : State) (x : Nat) (d : Desc) : Bool :=
  (d.skind = 0 && !s.keyOk x d.skey true false) || (d.dkind = 0 && !s.keyOk x d.dkey false true)
    || (d.mode = 2 && !s.keyOk x d.ikey true false)

/-- R607's last judgement: a BYTE write to a CHECK key moves whole blocks at block boundaries (R236), and a GATHER builds
its blocks from a block boundary on (log entry 100). -/
def State.checkFault (s : State) (d : Desc) : Bool :=
  d.dkind = 0 && (s.key d.dkey).check
    && ((d.mode = 1 && (d.length % 2048 ≠ 0 || (List.range d.nrows).any (fun r => d.rowOff d.doff r % 2048 ≠ 0)))
      || (d.mode = 2 && d.doff % 2048 ≠ 0))

/-- The trace record of a descriptor (0x81). -/
def State.traceDma (s : State) (c : Nat) (t : Xfer) (fin : Bool) (st : Nat) : State :=
  s.trace (c / 8) 2 (s.eventWord 0x81 (t.ctx <<< 52 + t.core <<< 44 + b2n fin <<< 40 + st <<< 36 + t.descIdx <<< 16
    + t.seq % 2 ^ 16))

/-- Where the descriptor of a DMA.ISSUE stands in HBM (R224). -/
def State.descAddr (s : State) (j : Job) : Nat := s.par (K.CONTEXT_DESC_BASE + j.ctx) + 64 * (issueF j.word.toNat).desc

/-- A write transfer of a drawer is accepted: its entries are opened (R271). -/
def State.openWrites (s : State) (c : Nat) (t : Xfer) : State :=
  match if t.desc.dkind = 0 then s.drawerDie t.ctx t.desc.dkey else none with
  | none => s
  | some die =>
    let l := t.desc.drawerEntries
    (s.setDrawer t.ctx die ((s.drawer t.ctx die).openEntries l t.step)).modXfer c t.seq (fun t => { t with dwrite := l })

/-- Accepts the descriptor of a DMA.ISSUE at the engine of cluster `c` and judges it (R607). Its read is an access of HBM in
class P0 (R367, R373). -/
def State.acceptXfer (s : State) (c core : Nat) (j : Job) : State :=
  let w := issueF j.word.toNat
  let at' := s.descAddr j
  let raw := ofBytes (s.readSpace 0 at' 64)
  let off := s.offSites at' 0 64
  let by' : Int := (if w.lon then w.lstride * (j.iter : Int) else 0) + w.cstride * ((core % 8 : Nat) : Int)
  let d := (descF raw).shift w.asel by'
  let l := s.cl c
  let seq := (l.seq + 1) % 2 ^ 32
  let cx := s.cx j.ctx
  let t : Xfer :=
    { seq := seq
      core := core
      ctx := j.ctx
      gen := j.gen
      pc := j.pc
      descIdx := w.desc
      desc := d
      io := j.io
      start := s.now
      limit := s.parMs K.DMA_TIMEOUT
      step := cx.openNo
      replay := cx.openStep.isNone && cx.openNo.isSome }
  let s := s.setCl c { l with seq := seq, xfers := l.xfers ++ [t] }
  let s := (s.traceDma c t false 0).countBursts 0 at' 64
  if off ≠ 0 then (s.bump K.HBM_OFFLINE_ACCESSES off).endXfer c seq .memOffline
  else if d.bad by' then (s.bump K.BAD_DESCRIPTORS 1).endXfer c seq .badDescriptor
  else if d.length = 0 then s.endXfer c seq .ok
  else if s.keysFail j.ctx d then (s.bump K.DMA_ADDRESS_FAULTS 1).endXfer c seq .addressFault
  else if s.drawerFault j.ctx d then s.endXfer c seq .addressFault
  else if s.checkFault d then (s.bump K.BAD_DESCRIPTORS 1).endXfer c seq .badDescriptor
  else
    match if d.skind = 0 then s.drawerDie j.ctx d.skey else none with
    | none =>
      let s := s.openWrites c t
      s.beginXfer c ((s.xfer c seq).getD t)
    | some die =>
      let w := s.drawer j.ctx die
      let blocks := s.drawerBlocks j.ctx d
      match blocks.find? (fun p => !w.stashed p.1 p.2) with
      | some p =>
        let s := (s.bump K.NOT_STASHED_READS 1).event c 0x05 (j.ctx <<< 52 + die <<< 50 + p.1 <<< 32 + p.2)
        s.endXfer c seq .notStashed
      | none =>
        let spilled := (blocks.filter (fun p => ((w.page p.1 p.2).map (·.spilled)).getD false)).length
        let s := s.bump K.DRAWER_SPILL_READ_BLOCKS spilled
        let pages := (blocks.map (fun p => (p.1, p.2 / 32))).eraseDups
        let w' := pages.foldl (fun w p => w.modPage p.1 (32 * p.2) (fun g => { g with inFlight := g.inFlight + 1 })) w
        let t := { t with dread := blocks.map (fun p => (die, p)) }
        (s.setDrawer j.ctx die w').beginXfer c t

/-! ### Moving data -/

/-- A landing waits behind earlier transfers of the same core into the same queue (R134). -/
def landBlocked (pre : List Xfer) (core q : Nat) : Bool :=
  pre.any (fun t => t.core = core && !t.fin
    && (t.land.any (fun p => p.1 = q) || (!t.begun && t.desc.dkind = 1 && (t.desc.dq = q || t.desc.dsq = q))))

/-- A drain waits behind earlier transfers that drain the same queue. -/
def drainBlocked (pre : List Xfer) (core q : Nat) : Bool :=
  pre.any (fun t => t.core = core && !t.fin && ((t.want ≠ 0 && t.desc.sq = q)
    || ((t.wantS ≠ 0 || t.need ≠ []) && t.desc.ssq = q)))

/-- Offers the first waiting drawer write of a transfer to its drawer: it is put on its way when its entry has been closed
(R283), or its page is there or can be had; otherwise the transfer joins those that wait for a page (R278, R279). -/
def State.drawerOffer (s : State) (c : Nat) (t : Xfer) (die : Nat) : Option State :=
  match t.hold with
  | [] => none
  | (off, bytes, hdr) :: rest =>
    let (entry, blk) := drawerAt off
    let w := s.drawer t.ctx die
    let put (s : State) : State :=
      let s := (s.endStall c t).modXfer c t.seq (fun t => { t with hold := rest })
      s.launch [{ t.access c t.desc.dkey off bytes hdr with drawer := some (die, entry, blk) }]
    if w.closed.contains (c, t.seq, entry) || (w.page entry blk).isSome then some (put s)
    else if w.stalled.contains (c, t.seq) then none
    else
      match w.stalled, w.freePage false with
      | [], some i => some (put (s.setDrawer t.ctx die (w.allocate entry blk i t.step)))
      | _, _ => some (s.drawerJoin t.ctx die c t.seq)

/-- Takes one block of a source queue: none when there is none. A read of Q63 gives a null block (R127). -/
def State.drainOne (s : State) (core q : Nat) : Option (State × Block) :=
  if q = 63 then some (s, Block.null)
  else
    let k := s.co core
    if (k.queue q).count = 0 then none else some (s.setCo core ((k.pop q).countEv 0x0D 1), k.peek q 0)

/-- Checks a drained block, a null block of Q63 like any other (R232). -/
def State.checkDrained (s : State) (c : Nat) (t : Xfer) (q : Nat) (b : Block) : State × Block × Bool :=
  s.checkBlock c t.ctx (2 ^ 19 + t.core <<< 6 + q) false b

/-- Scale of group `g` of the transfer, from the scale bytes drained so far. -/
def Xfer.scaleAt (t : Xfer) (g : Nat) : Nat := if t.scales = [] then 0x7F else t.scales.getD g 0x7F

/-- Does a drained byte of places `lo` to `hi` (left out) come from a bad block (R234)? -/
def Xfer.drawsBad (t : Xfer) (lo hi : Nat) : Bool := t.badSpans.any (fun p => decide (p.1 < hi) && decide (lo < p.2))

/-- Emits what the drained bytes of a BYTE transfer allow: rows to memory, blocks through a CHECK key or into a drawer,
or blocks over a link. -/
def State.emitBytes (s : State) (c : Nat) (t : Xfer) : State :=
  let d := t.desc
  let f := Fmt.ofCode d.fmt
  let p : BuildF := { fmt := d.fmt, tensor := d.tensor, step := s.tagStep t.ctx }
  let drawer := s.drawerDie t.ctx d.dkey
  if d.dkind = 2 then
    let left := min t.buf.length (d.total - t.pos)
    let n := if t.want = 0 then ceilDiv left f.bytesUsed else left / f.bytesUsed
    let need := if f.isMX then ceilDiv (t.pos + min left (n * f.bytesUsed)) f.groupBytes else 0
    if t.wantS ≠ 0 && t.scales.length < need then s
    else
      let bl := (List.range n).map (fun i =>
        let bs := (t.buf.take left |>.drop (i * f.bytesUsed)).take f.bytesUsed
        let bs := bs.take (bs.length * 8 / f.width * f.width / 8)
        let at' := t.pos + i * f.bytesUsed
        (buildBytes p (d.block0 + t.blk + i) (t.drawsBad at' (at' + bs.length))
          (fun g => t.scaleAt (at' / f.groupBytes + g)) bs, bs.length))
      let t' : Xfer := { t with
        buf := t.buf.drop (n * f.bytesUsed)
        pos := t.pos + min left (n * f.bytesUsed)
        blk := t.blk + n }
      (s.setXfer c t').sendAll c t' t.blk bl
  else if (s.key d.dkey).check || drawer.isSome then
    let n := min t.buf.length (d.total - t.pos) / 2048
    let need := if f.isMX then ceilDiv (t.pos + 2048 * n) f.groupBytes else 0
    if t.wantS ≠ 0 && t.scales.length < need then s
    else
      let bl := (List.range n).map (fun i =>
        let at' := t.pos + 2048 * i
        let off := (d.rowOff d.doff (at' / d.length) + at' % d.length) % 2 ^ 40
        (off, buildBytes p (d.block0 + t.blk + i) (t.drawsBad at' (at' + 2048)) (fun g => t.scaleAt (at' / f.groupBytes + g))
          ((t.buf.drop (2048 * i)).take 2048)))
      let t' : Xfer := { t with buf := t.buf.drop (2048 * n), pos := t.pos + 2048 * n, blk := t.blk + n }
      if drawer.isSome then
        s.setXfer c { t' with hold := t.hold ++ bl.map (fun q => (q.1, toBytes 2048 q.2.data.toNat, some q.2.hdr)) }
      else (s.setXfer c t').writeBlocks c t' bl
  else
    let n := min t.buf.length (d.total - t.pos)
    let t' : Xfer := { t with buf := [], pos := t.pos + n }
    let cuts := (List.range (d.nrows)).filterMap (fun r =>
      let lo := max t.pos (r * d.length)
      let hi := min (t.pos + n) ((r + 1) * d.length)
      if lo < hi then some ((d.rowOff d.doff r + (lo - r * d.length)) % 2 ^ 40, (t.buf.drop (lo - t.pos)).take (hi - lo))
      else none)
    cuts.foldl (fun s q => s.writeBytes c t' d.dkey q.1 q.2) (s.setXfer c t')

/-- Writes the drained scale bytes of a BYTE transfer to memory, or sends them over a link, when all are drained, in blocks
with built headers (R234, R237; log entry 93). -/
def State.emitScales (s : State) (c : Nat) (t : Xfer) (before : Nat) : State :=
  let d := t.desc
  let per := d.length / (Fmt.ofCode d.fmt).groupBytes
  let total := d.nrows * per
  let hi := min t.scales.length total
  let cuts := (List.range d.nrows).filterMap (fun r =>
    let a := max before (r * per)
    let b := min hi ((r + 1) * per)
    if a < b then some (d.scaleOff r + (a - r * per), (t.scales.drop a).take (b - a)) else none)
  if d.dkind = 2 then
    if t.wantS ≠ 0 then s
    else s.sendAll c { t with desc := d.toScales } 0
      (scaleBlocks d.tensor (s.tagStep t.ctx) t.badScales.contains (t.scales.take total))
  else if (s.drawerDie t.ctx d.dkey).isSome then
    s.modXfer c t.seq (fun t => { t with hold := t.hold ++ (cuts.map (fun q => (pieces q.1 q.2.length).map (fun p =>
      (p.1 % 2 ^ 40, (q.2.drop (p.1 - q.1)).take p.2, (none : Option (BitVec 128)))))).flatten })
  else cuts.foldl (fun s q => s.writeBytes c t d.dkey q.1 q.2) s

/-- A drained element block of a BLOCK transfer leaves (R234, R237). -/
def State.emitBlock (s : State) (c : Nat) (t : Xfer) (b : Block) : State :=
  let d := t.desc
  let all := if d.blockScales then scaleBlocksOf (Fmt.ofCode d.fmt) b.h.index else []
  let idx := all.filter (fun i => !t.seen.contains i)
  let t' : Xfer := { t with
    blk := t.blk + 1
    seen := t.seen ++ idx
    need := idx.foldl (fun l i => insertNat i l) t.need
    reach := all.headD 0 }
  let off := d.doff + 2048 * t.blk
  if d.dkind = 2 then
    let out := t.out ++ [b]
    if out.length = 4 || t.want = 0 then
      let t' := { t' with out := [] }
      (s.setXfer c t').sendBlocks c t' (t.blk + 1 - out.length) (out.map (fun b => (b, 2048)))
    else s.setXfer c { t' with out := out }
  else if (s.drawerDie t.ctx d.dkey).isSome then s.setXfer c { t' with
      hold := t.hold ++ [(off % 2 ^ 40, toBytes 2048 b.data.toNat, some b.hdr)] }
  else (s.setXfer c t').writeBlocks c t' [(off, b)]

/-- A drained scale block of a BLOCK transfer leaves for its place (R237). -/
def State.emitScaleBlock (s : State) (c : Nat) (t : Xfer) (i : Nat) (b : Block) : State :=
  let d := t.desc
  if d.dkind = 2 then s.sendBlocks c { t with desc := d.toScales } i [(b, 2048)]
  else if (s.drawerDie t.ctx d.dkey).isSome then
    s.setXfer c { t with hold := t.hold ++ [((d.scoff + 2048 * i) % 2 ^ 40, toBytes 2048 b.data.toNat, some b.hdr)] }
  else s.writeBlocks c t [(d.scoff + 2048 * i, b)]

/-- One advance of a transfer; none when it cannot go on. `pre` are the engine's earlier transfers. -/
def State.advanceXfer (s : State) (c : Nat) (pre : List Xfer) (t : Xfer) : Option State :=
  let d := t.desc
  if t.fin || s.stale t.ctx t.gen then none
  else
    match t.pass with
    | some (q, m) =>
      if Tbl.get (s.co t.core).passMax [] q = [] then
        let s := s.modCo t.core (fun k => { k with passMax := Tbl.put k.passMax [] q m })
        some (s.setXfer c { t with pass := none })
      else none
    | none =>
      if !t.begun then
        let s' := s.beginXfer c t
        match s'.xfer c t.seq with
        | some t' => if t'.begun || t'.fin || (t'.passed && !t.passed) then some s' else none
        | none => none
      else
      let landNow : Option State := t.land.findSome? (fun p =>
        let (q, b, n) := p
        let rest := t.land.erase p
        if t.land.find? (fun x => x.1 = q) ≠ some p || landBlocked pre t.core q then none
        else if q = 63 then some (s.setXfer c { t with land := rest, moved := t.moved + n })
        else if ((s.co t.core).queue q).size = 0 then
          some ((s.bump K.NOQUEUE_DROPS 1).setXfer c { t with moved := 0 } |>.endXfer c t.seq .noqueue)
        else if (s.co t.core).room q then
          some ((s.setCo t.core (((s.co t.core).put q b).countEv 0x0C 1)).setXfer c
            { t with land := rest, moved := t.moved + n })
        else none)
      match landNow with
      | some s' => some s'
      | none =>
        let offer := match s.drawerDie t.ctx d.dkey with
          | some die => if d.dkind = 0 && t.hold ≠ [] then s.drawerOffer c t die else none
          | none => none
        match offer with
        | some s' => some s'
        | none =>
          let elems : Option State :=
            if t.want = 0 || t.hold ≠ [] || drainBlocked pre t.core d.sq then none
            else (s.drainOne t.core d.sq).map (fun r =>
              let k := r.1.checkDrained c t d.sq r.2
              let t := { t with want := t.want - 1, badBlock := t.badBlock || k.2.2 }
              if d.mode = 0 then k.1.emitBlock c t k.2.1
              else
                let n := (Fmt.ofCode d.fmt).bytesUsed
                let at' := t.pos + t.buf.length
                let t := { t with
                  buf := t.buf ++ toBytes n k.2.1.data.toNat
                  badSpans := if k.2.1.h.bad then t.badSpans ++ [(at', at' + n)] else t.badSpans }
                (k.1.setXfer c t).emitBytes c t)
          match elems with
          | some s' => some s'
          | none =>
            if drainBlocked pre t.core d.ssq then none
            else if t.wantS ≠ 0 then
              (s.drainOne t.core d.ssq).map (fun r =>
                let k := r.1.checkDrained c t d.ssq r.2
                let t' := { t with
                  wantS := t.wantS - 1
                  scales := t.scales ++ toBytes 2048 k.2.1.data.toNat
                  badScales := if k.2.1.h.bad then t.badScales ++ [t.scales.length / 2048] else t.badScales
                  badBlock := t.badBlock || k.2.2 }
                ((k.1.setXfer c t').emitBytes c t').emitScales c t' t.scales.length)
            else
              match t.need with
              | [] => none
              | i :: rest => if t.want ≠ 0 && t.reach ≤ i then none else (s.drainOne t.core d.ssq).map (fun r =>
                  let k := r.1.checkDrained c t d.ssq r.2
                  let t := { t with need := rest, badBlock := t.badBlock || k.2.2 }
                  (k.1.setXfer c t).emitScaleBlock c t i k.2.1)

/-- The first transfer of an engine, after those in `pre`, that can go on. -/
def State.advanceXfers (s : State) (c : Nat) : List Xfer → List Xfer → Option State
  | _, [] => none
  | pre, t :: r =>
    match s.advanceXfer c pre t with
    | some s' => some s'
    | none => State.advanceXfers s c (pre ++ [t]) r

/-- DMA.ISSUEs whose descriptor the engine can accept: the oldest of each core, in ascending order of the cores, while
fewer than 256 descriptors are in flight (R140, R224). -/
def State.acceptNext (s : State) (c : Nat) : Option State :=
  if 256 ≤ (s.cl c).xfers.length || s.frozen c then none
  else (s.coresOf c).findSome? (fun k =>
    ((s.co k).jobs.find? (fun j => j.unit = .dma)).bind (fun j =>
      if s.asleepSites (s.descAddr j) 0 64 || s.memWaits (c / 8) 0 (s.descAddr j) 0 64 then none
      else some (((s.modCo k (fun o => o.dropJob j)).acceptXfer c k j).progressCl c)))

/-- The remote sender of blocks to a queue learns how they ended (R408, R410). -/
def State.moveDone (s : State) (m : MoveFlight) (st : XStatus) : State :=
  match m.remote with
  | none => s
  | some (io, e, slot) => s.answer io e slot st.code (if st = .ok then Machine.writeBlocks slot else 0)

/-- A QMOVE into a queue of its own core waits behind the pushes of the core's earlier instructions (R133). -/
def State.moveWaits (s : State) (m : MoveFlight) : Bool :=
  let c := s.co m.dst
  m.remote.isNone && m.src = m.dst
    && (pushBlocked m.dst c (c.jobs.filter (fun j => decide (j.no < m.no))) m.dq || s.moveBlocks m.dst m.dq m.no)

/-- The next block of a QMOVE or of a remote WRITE that can land in a core of the cluster, in the order of their arrival at
each queue (R134): the queue has room, or it is unconfigured and the blocks come over a link (R136). -/
def State.nextMove (s : State) (c : Nat) : Option MoveFlight :=
  let here := s.moves.filter (fun m => m.judged = some false && m.dst / 8 = c && m.blocks ≠ [])
  let gone (m : MoveFlight) : Bool := m.remote.isSome && m.dq ≠ 63 && ((s.co m.dst).queue m.dq).size = 0
  here.find? (fun m =>
    (m.dq = 63 || gone m || (s.co m.dst).room m.dq) && !s.moveWaits m
      && here.find? (fun x => x.dst = m.dst && x.dq = m.dq && !s.moveWaits x) = some m)

/-- One block of a QMOVE or of a remote WRITE that has been judged lands in a core of the cluster (R134, R138, R171). The
null queue discards a block at once (R127). -/
def State.landMove (s : State) (c : Nat) : Option State :=
  let gone (m : MoveFlight) : Bool := m.remote.isSome && m.dq ≠ 63 && ((s.co m.dst).queue m.dq).size = 0
  match s.nextMove c with
  | none => none
  | some m =>
    if gone m then some ((({ s with moves := s.moves.erase m } : State).bump K.NOQUEUE_DROPS 1).moveDone m .noqueue)
    else
      match m.blocks with
      | [] => some { s with moves := s.moves.erase m }
      | b :: r =>
        let s := if m.dq = 63 then s else s.modCo m.dst (fun k => k.put m.dq (if m.remote.isSome then b.landPlain else b))
        let s := match m.remote with
          | some (_, e, _) =>
            s.logUnder m.ctx m.step (logRecord e 1 0 0 m.dq (m.dst / 8 % 8) (m.dst / 64) (m.dst % 8)) (some b)
          | none => s
        if r = [] && m.left = 0 then
          let s := if m.remote.isSome then s else s.progressCl (m.src / 8)
          some (({ s with moves := s.moves.erase m } : State).moveDone m .ok)
        else some { s with moves := s.moves.replace m { m with blocks := r } }

/-- One advance of anything in a cluster: its cores' units, its engine's acceptance, its transfers, arriving QMOVEs. -/
def State.advanceCluster (s : State) (c : Nat) : Option State :=
  match advanceCores s (s.coresOf c) with
  | some s' => some s'
  | none =>
    match s.acceptNext c with
    | some s' => some s'
    | none =>
      match s.advanceXfers c [] (s.cl c).xfers with
      | some s' => some (s'.progressCl c)
      | none => (s.landMove c).map (fun s' => s'.progressCl c)

/-- Advances a cluster, at most `n` times, until nothing more can go on. -/
def State.settleFor (c : Nat) : Nat → State → State
  | 0, s => s
  | n + 1, s =>
    match s.advanceCluster c with
    | none => s
    | some s' => State.settleFor c n s'

/-- Does an instruction of core `k` stand on an empty queue (R129, R138)? -/
def Core.popStalled (c : Core) : Bool :=
  (c.jobs.zipIdx).any (fun p =>
    let j := p.1
    let pre := c.jobs.take p.2
    let reads := jobReads j.word.toNat j.unit (jobEpi c pre j)
    j.begun && !j.computed && anchorReady c j reads && reads.any (fun r => !j.has r && !readBlocked c pre r.q))

/-- Does a producer stand on a full queue of core `k`: one of its units, a landing transfer, a QMOVE or a remote WRITE
(R129, R138)? -/
def State.pushStalled (s : State) (c k : Nat) : Bool :=
  let o := s.co k
  let full (q : Nat) : Bool := q ≠ 63 && (o.queue q).size ≠ 0 && !o.room q
  let units := (o.jobs.zipIdx).any (fun p => match p.1.out with
    | (q, _) :: _ => full q && !pushBlocked k o (o.jobs.take p.2) q && !s.moveBlocks k q p.1.no
    | [] => false)
  let xs := (s.cl c).xfers
  let lands := (xs.zipIdx).any (fun p => p.1.core = k
    && p.1.land.any (fun l => full l.1 && !landBlocked (xs.take p.2) k l.1))
  units || lands || s.moves.any (fun m => m.judged = some false && m.dst = k && m.blocks ≠ [] && full m.dq)

/-- The cycles of the stalls that stand in a cluster are counted (R138): how many there are is timing. -/
def State.countStalls (s : State) (c : Nat) : State :=
  (s.coresOf c).foldl (fun s k =>
    let s := if (s.co k).popStalled then s.stalls k K.QUEUE_POP_STALL_CYCLES 0x0E else s
    if s.pushStalled c k then s.stalls k K.QUEUE_PUSH_STALL_CYCLES 0x0F else s) s

/-- Lets a cluster's units and engine do all that they can. -/
def State.settle (s : State) (c : Nat) : State := (State.settleFor c (2 ^ 40) s).countStalls c

/-! ### Completion (R239) -/

/-- Has the transfer moved all that it moves? -/
def State.xferDone (s : State) (c : Nat) (t : Xfer) : Bool :=
  t.fin || (t.begun && t.pass.isNone && t.land = [] && t.want = 0 && t.wantS = 0 && t.need = [] && t.out = []
    && t.hold = [] && !s.accesses.any (fun a => a.owner = .xfer c t.seq)
    && !s.links.reqs.any (fun r => r.owner = .xfer c t.seq && !r.orphan)
    && !s.links.waiting.any (fun r => r.owner = .xfer c t.seq) && t.missing = 0)

/-- The completion record (R239). -/
def Xfer.record (t : Xfer) : Nat :=
  (t.moved % 2 ^ 40) <<< 88 + t.seq <<< 56 + t.status.code <<< 52 + b2n (t.clips ≠ 0) <<< 51 + b2n t.badBlock <<< 50
    + t.descIdx <<< 28 + t.core <<< 20 + min t.clips 0xFFFF <<< 4 + 1

/-- A read of a drawer has completed: the counts of the blocks that it has read rise and pages that are done with are freed
(R272). -/
def State.drawerReadDone (s : State) (t : Xfer) : State :=
  match t.dread with
  | [] => s
  | (die, _, _) :: _ =>
    let w := s.drawer t.ctx die
    let w := (t.dread.map (fun p => (p.2.1, p.2.2 / 32))).eraseDups.foldl (fun w p =>
      w.modPage p.1 (32 * p.2) (fun g => { g with inFlight := g.inFlight - 1 })) w
    let w := if t.begun then t.dread.foldl (fun w p => w.modPage p.2.1 p.2.2 (fun g =>
        { g with reads := g.reads.map (fun r => if r.1 = p.2.2 % 32 then (r.1, r.2 + 1) else r) })) w else w
    ((s.setDrawer t.ctx die w.sweep).pruneDrawer t.ctx die).rejudge t.ctx die

/-- A write into a drawer has completed: entries that it alone kept are gone (R271, R283). -/
def State.drawerWriteDone (s : State) (c : Nat) (t : Xfer) : State :=
  match if t.dwrite = [] then none else s.drawerDie t.ctx t.desc.dkey with
  | none => s
  | some die =>
    let w := s.drawer t.ctx die
    (s.setDrawer t.ctx die { w with closed := w.closed.filter (fun p => !(p.1 = c && p.2.1 = t.seq)) }).pruneDrawer t.ctx die

/-- Does the completion record of a transfer wait for a stack in self-refresh (R373)? -/
def State.recordAsleep (s : State) (t : Xfer) : Bool := t.desc.record && s.asleepAt t.desc.rkey t.desc.roff 16

/-- Completes a transfer: its record, then its ADD unless `silent` (R239, R345). A record that names a drawer's key is not
written (R270; log entry 123). -/
def State.completeXfer (s : State) (c : Nat) (t : Xfer) (silent : Bool) : State :=
  let d := t.desc
  let s := s.modCl c (fun l => { l with xfers := l.xfers.filter (fun u => u.seq ≠ t.seq), progress := true })
  let s := (s.drawerReadDone t).drawerWriteDone c t
  let s := s.traceDma c t true t.status.code
  let s := if !d.record || (s.drawerDie t.ctx d.rkey).isSome || s.isSpillKey t.ctx d.rkey then s
    else if s.keyOk t.ctx d.rkey false true && decide (d.roff + 16 ≤ (s.key d.rkey).length) then
      s.putChecked 0 t.ctx d.rkey d.roff (toBytes 16 t.record) none
    else s.bump K.DMA_ADDRESS_FAULTS 1
  match if silent then none else semOfC d.cscope d.cdie d.ccluster d.cindex with
  | none => s
  | some r => s.post ⟨r, false, d.cvalue, t.ctx, t.gen, c / 8⟩

/-- Requests of a transfer that has ended early are kept until they are answered or given up (R428); those that wait for
a tag are not sent. -/
def State.orphanReqs (s : State) (c seq : Nat) : State :=
  { s with links := { s.links with
    reqs := s.links.reqs.map (fun r => if r.owner = .xfer c seq then { r with orphan := true } else r)
    waiting := s.links.waiting.filter (fun r => r.owner ≠ .xfer c seq) } }

end Sys2Proof.Machine
end

