-- ==== Sys2Proof/Machine/Plans.lean ====
section
/-!
DEFINITION. The plans of the collective engines (R288 to R290): their entries, lists and run-time state, and the run of
completed gathers (R297).
-/

namespace Sys2Proof.Machine

/-- The plan's entry (R289). -/
def State.planWord (s : State) (p : Nat) : Nat := (Tbl.get s.plans 0 p).toNat
/-- The run-time state of a plan. -/
def State.plan (s : State) (p : Nat) : PlanSt := Tbl.get s.planSt {} p
/-- Replaces the run-time state of a plan. -/
def State.setPlan (s : State) (p : Nat) (q : PlanSt) : State := { s with planSt := Tbl.put s.planSt {} p q }
/-- The VALID plans of a context. -/
def State.plansOf (s : State) (x : Nat) : List Nat :=
  (List.range 128).filter (fun p => bit (s.planWord p) 0 && bits (s.planWord p) 504 501 = x)

/-- The fields of a plan with those of its group (R288, R289). -/
structure PlanF where
  reduce : Bool
  ctx : Nat
  sfmt : Nat
  wfmt : Nat
  rounds : Nat
  lkey : Nat
  loff : Nat
  lcount : Nat
  wkey : Nat
  woff : Nat
  wunits : Nat
  skey : Nat
  ukey : Nat
  go : Nat
  done : Nat
  ready : Nat
  hash : Nat
  epBase : Nat
  io : Nat
  size : Nat
  rank : Nat
deriving DecidableEq, Repr

/-- Reads a plan; none when it is not VALID. -/
def State.planF (s : State) (p : Nat) : Option PlanF :=
  let w := s.planWord p
  let g := (Tbl.get s.groups 0 (bits w 510 505)).toNat
  if !bit w 0 then none
  else some
    { reduce := bit w 511
      ctx := bits w 504 501
      sfmt := bits w 500 497
      wfmt := bits w 496 493
      rounds := max 1 (bits w 492 485)
      lkey := bits w 484 469
      loff := bits w 468 429
      lcount := bits w 428 409
      wkey := bits w 408 393
      woff := bits w 392 353
      wunits := max 1 (bits w 352 337)
      skey := bits w 336 321
      ukey := bits w 320 305
      go := bits w 304 291
      done := bits w 290 277
      ready := bits w 276 263
      hash := bits g 255 192
      epBase := bits g 191 174
      io := bits g 173 172
      size := max 1 (bits g 171 159)
      rank := bits g 158 146 }

/-- An entry of a unit list (R290): tensor, first unit, count, offset of slot 0. -/
structure ListEntry where
  tensor : Nat
  first : Nat
  count : Nat
  soff : Nat
deriving DecidableEq, Repr

/-- Reads entry `i` of a plan's list. -/
def State.listEntry (s : State) (f : PlanF) (i : Nat) : ListEntry :=
  let w := ofBytes (s.readKey f.lkey (f.loff + 16 * i) 16)
  ⟨bits w 127 104, bits w 103 80, bits w 79 56, bits w 55 16⟩

/-- Units of a plan's list, Lu. -/
def State.listUnits (s : State) (f : PlanF) : Nat :=
  (List.range f.lcount).foldl (fun n i => n + (s.listEntry f i).count) 0

/-- Finds the unit at a position below Lu: list entry and unit. -/
def findUnit (s : State) (f : PlanF) : Nat → Nat → Nat → Option (Nat × Nat)
  | 0, _, _ => none
  | n + 1, i, pos =>
    let e := s.listEntry f i
    if pos < e.count then some (i, e.first + pos) else findUnit s f n (i + 1) (pos - e.count)

/-- Posts an ADD of 1 to a package semaphore of the plan's I/O die. -/
def State.planPost (s : State) (f : PlanF) (i : Nat) : State :=
  s.post ⟨.pkg f.io i, false, 1, f.ctx, (s.cx f.ctx).gen, 4 + f.io⟩

/-- Units that stay no longer (R297, R313): counted in DONESEM at the opening of every uncommitted step of their context. -/
def State.pruneUnits (s : State) (f : PlanF) (p : Nat) (q : PlanSt) : PlanSt :=
  let low := (s.cx f.ctx).steps.foldl (fun n t => min n (Tbl.get t.planCounts {} p).done) q.count.done
  { q with units := q.units.filter (fun u => !(u.done && decide (u.k < low))) }

/-- DONESEM rises for the units that complete the run from the start (R297), at most `n`. -/
def State.gatherRun (f : PlanF) (p : Nat) : Nat → State → State
  | 0, s => s
  | n + 1, s =>
    let q := s.plan p
    match q.units.find? (fun u => u.k = q.count.done) with
    | none => s
    | some u =>
      if !u.done then s
      else
        let q' := { q with count := { q.count with done := q.count.done + 1 } }
        State.gatherRun f p n ((s.setPlan p (s.pruneUnits f p q')).planPost f f.done)

end Sys2Proof.Machine
end

