-- ==== Sys2Proof/Machine/Gathers.lean ====
section
/-!
DEFINITION. Gathers of sharded parameters (R286, R297 to R303, R312): units in their owner's store, what the owner serves
and holds, and what lands in a window.
-/

namespace Sys2Proof.Machine

/-! ### Units (R286) -/

/-- The owner of a unit (R286). -/
def PlanF.owner (f : PlanF) (unit tensor : Nat) : Nat := (unit + tensor) % f.size

/-- Offset of a unit's slot in a store of `bytes` per unit (R286). -/
def PlanF.slotOff (f : PlanF) (e : ListEntry) (unit bytes : Nat) : Nat := e.soff + bytes * (unit / f.size)

/-- Positions of the list whose units this part owns, in list order, with entry and unit. -/
def State.ownedUnits (s : State) (f : PlanF) : List (Nat × Nat × Nat) :=
  (List.range (s.listUnits f)).filterMap (fun pos =>
    match findUnit s f f.lcount 0 pos with
    | none => none
    | some (i, u) => if f.owner u (s.listEntry f i).tensor = f.rank then some (pos, i, u) else none)

/-- Blocks of a unit in a format: 8 for BF16, 16 for FP32, 4 and a scale block for E4M3. -/
def unitBlocks (fmt : Nat) : Nat := if fmt = 0 then 8 else if fmt = 2 then 16 else 5

/-- The second and third slot of a collective message (R407, R413). -/
def collSlots (id : StepId) (p entry unit round bcount first hash tensor : Nat) : List (BitVec 128) :=
  [BitVec.ofNat 128 (id.word + p <<< 100 + (entry % 2 ^ 20) <<< 80 + (unit % 2 ^ 24) <<< 56 + round <<< 48
     + bcount <<< 45 + first <<< 40),
   BitVec.ofNat 128 (hash <<< 64 + tensor <<< 40)]

/-- A block that an engine writes into memory in class P1, with the checks of R228 and R373. -/
def State.enginePut (s : State) (x k off : Nat) (b : Block) : State :=
  s.putChecked 1 x k off (toBytes 2048 b.data.toNat) (if (s.key k).check then some b.hdr else none)

/-- A built block of an engine (R303, R234), with MAXEXP under the scales of its groups (R68). -/
def engineBlock (tensor index fmt : Nat) (bad : Bool) (step data : Nat) (scale : Nat → Nat := fun _ => 0x7F) : Block :=
  Block.build ⟨tensor, index, dataMaxexp (Fmt.ofCode fmt) scale data, fmt, bad, false, false, false, step⟩ data

/-! ### Numbers (R302, R307, R312, R437) -/

/-- Events of a list of elements that an engine decodes, forms or writes (R312): non-finite ones. -/
def State.engineNonfinite (s : State) (x n : Nat) : State :=
  if n = 0 then s
  else (s.bump K.NONFINITE_EVENTS n).modCx x (fun c => c.charge (fun t => { t with nonfinite := true }))

/-- Is an FP32 code a NaN or an infinity? -/
def f32Bad (c : BitVec 32) : Bool := bits c.toNat 30 23 = 255

/-- Decodes the elements of a block into FP32 codes (R306), with input flushes. -/
def decodeBlock (fmt : Nat) (b : Block) : List (BitVec 32) × Nat :=
  let f := Fmt.ofCode fmt
  (List.range f.perBlock).foldr (fun j acc =>
    let v := flushIn f (decodeElem f (elemCode f b.data.toNat j))
    (BitVec.ofNat 32 (roundIeee .fp32 .nearest v.1).code :: acc.1, acc.2 + b2n v.2)) ([], 0)

/-- Elements of a block that are a NaN or an infinity (R312). -/
def badElems (fmt : Nat) (b : Block) : Nat :=
  let f := Fmt.ofCode fmt
  ((List.range f.perBlock).filter (fun j => match decodeElem f (elemCode f b.data.toNat j) with
    | .nan | .inf _ => true
    | _ => false)).length

/-- Encodes FP32 codes as blocks of the wire format (R307), with output flushes. -/
def encodeUnit (fmt tensor step : Nat) (els : List (BitVec 32)) : List Block × Nat :=
  let f := Fmt.ofCode fmt
  let rs := els.map (fun c => roundIeee f .nearest (decodeElem .fp32 c.toNat))
  (((runs f.perBlock (rs.map (·.code))).zipIdx).map (fun p => engineBlock tensor p.2 fmt false step (packCodes f.width p.1)),
   (rs.filter (·.flush)).length)

/-- The place of an FP32 or E4M3 code in the order of a median: a NaN above every other value (R437). -/
def voteOrder (f : Fmt) (c : Nat) : Int :=
  match decodeElem f c with
  | .nan => 2 ^ 32
  | _ =>
    let m := (c % 2 ^ (f.width - 1) : Nat)
    if bit c (f.width - 1) then -(m : Int) - 1 else m

/-- The median of three results. -/
def median3 (f : Fmt) (a b c : Nat) : Nat :=
  let le (x y : Nat) : Bool := decide (voteOrder f x ≤ voteOrder f y)
  if le a b then (if le b c then b else if le a c then c else a)
  else if le a c then a else if le b c then c else b

/-- The elements in which the three copies disagreed are counted and charged (R437, R445). -/
def State.vote (s : State) (n : Nat) : State :=
  if n = 0 then s else (s.bump K.VOTE_DISAGREEMENTS n).health .vote n

/-- What leaves the three copies of an engine's adder or converter (R437): the median of each element's three results. -/
def State.voted (s : State) (f : Fmt) (rs : List Nat) : State × List Nat :=
  let n := rs.length
  let here := s.defence.copies.filter (fun q => decide (q.after < n))
  let rest := (s.defence.copies.filter (fun q => decide (n ≤ q.after))).map (fun q => { q with after := q.after - n })
  let copy (v : Nat) (m : BitVec 32) : Nat := Nat.xor v (m.toNat % 2 ^ f.width)
  let out := (rs.zipIdx).map (fun p =>
    match here.find? (fun q => q.after = p.2) with
    | none => (p.1, false)
    | some q =>
      let (a, b, c) := (copy p.1 q.m0, copy p.1 q.m1, copy p.1 q.m2)
      (median3 f a b c, a ≠ b || b ≠ c))
  let s : State := { s with defence := { s.defence with copies := rest } }
  (s.vote (out.filter (·.2)).length, out.map (·.1))

/-- The elements of BF16 blocks as E4M3 codes in groups of 32 (R302, R54, R59): codes, scale codes, saturations, output
flushes and input flushes. -/
def e4m3Codes (bl : List Block) : List Nat × List Nat × Nat × Nat × Nat :=
  let vals := (bl.map (fun b => (List.range 1024).map (fun j =>
    flushIn .bf16 (decodeElem .bf16 (elemCode .bf16 b.data.toNat j))))).flatten
  let groups := runs 32 vals
  let enc := groups.map (fun g =>
    let t := groupExp .e4m3 (g.map (·.1))
    let rs := g.map (fun v => match v.1 with
      | .inf _ => roundMX .e4m3 .nearest t .nan
      | w => roundMX .e4m3 .nearest t w)
    ((t + 127).toNat, rs))
  ((enc.map (fun g => g.2.map (·.code))).flatten, enc.map (·.1), (enc.map (fun g => (g.2.filter (·.sat)).length)).sum,
   (enc.map (fun g => (g.2.filter (·.flush)).length)).sum, (vals.filter (·.2)).length)

/-- The E4M3 data blocks and the scale block of a unit (R303). -/
def e4m3Blocks (tensor step : Nat) (bad : Bool) (codes scales : List Nat) : List Block :=
  let data := ((runs 2048 codes).zipIdx).map (fun p =>
    engineBlock tensor p.2 3 bad step (packCodes 8 p.1) (fun g => scales.getD (64 * p.2 + g) 0x7F))
  data ++ [engineBlock (tensor + 2 ^ 23) 4 8 bad step (packCodes 8 scales)]

/-- An engine converts a unit to E4M3 in its three copies (R302, R437), the events of its numbers counted (R47, R49, R53,
R312). -/
def State.toE4M3 (s : State) (x tensor step : Nat) (bl : List Block) : State × List Block :=
  let e := e4m3Codes bl
  let v := s.voted .e4m3 e.1
  let out := e4m3Blocks tensor step (bl.any (fun b => b.h.bad)) v.2 e.2.1
  let s := if e.2.2.1 = 0 then v.1 else v.1.bump K.CONVERT_SATURATIONS e.2.2.1
  let s := if e.2.2.2.1 = 0 then s else s.bump K.OUTPUT_FLUSHES e.2.2.2.1
  let s := if e.2.2.2.2 = 0 then s else s.bump K.INPUT_FLUSHES e.2.2.2.2
  (s.engineNonfinite x ((bl.map (badElems 0)).sum + ((out.take 4).map (badElems 3)).sum), out)

/-! ### GATHER: landing (R297, R301, R303) -/

/-- Writes a unit's scale bytes into the scale area of an E4M3 window, its block's header built anew (R289, R303). -/
def State.putScales (s : State) (f : PlanF) (slot tensor step : Nat) (bad : Bool) (bytes : List Nat) : State :=
  let a := f.woff + 8192 * f.wunits + 256 * slot
  let base := a / 2048 * 2048
  let old := s.readKey f.wkey base 2048
  let new := old.take (a - base) ++ fitBytes 256 bytes ++ old.drop (a - base + 256)
  s.enginePut f.ctx f.wkey base (engineBlock (tensor + 2 ^ 23) 4 8 bad step (ofBytes new))

/-- Lands a unit's blocks in its window slot (R295, R303, R312); the unit is complete. -/
def State.landUnit (s : State) (f : PlanF) (p : Nat) (u : GatherUnit) (bl : List Block) : State :=
  let slot := u.k % f.wunits
  let n := if f.wfmt = 0 then 8 else 4
  let scales := (bl.getD 4 Block.null).data.toNat
  let scale (i : Nat) : Nat := if f.wfmt = 0 then 0x7F else elemCode .e8m0 scales i
  let s := s.engineNonfinite f.ctx ((bl.take n).map (badElems f.wfmt)).sum
  let s := ((bl.take n).zipIdx).foldl (fun s b =>
    s.enginePut f.ctx f.wkey (f.woff + 2048 * (n * slot + b.2))
      (engineBlock u.tensor b.2 f.wfmt b.1.h.bad u.version b.1.data.toNat (fun g => scale (64 * b.2 + g)))) s
  let s := if f.wfmt = 0 then s else
    let b := bl.getD 4 Block.null
    s.putScales f slot u.tensor u.version b.h.bad ((toBytes 2048 b.data.toNat).take 256)
  let s := s.setPlan p { s.plan p with units := (s.plan p).units.map (fun v => if v.k = u.k then { v with done := true } else v) }
  State.gatherRun f p (s.plan p).units.length s

/-- A unit lands as zeros with BAD set (R301). -/
def State.landStale (s : State) (f : PlanF) (p : Nat) (u : GatherUnit) : State :=
  let n := unitBlocks f.wfmt
  let bad := (List.range n).map (fun i => engineBlock u.tensor i f.wfmt true u.version 0)
  let s := (s.bump K.GATHER_STALE_UNITS 1).modCx f.ctx (fun c => c.charge (fun t => { t with blocks := t.blocks + n }))
  s.landUnit f p u bad

/-- The version that the blocks sent in place of a stale unit's carry: none that a fetch in flight asks for (log entry
124). -/
def staleVersion (v : Nat) : Nat := (v + 2 ^ 15) % 2 ^ 16

/-- Takes blocks of a unit that have come from its owner; with all of them the unit lands (R301, R303). They belong to the
fetch in flight that asks for the version that they carry, or whose version they name as stale; where none does, to the
oldest of the unit, which they make stale. -/
def State.unitBlocksIn (s : State) (f : PlanF) (p : Nat) (entry tensor unit : Nat) (l : List (Nat × Block)) : State :=
  let q := s.plan p
  let n := unitBlocks f.wfmt
  let tag := ((l.head?).map (fun b => b.2.h.step)).getD 0
  let open' := q.units.filter (fun u => !u.done && u.unit = unit && u.tensor = tensor
      && l.all (fun b => !u.got.any (fun g => g.1 = b.1)))
  match (open'.find? (fun u => u.version = tag)).or ((open'.find? (fun u => staleVersion u.version = tag)).or open'.head?) with
  | none => s
  | some u =>
    let u' := { u with got := u.got ++ l.filter (fun b => decide (b.1 < n)) }
    let s := s.setPlan p { q with units := q.units.map (fun v => if v.k = u.k then u' else v) }
    if u'.got.length < n then s
    else
      let bl := (List.range n).map (fun i => ((u'.got.find? (fun g => g.1 = i)).map (·.2)).getD Block.null)
      if bl.all (fun b => b.h.step = u.version) && decide (entry < f.lcount) then s.landUnit f p u' bl
      else s.landStale f p u'

/-! ### GATHER: serving (R298 to R302) -/

/-- How block `b` of a unit is found at its owner for version `v` (R298): the block and whether it comes from the undo
copy; none when it is held, and a stale mark where it is stale or clipped. -/
inductive Found
  | store (b : Block)
  | undo (b : Block)
  | held
  | stale
deriving DecidableEq, Repr

/-- Judges one block (R298). -/
def State.findBlock (s : State) (f : PlanF) (off v : Nat) : Found :=
  let inStore := decide (off + 2048 ≤ (s.key f.skey).length)
  let inUndo := decide (off + 2048 ≤ (s.key f.ukey).length)
  let tag := bits (s.readHdr f.skey (off / 2048)).toNat 31 16
  let utag := bits (s.readHdr f.ukey (off / 2048)).toNat 31 16
  let d := (v + 2 ^ 16 - tag) % 2 ^ 16
  if !inStore then .stale
  else if tag = v then .store (s.readBlock f.skey (off / 2048))
  else if inUndo && utag = v then .undo (s.readBlock f.ukey (off / 2048))
  else if 1 ≤ d && decide (d ≤ 32767) then .held
  else .stale

/-- A block that is sent in place of a stale one: it does not carry the version asked for. -/
def staleBlock (tensor v : Nat) : Block := engineBlock tensor 0 0 true (staleVersion v) 0

/-- Judges the blocks of a gather that are not served yet; blocks that come to be held are counted (R299). -/
def State.judgeGather (s : State) (f : PlanF) (g : HeldGather) : State × HeldGather :=
  let e := s.listEntry f g.entry
  let base := f.slotOff e g.unit 16384
  (List.range 8).foldl (fun acc b =>
    let (s, g) := acc
    if g.served.any (fun r => r.1 = b) then acc
    else
      let take (s : State) (blk : Block) (stale : Bool) : State × HeldGather :=
        (s, { g with served := g.served ++ [(b, blk, stale)], waiting := g.waiting.filter (fun i => i ≠ b) })
      match s.findBlock f (base + 2048 * b) g.version with
      | .store blk => take (s.bursts 1 f.skey (base + 2048 * b) 2048) blk false
      | .undo blk => take ((s.bursts 1 f.ukey (base + 2048 * b) 2048).bump K.GATHER_UNDO_SERVED 1) blk false
      | .stale => take s (staleBlock g.tensor g.version) true
      | .held => if g.waiting.contains b then acc
          else (s.bump K.GATHER_VERSION_HOLDS 1, { g with waiting := g.waiting ++ [b] })) (s, g)

/-- Sends the blocks of a served unit to its requester, or lands them when it is this part (R303, R413). -/
def State.replyGather (s : State) (f : PlanF) (p : Nat) (g : HeldGather) : State :=
  let bl := (List.range 8).map (fun i => ((g.served.find? (fun r => r.1 = i)).map (·.2.1)).getD Block.null)
  let stale := g.served.any (fun r => r.2.2)
  let s := s.bump K.GATHER_UNITS_SERVED 1
  let (s, out) : State × List Block :=
    if stale then (s, List.replicate (unitBlocks f.wfmt) (staleBlock g.tensor g.version))
    else if f.wfmt = 0 then (s, bl)
    else s.toE4M3 f.ctx g.tensor g.version bl
  if g.rank = f.rank then s.unitBlocksIn f p g.entry g.tensor g.unit (out.zipIdx.map (fun b => (b.2, b.1)))
  else
    ((runs 4 out).zipIdx).foldl (fun s r =>
      s.sendEp f.io (f.epBase + g.rank) f.ctx 8 5
        (collSlots (s.identity f.ctx) p g.entry g.unit 0 r.1.length (4 * r.2) f.hash g.tensor
          ++ (r.1.map Block.slots).flatten)) s

/-- Serves a gather as far as its blocks are found; it is answered when all are (R298, R299). -/
def State.serveGather (s : State) (f : PlanF) (p : Nat) (g : HeldGather) : State :=
  let off := s.offlineAt f.skey (f.slotOff (s.listEntry f g.entry) g.unit 16384) 16384
  if off ≠ 0 then s.bump K.HBM_OFFLINE_ACCESSES off
  else
    let r := s.judgeGather f g
    if r.2.served.length = 8 then r.1.replyGather f p r.2
    else r.1.setPlan p { r.1.plan p with held := (r.1.plan p).held ++ [r.2] }

/-- Held gathers are judged again after memory has been written (R299). -/
def State.regather (s : State) : State :=
  (List.range 128).foldl (fun s p =>
    match s.planF p with
    | none => s
    | some f =>
      let q := s.plan p
      if q.held = [] then s
      else q.held.foldl (fun s g => s.serveGather f p g) (s.setPlan p { q with held := [] })) s

/-- Writes that no rule holds any more take effect, and the gathers that wait for them are judged again (R299, R331, R343,
R463). -/
def State.releaseWrites (s : State) : State := s.releaseHeld.regather

end Sys2Proof.Machine
end

