-- ==== Sys2Proof/Machine/Copies.lean ====
section
/-!
DEFINITION. The mirror engine of IO0 (chapter 15) and the log stream of a suspect (R348): what a copy reads and sends,
its end, its failure.
-/

namespace Sys2Proof.Machine

/-- The event ring of IO0 (R517). -/
def ringIO0 : Nat := 32

/-- Blocks of the store regions of a context (R456). -/
def State.imageBlocks (s : State) (x : Nat) : Nat := ((s.undoPairs x).map (fun p => s.keyBlocks p.1)).sum

/-- Store key and block of image block `j` (R456). -/
def State.imageAt (s : State) (x j : Nat) : Option (Nat × Nat) :=
  let rec go (base : Nat) : List (Nat × Nat) → Option (Nat × Nat)
    | [] => none
    | p :: r => if base ≤ j ∧ j < base + s.keyBlocks p.1 then some (p.1, j - base) else go (base + s.keyBlocks p.1) r
  go 1 (s.undoPairs x)

/-- The copy of a kind that a context runs. -/
def State.copyOf (s : State) (x : Nat) (k : CopyKind) : Option Copy :=
  match k with
  | .mirror => (s.mir x).copy
  | .checkpoint => (s.mir x).ckpt
  | .takeover => if s.send.ctx = x then s.send.copy else none
  | .log => (s.mir x).log

/-- Replaces the copy of a kind. -/
def State.setCopy (s : State) (x : Nat) (k : CopyKind) (c : Option Copy) : State :=
  match k with
  | .mirror => s.modMir x (fun m => { m with copy := c })
  | .checkpoint => s.modMir x (fun m => { m with ckpt := c })
  | .takeover => { s with send := { s.send with copy := c } }
  | .log => s.modMir x (fun m => { m with log := c })

/-- First slot of the log of a step, and slots that it uses (R328). -/
def Ctx.logOf (c : Ctx) (n : Nat) : Nat × Nat :=
  match c.steps.find? (fun t => t.num = n) with
  | some t => (t.logFirst, t.logUsed)
  | none => (0, 0)

/-- Key and block that a copy reads for its block `j`. -/
def State.copySource (s : State) (x : Nat) (c : Copy) (j : Nat) : Nat × Nat :=
  match c.kind with
  | .mirror | .checkpoint => (s.imageAt x j).getD (0, 0)
  | .takeover => (s.par (K.WARDROBE_KEY + x), j)
  | .log =>
    let k := s.par (K.CHEST_LOG_KEY + x)
    (k, (((s.cx x).logOf c.step).1 + j - 1) % max 1 (s.keyBlocks k))

/-- At most `n` consecutive numbers from the front of a list. -/
def consecutive : Nat → List Nat → List Nat
  | 0, _ => []
  | _, [] => []
  | n + 1, b :: r => b :: (if r.head? = some (b + 1) then consecutive n r else [])

/-- The blocks that a copy reads next, up to four (R462, R463). -/
def Copy.nextRun (c : Copy) : List Nat := consecutive 4 (if c.front = [] then c.todo else c.front)

/-- The sum of R336 with a block added. -/
def digestAdd (sum : BitVec 256) (b : Block) : BitVec 256 :=
  sum + BitVec.ofNat 256 (ofBytes (shake256 (toBytes 16 b.hdr.toNat ++ toBytes 2048 b.data.toNat) 32))

/-- Reads a run of a copy with the checks of R232 and sends it in one WRITE on VC6 (R462, R348). -/
def State.sendRun (s : State) (x : Nat) (c : Copy) (run : List Nat) : State :=
  let (s, bl) := run.foldl (fun acc j =>
    let src := acc.1.copySource x c j
    let r := (acc.1.bursts 3 src.1 (2048 * src.2) 2048).checkBlock ringIO0 x src.1 false (acc.1.readBlock src.1 src.2)
    (r.1, acc.2 ++ [r.2.1])) (s, ([] : List Block))
  let c' : Copy := { c with
    front := c.front.drop run.length
    todo := if c.front = [] then c.todo.drop run.length else c.todo
    done := c.done + run.length
    dsum := bl.foldl digestAdd c.dsum }
  let s := s.setCopy x c.kind (some c')
  let s := match c.kind with
    | .mirror | .takeover => s.bump K.MIRROR_BLOCKS_SENT run.length
    | .checkpoint => s.bump K.CKPT_BLOCKS_SENT run.length
    | .log => s
  s.issueReq (s.writeReq 0 c.ep x (s.cx x).gen 6 none false c.key (2048 * run.headD 0) bl (.copy x c.kind.code false))

/-- Number of the requests of a copy that have no RESP yet. -/
def State.copyReqs (s : State) (x k : Nat) : Nat :=
  let mine (r : Req) : Bool := match r.owner with | .copy y j _ => y = x && j = k | _ => false
  (s.links.reqs.filter mine).length + (s.links.waiting.filter mine).length

/-- The digest of R458: sum, count, step and kind. -/
def imageDigest (sum : BitVec 256) (count step kind : Nat) : Nat :=
  ofBytes (shake256 (toBytes 32 sum.toNat ++ toBytes 8 count ++ toBytes 4 step ++ toBytes 1 kind) 24)

/-- The manifest of R457 of a context's own image. -/
def State.manifest (s : State) (x kind step digest : Nat) : Nat :=
  let ps := (List.range 8).map (fun i =>
    let w := s.par (K.UNDO_PAIRS + x)
    if bits w (32 * i + 31) (32 * i) = 0 then 0 else s.keyBlocks (bits w (32 * i + 15) (32 * i)))
  0x5357534D <<< 992 + kind <<< 984 + step <<< 952 + s.par (K.JOB_SHAPE_HASH + x) <<< 888
    + s.jobSize x <<< 868 + s.jobRank x <<< 848 + ps.sum <<< 816
    + ((ps.zipIdx).map (fun p => p.1 <<< (32 * p.2 + 560))).sum + (s.now % 2 ^ 64) <<< 496 + digest <<< 304

/-- The closing word of a copy: its manifest, or the request record of R348. -/
def State.closingWord (s : State) (x : Nat) (c : Copy) : Nat :=
  match c.kind with
  | .mirror => s.manifest x 0 c.step 0
  | .checkpoint => s.manifest x 1 c.step (imageDigest c.dsum c.total c.step 1)
  | .takeover =>
    let m := s.send.manifest
    let blocks := bits m 847 816
    0x5357534D <<< 992 + 2 <<< 984 + bits m 983 560 <<< 560 + (s.now % 2 ^ 64) <<< 496
      + imageDigest c.dsum blocks c.step 2 <<< 304
  | .log =>
    let t := (s.cx x).steps.find? (fun t => t.num = c.step)
    (c.step % 2 ^ 32) <<< 224 + ((t.map (·.attempt)).getD 0) <<< 220 + s.jobRank x <<< 200 + c.total <<< 168

/-- Sends the closing block to image block 0 once every block is acknowledged (R464, R470, R474). -/
def State.closeCopy (s : State) (x : Nat) (c : Copy) : State :=
  let b := Block.build ⟨0, 0, 0, 0xA, false, false, false, false, c.step % 2 ^ 16⟩ (s.closingWord x c)
  let s := s.setCopy x c.kind (some { c with closing := true })
  s.issueReq (s.writeReq 0 c.ep x (s.cx x).gen 6 none false c.key 0 [b] (.copy x c.kind.code true))

/-- A running copy sends what its window allows, at most `n` messages, and its closing block when every block
sent has been reported. -/
def State.pumpCopy (x : Nat) (k : CopyKind) : Nat → State → State
  | 0, s => s
  | n + 1, s =>
    match s.copyOf x k with
    | none => s
    | some c =>
      let run := c.nextRun
      if run ≠ [] then
        if 64 ≤ s.outstanding 0 c.ep then s else State.pumpCopy x k n (s.sendRun x c run)
      else if !c.closing && c.missing = 0 && s.copyReqs x k.code = 0 then s.closeCopy x c
      else s

/-- Lets a copy go on, and the writes that its reads have released (R463). -/
def State.runCopy (s : State) (x : Nat) (k : CopyKind) : State := (State.pumpCopy x k 64 s).releaseWrites

/-- Does the context hold an OPEN, SEALED or REPLAYING step (R461)? -/
def Ctx.hasStep (c : Ctx) : Bool :=
  c.steps.any (fun t => t.st = .opened || t.st = .sealed || t.st = .replaying)

/-- Is the mirror of a context enabled? -/
def State.mirrorOn (s : State) (x : Nat) : Bool := bit (s.par (K.MIRROR_CFG + x)) 16

/-- Starts a mirror copy of a step over a set of image blocks (R461, R462). -/
def State.startMirror (s : State) (x step : Nat) (set : List Nat) : State :=
  let c : Copy := {
    kind := .mirror
    step := step
    ep := s.par (K.PARTNER_ENDPOINT + x)
    key := bits (s.par (K.MIRROR_CFG + x)) 15 0
    todo := set
    total := set.length }
  (s.modMir x (fun m => { m with copy := some c, full := false, fullAt := none, failed := false })).runCopy x .mirror

/-- Every block of the image. -/
def State.wholeImage (s : State) (x : Nat) : List Nat := (List.range (s.imageBlocks x)).map (· + 1)

/-- Starts a checkpoint that waits (R474). -/
def State.startCkpt (s : State) (x step : Nat) : State :=
  match (s.mir x).ckptWait with
  | none => s
  | some (e, k) =>
    let set := s.wholeImage x
    let c : Copy := {
      kind := .checkpoint
      step := step
      ep := e
      key := k
      todo := set
      total := set.length }
    (s.modMir x (fun m => { m with
      ckpt := some c
      ckptWait := none
      ckptState := 2
      ckptStep := step })).runCopy x .checkpoint

/-- Full copies and checkpoints that may start at once: the context holds no step (R461, R466, R474). -/
def State.startIdle (s : State) (x : Nat) : State :=
  let c := s.cx x
  if c.st = .closed || c.st = .teardown || c.hasStep then s
  else
    let m := s.mir x
    let s := if m.full && m.copy.isNone && s.mirrorOn x then s.startMirror x c.lastCommitted (s.wholeImage x) else s
    s.startCkpt x c.lastCommitted

/-- A mirror copy and a checkpoint start with the COMMIT of a step (R461, R474). -/
def State.startAtCommit (s : State) (x step : Nat) : State :=
  let m := s.mir x
  let set := if m.full then s.wholeImage x else Tbl.get m.marks [] step
  let s := s.modMir x (fun m => { m with marks := Tbl.put m.marks [] step [] })
  let s := if s.mirrorOn x then s.startMirror x step set else s
  s.startCkpt x step

/-- The requests of a copy are dropped: those sent are kept until they are answered or given up. -/
def State.orphanCopy (s : State) (x k : Nat) : State :=
  let mine (r : Req) : Bool := match r.owner with | .copy y j _ => y = x && j = k | _ => false
  { s with links := { s.links with
    reqs := s.links.reqs.map (fun r => if mine r then { r with orphan := true } else r)
    waiting := s.links.waiting.filter (fun r => !mine r) } }

/-- A log stream starts once the copies of the context have ended (R468). -/
def State.startLog (s : State) (x : Nat) : State :=
  match (s.mir x).logWait with
  | none => s
  | some n =>
    if (s.mir x).copy.isSome then s
    else
      let used := ((s.cx x).logOf n).2
      let c : Copy := {
        kind := .log
        step := n
        ep := s.par (K.PARTNER_ENDPOINT + x)
        key := s.par (K.REPLAY_IN_KEY + x)
        todo := (List.range used).map (· + 1)
        total := used }
      (s.modMir x (fun m => { m with log := some c, logWait := none })).runCopy x .log

/-- A copy ends: writes that it held are released, and what waited for it goes on. -/
def State.endCopy (s : State) (x : Nat) (k : CopyKind) : State :=
  ((((s.orphanCopy x k.code).setCopy x k none).releaseWrites).startIdle x).startLog x

/-- The RESP of a copy's closing block reports OK (R464, R470, R474). -/
def State.copyComplete (s : State) (x : Nat) (c : Copy) : State :=
  let s := match c.kind with
    | .mirror => s.modMir x (fun m => { m with step := c.step, failed := false })
    | .checkpoint => s.modMir x (fun m => { m with ckptState := 3 })
    | .takeover => { s with send := { s.send with state := 2 } }
    | .log => s
  s.endCopy x c.kind

/-- A copy fails (R465, R470, R474); `status` is the RESP's status, 6 when its request was given up. -/
def State.copyFail (s : State) (x : Nat) (c : Copy) (status : Nat) : State :=
  let copy := match c.kind with | .mirror => 0 | .checkpoint => 1 | .takeover => 2 | .log => 3
  let told (s : State) : State :=
    (s.event ringIO0 0x15 (x <<< 52 + copy <<< 48 + status <<< 44 + c.step % 2 ^ 32)).report 0x08 (some (x, c.step))
      (copy + status <<< 2)
  let s := match c.kind with
    | .mirror => told ((s.bump K.MIRROR_FAILURES 1).modMir x (fun m => { m with
        failed := true
        retryAt := if m.fullAt = some s.now then none else some (s.now + s.parMs K.MIRROR_RETRY_WAIT) }))
    | .checkpoint => told (s.modMir x (fun m => { m with ckptState := 5 }))
    | .takeover => told { s with send := { s.send with state := 4 } }
    | .log => s
  s.endCopy x c.kind

/-- A RESP for a request of a copy (R464, R465); `short` of the request's blocks it has not reported visible. -/
def State.copyResp (s : State) (x kind : Nat) (closing : Bool) (ok : Bool) (status short : Nat) : State :=
  let k : CopyKind := match kind with | 0 => .mirror | 1 => .checkpoint | 2 => .takeover | _ => .log
  match s.copyOf x k with
  | none => s
  | some c =>
    if !ok then s.copyFail x c status
    else if closing then s.copyComplete x c
    else (s.setCopy x k (some { c with missing := c.missing + short })).runCopy x k

/-- A full copy is requested (R466): it starts at once when R461 allows it and no copy runs. -/
def State.requestFull (s : State) (x : Nat) : State :=
  (s.modMir x (fun m => { m with full := true })).startIdle x

/-! ### Commands of chapter 15 -/

/-- MIRROR_CTRL (R466). With the failure of a copy in the same cycle one full copy is requested, without the wait of R465
(R475). -/
def State.mirrorCtrl (s : State) (x : Nat) : State :=
  let due := s.now + s.parMs K.MIRROR_RETRY_WAIT
  (s.modMir x (fun m => { m with
    fullAt := some s.now
    retryAt := if m.failed && m.retryAt = some due then none else m.retryAt })).requestFull x

/-- The retry of R465 is due. -/
def State.mirrorRetryDue (s : State) (x : Nat) : State :=
  match (s.mir x).retryAt with
  | none => s
  | some t => ((s.reach t).modMir x (fun m => { m with retryAt := none })).requestFull x

/-- May a copy of context `x` go through entry `e` of IO0 (R470, R474)? -/
def State.entryServes (s : State) (e x : Nat) : Bool := bit (s.ep 0 e) 0 && bits (s.ep 0 e) 60 57 = x

/-- Takes an image block with the checks of R232, under IO0's ring. -/
def State.imageWord (s : State) (x j : Nat) : Block := s.readBlock (s.par (K.WARDROBE_KEY + x)) j

/-- WARDROBE_SEND (R470). -/
def State.wardrobeSendWrite (s : State) (v : Nat) : State :=
  let x := bits v 3 0
  let e := bits v 21 4
  let m := bits (s.imageWord x 0).data.toNat 1023 0
  if s.send.copy.isSome || !s.entryServes e x || bits m 1023 992 ≠ 0x5357534D || bits m 991 984 ≠ 0 then
    { s with send := { s.send with state := 3 } }
  else
    let n := bits m 847 816
    let c : Copy := {
      kind := .takeover
      step := bits m 983 952
      ep := e
      key := bits v 37 22
      todo := (List.range n).map (· + 1)
      total := n }
    ({ s with send := ⟨1, x, some c, m⟩ }).runCopy x .takeover

/-- CKPT_CTRL (R474). -/
def State.ckptWrite (s : State) (x v : Nat) : State :=
  let m := s.mir x
  let e := bits v 17 0
  if m.ckpt.isSome || m.ckptWait.isSome || !s.entryServes e x then s.modMir x (fun m => { m with ckptState := 4 })
  else (s.modMir x (fun m => { m with ckptWait := some (e, bits v 33 18), ckptState := 1 })).startIdle x

/-- The reason for which a restore of step `S` is refused (R471), 0 for none, and the state after the read of the image,
which is read once where no reason stands before it; a block that fails its check is counted under R233. -/
def State.restoreReason (s : State) (x want : Nat) : State × Nat :=
  let c := s.cx x
  let k := s.par (K.WARDROBE_KEY + x)
  let m := bits (s.imageWord x 0).data.toNat 1023 0
  let n := bits m 847 816
  let kind := bits m 991 984
  let ps := s.undoPairs x
  let w := s.par (K.UNDO_PAIRS + x)
  let mine := (List.range 8).map (fun i =>
    if bits w (32 * i + 31) (32 * i) = 0 then 0 else s.keyBlocks (bits w (32 * i + 15) (32 * i)))
  let theirs := (List.range 8).map (fun i => bits m (32 * i + 591) (32 * i + 560))
  if c.st ≠ .opened || c.steps ≠ [] || c.replay.isSome || (s.mir x).check.isSome || (s.send.copy.isSome && s.send.ctx = x)
  then (s, 1)
  else if bits m 1023 992 ≠ 0x5357534D || (kind ≠ 1 && kind ≠ 2) then (s, 2)
  else
    if bits m 983 952 ≠ want then (s, 3)
    else
    let s := s.bursts 3 k 0 (2048 * (min n (s.keyBlocks k - 1) + 1))
    let image := (List.range (min n (s.keyBlocks k - 1))).map (fun j => s.imageWord x (j + 1))
    let late := image.any (fun b =>
      let d := (b.h.step + 2 ^ 16 - want % 2 ^ 16) % 2 ^ 16
      decide (1 ≤ d) && decide (d ≤ 32767))
    let r := (s.imageWord x 0 :: image).foldl (fun (a : State × Bool) b =>
      let q := a.1.checkBlock ringIO0 x k false b
      (q.1, a.2 || q.2.2)) (s, false)
    let s := r.1
    if late then (s, 3)
    else if bits m 951 888 ≠ s.par (K.JOB_SHAPE_HASH + x) || bits m 887 868 ≠ s.jobSize x || bits m 867 848 ≠ s.jobRank x
    then (s, 4)
    else if theirs ≠ mine || n ≠ (ps.map (fun p => s.keyBlocks p.1)).sum || s.keyBlocks k < n + 1 then (s, 5)
    else if r.2 then (s, 6)
    else if imageDigest (image.foldl digestAdd 0) n want kind ≠ bits m 495 304 then (s, 7)
    else (s, 0)

/-- A restore is refused (R473). -/
def State.refuseRestore (s : State) (x want reason : Nat) : State :=
  let mstep := bits (s.imageWord x 0).data.toNat 983 952
  let s := (s.modMir x (fun m => { m with restore := .refused, reason := reason, barred := true })).bump K.RESTORE_REFUSALS 1
  let s := s.event ringIO0 0x16 (x <<< 52 + reason <<< 48 + (want % 2 ^ 24) <<< 24 + mstep % 2 ^ 24)
  s.report 0x09 (some (x, want)) (reason + mstep <<< 4)

/-- RESTORE_CTRL (R471): the image is checked. -/
def State.restoreWrite (s : State) (x want : Nat) : State :=
  let r := s.restoreReason x want
  if r.2 = 1 then r.1.refuseRestore x want 1
  else r.1.modMir x (fun m => { m with restore := .checking, reason := 0, check := some (want, r.2) })

/-- The check ends: the image is copied into the store, or refused (R472, R473). -/
def State.restoreEnd (s : State) (x : Nat) : State :=
  match (s.mir x).check with
  | none => s
  | some (want, reason) =>
    let s := s.modMir x (fun m => { m with check := none })
    if reason ≠ 0 then s.refuseRestore x want reason
    else
      let s := (List.range (s.imageBlocks x)).foldl (fun s j =>
        match s.imageAt x (j + 1) with
        | none => s
        | some (k, b) =>
          let blk := s.imageWord x (j + 1)
          (s.bursts 3 (s.par (K.WARDROBE_KEY + x)) (2048 * (j + 1)) 2048).put 3 k (2048 * b) (toBytes 2048 blk.data.toNat) (if (s.key k).check then some blk.hdr else none)) s
      let s := (s.modCx x (fun c => { c with lastCommitted := want })).modMir x (fun m => { m with
        marks := []
        restore := .accepted
        reason := 0
        barred := false })
      s.regather.requestFull x

end Sys2Proof.Machine
end

