-- ==== Sys2Proof/Machine/Sequencer.lean ====
section
/-!
DEFINITION. The sequencers (chapter 06): fetching, loops, broadcasts, waits and posts (chapter 07), program boundaries
and counter samples (R505 to R513).
-/

namespace Sys2Proof.Machine

/-! ### Fetching (R193, R194) -/

/-- The instruction word of the active page at a slot; slots past the program's end hold END (R185). -/
def endWord : BitVec 128 := BitVec.ofNat 128 (0x7F <<< 120)

/-- A page of a cluster. -/
def Cluster.page (l : Cluster) (p : Bool) : Tbl (BitVec 128) := if p then l.page1 else l.page0

/-- The word at the sequencer's slot. -/
def Cluster.word (l : Cluster) : BitVec 128 := Tbl.get (l.page l.active) endWord l.pc

/-- The PC in the form of R65: page and slot. -/
def Cluster.pcCode (l : Cluster) : Nat := b2n l.active <<< 11 + l.pc

/-- The instruction that the sequencer fetches now: none while the cluster is not running, has ended, holds a SEM.WAIT
in force (R162), sleeps, or its context is not OPEN (R66, R93). -/
def State.fetch (s : State) (c : Nat) : Option (BitVec 128) :=
  let l := s.cl c
  if l.running && !l.ended && l.wait.isNone && !l.asleep && !s.frozen c && (s.cx l.ctx).st = .opened && (s.cx l.ctx).gen = l.gen then
    some l.word
  else none

/-- The fetched word, when it is instruction `o`. -/
def State.fetchOp (s : State) (c : Nat) (o : Op) : Option (BitVec 128) :=
  (s.fetch c).filter (fun w => insOp w.toNat = some o)

/-- The slot after slot `p`: every loop whose body ends there repeats or is left (R167). -/
def nextSlot (p : Nat) : List Frame → Nat × List Frame
  | [] => (p + 1, [])
  | f :: r =>
    if f.last ≠ p then (p + 1, f :: r)
    else if f.idx + 1 < f.count then (f.first, { f with idx := f.idx + 1 } :: r)
    else nextSlot p r

/-- Moves the sequencer past slot `p`. -/
def Cluster.goPast (l : Cluster) (p : Nat) : Cluster :=
  let n := nextSlot p l.frames
  { l with pc := n.1, frames := n.2, progress := true }

/-- Moves the sequencer past its current slot. -/
def Cluster.advance (l : Cluster) : Cluster := l.goPast l.pc

/-! ### Broadcast (R139, R140, R194, R195) -/

/-- Instructions that wait in a unit's buffer (R140). -/
def Core.buffered (k : Core) (u : CoreUnit) : Nat := (k.jobs.filter (fun j => j.unit = u && !j.begun)).length

/-- Is there room in the buffer of every target unit of every selected core (R140)? -/
def State.buffersFree (s : State) (c w : Nat) : Bool :=
  (s.masked c (insCmask w)).all (fun k => (insUnits w).all (fun u => decide ((s.co k).buffered u < 8)))

/-- Broadcasts the instruction at the sequencer's slot, when it is `o` and no buffer is full; the cores then run as far
as they can. -/
def State.broadcast (s : State) (c : Nat) (o : Op) : State :=
  match s.fetchOp c o with
  | none => s
  | some w =>
    if !s.buffersFree c w.toNat then s
    else
      let l := s.cl c
      let job (u : CoreUnit) : Job :=
        { word := w
          no := l.issue
          unit := u
          pc := l.pcCode
          ctx := l.ctx
          gen := l.gen
          io := s.epDie l.ctx (c / 8)
          iter := ((l.frames[(issueF w.toNat).lsel]?).map (·.idx)).getD 0 }
      let s := (s.masked c (insCmask w.toNat)).foldl (fun s k =>
        s.modCo k (fun o => { o with jobs := o.jobs ++ (insUnits w.toNat).map job })) s
      (s.modCl c (fun l => { l.advance with issue := l.issue + 1 })).settle c

/-! ### Sequencer instructions -/

/-- NOP. -/
def State.seqNop (s : State) (c : Nat) : State :=
  match s.fetchOp c .nop with
  | none => s
  | some _ => s.modCl c Cluster.advance

/-- LOOP (R167): the body is skipped when COUNT is 0. -/
def State.seqLoop (s : State) (c : Nat) : State :=
  match s.fetchOp c .loop with
  | none => s
  | some w =>
    let n := loopCount w.toNat
    let b := loopBody w.toNat
    s.modCl c (fun l =>
      if n = 0 then l.goPast (l.pc + b)
      else { l with frames := ⟨l.pc + 1, l.pc + b, 0, n⟩ :: l.frames, pc := l.pc + 1, progress := true })

/-- END: the sequencer stops fetching (R193). -/
def State.seqEnd (s : State) (c : Nat) : State :=
  match s.fetchOp c .endProg with
  | none => s
  | some _ => s.modCl c (fun l => { l with ended := true, progress := true })

/-- The semaphore that a semaphore instruction of scope 0 to 2 names. -/
def semTarget (c : Nat) (f : SemF) : SemRef :=
  match f.scope with
  | 0 => .side (8 * (c / 8) + f.cluster) (f.index % 4096)
  | 1 => .side (8 * f.die + f.cluster) (f.index % 4096)
  | _ => .pkg f.die f.index

/-- The trace record of a SEM.WAIT (0x82) or of a post (0x83). -/
def State.traceSem (s : State) (c code : Nat) (f : Bool) (index v : Nat) : State :=
  s.trace (c / 8) 3 (s.eventWord code ((s.cl c).ctx <<< 52 + (c * 8) <<< 44 + b2n f <<< 40 + index <<< 24 + v))

/-- SEM.WAIT (R162, R205): it passes at once when the semaphore satisfies it, and otherwise comes into force. -/
def State.seqWait (s : State) (c : Nat) : State :=
  match s.fetchOp c .semWait with
  | none => s
  | some w =>
    let f := semF w.toNat
    let r := semTarget c f
    let s := s.traceSem c 0x82 false f.index f.value
    if waitGe (s.sem r) f.value then
      (s.traceSem c 0x82 true f.index f.value).modCl c Cluster.advance
    else
      s.modCl c (fun l => { l with
        wait := some ⟨r, f.value, s.now, s.parMs K.SEM_WAIT_TIMEOUT, false, false⟩
        progress := true })

/-- The units that a FENCE field names. -/
def fenceUnits (f : Nat) : List CoreUnit :=
  [(CoreUnit.array, 0), (CoreUnit.vector, 1), (CoreUnit.convert, 2), (CoreUnit.queue, 3)].filterMap (fun p =>
    if bit f p.2 then some p.1 else none)

/-- Has everything broadcast before a post to its fenced units completed in every selected core (R163)? -/
def State.fenceOpen (s : State) (c : Nat) (p : PostSt) : Bool :=
  let us := fenceUnits (semF p.word.toNat).fence
  (s.masked c (insCmask p.word.toNat)).all (fun k =>
    !(s.co k).jobs.any (fun j => decide (j.no < p.no) && us.contains j.unit)
      && !(us.contains .queue && s.moves.any (fun m => m.src = k && decide (m.no < p.no))))

/-- A post takes effect at its sequencer (R163, R204): it leaves for its semaphore, or over a link (R411, R420). A
replay step sends nothing (R351). -/
def State.emitPost (s : State) (c : Nat) (w : BitVec 128) : State :=
  let f := semF w.toNat
  let l := s.cl c
  let sub := insOp w.toNat = some .semSub
  let s := s.traceSem c 0x83 sub f.index f.value
  if f.scope ≠ 3 then s.post ⟨semTarget c f, sub, f.value, l.ctx, l.gen, c / 8⟩
  else
    let io := s.epDie l.ctx (c / 8)
    let cx := s.cx l.ctx
    if !s.epOk io f.endpoint l.ctx then s.bump K.EP_SEND_FAULTS 1
    else if cx.openStep.isNone && cx.curStep.isSome then s
    else s.issueReq (s.semReq io f.endpoint l.ctx l.gen sub f.die f.index f.value)

/-- SEM.ADD or SEM.SUB (R161, R204): it takes effect at once, or waits among at most four. -/
def State.seqPost (s : State) (c : Nat) (o : Op) : State :=
  match s.fetchOp c o with
  | none => s
  | some w =>
    let l := s.cl c
    let p : PostSt := ⟨w, l.issue, l.pcCode⟩
    let go (s : State) : State := s.modCl c (fun l => { l.advance with issue := l.issue + 1 })
    if l.posts = [] && s.fenceOpen c p then (go s).emitPost c w
    else if l.posts.length < 4 then go (s.modCl c (fun l => { l with posts := l.posts ++ [p] }))
    else s

/-- The oldest waiting post takes effect once its fence is open (R163, R204). -/
def State.postNext (s : State) (c : Nat) : State :=
  match (s.cl c).posts with
  | [] => s
  | p :: r =>
    if s.fenceOpen c p then
      ((s.modCl c (fun l => { l with posts := r })).emitPost c p.word)
    else s

/-- A satisfied wait ends (R200, R205): the sequencer goes on after its SEM.WAIT, the command stream accepts its WAIT
elsewhere. -/
def State.wakeCl (s : State) (c : Nat) : State :=
  match (s.cl c).wait with
  | none => s
  | some w =>
    if !w.granted then s
    else
      let i := match w.sem with | .side _ i => i | .pkg _ i => i
      (s.traceSem c 0x82 true i w.target).modCl c (fun l => { l.advance with wait := none })

/-! ### Counter samples (R505 to R513) -/

/-- The value of counter `i` of a core in a sample: event counts as counted, times by the time base, and cycle and
energy counts that timing decides as free values. -/
def State.counter (s : State) (l : Cluster) (k i : Nat) : State × Nat :=
  let code := bits l.codes.toNat (8 * i + 7) (8 * i)
  let free : State × Nat := let d := s.draw; (d.2, d.1 % 2 ^ 48)
  if l.modeB && 12 ≤ i then free
  else if code = 0x14 then (s, s.now - l.started)
  else if code = 0x01 || (0x10 ≤ code && code ≤ 0x13) then free
  else (s, Tbl.get (s.co k).evc 0 code)

/-- The sample of a cluster (R510). -/
def State.sample (s : State) (c : Nat) (fin : Bool) : State × Nat :=
  let l := s.cl c
  let head := (s.now % 2 ^ 64) <<< 448 + l.tag <<< 416 + l.ctx <<< 412 + l.gen <<< 400 + c <<< 395 + b2n l.modeB <<< 394
    + b2n fin <<< 393 + ((s.coresOf c).map (fun k => 2 ^ (k % 8))).sum <<< 384 + l.codes.toNat <<< 256 + 1
  (s.coresOf c).foldl (fun acc k => (List.range 16).foldl (fun acc i =>
    let r := acc.1.counter l k i
    let v := min r.2 (2 ^ 48 - 1)
    (r.1, acc.2 + (v + b2n (2 ^ 48 - 1 ≤ r.2) <<< 63) <<< (512 + 1024 * (k % 8) + 64 * i))) acc) (s, head)

/-- Writes a sample to the region of the context's COUNTER_KEY (R511). -/
def State.writeSample (s : State) (c w : Nat) : State :=
  let x := (s.cl c).ctx
  let k := s.par (K.COUNTER_KEY + x)
  if s.keyOk x k false true && 32 ≤ s.keyBlocks k then
    let b := Block.build ⟨0, c, 0, 0xA, false, false, false, false, s.tagStep x⟩ w
    s.putChecked 1 x k (2048 * c) (toBytes 2048 b.data.toNat) (if (s.key k).check then some b.hdr else none)
  else s.bump K.COUNTER_SAMPLE_FAULTS 1

/-! ### Program boundaries (R169, R604) -/

/-- Is a package-wide item of the cluster's cores still on its way (R169)? -/
def State.movesFrom (s : State) (c : Nat) : Bool := s.moves.any (fun m => m.src / 8 = c)

/-- Completes a command of a context (R180): its status goes into its slot, then its ADD leaves. A WAIT performs none
(its C fields name what it tests, R179), nor does a command that names a sideboard of a cluster that the context does
not hold, which ends with NOT_OWNED whatever its status would be (R192; log entry 122). -/
def State.completeCmd (s : State) (x : Nat) (cmd : Cmd) (status code sectNo slot : Nat) (add : Bool) : State :=
  let cfg := s.par (K.CONTEXT_STREAM_CFG + x)
  let size := 2 ^ bits cfg 4 0
  let a := s.par (K.CONTEXT_STREAM_BASE + x) + 64 * (cmd.n % size)
  let w := cmd.word.toNat
  let foreign := bits w 269 268 = 1 && !s.holds x (bits w 267 263)
  let (status, code, sectNo, slot) := if foreign then (4, 0, 0, bits w 267 263) else (status, code, sectNo, slot)
  let w := setBits (setBits (setBits (setBits (setBits w 503 496 status) 495 480 code) 479 472 sectNo) 471 461 slot)
    447 416 cmd.n
  let s := (s.writeSpace 0 a (toBytes 64 w)).progressCx x
  let adds := add && bits w 511 504 ≠ 4 && !foreign
  match if adds then semOfC (bits w 269 268) (bits w 267 266) (bits w 265 263) (bits w 262 249) else none with
  | none => s
  | some r => s.post ⟨r, false, bits w 248 225, x, cmd.gen, 4⟩

/-- RUN commands that waited for this cluster's boundary, and complete when it was the last (R179). -/
def State.runBoundary (s : State) (x c : Nat) : State :=
  let cx := s.cx x
  let upd := cx.running.map (fun r => if bits r.word.toNat 511 504 = 2 then { r with left := r.left - r.left % 2 ^ (c + 1) + r.left % 2 ^ c } else r)
  let done := upd.filter (fun r => bits r.word.toNat 511 504 = 2 && r.left = 0)
  let s := s.modCx x (fun q => { q with running := upd.filter (fun r => !done.contains r) })
  done.foldl (fun s r => s.completeCmd x r 1 0 0 0 true) s

/-- The cluster comes to its program boundary: its queues are emptied and unconfigured (R135), the final sample is taken
and written (R511), its RUN completes. -/
def State.boundary (s : State) (c : Nat) : State :=
  let l := s.cl c
  let r := s.sample c true
  let s := (r.1.writeSample c r.2).emptyQueues c
  let s := (s.coresOf c).foldl (fun s k => s.modCo k (fun o => { o with jobs := [], passMax := [] })) s
  let s := s.modCl c (fun l => { l with
    running := false
    ended := false
    pc := 0
    frames := []
    wait := none
    posts := []
    progress := true
    idleSince := s.now
    delay := none
    final := BitVec.ofNat 16384 r.2 })
  s.runBoundary l.ctx c

/-- END completes when every earlier instruction and every descriptor of the program has completed (R169). -/
def State.atEnd (s : State) (c : Nat) : Bool :=
  let l := s.cl c
  l.running && l.ended && l.posts = [] && l.xfers = [] && !s.movesFrom c
    && (s.coresOf c).all (fun k => (s.co k).jobs = [])

/-- The part brings a cluster to its program boundary (R604): what its units hold or execute ends without further pops
or pushes; waits and posts are discarded. -/
def State.forceBoundary (s : State) (c : Nat) : State := if (s.cl c).running then s.boundary c else s

/-! ### QMOVE arrival (R171) -/

/-- Judges a QMOVE once, as its first block arrives at its destination: stale, fused, unconfigured, or landing behind
what arrived before it (R134, R171). A dropped one stays while it has blocks to read. -/
def State.arriveMove (s : State) (m : MoveFlight) : State :=
  let drop (s : State) : State :=
    if m.left = 0 then { s with moves := s.moves.erase m }
    else { s with moves := s.moves.replace m { m with judged := some true, blocks := [] } }
  if m.judged.isSome then s.settle (m.dst / 8)
  else if s.stale m.ctx m.gen then drop s.dropStale
  else if s.part.isFused m.dst then
    drop ((s.bump K.ABSENT_TARGET_DROPS 1).event (m.dst / 8) 0x01
      (m.ctx <<< 52 + m.dst <<< 44 + 1 <<< 42 + m.src <<< 16 + m.id))
  else if m.dq ≠ 63 && ((s.co m.dst).queue m.dq).size = 0 then drop (s.bump K.NOQUEUE_DROPS 1)
  else ({ s with moves := s.moves.erase m ++ [{ m with judged := some false }] }).settle (m.dst / 8)

/-! ### Arrays (R115 to R122, R573) -/

/-- One step of a ramp-down (R117): the cap lies below the level, a ramp-down goes on after 64 cycles at the present
level, or a gap has reached ARRAY_FILL_GAP after the hold of the last ARRAY.WARM. It begins no ramp-down while the array
climbs. -/
def State.rampDown (s : State) (k : Nat) : State :=
  let o := s.co k
  if s.part.isFused k || o.level = 0 then s
  else
    let step := o.since + cycleUnits 64
    let down (s : State) (r : Ramp) : State :=
      s.modCo k (fun o => { o with level := o.level - 1, ramp := if o.level = 1 then .steady else r, since := s.now })
    if s.levelCap (k / 64) < o.level then down (s.reach (if o.ramp = .down then step else s.now)) .steady
    else
      match o.ramp with
      | .up | .warm => s
      | .down => down ((s.reach step).bump K.DUMMY_ROW_SLOTS (o.rowSlots 64 * (o.level - 1) / 4)) .down
      | .steady =>
        let s := (s.reach (max o.since o.holdTill + cycleUnits o.fillGap)).bump K.DUMMY_ROW_SLOTS
          (o.rowSlots (o.hold + o.fillGap) * (if o.level = 5 then 4 else o.level - 1) / 4)
        (down (s.bump K.RAMP_DOWNS 1) .down).modCo k (fun o => { o with hold := 0 })

/-- One step of a climb (R119, R122): 64 cycles at each level but 0, up to the cap. The slots of a step hold dummies when
ARRAY.WARM climbs an array without a product; a product that waits at level 0x01 is held back in every slot; what a step
holds when rows enter is timing. At the cap the next gap begins (R120). A product that waits may enter. -/
def State.rampUp (s : State) (k : Nat) : State :=
  let o := s.co k
  let cap := s.levelCap (k / 64)
  if s.part.isFused k || (o.ramp ≠ .up && o.ramp ≠ .warm) || cap ≤ o.level then s
  else
    let s := if o.level = 0 then s else s.reach (o.since + cycleUnits 64)
    let n := o.rowSlots 64
    let rows := o.jobs.any (fun j => j.unit = .array && insOp j.word.toNat = some .mma)
    let free (s : State) (key most : Nat) : State := let d := s.draw; d.2.bump key (d.1 % (most + 1))
    let s := if o.level = 0 then s
      else if o.level = 1 then
        if !rows then s else if o.ramp = .up then s.bump K.RAMP_HELD_SLOTS n else free s K.RAMP_HELD_SLOTS n
      else if o.ramp = .warm && !rows then s.bump K.DUMMY_ROW_SLOTS (n * (o.level - 1) / 4)
      else free (free s K.DUMMY_ROW_SLOTS (n * (o.level - 1) / 4)) K.RAMP_HELD_SLOTS (n * (5 - o.level) / 4)
    let top := cap ≤ o.level + 1
    let gap := s.par K.ARRAY_FILL_GAP
    (s.modCo k (fun o => { o with
      level := o.level + 1
      ramp := if top then .steady else o.ramp
      since := s.now
      holdTill := if top && o.hold ≠ 0 then s.now + cycleUnits o.hold else o.holdTill
      fillGap := if top then gap else o.fillGap })).settle (k / 8)

end Sys2Proof.Machine
end

