-- ==== Sys2Proof/Machine/Rollback.lean ====
section
/-!
DEFINITION. How a context's steps end: the undo record (R346), drawers and plans at a close (R283, R313), the rollback
(R344, R345), the COMMIT (R343), the REPLAY (R348, R349), and teardown (R480).
-/

namespace Sys2Proof.Machine

/-! ### Parts of a rollback -/

/-- Copies the undo blocks of an aborted step over the store blocks that carry its STEP_TAG (R346). -/
def State.undoRestore (s : State) (x num : Nat) : State :=
  let tag := num % 2 ^ 16
  (s.undoPairs x).foldl (fun s p => (List.range (s.keyBlocks p.1)).foldl (fun s b =>
    if bits (s.readHdr p.1 b).toNat 31 16 ≠ tag then s
    else
      let u := s.readBlock p.2 b
      if bits u.hdr.toNat 31 16 = tag then s.bump K.UNDO_MISSING_BLOCKS 1
      else s.put 2 p.1 (2048 * b) (toBytes 2048 u.data.toNat) (some u.hdr)) s) s

/-- Ends a transfer with a status and completes it (R345, R281). -/
def State.killXfer (s : State) (c seq : Nat) (st : XStatus) (silent : Bool) : State :=
  match s.xfer c seq with
  | none => s
  | some t =>
    let s := (s.endStall c t).orphanReqs c seq
    let s := s.endXfer c seq st
    match s.xfer c seq with
    | some t => s.completeXfer c t silent
    | none => s

/-- Blocks of a drawer entry that have not been read READS times (R283). -/
def Drawer.unread (w : Drawer) (entry : Nat) : Nat :=
  ((w.held.filter (fun p => p.entry = entry)).map (fun p => (p.reads.filter (fun r => r.2 < w.reads)).length)).sum

/-- Frees the entries of a context's drawers whose first write was accepted in one of some steps; writes stalled on them
end with TIMEOUT; other writes in flight to them complete, and their blocks are freed as they come (R283). -/
def State.closeDrawers (s : State) (x : Nat) (steps : List Nat) : State :=
  (List.range 4).foldl (fun s d =>
    let w := s.drawer x d
    let gone := (w.entries.filter (fun e => match e.step with | some t => steps.contains t | none => false)).map (·.entry)
    if gone = [] then s
    else
      let n := (gone.map w.unread).sum
      let live := ((List.range 32).map (fun c => ((s.cl c).xfers.filter (fun t => t.ctx = x && t.desc.dkey = w.key)).map
        (fun t => (t.dwrite.filter gone.contains).map (fun e => (c, t.seq, e))))).flatten.flatten
      let w' := { w with
        held := w.held.filter (fun p => !gone.contains p.entry)
        entries := w.entries.filter (fun e => !gone.contains e.entry)
        closed := w.closed ++ live.filter (fun p => !w.closed.contains p) }
      let s := (s.setDrawer x d w').bump K.DRAWER_DISCARDED_BLOCKS n
      (w.stalled.foldl (fun s q =>
        match s.xfer q.1 q.2 with
        | some t => if t.stall.isSome && (t.offer.map (fun a => gone.contains (drawerAt a).1)).getD false
            then s.killXfer q.1 q.2 .timeout false else s
        | none => s) s).rejudge x d) s

/-- R313: the counts of a context's plans go back to those of the first aborted step's opening, and what the aborted
steps left is discarded: their units in flight, reductions, partials, sums and the gathers that name them. What a committed
step has left stays, and completes its run again. -/
def State.rollPlans (s : State) (x : Nat) (t : Step) (gone : List Nat) : State :=
  let tags := gone.map (· % 2 ^ 16)
  (s.plansOf x).foldl (fun s p =>
    let q := s.plan p
    let n := Tbl.get t.planCounts {} p
    let per := match s.planF p with
      | some f => max 1 (s.listUnits f) * f.rounds
      | none => 1
    let s := s.setPlan p { q with
      count := n
      units := q.units.filter (fun u => !gone.contains u.step)
      reds := q.reds.filter (fun r => !gone.contains r.step)
      partials := q.partials.filter (fun h => !tags.contains h.tag)
      held := q.held.filter (fun g => !tags.contains ((g.version + 1) % 2 ^ 16))
      sums := q.sums.filter (fun u => !gone.contains u.step)
      added := q.added.filter (fun (e : Nat × Nat) => decide (e.1 / 2 ^ 48 < ceilDiv n.taken per)) }
    match s.planF p with
    | some f => if f.reduce then s else State.gatherRun f p (s.plan p).units.length s
    | none => s) s

/-- Commands of a context that are in progress (R179, R344, R480). -/
def Ctx.inProgress (c : Ctx) : List Cmd := c.running ++ c.cur.toList

/-- Takes the commands in progress out of a context. -/
def State.dropCmds (s : State) (x : Nat) : State :=
  s.modCx x (fun c => { c with cur := none, running := [], wait := none })

/-- Brings every cluster that runs a program of the context to its boundary (R604). -/
def State.stopClusters (s : State) (x : Nat) : State :=
  (s.clustersOf x).foldl (fun s c => if (s.cl c).ctx = x then s.forceBoundary c else s) s

/-- Was something of the context issued or landed under one of some steps (R344)? -/
def underSteps (nums : List Nat) (step : Option Nat) : Bool := match step with | some n => nums.contains n | none => false

/-- The clusters' transfers of a context's steps: cluster and SEQ. -/
def State.xfersOf (s : State) (x : Nat) (nums : List Nat) : List (Nat × Nat) :=
  ((List.range 32).map (fun c => ((s.cl c).xfers.filter (fun t => t.ctx = x && underSteps nums t.step && !t.replay)).map
    (fun t => (c, t.seq)))).flatten

/-- A verdict record that the part writes itself (R338). -/
def State.localVerdict (s : State) (x num attempt reason : Nat) : VMsg :=
  { typ := 3
    membership := s.par K.JOB_MEMBERSHIP
    step := num
    attempt := attempt
    code := 3
    sender := s.jobRank x
    reason := reason }

/-- Writes LAST_VERDICTS of a context. -/
def State.recordVerdict (s : State) (x : Nat) (v : VMsg) : State :=
  s.modCx x (fun c => { c with lastVerdict := BitVec.ofNat 512 v.bytes })

/-- Is a held message kept by a rollback: it names a later attempt of the first step (R325, R345)? -/
def keepsHeld (t : Step) (m : Msg) : Bool := m.stepId.tag = t.num % 2 ^ 16 && m.stepId.attempt ≠ t.attempt

/-- Rolls back every uncommitted step of a context, the verdict `v` being its cause (R344). -/
def State.rollback (s : State) (x : Nat) (v : VMsg) : State :=
  match (s.cx x).steps with
  | [] => s
  | t :: later =>
    let all := t :: later
    let cmds := (s.cx x).inProgress
    let s := (s.dropCmds x).modCx x (fun c => { c with steps := c.steps.map (fun u => { u with st := .rollingBack }) })
    let s := s.stopClusters x
    let nums := all.map (·.num)
    let s := (s.xfersOf x nums).foldl (fun s q => s.killXfer q.1 q.2 .aborted true) s
    let far (a : Access) : Bool := match a.owner with | .remote _ _ _ => true | .xfer _ _ => false
    let s := { s with
      moves := s.moves.filter (fun m => m.ctx ≠ x || !underSteps nums m.step)
      accesses := s.accesses.filter (fun a => a.ctx ≠ x || !(far a && underSteps nums a.step))
      links := { s.links with held := s.links.held.filter (fun h => h.ctx ≠ x || keepsHeld t h.msg) } }
    let s := all.reverse.foldl (fun s u => s.undoRestore x u.num) (s.grantHeld x)
    let s := s.restoreSems x t
    let s := (s.closeDrawers x nums).rollPlans x t nums
    let s := cmds.foldl (fun s c => s.completeCmd x c 9 0 0 0 true) s
    let s := (s.modMir x (fun m => { m with
      marks := all.foldl (fun l u => Tbl.put l [] u.num []) m.marks
      logWait := none })).setCopy x .log none
    let s := s.modCx x (fun c => { c with
      steps := []
      aborting := true
      expectRolled := true
      logArrived := none
      rolled := some (t.num, t.attempt)
      logNext := ((all.find? (fun u => u.logUsed ≠ 0)).map (·.logFirst)).getD c.logNext
      verdicts := []
      closedSteps := c.closedSteps ++ all.map (fun u => (u.num, false)) })
    (((s.bump K.STEPS_ABORTED all.length).recordVerdict x v).releaseWrites).startIdle x

/-! ### Verdicts (R341 to R343, R348, R349, R445, R467) -/

/-- Completes a STEP.AWAIT of a step that has committed (R343). -/
def State.awaitDone (s : State) (x num : Nat) : State :=
  match (s.cx x).cur with
  | none => s
  | some c =>
    if bits c.word.toNat 511 504 = 0x12 && bits c.word.toNat 351 320 = num then
      (s.modCx x (fun q => { q with cur := none })).completeCmd x c 1 0 0 0 true
    else s

/-- COMMIT of a step (R343). -/
def State.commitStep (s : State) (x : Nat) (t : Step) (v : VMsg) : State :=
  let w := t.word.toNat
  let bad := bits w 247 232 ≠ 0 || bits w 231 216 ≠ 0
  let s := if t.st = .replaying && bad then s.health .replayMatched 1 else s
  let s := (s.bump K.STEPS_COMMITTED 1).recordVerdict x v
  let s := s.modCx x (fun c => { c with
    lastCommitted := t.num
    steps := c.steps.filter (fun u => u.num ≠ t.num)
    expectRolled := false
    logArrived := if c.logArrived = some t.num then none else c.logArrived
    closedSteps := c.closedSteps ++ [(t.num, true)] })
  ((((s.closeDrawers x [t.num]).startAtCommit x t.num).releaseWrites).awaitDone x t.num).announceReplay x

/-- REPLAY of a step (R348, R349, R353, R468): suspects stream their logs; a partner of a suspect owes its replay, which a
log that has come before the verdict may already decide. -/
def State.replayStep (s : State) (x : Nat) (t : Step) (v : VMsg) : State :=
  let me := s.jobRank x
  let owes := t.partner.isSome && v.ranks.contains t.suspectRank
  let s := (s.recordVerdict x v).modCx x (fun c => c.modStep t.num t.attempt (fun u => { u with
    st := .replaying
    verdict := none
    sealedAt := s.now
    owed := b2n owes }))
  let s := if v.ranks.contains me then (s.modMir x (fun m => { m with logWait := some t.num })).startLog x else s
  if owes && v.ranks.contains me then s.recordMiss x t.num else (s.tryReplay x t.num t.attempt).announceReplay x

/-- ABORT of a step (R344, R445). -/
def State.abortStep (s : State) (x : Nat) (t : Step) (v : VMsg) : State :=
  let w := t.word.toNat
  let suspect := bits w 247 232 ≠ 0 || bits w 231 216 ≠ 0 || bit w 251
  let s := if v.reason = 4 && suspect then s.health .replayFailed 1 else s
  let s := if v.reason = 1 && v.origin = s.jobRank x then s.health .nonfiniteOrigin 1 else s
  s.rollback x v

/-- Applies the held verdict of the oldest step when nothing holds it, at most `n` times (R341, R467). -/
def State.applyVerdicts (x : Nat) : Nat → State → State
  | 0, s => s
  | n + 1, s =>
    match (s.cx x).steps with
    | [] => s
    | t :: _ =>
      match t.verdict with
      | none => s
      | some v =>
        let m := s.mir x
        match v.code with
        | 1 =>
          if m.copy.isSome || m.ckpt.isSome then s
          else
            let s := s.commitStep x t v
            let s := match (s.cx x).steps.head? with
              | some u => s.tryHealth x u.num u.attempt
              | none => s
            State.applyVerdicts x n s
        | 2 => if t.st = .sealed then s.replayStep x t v else s
        | _ => s.abortStep x t v

/-- The fence notice wait starts for a context whose JOB_SIZE is not 0 (R495). -/
def State.startFenceWait (s : State) (x : Nat) : State :=
  if s.jobSize x = 0 || s.service.spare.wait.isSome then s
  else { s with service := { s.service with spare := { s.service.spare with
    wait := some (s.now, s.parMs K.FENCE_NOTICE_WAIT) } } }

/-- VERDICT_TIMEOUT of a sealed step (R353): the context's uncommitted steps are rolled back. -/
def State.verdictExpired (s : State) (x : Nat) (t : Step) : State :=
  let newest := (s.cx x).newest
  let s := s.rollback x (s.localVerdict x t.num t.attempt 7)
  let s := (s.modCx x (fun c => { c with orphaned := true, stepped := false })).bump K.VERDICT_TIMEOUTS 1
  (s.report 0x07 (some (x, newest)) 0).startFenceWait x

/-! ### Teardown (R479, R480) -/

/-- The context of a request. -/
def State.reqCtx (s : State) (r : Req) : Option Nat :=
  match r.owner with
  | .sem y => some y
  | .copy y _ _ => some y
  | .xfer c q => ((s.xfer c q).map (·.ctx))

/-- Stops the copies, sends, checkpoints and restores of a context (R480). -/
def State.stopCopies (s : State) (x : Nat) : State :=
  let s := s.modMir x (fun m => { m with
    copy := none
    ckpt := none
    ckptWait := none
    log := none
    logWait := none
    full := false
    fullAt := none
    retryAt := none
    check := none
    barred := false
    marks := []
    ckptState := if m.ckptState = 1 || m.ckptState = 2 then 0 else m.ckptState
    restore := if m.restore = .checking then .none else m.restore })
  if s.send.copy.isSome && s.send.ctx = x then { s with send := { s.send with copy := none, state := 0 } } else s

/-- Tears a context down (R480). `soft` tells that a write to CONTEXT_STATE ordered it; `domain` is the reset's domain
code otherwise. -/
def State.teardown (s : State) (x : Nat) (soft : Bool) (domain : Nat) : State :=
  let c := s.cx x
  if c.st = .closed || c.st = .teardown then s
  else
    let newest := c.newest
    let cmds := c.inProgress
    -- 1, 2
    let s := (s.dropCmds x).modCx x (fun c => { c with st := .teardown })
    let s := (s.stopClusters x).stopCopies x
    let s := cmds.foldl (fun s c => s.completeCmd x c 9 0 0 0 false) s
    let s := (s.plansOf x).foldl (fun s p => s.setPlan p {}) s
    -- 3
    let n := (s.accesses.filter (fun a => a.ctx = x)).length
    let gone (r : Req) : Bool := s.reqCtx r = some x
    let s := { s with
      accesses := s.accesses.filter (fun a => a.ctx ≠ x)
      moves := s.moves.filter (fun m => m.ctx ≠ x)
      links := { s.links with
        reqs := s.links.reqs.filter (fun r => !gone r)
        waiting := s.links.waiting.filter (fun r => !gone r)
        held := s.links.held.filter (fun h => h.ctx ≠ x) } }
    let s := (List.range 32).foldl (fun s k => s.modCl k (fun l => { l with xfers := l.xfers.filter (fun t => t.ctx ≠ x) })) s
    let s := (if n = 0 then s else s.bump K.STALE_LOCAL_DROPS n).grantHeld x
    -- 4
    let s := c.steps.reverse.foldl (fun s u => s.undoRestore x u.num) s
    let s := match c.steps with
      | [] => s
      | t :: _ => s.recordVerdict x (s.localVerdict x t.num t.attempt 8)
    let s := s.modCx x (fun c => { c with steps := [], replay := none, verdicts := [], aborting := false, orphaned := false })
    -- 5, 6
    let s := (List.range 4).foldl (fun s d => s.setDrawer x d {}) s
    let mine := s.keys.filter (fun e => bits e.2.toNat 79 76 = x)
    let s : State := { s with keys := mine.foldl (fun l e =>
      Tbl.put l 0 e.1 (BitVec.ofNat 256 (setBits e.2.toNat 0 0 0))) s.keys }
    -- 7
    let s := (s.modCx x (fun c => { c with st := .closed })).bump K.TEARDOWNS 1
    if soft then s
    else
      let s := s.report 0x11 (some (x, newest)) domain
      if domain = 0 then s else s.startFenceWait x

end Sys2Proof.Machine
end

