-- ==== Sys2Proof/Machine/Drawers.lean ====
section
/-!
DEFINITION. The drawers' own work: spill copies (R275 to R277), and pages for stalled writes (R278, R279).
-/

namespace Sys2Proof.Machine

/-- Free pages of a drawer's resident or spill region. -/
def Drawer.free (w : Drawer) (spill : Bool) : Nat :=
  (if spill then w.spages else w.pages) - (w.held.filter (fun p => p.spilled = spill)).length

/-- The resident page that a drawer copies next (R275): of the oldest entry that has one, the lowest; of entries accepted
together, the lower VSTAGE and MBATCH. -/
def Drawer.spillNext (w : Drawer) : Option DrawerPage :=
  let order (p : DrawerPage) : Nat := ((w.entries.find? (fun e => e.entry = p.entry)).map (·.order)).getD 0
  let older (p q : DrawerPage) : Bool := decide (order p < order q)
    || (order p = order q && (decide (p.entry < q.entry) || (p.entry = q.entry && decide (p.page < q.page))))
  (w.held.filter (fun p => !p.spilled)).foldl (fun best p =>
    match best with
    | none => some p
    | some q => if older p q then some p else some q) none

/-- A drawer's write of a block into its spill region, which drops it when the spill key is no longer VALID or the
context's, or a stack is out of service (R268, R228, R373; log entry 123). -/
def State.spillPut (s : State) (x : Nat) (w : Drawer) (i : Nat) (b : Block) : State :=
  let e := s.key w.skey
  let a := w.sbase + 2048 * i
  let h := w.sside + 16 * i
  let n := s.offSites a 0 2048 + s.offSites h 0 16
  if !(e.valid && e.ctx = x) then s.bump K.REVOKED_WRITE_DROPS 1
  else if n ≠ 0 then s.bump K.HBM_OFFLINE_ACCESSES n
  else (((s.writeSpace 0 a (toBytes 2048 b.data.toNat)).writeSpace 0 h (toBytes 16 b.hdr.toNat)).countBursts 2 a 2048).countRmw
    a 2048 true

/-- Copies a page of a drawer into a spill page, block by block (R275, R277): a block that fails its check is delivered
with BAD set (R233). -/
def State.copyPage (s : State) (x d : Nat) (p : DrawerPage) (slot : Nat) : State :=
  let w := s.drawer x d
  let s := p.reads.foldl (fun s r =>
    let c := s.checkBlock (8 * d) x w.key false (s.drawerBlock x d p.entry (32 * p.page + r.1))
    (c.1.bumpFree K.SHELF_BANK_WAIT_CYCLES).spillPut x w (32 * slot + r.1) c.2.1) s
  (s.setDrawer x d { w with held := w.held.map (fun q =>
    if q.entry = p.entry && q.page = p.page then { q with spilled := true, slot := slot } else q) }).bump
    K.DRAWER_PAGES_SPILLED 1

/-- A drawer copies its next page while few resident pages are free and a spill page is (R275). A copy waits for stacks in
self-refresh (R373). -/
def State.spillCopy (s : State) (x d : Nat) : State :=
  let w := s.drawer x d
  match w.spillNext, w.freePage true with
  | some p, some slot =>
    if w.free false < s.par K.DRAWER_SPILL_MARK && !s.asleepSites (w.sbase + 65536 * slot) 0 65536 then s.copyPage x d p slot
    else s
  | _, _ => s

/-- Does a waiting write of a drawer still need a page that is not there? -/
def State.needsPage (s : State) (x d : Nat) (q : Nat × Nat) : Bool :=
  let w := s.drawer x d
  match (s.xfer q.1 q.2).bind (·.offer) with
  | none => false
  | some a =>
    let e := drawerAt a
    (w.page e.1 e.2).isNone && !w.closed.contains (q.1, q.2, e.1)

/-- The waiting writes that need no page any more go on (R278); the others are judged again. -/
def State.serveWaiting (s : State) (x d : Nat) : State :=
  let served := (s.drawer x d).stalled.filter (fun q => !s.needsPage x d q)
  if served = [] then s
  else
    let s := served.foldl (fun s q =>
      match s.xfer q.1 q.2 with
      | some t => s.stopStall q.1 t
      | none => s) s
    let w := s.drawer x d
    let s := (s.setDrawer x d { w with stalled := w.stalled.filter (fun q => !served.contains q) }).rejudge x d
    (served.map (·.1)).eraseDups.foldl State.settle s

/-- A free resident page goes to the first of a drawer's waiting writes that needs one (R278, R279), and that write goes
on. -/
def State.pageGrant (s : State) (x d : Nat) : State :=
  let w := s.drawer x d
  match w.stalled.find? (s.needsPage x d), w.freePage false with
  | some q, some i =>
    match s.xfer q.1 q.2 with
    | none => s
    | some t =>
      let e := drawerAt (t.offer.getD 0)
      (s.setDrawer x d (w.allocate e.1 e.2 i t.step)).serveWaiting x d
  | _, _ => s.serveWaiting x d

end Sys2Proof.Machine
end

