-- ==== Sys2Proof/Machine/Flags.lean ====
section
/-!
DEFINITION. The status flags that the part sets and software clears by writing 1: SYNC_STATUS (R218, R219) and THERMAL_STATUS
(R574, R575), and what a clear leaves (R223).
-/

namespace Sys2Proof.Machine

/-- Changes what power holds. -/
def State.modPower (s : State) (f : Power → Power) : State := { s with power := f s.power }

/-- Sets bits of SYNC_STATUS. -/
def State.syncFlag (s : State) (i : Nat) : State := s.setPar K.SYNC_STATUS (Nat.lor (s.par K.SYNC_STATUS) (2 ^ i))

/-- Sets the bits of THERMAL_STATUS whose condition holds. -/
def State.setThermal (s : State) : State :=
  s.modPower (fun p => { p with flags := p.flags ||| BitVec.ofNat 8 p.thermalNow })

/-- Software clears bits of a status entry by writing 1 (R223). -/
def State.clearFlags (s : State) (entry mask : Nat) : State :=
  if !s.live then s
  else if entry = K.SYNC_STATUS then s.setPar entry (bits (Nat.xor (Nat.lor (s.par entry) mask) mask) 31 0)
  else if entry = K.THERMAL_STATUS then
    { s with power := { s.power with
      flags := (s.power.flags &&& ~~~(BitVec.ofNat 8 mask)) ||| BitVec.ofNat 8 s.power.thermalNow } }
  else s

end Sys2Proof.Machine
end

