-- ==== Sys2Proof/Machine/Defence.lean ====
section
/-!
DEFINITION. Self-tests and the score's consequences (chapter 14), and the waking of clusters (R565).
-/

namespace Sys2Proof.Machine

/-- A sleeping cluster wakes (R565): its arrays start at level 0. -/
def State.wakeCluster (s : State) (c : Nat) : State :=
  if !(s.cl c).asleep then s
  else (s.bump K.CLUSTER_WAKES 1).modCl c (fun l => { l with asleep := false, idleSince := s.now, delay := none })

/-! ### Self-tests (R438 to R441) -/

/-- A failure of a self-test (R441); the record comes without its time stamp, VALID and reserved fields. -/
def State.testFailed (s : State) (c : Nat) (rcd : BitVec 128) : State :=
  let low := bits rcd.toNat 63 52 <<< 52 + bits rcd.toNat 47 16 <<< 16 + 1
  let r := BitVec.ofNat 128 ((s.now % 2 ^ 64) <<< 64 + low)
  let s : State := { s with defence := { s.defence with lastFail := r } }
  ((s.bump K.SELFTEST_FAILS 1).event c 0x08 (bits low 63 16 <<< 8)).health .selftest 1

/-- The effect of the self-tests `en` of a cluster (R440, R441): runs are counted, queues are left empty and unconfigured,
and the arrays stand in a gap at their level cap when the ARRAY test ran. -/
def State.runTests (s : State) (c en : Nat) (fails : List (BitVec 128)) : State :=
  let n := ((List.range 4).filter (fun i => bit en i)).length
  let s := (s.bump K.SELFTEST_RUNS n).emptyQueues c
  let s := if bit en 0 then
      (s.coresOf c).foldl (fun s k => s.modCo k (fun o => { o with
        level := s.levelCap (c / 8)
        ramp := .steady
        hold := 0
        holdTill := 0
        since := s.now
        fillGap := s.par K.ARRAY_FILL_GAP })) s
    else s
  fails.foldl (fun s r => s.testFailed c r) s

/-- SELFTEST_INTERVAL, or OBSERVE_SELFTEST_INTERVAL in observation (R438). -/
def State.testInterval (s : State) : Nat :=
  if s.defence.observing then s.parMs K.OBSERVE_SELFTEST_INTERVAL else s.parMs K.SELFTEST_INTERVAL

/-- A due self-test starts on an idle cluster, or waits for the cluster's next boundary (R438, R565). -/
def State.startTest (s : State) (c : Nat) : State :=
  let l := s.cl c
  if l.testing || s.power.state ≠ .active then s
  else
    let s := if l.testDue then s else s.reach (l.tested + s.testInterval)
    if l.running then s.modCl c (fun l => { l with testDue := true })
    else (s.wakeCluster c).modCl c (fun l => { l with testDue := false, testing := true })

/-- A self-test ends (R439 to R441). -/
def State.endTest (s : State) (c : Nat) (fails : List (BitVec 128)) : State :=
  let l := s.cl c
  if !l.testing then s
  else
    let s := match l.runSince with
      | some t => s.bump K.SELFTEST_DELAY_TIME (s.now - t)
      | none => s
    let s := s.modCl c (fun l => { l with
      testing := false
      tested := s.now
      runSince := none
      idleSince := s.now
      delay := none })
    s.runTests c (s.par K.SELFTEST_ENABLE) fails

/-! ### The score (R446, R449 to R454) -/

/-- HEALTH_DECAY_INTERVAL ends (R446): the decay acts on the score before the charges of the same time (R447). -/
def State.decay (s : State) : State :=
  let i := max 1 (s.parMs K.HEALTH_DECAY_INTERVAL)
  let t := (s.defence.decayed / i + 1) * i
  let s := s.reach t
  let s : State := { s with defence := { s.defence with decayed := t } }
  let was := s.cycleStart.1
  s.scored (min 0xFFFF (was - ceilDiv was 16 + (s.defence.score - was)))

/-- STATE of the expulsion request. -/
def Defence.requestState (d : Defence) : Nat := bits d.request.toNat 1 0

/-- The hold-off ends (R451). -/
def State.holdoffEnd (s : State) : State :=
  match s.defence.holdoff with
  | none => s
  | some t =>
    let s := s.reach t
    let d := { s.defence with holdoff := none }
    if d.score < s.par K.EXPEL_THRESHOLD || d.requestState = 1 || d.barred then { s with defence := d }
    else
      let seq := (d.seq + 1) % 2 ^ 16
      let cnt (i : Nat) : Nat := d.counts.getD i 0
      let w := (s.now % 2 ^ 64) <<< 192 + seq <<< 176 + d.score <<< 160
        + ((List.range 8).map (fun i => cnt i <<< (144 - 16 * i))).sum + 1
      let s : State := { s with defence := { d with
        seq := seq
        request := BitVec.ofNat 256 w
        asked := s.now
        wait := s.parMs K.EXPEL_ANSWER_WAIT
        counts := [0, 0, 0, 0, 0, 0, 0, 0] } }
      (s.bump K.EXPEL_REQUESTS 1).report 0x0A none (seq + s.defence.score <<< 16)

/-- Sets STATE of the request. -/
def Defence.setRequest (d : Defence) (st : Nat) : Defence :=
  { d with request := BitVec.ofNat 256 (setBits d.request.toNat 1 0 st) }

/-- A request is deferred (R452). -/
def State.deferRequest (s : State) : State :=
  let s : State := { s with defence := { s.defence.setRequest 3 with
    holdoff := some (s.now + s.parMs K.EXPEL_HOLDOFF) } }
  s.bump K.EXPEL_DEFERRALS 1

/-- Does an answer name the PENDING request (R452)? -/
def State.answers (s : State) (seq : Nat) : Bool := s.defence.requestState = 1 && s.defence.seq = seq

/-- EXPEL_ANSWER with ACCEPTED (R452). -/
def State.expelAccept (s : State) (seq : Nat) : State :=
  if s.answers seq then { s with defence := { s.defence.setRequest 2 with barred := true } }
  else s.bump K.EXPEL_ANSWER_DROPS 1

/-- EXPEL_ANSWER with DEFERRED (R452). -/
def State.expelDefer (s : State) (seq : Nat) : State :=
  if s.answers seq then s.deferRequest else s.bump K.EXPEL_ANSWER_DROPS 1

/-- EXPEL_ANSWER_WAIT ends (R453). -/
def State.answerExpired (s : State) : State :=
  if s.defence.requestState ≠ 1 then s else (s.reach (s.defence.asked + s.defence.wait)).deferRequest

/-- OBSERVATION is written (R454). A write of 0 does not undo a rise of the score through EXPEL_THRESHOLD at the same time
(R455). -/
def State.setObserving (s : State) (on : Bool) : State :=
  let thr := s.par K.EXPEL_THRESHOLD
  let d := s.defence
  let rose := decide (d.cycle.1 = s.now) && decide (d.cycle.2.1 < thr) && decide (thr ≤ d.score)
  { s with defence := { d with
      observing := on || rose
      cycle := if d.cycle.1 = s.now then (d.cycle.1, d.cycle.2.1, on, d.cycle.2.2.2) else d.cycle } }

end Sys2Proof.Machine
end

