-- ==== Sys2Proof/Machine/Dictionary.lean ====
section
/-!
DEFINITION. The object dictionary's rows (chapter 18 and the Entries tables of the chapters): key, number of consecutive
subindices, type, size, access, marks, default and range of every entry.
-/

namespace Sys2Proof.Machine

/-- Types of R537. -/
inductive OdType
  | bool | u8 | u16 | u32 | u64 | i32 | f32 | time64 | string | blob
deriving DecidableEq, Repr

/-- The type code of R537. -/
def OdType.code : OdType → Nat
  | .bool => 1 | .u8 => 2 | .u16 => 3 | .u32 => 4 | .u64 => 5 | .i32 => 6 | .f32 => 7 | .time64 => 8 | .string => 9
  | .blob => 10

/-- Access codes of R545. -/
inductive OdAccess
  | ro | rw | wo | pr
deriving DecidableEq, Repr

/-- The access code of R538. -/
def OdAccess.code : OdAccess → Nat
  | .ro => 1 | .rw => 2 | .wo => 3 | .pr => 4

/-- A row of the dictionary: entries `key` to `key + n − 1`, where a key is index × 256 + subindex. `mask` holds the
bits that are not reserved (R7); it is 0 for strings and BLOBs. -/
structure OdRow where
  key : Nat
  n : Nat
  ty : OdType
  size : Nat
  acc : OdAccess
  nv : Bool
  w1c : Bool
  var : Bool
  dflt : Nat
  lo : Nat
  hi : Nat
  mask : Nat
deriving DecidableEq, Repr

/-- Rows of the dictionary, part 1. -/
def odRows0 : List OdRow :=
  [⟨0x100001, 1, .string, 8, .ro, false, false, false, 0, 8, 8, 0⟩,
   ⟨0x100002, 1, .string, 13, .ro, false, false, false, 0, 13, 13, 0⟩,
   ⟨0x100003, 1, .u16, 2, .ro, false, false, true, 0, 680, 686, 65535⟩,
   ⟨0x100004, 1, .string, 16, .ro, false, false, true, 0, 16, 16, 0⟩,
   ⟨0x100005, 1, .u16, 2, .ro, false, false, true, 0, 256, 65535, 65535⟩,
   ⟨0x100006, 1, .u16, 2, .ro, false, false, false, 1, 1, 1, 65535⟩,
   ⟨0x100007, 1, .string, 64, .rw, true, false, false, 0, 0, 64, 0⟩,
   ⟨0x101001, 1, .u64, 8, .ro, false, false, true, 0, 0, 0xFFFFFFFFFFFFFFFF, 0xFFFFFFFFFFFFFFFF⟩,
   ⟨0x101002, 1, .u64, 8, .ro, false, false, true, 0, 0, 0xFFFFFFFFFFFFFFFF, 0xFFFFFFFFFFFFFFFF⟩,
   ⟨0x101003, 1, .u64, 8, .ro, false, false, true, 0, 0, 0xFFFFFFFFFFFFFFFF, 0xFFFFFFFFFFFFFFFF⟩,
   ⟨0x101004, 1, .u64, 8, .ro, false, false, true, 0, 0, 0xFFFFFFFFFFFFFFFF, 0xFFFFFFFFFFFFFFFF⟩,
   ⟨0x101005, 1, .u16, 2, .ro, false, false, false, 240, 240, 240, 65535⟩,
   ⟨0x101006, 1, .u32, 4, .ro, false, false, true, 0, 1280, 0xA3C500, 0xFFFFFFFF⟩,
   ⟨0x102001, 1, .u32, 4, .ro, false, false, false, 0, 0, 1023, 0xFFFFFFFF⟩,
   ⟨0x102002, 1, .u8, 1, .wo, false, false, false, 0, 1, 2, 255⟩,
   ⟨0x110001, 1, .time64, 8, .ro, false, false, true, 0, 0, 0xFFFFFFFFFFFFFFFF, 0xFFFFFFFFFFFFFFFF⟩,
   ⟨0x110002, 1, .u8, 1, .rw, true, false, false, 31, 0, 31, 255⟩,
   ⟨0x110003, 1, .u16, 2, .rw, false, false, false, 1, 1, 1000, 65535⟩,
   ⟨0x110004, 1, .u64, 8, .ro, false, false, false, 0, 0, 0xFFFFFFFFFFFFFFFF, 0xFFFFFFFFFFFFFFFF⟩,
   ⟨0x200001, 1, .u8, 1, .rw, false, false, false, 0, 0, 3, 255⟩,
   ⟨0x200002, 1, .u64, 8, .ro, false, false, true, 0, 0, 0xFFFFFFFFFFFFFFFF, 0xFFFFFFFFFFFFFFFF⟩,
   ⟨0x201001, 1, .u64, 8, .ro, false, false, true, 0, 0, 0xFFFFFFFFFFFFFFFF, 0xFFFFFFFFFFFFFFFF⟩,
   ⟨0x201002, 1, .u16, 2, .ro, false, false, true, 0, 0, 4000, 65535⟩,
   ⟨0x201003, 1, .u16, 2, .rw, true, false, false, 3200, 1000, 3200, 65535⟩]

/-- Rows of the dictionary, part 2. -/
def odRows1 : List OdRow :=
  [⟨0x201004, 1, .u8, 1, .ro, false, false, true, 0, 0, 3, 255⟩,
   ⟨0x201005, 1, .blob, 16, .ro, true, false, false, 0, 0, 0, 0⟩,
   ⟨0x202001, 1, .blob, 96, .ro, false, false, true, 0, 0, 0, 0⟩,
   ⟨0x202002, 1, .u8, 1, .rw, true, false, false, 100, 80, 110, 255⟩,
   ⟨0x202003, 1, .u32, 4, .rw, false, true, false, 0, 0, 255, 255⟩,
   ⟨0x240001, 1, .blob, 36, .ro, false, false, true, 0, 0, 0, 0⟩,
   ⟨0x240002, 1, .u32, 4, .rw, false, false, false, 10, 0, 0xF4240, 0xFFFFFFFF⟩,
   ⟨0x240003, 1, .u32, 4, .ro, false, false, true, 0, 0x2020202, 0x5050505, 0xFFFFFFFF⟩,
   ⟨0x301001, 1, .blob, 256, .ro, false, false, true, 0, 0, 0, 0⟩,
   ⟨0x301002, 1, .u16, 2, .rw, false, false, false, 64, 0, 1024, 65535⟩,
   ⟨0x302001, 16, .u64, 8, .rw, false, false, false, 0, 0, 0xFFFFFFFFFFFFFFFF, 0xFFFFFFFFFFFFFFFF⟩,
   ⟨0x340001, 1, .blob, 32, .ro, false, false, false, 0, 0, 0, 0⟩,
   ⟨0x341001, 16, .u8, 1, .rw, false, false, false, 0, 0, 3, 255⟩,
   ⟨0x341101, 16, .u16, 2, .ro, false, false, false, 0, 0, 4095, 65535⟩,
   ⟨0x341201, 16, .u32, 4, .rw, false, false, false, 0, 0, 0xFFFFFFFF, 0xFFFFFFFF⟩,
   ⟨0x341301, 16, .u32, 4, .rw, false, false, false, 0, 0, 0xFFFFFFFF, 0xFFFFFFFF⟩,
   ⟨0x341401, 16, .u64, 8, .rw, false, false, false, 0, 0, 0x3FFFFFFFFFFFFF, 0x3FFFFFFFFFFFFF⟩,
   ⟨0x341501, 16, .u64, 8, .rw, false, false, false, 0, 0, 0xFFFFFFFFFFFFFFC0, 0xFFFFFFFFFFFFFFFF⟩,
   ⟨0x341601, 16, .u64, 8, .rw, false, false, false, 0, 0, 0x3FFFFFFF001F, 0x3FFFFFFF001F⟩,
   ⟨0x341701, 16, .u64, 8, .rw, false, false, false, 0, 0, 0xFFFFFFFFFFFFFFC0, 0xFFFFFFFFFFFFFFFF⟩,
   ⟨0x341801, 16, .u32, 4, .rw, false, false, false, 0, 0, 0x100000, 0xFFFFFFFF⟩,
   ⟨0x381001, 16, .bool, 1, .rw, false, false, false, 0, 0, 1, 255⟩,
   ⟨0x401001, 1, .u16, 2, .rw, false, false, false, 0, 0, 65535, 65535⟩,
   ⟨0x401002, 1, .blob, 32, .rw, false, false, false, 0, 0, 0, 0⟩]

/-- Rows of the dictionary, part 3. -/
def odRows2 : List OdRow :=
  [⟨0x402001, 16, .u64, 8, .rw, false, false, false, 0, 0, 0xFFFFFFFFFFFFFFFF, 0xFFFFFFFFFFFFFFFF⟩,
   ⟨0x402101, 16, .u64, 8, .rw, false, false, false, 0, 0, 0xFFFFFFFFFFFFFFFF, 0xFFFFFFFFFFFFFFFF⟩,
   ⟨0x402201, 16, .u16, 2, .rw, false, false, false, 16, 16, 79, 255⟩,
   ⟨0x402301, 1, .u32, 4, .rw, false, false, false, 1024, 0, 0x40000, 0xFFFFFFFF⟩,
   ⟨0x402302, 1, .blob, 512, .ro, false, false, false, 0, 0, 0, 0⟩,
   ⟨0x440001, 1, .u16, 2, .rw, true, false, false, 8000, 6400, 8000, 65535⟩,
   ⟨0x440002, 1, .u16, 2, .rw, false, false, false, 33, 1, 4095, 4095⟩,
   ⟨0x440003, 1, .u8, 1, .rw, true, false, false, 16, 1, 255, 255⟩,
   ⟨0x441001, 1, .blob, 48, .ro, false, false, true, 0, 0, 0, 0⟩,
   ⟨0x441002, 1, .u64, 8, .ro, false, false, true, 0, 0, 0xFFFFFFFFFFFFFFFF, 0xFFFFFFFFFFFFFFFF⟩,
   ⟨0x442001, 1, .blob, 1024, .ro, true, false, false, 0, 0, 0, 0⟩,
   ⟨0x442002, 1, .u16, 2, .wo, false, false, false, 0, 0, 31, 31⟩,
   ⟨0x443001, 1, .u16, 2, .rw, false, false, false, 0, 0, 511, 511⟩,
   ⟨0x443002, 1, .blob, 32, .rw, false, false, false, 0, 0, 0, 0⟩,
   ⟨0x443003, 1, .blob, 32, .ro, false, false, false, 0, 0, 0, 0⟩,
   ⟨0x443004, 1, .u8, 1, .wo, false, false, false, 0, 1, 2, 255⟩,
   ⟨0x480001, 1, .u32, 4, .ro, false, false, true, 0, 0, 255, 0xFFFFFFFF⟩,
   ⟨0x480002, 1, .u8, 1, .rw, false, false, false, 0, 0, 15, 15⟩,
   ⟨0x500001, 1, .u32, 4, .rw, true, false, false, 0, 0, 0xFFFFFC, 0xFFFFFC⟩,
   ⟨0x500002, 1, .u32, 4, .rw, true, false, false, 0x7FFFFFF, 0, 0x7FFFFFF, 0x7FFFFFF⟩,
   ⟨0x500003, 1, .u32, 4, .rw, true, false, false, 0, 0, 0x7FFFFFF, 0x7FFFFFF⟩,
   ⟨0x500004, 1, .u32, 4, .rw, true, false, false, 0x7FFFFFF, 0, 0x7FFFFFF, 0x7FFFFFF⟩,
   ⟨0x500005, 1, .u16, 2, .wo, false, false, false, 0, 32, 58, 255⟩,
   ⟨0x500006, 1, .u16, 2, .rw, false, false, false, 26161, 4369, 65535, 65535⟩]

/-- Rows of the dictionary, part 4. -/
def odRows3 : List OdRow :=
  [⟨0x500007, 1, .u16, 2, .rw, false, false, false, 64, 1, 65535, 65535⟩,
   ⟨0x501001, 1, .blob, 216, .ro, false, false, true, 0, 0, 0, 0⟩,
   ⟨0x501002, 1, .blob, 864, .pr, false, false, false, 0, 0, 0, 0⟩,
   ⟨0x502001, 1, .u16, 2, .rw, false, false, false, 0, 0, 4095, 65535⟩,
   ⟨0x502002, 1, .u32, 4, .rw, false, false, false, 0, 0, 0x87FFFFFF, 0x87FFFFFF⟩,
   ⟨0x540001, 1, .u16, 2, .rw, false, false, false, 0, 0, 65535, 65535⟩,
   ⟨0x541001, 1, .u32, 4, .rw, false, false, false, 0, 0, 0xFFFFF, 0xFFFFF⟩,
   ⟨0x541002, 1, .blob, 16, .rw, false, false, false, 0, 0, 0, 0⟩,
   ⟨0x542001, 16, .u8, 1, .rw, false, false, true, 0, 0, 255, 255⟩,
   ⟨0x581001, 1, .u8, 1, .rw, false, false, false, 0, 0, 63, 255⟩,
   ⟨0x581002, 1, .blob, 32, .rw, false, false, false, 0, 0, 0, 0⟩,
   ⟨0x582001, 1, .u8, 1, .rw, false, false, false, 0, 0, 127, 255⟩,
   ⟨0x582002, 1, .blob, 64, .rw, false, false, false, 0, 0, 0, 0⟩,
   ⟨0x582003, 1, .blob, 2048, .ro, false, false, false, 0, 0, 0, 0⟩,
   ⟨0x583001, 16, .u32, 4, .rw, false, false, false, 0x3FFFF, 0, 0x3FFFF, 0xFFFFFFFF⟩,
   ⟨0x583101, 16, .blob, 36, .rw, false, false, false, 0, 0, 0, 0⟩,
   ⟨0x583201, 16, .u64, 8, .rw, false, false, false, 0, 0, 0xFFFFFFFFFF, 0xFFFFFFFFFF⟩,
   ⟨0x583301, 16, .u32, 4, .rw, false, false, false, 0, 0, 0x3FFFF, 0xFFFFFFFF⟩,
   ⟨0x601001, 16, .u64, 8, .ro, false, false, false, 0, 0, 0xFFFFFFFFFFFFFFFF, 0xFFFFFFFFFFFFFFFF⟩,
   ⟨0x601101, 16, .u32, 4, .ro, false, false, false, 0, 0, 0xFFFFFFFF, 0xFFFFFFFF⟩,
   ⟨0x601201, 16, .u16, 2, .rw, false, false, false, 0, 0, 65535, 65535⟩,
   ⟨0x601301, 16, .u16, 2, .rw, false, false, false, 0, 0, 65535, 65535⟩,
   ⟨0x601401, 16, .u16, 2, .rw, false, false, false, 0, 0, 65535, 65535⟩,
   ⟨0x601501, 16, .blob, 32, .rw, false, false, false, 0, 0, 0, 0⟩]

/-- Rows of the dictionary, part 5. -/
def odRows4 : List OdRow :=
  [⟨0x601601, 16, .u32, 4, .rw, false, false, false, 8, 0, 0xFFFC0018, 0xFFFC001F⟩,
   ⟨0x601701, 1, .blob, 1024, .ro, false, false, false, 0, 0, 0, 0⟩,
   ⟨0x601801, 1, .blob, 1024, .ro, false, false, false, 0, 0, 0, 0⟩,
   ⟨0x640001, 16, .u16, 2, .rw, false, false, false, 0, 0, 65535, 65535⟩,
   ⟨0x640101, 16, .u32, 4, .rw, false, false, false, 0, 0, 0x1FFFF, 0x1FFFF⟩,
   ⟨0x640201, 16, .u64, 8, .rw, false, false, false, 0, 0, 0xFFFFFFFFFFFFFFFF, 0xFFFFFFFFFFFFFFFF⟩,
   ⟨0x640301, 16, .u64, 8, .ro, false, false, false, 0, 0, 0xFFFFFFFFFFFFFFFF, 0xFFFFFFFFFFFFFFFF⟩,
   ⟨0x640401, 16, .u8, 1, .wo, false, false, false, 0, 1, 1, 255⟩,
   ⟨0x640501, 1, .u32, 4, .rw, false, false, false, 1000, 10, 60000, 0xFFFFFFFF⟩,
   ⟨0x641001, 1, .u64, 8, .wo, false, false, false, 0, 0, 0x3FFFFFFFFF, 0x3FFFFFFFFF⟩,
   ⟨0x641002, 1, .u32, 4, .ro, false, false, false, 0, 0, 4, 0xFFFFFFFF⟩,
   ⟨0x642001, 16, .u64, 8, .wo, false, false, false, 0, 0, 0x3FFFFFFFF, 0x3FFFFFFFF⟩,
   ⟨0x642101, 16, .u64, 8, .ro, false, false, false, 0, 0, 0xFFFFFFFFFFFFFFFF, 0xFFFFFFFFFFFFFFFF⟩,
   ⟨0x643001, 16, .u32, 4, .wo, false, false, false, 0, 0, 0xFFFFFFFF, 0xFFFFFFFF⟩,
   ⟨0x643101, 16, .u32, 4, .ro, false, false, false, 0, 0, 0xFFFFFFFF, 0xFFFFFFFF⟩,
   ⟨0x701001, 1, .blob, 512, .ro, false, false, false, 0, 0, 0, 0⟩,
   ⟨0x701002, 1, .u8, 1, .rw, false, false, false, 0, 0, 1, 255⟩,
   ⟨0x702001, 1, .u8, 1, .rw, false, false, false, 0, 0, 1, 255⟩,
   ⟨0x703001, 1, .u32, 4, .rw, false, false, false, 60000, 100, 0x36EE80, 0xFFFFFFFF⟩,
   ⟨0x703002, 1, .u32, 4, .rw, false, false, false, 1000, 100, 60000, 0xFFFFFFFF⟩,
   ⟨0x703003, 1, .u8, 1, .rw, false, false, false, 15, 0, 15, 15⟩,
   ⟨0x703004, 1, .blob, 16, .ro, false, false, false, 0, 0, 0, 0⟩,
   ⟨0x704001, 1, .u16, 2, .ro, false, false, false, 0, 0, 65535, 65535⟩,
   ⟨0x704002, 1, .u16, 2, .rw, false, false, false, 16, 0, 65535, 65535⟩]

/-- Rows of the dictionary, part 6. -/
def odRows5 : List OdRow :=
  [⟨0x704003, 1, .u16, 2, .rw, false, false, false, 8, 0, 65535, 65535⟩,
   ⟨0x704004, 1, .u16, 2, .rw, false, false, false, 32, 0, 65535, 65535⟩,
   ⟨0x704005, 1, .u16, 2, .rw, false, false, false, 4, 0, 65535, 65535⟩,
   ⟨0x704006, 1, .u16, 2, .rw, false, false, false, 128, 0, 65535, 65535⟩,
   ⟨0x704007, 1, .u16, 2, .rw, false, false, false, 8, 0, 65535, 65535⟩,
   ⟨0x704008, 1, .u16, 2, .rw, false, false, false, 16, 0, 65535, 65535⟩,
   ⟨0x704009, 1, .u16, 2, .rw, false, false, false, 0, 0, 65535, 65535⟩,
   ⟨0x70400A, 1, .u32, 4, .rw, false, false, false, 0x927C0, 1000, 0x5265C00, 0xFFFFFFFF⟩,
   ⟨0x705001, 1, .u16, 2, .rw, false, false, false, 128, 1, 65535, 65535⟩,
   ⟨0x705002, 1, .u32, 4, .rw, false, false, false, 0x493E0, 0, 0x5265C00, 0xFFFFFFFF⟩,
   ⟨0x705003, 1, .blob, 32, .ro, false, false, false, 0, 0, 0, 0⟩,
   ⟨0x705004, 1, .u32, 4, .wo, false, false, false, 0, 65536, 0x2FFFF, 0x3FFFF⟩,
   ⟨0x705005, 1, .u32, 4, .rw, false, false, false, 10000, 100, 0x927C0, 0xFFFFFFFF⟩,
   ⟨0x705006, 1, .u16, 2, .rw, false, false, false, 32, 0, 65535, 65535⟩,
   ⟨0x705007, 1, .u8, 1, .rw, false, false, false, 0, 0, 1, 255⟩,
   ⟨0x706001, 16, .u32, 4, .rw, false, false, false, 0, 0, 0xFFFF0001, 0xFFFF0001⟩,
   ⟨0x740001, 1, .u32, 4, .rw, false, false, false, 50, 1, 60000, 0xFFFFFFFF⟩,
   ⟨0x740002, 1, .u8, 1, .rw, false, false, false, 3, 2, 16, 255⟩,
   ⟨0x740003, 1, .u32, 4, .rw, false, false, false, 10, 1, 10000, 0xFFFFFFFF⟩,
   ⟨0x740004, 1, .u32, 4, .rw, false, false, false, 200, 1, 10000, 0xFFFFFFFF⟩,
   ⟨0x740005, 1, .u32, 4, .rw, false, false, false, 2000, 1, 30000, 0xFFFFFFFF⟩,
   ⟨0x740006, 1, .u32, 4, .rw, false, false, false, 30000, 1000, 0x36EE80, 0xFFFFFFFF⟩,
   ⟨0x740007, 1, .u32, 4, .rw, false, false, false, 2, 1, 100, 0xFFFFFFFF⟩,
   ⟨0x740008, 1, .u8, 1, .rw, false, false, false, 4, 0, 15, 255⟩]

/-- Rows of the dictionary, part 7. -/
def odRows6 : List OdRow :=
  [⟨0x740009, 1, .u32, 4, .rw, false, false, false, 500, 10, 10000, 0xFFFFFFFF⟩,
   ⟨0x74000A, 1, .u8, 1, .rw, false, false, false, 3, 1, 15, 255⟩,
   ⟨0x74000B, 1, .u32, 4, .rw, false, false, false, 60000, 1000, 0x36EE80, 0xFFFFFFFF⟩,
   ⟨0x74000C, 1, .u32, 4, .rw, false, false, false, 5000, 1000, 60000, 0xFFFFFFFF⟩,
   ⟨0x74000D, 1, .u32, 4, .rw, false, false, false, 10000, 1000, 0x927C0, 0xFFFFFFFF⟩,
   ⟨0x741001, 1, .blob, 512, .ro, false, false, false, 0, 0, 0, 0⟩,
   ⟨0x741002, 1, .u32, 4, .rw, false, true, false, 0, 0, 0xFFFFFFFF, 0xFFFFFFFF⟩,
   ⟨0x742001, 1, .u16, 2, .wo, false, false, false, 0, 1, 4086, 4095⟩,
   ⟨0x742002, 1, .u64, 8, .ro, false, false, false, 0, 0, 0xFFFFFFFFFFFFFFFF, 0xFFFFFFFFFFFFFFFF⟩,
   ⟨0x742003, 1, .u8, 1, .rw, false, false, false, 124, 0, 127, 127⟩,
   ⟨0x742004, 1, .u8, 1, .wo, false, false, false, 0, 1, 1, 255⟩,
   ⟨0x743001, 1, .u16, 2, .wo, false, false, false, 0, 0, 65535, 65535⟩,
   ⟨0x743002, 1, .u32, 4, .ro, false, false, false, 0, 0, 0xFFFFFFFF, 0xFFFFFFFF⟩,
   ⟨0x744001, 1, .u32, 4, .rw, true, false, false, 0, 0, 0xFFFFFF, 0xFFFFFF⟩,
   ⟨0x744002, 1, .blob, 2048, .ro, false, false, false, 0, 0, 0, 0⟩,
   ⟨0x744003, 1, .u32, 4, .wo, false, false, false, 0, 0, 0xFFFFFFFF, 0xFFFFFFFF⟩,
   ⟨0x744004, 1, .u32, 4, .rw, false, false, false, 1000, 100, 60000, 0xFFFFFFFF⟩,
   ⟨0x820001, 16, .blob, 16, .rw, false, false, false, 0, 0, 0, 0⟩,
   ⟨0x820101, 16, .u16, 2, .rw, false, false, false, 0, 0, 65535, 65535⟩,
   ⟨0x820201, 16, .u32, 4, .rw, false, false, false, 0, 0, 60000, 0xFFFFFFFF⟩,
   ⟨0x820301, 1, .u8, 1, .rw, false, false, false, 0, 0, 15, 15⟩,
   ⟨0x821001, 1, .u8, 1, .rw, false, false, false, 0, 0, 31, 31⟩,
   ⟨0x821002, 1, .blob, 2048, .ro, false, false, true, 0, 0, 0, 0⟩,
   ⟨0x840001, 1, .u8, 1, .rw, false, false, false, 0, 0, 34, 255⟩]

/-- Rows of the dictionary, part 8. -/
def odRows7 : List OdRow :=
  [⟨0x840002, 1, .blob, 4100, .ro, false, false, false, 0, 0, 0, 0⟩,
   ⟨0x841001, 1, .u16, 2, .rw, false, false, false, 0, 0, 8191, 8191⟩,
   ⟨0x841002, 1, .blob, 1048576, .ro, false, false, true, 0, 0, 0, 0⟩,
   ⟨0x841003, 1, .blob, 256, .ro, false, false, false, 0, 0, 0, 0⟩,
   ⟨0x842001, 4, .blob, 32, .rw, false, false, false, 0, 0, 0, 0⟩,
   ⟨0x900001, 1, .u32, 4, .ro, false, false, true, 0, 0, 0xFFFFFFFF, 0xFFFFFFFF⟩,
   ⟨0x900002, 1, .blob, 32, .ro, false, false, true, 0, 0, 0, 0⟩,
   ⟨0x900003, 1, .blob, 32, .ro, false, false, true, 0, 0, 0, 0⟩,
   ⟨0x901001, 1, .u16, 2, .ro, false, false, true, 0, 0, 256, 65535⟩,
   ⟨0x901002, 1, .u32, 4, .ro, false, false, true, 0, 0, 0xFFFFE, 0xFFFFFFFF⟩,
   ⟨0x901003, 1, .blob, 68, .ro, false, false, true, 0, 0, 0, 0⟩,
   ⟨0x901004, 1, .blob, 2952, .ro, false, false, true, 0, 0, 0, 0⟩,
   ⟨0x901005, 1, .blob, 32, .wo, false, false, false, 0, 0, 0, 0⟩,
   ⟨0x901006, 1, .blob, 2948, .ro, false, false, false, 0, 0, 0, 0⟩,
   ⟨0x901007, 1, .u8, 1, .ro, false, false, true, 0, 0, 2, 255⟩,
   ⟨0xA00001, 1, .u8, 1, .ro, false, false, true, 0, 0, 255, 255⟩,
   ⟨0xA00002, 1, .u8, 1, .ro, false, false, true, 0, 0, 31, 255⟩,
   ⟨0xA01001, 1, .u32, 4, .ro, false, false, true, 0, 0, 0xFFFFFFFF, 0xFFFFFFFF⟩,
   ⟨0xA01002, 1, .u32, 4, .ro, false, false, true, 0, 0, 0xFFFFFFFF, 0xFFFFFFFF⟩,
   ⟨0xA01003, 1, .u32, 4, .ro, false, false, true, 0, 0, 0xFFFFFFFF, 0xFFFFFFFF⟩]

/-- Global counters: first key and number of each run (chapter 18, "Counters"); every one is a U64 PR entry with
default 0. -/
def odCounters : List (Nat × Nat) :=
  [(0x203001, 6),
   (0x801001, 2),
   (0x802001, 4),
   (0x803001, 6),
   (0x804001, 4),
   (0x805001, 5),
   (0x806001, 3),
   (0x807001, 3),
   (0x808001, 10),
   (0x809001, 8),
   (0x80A001, 8),
   (0x80B001, 11),
   (0x80C001, 11),
   (0x80D001, 3),
   (0x80E001, 5),
   (0x80F001, 13),
   (0x810001, 9),
   (0x811001, 9),
   (0x812001, 12),
   (0x813001, 6),
   (0x814001, 6)]

/-- The row of a counter. -/
def odCounterRow (p : Nat × Nat) : OdRow := ⟨p.1, p.2, .u64, 8, .pr, false, false, false, 0, 0, 2 ^ 64 - 1, 2 ^ 64 - 1⟩

/-- Every row of the dictionary. -/
def odTable : List OdRow :=
  odRows0 ++ odRows1 ++ odRows2 ++ odRows3 ++ odRows4 ++ odRows5 ++ odRows6 ++ odRows7 ++ odCounters.map odCounterRow

/-- The row that holds an entry. -/
def odRow (k : Nat) : Option OdRow := odTable.find? (fun r => decide (r.key ≤ k) && decide (k < r.key + r.n))

/-- The highest subindex of an index; none for an index outside the map (R526, R527). -/
def odTop (index : Nat) : Option Nat :=
  ((odTable.filter (fun r => r.key / 256 = index)).map (fun r => r.key % 256 + r.n - 1)).foldl
    (fun m v => match m with | none => some v | some w => some (max v w)) none

end Sys2Proof.Machine
end

