-- ==== Sys2Proof/Machine/Entries.lean ====
section
/-!
DEFINITION. What each entry of the object dictionary reads as (chapter 18 and the Entries tables of the chapters).
-/

namespace Sys2Proof.Machine

/-- The bytes of a text. -/
def textBytes (t : String) : List Nat := t.toList.map (fun c => c.toNat)

/-- Words of `w` bytes each, in turn. -/
def packWords (w : Nat) (l : List Nat) : List Nat := (l.map (toBytes w)).flatten

/-- The part's serial number: 16 characters that the spec does not give. -/
def serialBytes : List Nat :=
  (List.range 16).map (fun i =>
    let v := ((Config.partWord (i / 8)).toNat >>> (8 * (i % 8))) % 256 % 36
    if v < 10 then 0x30 + v else 0x41 + (v - 10))

/-- STEPPING, 0x0100 and above. -/
def stepping : Nat := 0x0100 + (Config.partWord 2).toNat % 0xFF00

/-- SITE_MAP by grade. -/
def Part.siteMap (p : Part) : Nat := if p.grade = 680 then 0xA00500 else if p.grade = 682 then 0x000500 else 0xA3C500

/-- ARRAY_LEVEL_MAP (R123). -/
def State.levelMap (s : State) : List Nat :=
  (List.range 256).map (fun k => if s.part.isFused k then 0xFF else (s.co k).level)

/-- PAGE_STATE_MAP. -/
def State.pageMap (s : State) : List Nat :=
  (List.range 32).map (fun c =>
    let l := s.cl c
    b2n l.valid0 + 2 * b2n l.valid1 + 4 * b2n l.active + 8 * b2n l.running)

/-- Hard repairs that a stack still permits (R371): those that it came with, less those made. -/
def State.hardSpares (s : State) (h : Nat) : Nat := (Config.partWord (32 + h)).toNat - (s.stack h).hard

/-- The word of a site in HBM_STACK_STATUS (R371). -/
def State.stackWord (s : State) (h : Nat) : Nat :=
  if !s.part.hbmSites.contains h then 0
  else
    let x := s.stack h
    let cands := (s.hbm.repairs.filter (fun r => r.site = h && r.st = 0)).length
    min (s.hardSpares h) 255 <<< 24 + min cands 255 <<< 16 + x.rate <<< 4 + x.mode.code

/-- A record of the repair list (R376). -/
def Repair.word (r : Repair) : Nat :=
  (r.time % 2 ^ 64) <<< 64 + r.site <<< 60 + r.row <<< 30 + min r.errors 255 <<< 22 + b2n r.uncorrected <<< 21
    + r.st <<< 18 + 1

/-- LPDDR_STATUS. -/
def State.lpddrWord (s : State) : Nat :=
  let code (f : Bool) : Nat := if f then 2 else if s.power.state = .deep then 1 else 0
  code (s.hbm.lpddrFail.getD 0 false) + 4 * code (s.hbm.lpddrFail.getD 1 false)

/-- PORT_STATUS of a port (chapter 13): a port whose bit is clear in PORT_ENABLE is DISABLED (R395). -/
def State.portWord (s : State) (p : Nat) : Nat :=
  if !s.part.hasPort p || !bit (s.par K.PORT_ENABLE) p then 0
  else
    let q := s.port p
    q.mode.code + q.width <<< 4 + b2n q.host <<< 6 + (q.rtt % 4096) <<< 8 + min q.fails 15 <<< 20 + q.cause <<< 24

/-- STEP_STATUS (chapter 11). -/
def Ctx.stepStatus (c : Ctx) : Nat :=
  let rp := match c.replay with | some t => t.st.code | none => 0
  match c.steps.getLast? with
  | none => c.lastCommitted <<< 32 + (if c.orphaned then 6 else 0) <<< 24 + rp <<< 16
  | some t =>
    let older := match c.steps with | a :: _ :: _ => a.st.code | _ => 0
    t.num <<< 32 + t.attempt <<< 28 + t.st.code <<< 24 + older <<< 20 + rp <<< 16

/-- MIRROR_STATUS (chapter 15). -/
def Mirror.statusWord (m : Mirror) : Nat :=
  let st := if m.copy.isSome then 1 else if m.failed then 2 else 0
  let pend := match m.copy with | some c => c.front.length + c.todo.length | none => 0
  (m.step % 2 ^ 32) <<< 32 + st <<< 28 + b2n m.full <<< 27 + pend % 2 ^ 25

/-- RESTORE_STATUS. -/
def Mirror.restoreWord (m : Mirror) : Nat :=
  (match m.restore with | .none => 0 | .checking => 1 | .accepted => 2 | .refused => 3) + m.reason <<< 8

/-- RESET_STATUS (chapter 16). -/
def Resets.word (r : Resets) : Nat :=
  (match r.cur with | some q => q.domain.code + q.phase <<< 8 | none => 0) + r.last <<< 4
    + (r.lasted / 4000 % 2 ^ 32) <<< 32

/-- SPARE_STATUS. -/
def Spare.word (p : Spare) : Nat := b2n p.isSpare + p.cause <<< 1 + p.given <<< 16

/-- TIME_STATUS. -/
def TimeSync.word (t : TimeSync) : Nat := b2n t.locked + b2n t.holdover <<< 1 + unsign 32 t.theta <<< 32

/-- Is every enabled cluster asleep (R566)? -/
def State.allAsleep (s : State) : Bool := (List.range 32).all (fun c => (s.cl c).asleep)

/-- POWER_STATUS. -/
def State.powerWord (s : State) : Nat :=
  let p := s.power
  let cur := if p.state = .active && s.allAsleep then 1 else p.state.code
  let want := match p.target with | some t => t.code | none => p.state.code
  cur + (if p.wake then 0 else want) <<< 4 + b2n p.target.isSome <<< 8 + (if p.target.isSome then 1 else 0) <<< 12
    + (p.lasted / 4000 % 2 ^ 32) <<< 32

/-- CLOCK_STATUS (R560, R561, R563): the state of each clock domain. -/
def State.clockMap (s : State) : List Nat :=
  let p := s.power
  let dieSt := match p.state with | .active => 3 | .retain => 2 | .deep => 1
  let io := s.part.ioDies
  (List.range 36).map (fun n =>
    if n < 8 then dieSt
    else if n < 20 then
      if !s.part.hbmSites.contains (n - 8) then 0
      else if p.state = .deep then 1
      else if (s.stack (n - 8)).mode = .selfRefresh then 2 else 3
    else if n = 35 then 0
    else if io ≤ (n - 20) / 5 then 0
    else if (n - 20) % 5 = 4 && n ≠ 24 then 1
    else 3)

/-- SIDEBAND_STATUS (R594). -/
def State.sideband (s : State) : Nat :=
  let low := s.boot.mode = .resetLow || s.boot.mode = .unpowered
  b2n (!low) + (if low then 0 else
    2 * b2n s.boot.fault + 4 * b2n (s.reports.unacked ≠ []) + 8 * b2n s.power.tripped + 16 * b2n s.boot.ready)

/-- BOOT_STATUS (chapter 20). -/
def Boot.word (b : Boot) : Nat :=
  let mode := match b.mode with | .rom => 1 | .hold => 2 | _ => 0
  b.last + mode <<< 4 + b.cause <<< 8 + b.progress <<< 16

/-- NV_STATUS. -/
def Mgmt.nvWord (m : Mgmt) : Nat := min m.commits.length 255 + b2n m.nvFailed <<< 8 + b2n m.nvRestore <<< 9

/-- Bytes of the flash. -/
def Boot.readFlash (b : Boot) (a n : Nat) : List Nat := (List.range n).map (fun i => Tbl.get b.flash 0xFF (a + i))

/-- Reads an unlisted temperature or supply: a free 16-bit value. -/
def State.sense (s : State) : State × Nat := let d := s.draw; (d.2, d.1 % 2 ^ 16)

/-- TEMPERATURES: every present sensor's reading is free, an absent one reads 0x8000. -/
def State.temperatures (s : State) : State × List Nat :=
  (List.range 48).foldl (fun acc i =>
    let present := i < 32 || (32 ≤ i && i < 32 + s.part.ioDies) || (35 ≤ i && s.part.hbmSites.contains (i - 35))
    if present then let d := acc.1.sense; (d.1, acc.2 ++ toBytes 2 d.2) else (acc.1, acc.2 ++ toBytes 2 0x8000)) (s, [])

/-- The header of a dump slot as it stands (R522). -/
def State.dumpHeader (s : State) (n : Nat) : List Nat := s.mem.service.read (0x20000000 + n * 0x80000000) 64

/-- The public key of an attestation generation in the form of chapter 20. -/
def attestKey (g : Nat) : List Nat :=
  [0, 0, 0, 0x12] ++ ((List.range 8).map (fun i => toBytes 8 (Config.partWord (64 + 8 * g + i)).toNat)).flatten

/-- The cluster that COUNTER_SAMPLE shows (R512): the counts of the last boundary while it is idle. -/
def State.shownSample (s : State) (c : Nat) : State × Nat :=
  if (s.cl c).running then s.sample c false else (s, (s.cl c).final.toNat)

/-- PLAN_PROGRESS of a plan. -/
def PlanSt.progress (q : PlanSt) : Nat :=
  q.count.taken <<< 96 + q.count.done <<< 64 + q.count.ready <<< 32 + ((q.units.filter (fun u => !u.done)).length + q.reds.length)

/-- The value of an entry as a number, where it is a scalar. -/
def State.readScalar (s : State) (k : Nat) : Nat :=
  let n := k % 256 - 1
  match k / 256 with
  | 0x1000 =>
    match k % 256 with
    | 3 => s.part.grade
    | 5 => stepping
    | 6 => 1
    | _ => 0
  | 0x1010 => if n < 4 then s.part.fused.getD n 0 else if n = 4 then 240 else s.part.siteMap
  | 0x1020 => s.service.mgmt.nvWord
  | 0x1100 => match k % 256 with | 1 => s.now % 2 ^ 64 | 4 => s.service.time.word | _ => s.par k
  | 0x2000 => if n = 0 then (match s.power.target with | some t => t.code | none => s.power.state.code) else s.powerWord
  | 0x2010 => match k % 256 with | 2 => min s.power.mean 4000 | 4 => s.power.cause | _ => s.par k
  | 0x2020 => if n = 2 then s.power.flags.toNat else s.par k
  | 0x2030 =>
    match k % 256 with
    | 2 => s.par k + ((List.range 4).map (fun d =>
        if s.power.hot.getD d false then s.now - s.power.hotSince.getD d 0 else 0)).sum
    | 3 => s.par k + (if s.power.cap < 5 then s.now - s.power.capSince else 0)
    | _ => s.par k
  | 0x2400 => if n = 2 then ((List.range 4).map (fun d => s.levelCap d <<< (8 * d))).sum else s.par k
  | 0x3410 => (s.cx n).st.code
  | 0x3411 => (s.cx n).gen
  | 0x4410 => stackBytes
  | 0x4800 => if n = 0 then s.lpddrWord else s.par k
  | 0x5020 => if n = 1 then Tbl.get s.links.routes 0 (s.par K.ROUTE_SELECT % 4096) else s.par k
  | 0x6010 => (s.cx n).stepStatus
  | 0x6011 => (s.cx n).lastCommitted
  | 0x6403 => (s.mir n).statusWord
  | 0x6410 => s.send.state
  | 0x6421 => (s.mir n).ckptStep <<< 32 + (s.mir n).ckptState
  | 0x6431 => (s.mir n).restoreWord
  | 0x7040 => if n = 0 then s.defence.score else s.par k
  | 0x7050 => if n = 6 then b2n s.defence.observing else s.par k
  | 0x7420 => if n = 1 then s.service.resets.word else s.par k
  | 0x7430 => s.service.spare.word
  | 0x9000 => s.boot.fwVersion
  | 0x9010 =>
    match k % 256 with
    | 1 => s.boot.attest.fuse
    | 2 => s.boot.attest.leaf
    | _ => if s.boot.attest.ended then 2 else b2n s.boot.attest.building
  | 0xA000 => if n = 0 then s.boot.straps else s.sideband
  | 0xA010 => match k % 256 with | 1 => s.boot.word | 2 => s.boot.time | _ => s.boot.flashStatus
  | _ => s.par k

/-- The bytes of a BLOB or STRING entry; the entry's select partner names the unit. -/
def State.readBlob (s : State) (k : Nat) : State × List Nat :=
  let n := k % 256 - 1
  let tg := bits (s.par K.HBM_TG_SELECT) 3 0 * 32 + bits (s.par K.HBM_TG_SELECT) 8 4
  match k / 256 with
  | 0x1000 =>
    (s, match k % 256 with
        | 1 => textBytes "Birautex"
        | 2 => textBytes "Uhlari Swipin"
        | 4 => serialBytes
        | _ => s.service.mgmt.asset)
  | 0x2010 => (s, toBytes 16 s.power.trip.toNat)
  | 0x2020 => s.temperatures
  | 0x2400 => (s, s.clockMap)
  | 0x3010 => (s, s.levelMap)
  | 0x3400 => (s, s.pageMap)
  | 0x4010 => (s, toBytes 32 (Tbl.get s.keys 0 (s.par K.KEY_SELECT)).toNat)
  | 0x4023 => (s, packWords 8 ((List.range 64).map (fun i =>
      let w := s.drawer (i / 4) (i % 4)
      (w.held.filter (fun p => !p.spilled)).length + (w.held.filter (fun p => p.spilled)).length <<< 32)))
  | 0x4410 => (s, packWords 4 ((List.range 12).map s.stackWord))
  | 0x4420 => (s, fitBytes 1024 (packWords 16 (s.hbm.repairs.map Repair.word)))
  | 0x4430 =>
    let g := Tbl.get s.hbm.gens {} tg
    (s, toBytes 32 (if n = 1 then g.cfg else g.status.toNat))
  | 0x5010 =>
    (s, if n = 0 then packWords 8 ((List.range 27).map s.portWord)
        else ((List.range 27).map (fun p =>
          let q := s.port p
          packWords 8 [q.corrected, q.uncorrected, q.resentFlits, q.retrains])).flatten)
  | 0x5410 =>
    let e := s.par K.EP_SELECT
    (s, toBytes 16 (s.ep (bits e 19 18) (bits e 17 0)))
  | 0x5810 => (s, toBytes 32 (Tbl.get s.groups 0 (s.par K.GROUP_SELECT)).toNat)
  | 0x5820 =>
    (s, if n = 1 then toBytes 64 (s.planWord (s.par K.PLAN_SELECT))
        else packWords 16 ((List.range 128).map (fun p => (s.plan p).progress)))
  | 0x6017 => (s, ((List.range 16).map (fun x =>
      toBytes 32 (s.cx x).sealedWord.toNat ++ toBytes 32 (s.cx x).partnerWord.toNat)).flatten)
  | 0x6018 => (s, packWords 64 ((List.range 16).map (fun x => (s.cx x).lastVerdict.toNat)))
  | 0x7010 => (s, packWords 32 ((List.range 16).map (fun x => (s.cx x).trap.toNat)))
  | 0x7030 => (s, toBytes 16 s.defence.lastFail.toNat)
  | 0x7050 => (s, toBytes 32 s.defence.request.toNat)
  | 0x7410 => (s, packWords 32 ((List.range 16).map (fun x => (s.cx x).hang.toNat)))
  | 0x7440 => (s, packWords 32 ((List.range 64).map (fun i => (Tbl.get s.reports.ring 0 i).toNat)))
  | 0x8210 =>
    let r := s.shownSample (s.par K.COUNTER_SAMPLE_SELECT % 32)
    (r.1, toBytes 2048 r.2)
  | 0x8400 =>
    let r := Tbl.get s.rings {} (s.par K.EVENT_RING_SELECT)
    (s, packWords 16 ((List.range 256).map (fun i => (Tbl.get r.slots 0 i).toNat)) ++ toBytes 4 r.count)
  | 0x8410 =>
    let w := s.par K.DUMP_WINDOW_SELECT
    (s, if n = 1 then s.mem.service.read (0x20000000 + bits w 1 0 * 0x80000000 + bits w 12 2 * 2 ^ 20) (2 ^ 20)
        else ((List.range 4).map s.dumpHeader).flatten)
  | 0x9000 => (s, if n = 1 then toBytes 32 s.boot.fwHash
      else packWords 8 ((List.range 4).map (fun i => (Config.partWord (8 + i)).toNat)))
  | 0x9010 =>
    match k % 256 with
    | 3 => (s, attestKey s.boot.attest.fuse)
    | 4 => (s, s.boot.readFlash 0x4030000 2952)
    | _ => (s, fitBytes 2948 s.boot.attest.quote)
  | _ => (s, toBytes (match odRow k with | some r => r.size | none => 0) (s.par k))

/-- The bytes of an entry, read in one cycle (R514, R535). -/
def State.readEntry (s : State) (k : Nat) : State × List Nat :=
  if k % 256 = 0 then (s, [(odTop (k / 256)).getD 0])
  else
    match odRow k with
    | none => (s, [])
    | some r =>
      match r.ty with
      | .string | .blob => s.readBlob k
      | _ =>
        if k = K.INPUT_STATUS then
          let d := s.draw
          (d.2, toBytes 8 (d.1 % 2 ^ 50))
        else (s, toBytes r.size (s.readScalar k))

end Sys2Proof.Machine
end

