-- ==== Sys2Proof/Machine/Boot.lean ====
section
/-!
DEFINITION. The boot (R578 to R583), the image's verification (R582), the NV area (R547, R548, R588), attestation
batches (R590, R591), the training of stacks (R372), and what a removal of the rails leaves.
-/

namespace Sys2Proof.Machine

/-! ### The flash -/

/-- Writes bytes into the flash. -/
def Boot.writeFlash (b : Boot) (a : Nat) (bs : List Nat) : Boot :=
  { b with flash := (bs.zipIdx).foldl (fun m p => Tbl.put m 0xFF (a + p.2) (p.1 % 256)) b.flash }

/-- Erases a region of the flash. -/
def Boot.eraseFlash (b : Boot) (a n : Nat) : Boot :=
  { b with flash := b.flash.filter (fun (c : Nat × Nat) => decide (c.1 < a) || decide (a + n ≤ c.1)) }

/-- Changes what boot holds. -/
def State.modBoot (s : State) (f : Boot → Boot) : State := { s with boot := f s.boot }
/-- Changes what the management channel holds. -/
def State.modMgmt (s : State) (f : Mgmt → Mgmt) : State :=
  { s with service := { s.service with mgmt := f s.service.mgmt } }

/-! ### The NV area (R588) -/

/-- Address of an NV copy (R587). -/
def nvBase (copy : Nat) : Nat := 0x4000000 + 0x10000 * (copy % 2)

/-- A record of the NV area. -/
def nvRecord (k : Nat) (v : List Nat) : List Nat :=
  toBytes 8 ((k / 256) <<< 48 + (k % 256) <<< 40 + v.length <<< 16) ++ fitBytes (8 * ceilDiv v.length 8) v

/-- Writes the stored values as the other copy, with the next SEQ (R588). -/
def State.writeNv (s : State) : State :=
  let m := s.service.mgmt
  let copy := (m.nvCopy + 1) % 2
  let seq := (m.nvSeq + 1) % 2 ^ 32
  let body := (m.nv.map (fun p => nvRecord p.1 p.2)).flatten
  let head := toBytes 16 (0x53574E56 <<< 96 + seq <<< 64 + body.length <<< 32 + crc32c body)
  (s.modMgmt (fun m => { m with nvCopy := copy, nvSeq := seq })).modBoot (fun b =>
    (b.eraseFlash (nvBase copy) 0x10000).writeFlash (nvBase copy) (head ++ body))

/-- SEQ and the record bytes of an NV copy, when it is valid (R588). -/
def Boot.nvCopyOf (b : Boot) (copy : Nat) : Option (Nat × List Nat) :=
  let h := ofBytes (b.readFlash (nvBase copy) 16)
  let len := bits h 63 32
  if bits h 127 96 ≠ 0x53574E56 || bits h 95 64 = 0xFFFFFFFF || 0x10000 < len + 16 then none
  else
    let body := b.readFlash (nvBase copy + 16) len
    if crc32c body = bits h 31 0 then some (bits h 95 64, body) else none

/-- The records of an NV copy's bytes: key and value. -/
def nvParse : Nat → List Nat → List (Nat × List Nat)
  | 0, _ => []
  | n + 1, bs =>
    if bs.length < 8 then []
    else
      let h := ofBytes (bs.take 8)
      let size := bits h 31 16
      (bits h 63 48 * 256 + bits h 47 40, (bs.drop 8).take size) :: nvParse n (bs.drop (8 + 8 * ceilDiv size 8))

/-- The valid copy with the later SEQ (R588): copy, SEQ and records. -/
def Boot.nvValid (b : Boot) : Option (Nat × Nat × List (Nat × List Nat)) :=
  let pick (i : Nat) (c : Nat × List Nat) : Option (Nat × Nat × List (Nat × List Nat)) :=
    some (i, c.1, nvParse 8192 c.2)
  match b.nvCopyOf 0, b.nvCopyOf 1 with
  | none, none => none
  | some c, none => pick 0 c
  | none, some c => pick 1 c
  | some c, some d => if (c.1 + 2 ^ 32 - d.1) % 2 ^ 32 < 2 ^ 31 then pick 0 c else pick 1 d

/-- Reads a record of the repair list (R376). -/
def Repair.ofWord (w : Nat) : Repair :=
  ⟨bits w 127 64, bits w 63 60, bits w 59 30, bits w 29 22, bit w 21, bits w 20 18⟩

/-- The entry of a key takes a stored value. -/
def State.applyNv (s : State) (k : Nat) (v : List Nat) : State :=
  if k = K.ASSET_TAG then s.modMgmt (fun m => { m with asset := v })
  else if k = K.HBM_REPAIR_LIST then
    { s with hbm := { s.hbm with repairs := ((runs 16 v).map (fun r => ofBytes r)).filterMap (fun w =>
        if bit w 0 then some (Repair.ofWord w) else none) } }
  else if k = K.TRIP_RECORD then { s with power := { s.power with trip := BitVec.ofNat 128 (ofBytes v) } }
  else s.setPar k (ofBytes v)

/-- Stores the value of an NV entry and writes the NV area (R547, R548). -/
def State.storeNv (s : State) (k : Nat) (v : List Nat) : State :=
  (s.modMgmt (fun m => { m with nv := Tbl.put m.nv [] k v })).writeNv

/-- Every NV entry takes its stored value, or its factory default (R546, R549). -/
def State.loadNv (s : State) : State :=
  let restore := s.service.mgmt.nvRestore
  let (copy, seq, recs) := match s.boot.nvValid with
    | some v => v
    | none => (1, 0xFFFFFFFF, [])
  let recs := if restore then recs.filter (fun p => p.1 = K.HBM_REPAIR_LIST) else recs
  let s := s.modMgmt (fun m => { m with
    nv := recs.foldl (fun t p => Tbl.put t [] p.1 p.2) []
    nvCopy := copy
    nvSeq := seq
    nvRestore := false })
  let s := if restore then s.writeNv else s
  recs.foldl (fun s p => s.applyNv p.1 p.2) s

/-! ### The image (R582, R584) -/

/-- Bytes of the staging area (R384). -/
def State.staging (s : State) (a n : Nat) : List Nat := s.mem.service.read a n

/-- Bytes as bit vectors. -/
def asBytes (l : List Nat) : List (BitVec 8) := l.map (BitVec.ofNat 8)

/-- Verifies the staged image: 0, or the cause of the first check that fails (R582). -/
def State.verifyImage (s : State) : Nat :=
  let h := ofBytes (s.staging 0 64)
  let len := bits h 447 416
  if !bit s.boot.flashStatus 9 then 2
  else if bits h 511 480 ≠ 0x53574657 || bits h 479 464 ≠ 1 || len = 0 || 67104768 < len || bits h 383 0 ≠ 0
      || bits h 463 451 ≠ 0 then 3
  else if !bit (bits h 463 448) (if s.part.grade = 680 then 0 else if s.part.grade = 682 then 1 else 2) then 4
  else if shake256 (s.staging 64 68) 32 ≠ packWords 8 ((List.range 4).map (fun i => (Config.partWord (8 + i)).toNat))
  then 5
  else if Config.xmssVerify (asBytes (s.staging 64 68)) (asBytes (s.staging 0 64 ++ s.staging 4096 len))
      (asBytes (s.staging 132 2820)) then 0 else 6

/-- FW_HASH of the staged image: over bytes 0 to 4,095 + BODY_LENGTH − 1 (R582), which leaves out the body's last byte. -/
def State.stagedHash (s : State) : Nat :=
  ofBytes (shake256 (s.staging 0 (4095 + bits (ofBytes (s.staging 0 64)) 447 416)) 32)

/-- Reads the firmware image from the flash into the staging area. -/
def State.stageFlash (s : State) : State :=
  let len := bits (ofBytes (s.boot.readFlash 0 64)) 447 416
  let n := 4096 + (if len ≤ 67104768 then len else 0)
  { s with mem := { s.mem with service := s.mem.service.write 0 (s.boot.readFlash 0 n) } }

/-! ### Attestation batches (R590, R591) -/

/-- A certificate (chapter 20). -/
def certificate (gen signer : Nat) (sig : List Nat) : List Nat :=
  toBytes 64 (0x53574143 <<< 480 + gen <<< 464 + signer <<< 448 + ofBytes serialBytes <<< 320) ++ attestKey gen
    ++ fitBytes 2820 sig

/-- Signs and writes the certificate of a generation. -/
def Boot.writeCert (b : Boot) (gen : Nat) : Boot :=
  let head := (certificate gen (if gen = 0 then 0xFFFF else gen - 1) []).take 132
  let sig := (Config.xmssSign (gen - 1) 1048575 (asBytes head)).map (·.toNat)
  (b.eraseFlash 0x4030000 0x10000).writeFlash 0x4030000 (head ++ fitBytes 2820 sig)

/-- A reservation record (R590). -/
def reservation (r gen : Nat) : List Nat :=
  let w := r <<< 96 + gen <<< 80
  toBytes 16 (w + crc32c ((toBytes 16 w).drop 4))

/-- R of the current record of the generation, when there is one (R590). -/
def Boot.currentR (b : Boot) : Option Nat :=
  let recs := (runs 16 (b.readFlash 0x4020000 0x10000)).map ofBytes
  let good := recs.filter (fun w => bits w 31 0 = crc32c ((toBytes 16 w).drop 4) && bits w 95 80 = b.attest.fuse)
  good.getLast?.map (fun w => bits w 127 96)

/-- Does the record sector hold records of another generation? -/
def Boot.foreignRecords (b : Boot) : Bool :=
  ((runs 16 (b.readFlash 0x4020000 0x10000)).map ofBytes).any (fun w =>
    bits w 31 0 = crc32c ((toBytes 16 w).drop 4) && bits w 95 80 ≠ b.attest.fuse)

/-- Takes batch `r` of the current generation into use, its record being written. -/
def Boot.useBatch (b : Boot) (r : Nat) : Boot :=
  let i := r % 4096
  { b with attest := { b.attest with
      high := max b.attest.high (r + 1)
      leaf := 256 * i
      stop := min (256 * i + 256) 1048575 } }

/-- A handover (R591). -/
def Boot.handover (b : Boot) : Boot :=
  let f := b.attest.fuse
  if 256 ≤ f then { b with attest := { b.attest with ended := true } }
  else
    let r := 4096 * (f + 1)
    let b := { b with attest := { b.attest with fuse := f + 1, building := true } }
    let b := (b.eraseFlash 0x4020000 0x10000).writeFlash 0x4020000 (reservation (r + 1) (f + 1))
    (b.writeCert (f + 1)).useBatch r

/-- Reserves the next batch, or performs a handover (R590). -/
def Boot.reserve (b : Boot) : Boot :=
  let f := b.attest.fuse
  let r := b.currentR.getD (4096 * f)
  if r < max (4096 * f) b.attest.high || 4096 * (f + 1) ≤ r then b.handover
  else
    let b := if b.foreignRecords then b.eraseFlash 0x4020000 0x10000 else b
    (b.writeFlash (0x4020000 + 16 * (r % 4096)) (reservation (r + 1) f)).useBatch r

/-- Step 10 of a boot (R590, R591). -/
def Boot.attestBoot (b : Boot) : Boot :=
  let gen := bits (ofBytes (b.readFlash 0x4030000 64)) 479 464
  let b := if 0 < b.attest.fuse && (gen < b.attest.fuse || gen = 0xFFFF) then b.writeCert b.attest.fuse else b
  let b := b.reserve
  { b with attest := { b.attest with building := true, want := none } }

/-! ### Trainings, rails and boots -/

/-- Trains a stack after `n` failed attempts (R372). -/
def State.trainStack (s : State) (h n : Nat) : State :=
  let r0 := min 4 ((s.par K.HBM_PIN_RATE - 6400) / 400)
  let x := s.stack h
  let s := s.bump K.HBM_RETRAINS (min (n + 1) (r0 + 1))
  s.setStack h (if r0 < n then { x with mode := .failed, rate := 0 } else { x with mode := .inService, rate := r0 - n })

/-- The soft repairs of every record of a site in state SOFT are applied again (R378). -/
def State.softAgain (s : State) (h : Nat) : State :=
  s.setStack h { s.stack h with
    soft := (s.hbm.repairs.filter (fun r => r.site = h && r.st = 1)).map (·.row) }

/-- Trains stacks with what the training meets; a FAILED stack stays so until a cold boot (R372), which applies the soft
repairs again before a stack is in service (R378). -/
def State.trainStacks (s : State) (b : BootIn) (sites : List Nat) (cold : Bool) : State :=
  sites.foldl (fun s h =>
    if (s.stack h).mode = .failed && !cold then s
    else (if cold then s.softAgain h else s).trainStack h (b.failed.getD h 0).toNat) s

/-- Every cluster of a die runs every self-test once (R440). -/
def State.testDie (s : State) (b : BootIn) (d : Nat) : State :=
  (List.range 8).foldl (fun s c =>
    (s.runTests (8 * d + c) 15 (b.fails.filter (fun r => bits r.toNat 63 59 = 8 * d + c))).modCl (8 * d + c) (fun l =>
      { l with tested := s.now, testDue := false, idleSince := s.now, delay := none })) s

/-- Loses the contents of every store (R254, R556). -/
def Memory.loseAll (m : Memory) : Memory :=
  { hbm := m.hbm.wipe
    shelf := m.shelf.wipe
    service := m.service.wipe }

/-- What is left when every rail outside the always-on domain is removed (R556, R576, R581). -/
def State.dark (s : State) (mode : RunMode) : State :=
  { pending := s.pending
    now := s.now
    free := s.free
    part := s.part
    mem := s.mem.loseAll
    hbm := s.hbm.unpowered s.part.hbmSites
    ctxs := s.ctxs.map (fun (p : Nat × Ctx) => (p.1, { gen := p.2.gen }))
    power := { s.power with state := .active, target := none, wake := false, cap := 5 }
    reports := s.reports
    defence := s.defence
    boot := { s.boot with mode := mode, ready := false, writing := false, staged := none }
    service := { time := s.service.time
                 mgmt := { nv := s.service.mgmt.nv
                           nvSeq := s.service.mgmt.nvSeq
                           nvCopy := s.service.mgmt.nvCopy
                           nvRestore := s.service.mgmt.nvRestore
                           coreUp := false } } }

/-- Enters ROM recovery with a cause (R583). -/
def State.romRecovery (s : State) (cause : Nat) : State :=
  s.modBoot (fun b => { b with
    mode := .rom
    cause := cause
    ready := false
    staged := if b.writing then b.staged else none
    announce := s.now + 1000 * unitsPerMs })

/-- Steps 5 to 11 of R578 on the staged image; a stack that has not been trained since the rails rose is trained fully
(`cold`). -/
def State.bootFrom5 (s : State) (b : BootIn) (cold : Bool) : State :=
  let cause := s.verifyImage
  if cause ≠ 0 then (s.romRecovery cause).modBoot (fun x => { x with last := 4 })
  else
    let h := s.stagedHash
    let v := bits (ofBytes (s.staging 0 64)) 415 384
    let s := s.modBoot (fun x => { x with
      mode := .running
      cause := 0
      fwVersion := v
      fwHash := h
      staged := if x.writing then x.staged else none })
    let s := s.modMgmt (fun m => { m with coreUp := true, beat := s.now, watch := s.parMs K.MGMT_WATCHDOG })
    let s := s.trainStacks b s.part.hbmSites cold
    let s := (List.range 4).foldl (fun s d => s.testDie b d) s
    let s := s.modBoot (fun x => { x.attestBoot with ready := true, last := 11 })
    if bit s.power.trip.toNat 0 then
      let t := BitVec.ofNat 128 (setBits s.power.trip.toNat 0 0 0)
      ({ s with power := { s.power with trip := t } } : State).storeNv K.TRIP_RECORD (toBytes 16 t.toNat)
    else s

/-- Steps 4 to 11 of R578. -/
def State.bootFrom4 (s : State) (b : BootIn) (cold : Bool) : State :=
  let s := s.modBoot (fun x => { x with flashStatus := b.flash.toNat + (x.flashStatus / 1024) * 1024 })
  if bit b.flash.toNat 9 then s.stageFlash.bootFrom5 b cold
  else (s.romRecovery 2).modBoot (fun x => { x with last := 3 })

/-- A cold boot (R578 to R583, R546, R557): every entry takes its default, an NV entry its stored value. -/
def State.coldBoot (s : State) (b : BootIn) : State :=
  let flashed := b.programmed.foldl (fun x p => x.writeFlash p.1.toNat (p.2.map (·.toNat))) s.boot
  let s0 := s
  let s : State := {
    pending := s0.pending
    now := s0.now + 4000 * b.took.toNat
    free := s0.free
    part := s0.part
    mem := s0.mem
    hbm := { s0.hbm.unpowered s0.part.hbmSites with lpddrFail := [!b.lpddr0, !b.lpddr1] }
    power := { cause := s0.power.next
               next := 1
               window := (s0.now / 4000000 + 1) * 4000000 }
    boot := { flash := flashed.flash
              flashStatus := 0
              straps := b.bootsel.toNat + 4 * b.slot.toNat
              attest := { s0.boot.attest with building := false, want := none, quote := [] }
              ready := false
              last := 3
              tap := s0.boot.tap
              smbus := s0.boot.smbus
              time := b.took.toNat / 1000 }
    service := { mgmt := { nvRestore := s0.service.mgmt.nvRestore, coreUp := false } } }
  let s := s.loadNv
  let tripped := s0.power.tripped || bit s.power.trip.toNat 0
  let s : State := if tripped then { s with power := { s.power with cause := 3 } } else s
  if !b.lpddr0 && !b.lpddr1 then s.romRecovery 8
  else
    match b.bootsel.toNat with
    | 0 => s.bootFrom4 b true
    | 2 => s.modBoot (fun x => { x with mode := .hold })
    | _ => s.romRecovery 1

end Sys2Proof.Machine
end

