-- ==== Sys2Proof/Machine/Verifier.lean ====
section
/-!
DEFINITION. The program image and the verifier of the loader (R188 to R192, with the verifier rules of chapters 01 to
05 that R191 lists).
-/

namespace Sys2Proof.Machine

/-! ### The image -/

/-- The fields of an image header (R188). -/
structure ImgHead where
  magic : Nat
  version : Nat
  grade : Nat
  sections : Nat
  length : Nat
  crc : Nat
deriving DecidableEq, Repr

/-- Reads R188. -/
def imgHead (img : List Nat) : ImgHead :=
  let w := ofBytes (img.take 64)
  ⟨bits w 511 480, bits w 479 464, bits w 463 448, bits w 447 440, bits w 431 400, bits w 399 368⟩

/-- A section entry (R189). -/
structure Sect where
  typ : Nat
  clusters : Nat
  offset : Nat
  length : Nat
  first : Nat
deriving DecidableEq, Repr

/-- Section entry `i` of an image (R189). -/
def imgSect (img : List Nat) (i : Nat) : Sect :=
  let w := ofBytes ((img.drop (64 + 32 * i)).take 32)
  ⟨bits w 255 248, bits w 239 208, bits w 207 176, bits w 175 144, bits w 143 124⟩

/-- The sections of an image, when its header can be read (0x0101). -/
def imgSects (img : List Nat) : List Sect :=
  let h := imgHead img
  if h.magic ≠ 0x53575049 || h.version ≠ 1 || 33 < h.sections then [] else (List.range h.sections).map (imgSect img)

/-- The instructions of a program section. -/
def Sect.words (c : Sect) (img : List Nat) : List Nat :=
  (runs 16 ((img.drop c.offset).take c.length)).map ofBytes

/-- The descriptors of a descriptor section. -/
def Sect.descs (c : Sect) (img : List Nat) : List Nat :=
  (runs 64 ((img.drop c.offset).take c.length)).map ofBytes

/-- The clusters of a map, ascending. -/
def mapBits (m : Nat) : List Nat := (List.range 32).filter (fun c => bit m c)

/-! ### Single instructions -/

/-- The reserved bits of an instruction (R142, R143 and the field maps). -/
def insReserved (o : Op) (w : Nat) : Nat :=
  match o with
  | .nop => bits w 95 0
  | .endProg => bits w 95 0
  | .mma => bits w 10 0
  | .arrayWarm => bits w 79 0
  | .epiFmt => bits w 51 0
  | .epiScale => bits w 31 0
  | .epiClip => bits w 31 0
  | .epiKeys => bits w 30 0
  | .epiStride => bits w 1 0
  | .cvt => bits w 37 0
  | .semWait => bits w 28 0
  | .semAdd => bits w 28 0
  | .semSub => bits w 28 0
  | .dmaIssue => bits w 7 0
  | .loop => bits w 60 0
  | .qcfg => bits w 67 0
  | .qreset => bits w 31 0 + bits w 95 95
  | .qmove => bits w 57 0
  | .qdrop => bits w 73 0
  | _ => bits w 3 0

/-- Does the opcode make CMASK reserved (R143)? -/
def Op.noMask : Op → Bool
  | .nop | .semWait | .loop | .endProg => true
  | _ => false

/-- R147: field conflicts of a product. -/
def mmaConflict (f : MmaF) : Bool :=
  f.shape = 3 || (f.keep && f.slices ≠ 1) || (!f.given && f.ganchor ≠ 0)
    || (f.given && (f.ganchor < -252 || 254 < f.ganchor))
    || (f.asq ≠ 0 && !(Fmt.ofCode f.afmt).isMX) || (f.bsq ≠ 0 && !(Fmt.ofCode f.bfmt).isMX && !f.keep)
    || (f.aq = f.bq && !f.keep)

/-- R36: a product's input format code is allowed. -/
def mmaFmtOk (c : Nat) : Bool := c = 0 || c = 1 || (decide (3 ≤ c) && decide (c ≤ 7))

/-- R151: field conflicts of EPI.FMT. -/
def epiConflict (f : EpiFmtF) : Bool :=
  f.smode = 3 || f.bmode = 3 || (f.opq && f.ofmt = 2) || (f.osq ≠ 0 && !(Fmt.ofCode f.ofmt).isFp8)
    || (f.stq ≠ 0 && !f.sten) || (f.rq ≠ 0 && !f.rqen) || (f.pq ≠ 0 && f.smode ≠ 2 && f.bmode ≠ 2)
    || (f.koff && !f.opq)

/-- R157: field conflicts of a vector instruction. -/
def vecConflict (o : Op) (f : VecF) : Bool :=
  [0, 1, 2].any (fun x =>
    let (k, q, neg) := f.src x
    if vecUses o x then k = 3 || (k = 2 && q ≠ 0) || (decide (k ≤ 1) && q = f.dq) else k ≠ 3 || q ≠ 0 || neg)
    || f.dfmt = 3 || (f.dfmt = 0 && f.rnd) || (o = .vdot && f.dfmt ≠ 0)

/-- R160: field conflicts of CVT. -/
def cvtConflict (f : CvtF) : Bool :=
  decide (10 ≤ f.sfmt) || decide (10 ≤ f.dfmt) || f.sfmt = f.dfmt
    || (f.ssq ≠ 0 && !(Fmt.ofCode f.sfmt).isMX) || (f.dsq ≠ 0 && !(Fmt.ofCode f.dfmt).isMX)
    || f.dq = f.sq || (f.dq = f.ssq && (Fmt.ofCode f.sfmt).isMX)

/-- R164: field conflicts of a semaphore instruction on a part. -/
def Part.semConflict (p : Part) (o : Op) (f : SemF) : Bool :=
  (o = .semWait && (f.scope = 3 || f.fence ≠ 0)) || (decide (f.scope ≤ 1) && 0xFFF < f.index)
    || (f.scope = 2 && p.ioDies ≤ f.die) || (f.scope = 0 && f.die ≠ 0)
    || (decide (2 ≤ f.scope) && f.cluster ≠ 0) || (f.scope ≠ 3 && f.endpoint ≠ 0)

/-- What the verifier of a section knows: the part, the context's state, the section's clusters and whether a
descriptor will be valid after the load. -/
structure VerEnv where
  s : State
  x : Nat
  clusters : List Nat
  valid : Nat → Bool

/-- Cores that the section can deliver to, position by position (R22). -/
def VerEnv.cores (v : VerEnv) : List Nat :=
  ((List.range 8).map (fun n => (v.clusters.map (fun c => 8 * c + n)).filter (fun k => !v.s.part.isFused k))).flatten

/-- Core positions that some cluster of the section can deliver to (R22). -/
def VerEnv.live (v : VerEnv) : List Nat :=
  (List.range 8).filter (fun n => v.clusters.any (fun c => !v.s.part.isFused (8 * c + n)))

/-- Is a semaphore name of an instruction inside the context's ranges (0x0204)? -/
def VerEnv.semIn (v : VerEnv) (f : SemF) : Bool :=
  if f.scope ≤ 1 then v.s.inSideRange v.x f.index
  else if f.scope = 2 then v.s.inPkgRange v.x f.index else true

/-- Does the context hold the clusters that a semaphore instruction names (0x0206)? -/
def VerEnv.semHeld (v : VerEnv) (f : SemF) : Bool :=
  match f.scope with
  | 0 => v.clusters.all (fun c => v.s.holds v.x (8 * (c / 8) + f.cluster))
  | 1 => v.s.holds v.x (8 * f.die + f.cluster)
  | _ => true

/-- Cores that a QMOVE names (R23). -/
def VerEnv.moveTargets (v : VerEnv) (w : Nat) (f : QmoveF) : List Nat :=
  if f.crel then (v.live.filter (fun n => bit (insCmask w) n)).map (fun n => 64 * f.die + 8 * f.cluster + n)
  else [64 * f.die + 8 * f.cluster + f.core]

/-- The codes under which a single instruction fails (R191); `depth` is the number of loops that enclose it. -/
def VerEnv.checkWord (v : VerEnv) (w depth : Nat) : List Nat :=
  match insOp w with
  | none => [0x0302]
  | some o =>
    let fails : List (Bool × Nat) :=
      [(decide (insReserved o w ≠ 0), 0x0301), (o.noMask && insCmask w ≠ 0, 0x0303)] ++
      (match o with
       | .mma =>
         let f := mmaF w
         [(!mmaFmtOk f.afmt || !mmaFmtOk f.bfmt, 0x0304), (decide (128 < f.m) || decide (64 < f.n), 0x0305),
          (decide (2 ^ 23 < f.k) || (!f.given && decide (65536 < f.k)), 0x0306), (mmaConflict f, 0x0307)]
       | .epiFmt => [(decide (4 < (epiFmtF w).ofmt), 0x0304), (epiConflict (epiFmtF w), 0x0308)]
       | .epiStride => [(bit w 95 && (bits w 94 64 ≠ 0 || bits w 32 2 ≠ 0), 0x0308)]
       | .cvt => [(cvtConflict (cvtF w), 0x030A)]
       | .semWait | .semAdd | .semSub =>
         let f := semF w
         [(v.s.part.semConflict o f, 0x030B), (!v.semIn f, 0x0204), (!v.semHeld f, 0x0206)]
       | .dmaIssue =>
         let f := issueF w
         [(!v.valid f.desc, 0x0205),
          (if f.lon then decide (depth ≤ f.lsel) else f.lsel ≠ 0 || f.lstride ≠ 0, 0x030C)]
       | .qcfg => [(bits w 95 90 = 63 || decide (1536 < bits w 89 79 + bits w 78 68), 0x030E)]
       | .qmove =>
         let f := qmoveF w
         [((v.moveTargets w f).any v.s.part.isFused, 0x0202), (!v.s.holds v.x (8 * f.die + f.cluster), 0x0206),
          (f.crel && f.core ≠ 0, 0x030E)]
       | o => if o.isVector then [(vecConflict o (vecF w), 0x0309)] else [])
    (fails.filter (·.1)).map (·.2)

/-! ### Loops (R168) -/

/-- What a pass over a program finds of its loops: slots that fail, enclosing loops by slot, and the loops that stand,
each with its last slot; `open'` holds the loops that enclose the slot being read, innermost first. -/
structure LoopScan where
  fails : List Nat := []
  depth : List Nat := []
  loops : List (Nat × Nat) := []
  open' : List (Nat × Nat) := []
deriving DecidableEq, Repr

/-- Reads slot `i` of a program (R168): a loop whose body ends inside another's, from that loop's own slot on, fails,
whether or not that other loop stands. -/
def LoopScan.slot (ws : Array Nat) (q : LoopScan) (i : Nat) : LoopScan :=
  let op := q.open'.filter (fun l => decide (i ≤ l.2))
  let q := { q with open' := op, depth := q.depth ++ [op.length] }
  let w := ws.getD i 0
  if insOp w ≠ some .loop then q
  else
    let e := i + loopBody w
    let bad := e = i || decide (ws.size ≤ e)
      || (List.range (e - i)).any (fun k => insOp (ws.getD (i + 1 + k) 0) = some .endProg)
    let cross := op.filter (fun l => decide (l.2 < e))
    let keep := op.filter (fun l => !cross.contains l)
    let q := { q with
      fails := q.fails ++ cross.map Prod.fst
      loops := q.loops.filter (fun l => !cross.contains l) }
    if bad || 4 ≤ op.length then { q with fails := q.fails ++ [i], open' := keep }
    else { q with loops := q.loops ++ [(i, e)], open' := (i, e) :: keep }

/-- The loops of a program. -/
def loopScan (ws : Array Nat) : LoopScan := (List.range ws.size).foldl (LoopScan.slot ws) {}

/-! ### Queues (0x030E, 0x030F) -/

/-- Queues as a program has configured them on one core position, with the epilogue setup in force. -/
structure VerQ where
  queues : Tbl Queue := []
  epi : EpiFmtF := ({} : Epi).fmt
deriving DecidableEq, Repr

/-- The queues of one core position after an instruction, and the codes that it fails with; `ks` are the cores of the
section at that position. -/
def VerQ.word (q : VerQ) (ks : List Nat) (w : Nat) : VerQ × List Nat :=
  match insOp w with
  | some .qcfg =>
    let n := bits w 95 90
    let b := bits w 89 79
    let z := bits w 78 68
    if n = 63 || 1536 < b + z then (q, [])
    else
      let rest := Tbl.put q.queues {} n {}
      let clash := z ≠ 0 && rest.any (fun (e : Nat × Queue) => decide (b < e.2.base + e.2.size) && decide (e.2.base < b + z))
      ({ q with queues := Tbl.put rest {} n (if z = 0 then {} else ⟨b, z, 0, 0⟩) }, if clash then [0x030E] else [])
  | some .epiFmt => ({ q with epi := epiFmtF w }, [])
  | _ =>
    let used := ((insUnits w).map (fun u => (jobReads w u q.epi).map (·.q)
      ++ (ks.map (fun k => jobPushes k w u q.epi)).flatten)).flatten
    (q, if used.any (fun n => n ≠ 63 && (Tbl.get q.queues {} n).size = 0) then [0x030F] else [])

/-- The walk over a program: queues by core position, and failures as slot and code. -/
structure VerWalk where
  qs : List VerQ := List.replicate 8 {}
  fails : List (Nat × Nat) := []
deriving DecidableEq, Repr

/-- Executes slot `i` in the walk, on the core positions that the section reaches; `live` lists its cores. -/
def VerWalk.slot (live : List Nat) (ws : Array Nat) (v : VerWalk) (i : Nat) : VerWalk :=
  let w := ws.getD i 0
  ((live.map (· % 8)).eraseDups.filter (fun n => bit (insCmask w) n)).foldl (fun v n =>
    let r := (v.qs.getD n {}).word (live.filter (fun k => k % 8 = n)) w
    { qs := v.qs.set n r.1, fails := v.fails ++ (r.2.map (fun c => (i, c))).filter (fun f => !v.fails.contains f) }) v

/-- Walks the slots `i` to `hi`, every loop body at most twice: a second pass leaves the queues as any later one does,
since QCFG and EPI.FMT set what they name whatever it was (0x030F: in any iteration of the enclosing loops). -/
def verWalk (live : List Nat) (ws : Array Nat) (loops : List (Nat × Nat)) : Nat → Nat → Nat → VerWalk → VerWalk
  | 0, _, _, v => v
  | fuel + 1, i, hi, v =>
    if hi < i then v
    else
      match loops.find? (fun l => l.1 = i) with
      | none => verWalk live ws loops fuel (i + 1) hi (v.slot live ws i)
      | some (_, e) =>
        let n := loopCount (ws.getD i 0)
        let v := if n = 0 then v else verWalk live ws loops fuel (i + 1) e v
        let v := if n ≤ 1 then v else verWalk live ws loops fuel (i + 1) e v
        verWalk live ws loops fuel (e + 1) hi v

/-! ### Sections and images -/

/-- Failures of a program section's instructions: slot and code. -/
def VerEnv.checkProgram (v : VerEnv) (ws : List Nat) : List (Nat × Nat) :=
  let a := ws.toArray
  let sc := loopScan a
  let n := ws.length
  let ends := (ws.zipIdx).filterMap (fun p =>
    if (insOp p.1 = some .endProg) = (p.2 + 1 = n) then none else some (p.2, 0x0108))
  let each := ((ws.zip sc.depth).zipIdx.map (fun p => (v.checkWord p.1.1 p.1.2).map (fun c => (p.2, c)))).flatten
  ends ++ each ++ sc.fails.map (fun i => (i, 0x030D))
    ++ (verWalk v.cores a sc.loops (n + 1) 0 (n - 1) {}).fails

/-- The codes under which a descriptor fails (R191): its keys, its completion semaphore. -/
def VerEnv.checkDesc (v : VerEnv) (w : Nat) : List Nat :=
  let d := descF w
  let r := v.s.par (K.CONTEXT_KEYS + v.x)
  let inKeys (k : Nat) : Bool := decide (bits r 31 16 ≤ k) && decide (k < bits r 31 16 + bits r 15 0)
  let keys := (if d.skind = 0 then [d.skey] else []) ++ (if d.dkind = 0 then [d.dkey] else [])
    ++ (if d.mode = 2 then [d.ikey] else []) ++ (if d.record then [d.rkey] else [])
  let f : SemF := ⟨d.cscope, d.cdie, d.ccluster, d.cindex, 0, 0, 0⟩
  (if keys.all inKeys then [] else [0x0203])
    ++ (if (d.cscope = 1 || d.cscope = 2) && (!v.semIn f || (d.cscope = 2 && decide (v.s.part.ioDies ≤ d.cdie))) then [0x0204] else [])
    ++ (if d.cscope = 1 && !v.s.holds v.x (8 * d.cdie + d.ccluster) then [0x0206] else [])

/-- Does a section fail on its own place and form (0x0105)? -/
def sectBad (l : List Sect) (len i : Nat) (c : Sect) : Bool :=
  let unit := if c.typ = 1 then 16 else 64
  let tab := 64 + 32 * l.length
  (c.typ ≠ 1 && c.typ ≠ 2) || c.offset % unit ≠ 0 || c.length % unit ≠ 0 || decide (len < c.offset + c.length)
    || (c.length ≠ 0 && decide (c.offset < tab))
    || (l.zipIdx).any (fun p => p.2 ≠ i && c.length ≠ 0 && p.1.length ≠ 0
        && decide (c.offset < p.1.offset + p.1.length) && decide (p.1.offset < c.offset + c.length))
    || (c.typ = 2 && c.clusters ≠ 0) || (c.typ = 1 && c.first ≠ 0)

/-- A failure of an image: code, section and slot. -/
structure ImgFail where
  code : Nat
  sect : Nat
  slot : Nat
deriving DecidableEq, Repr

/-- R190: the failure of the lowest section, then slot, then code. -/
def ImgFail.before (a b : ImgFail) : Bool :=
  decide (a.sect < b.sect) || (a.sect = b.sect && (decide (a.slot < b.slot) || (a.slot = b.slot && decide (a.code < b.code))))

/-- The first failure of a list. -/
def firstFail : List ImgFail → Option ImgFail
  | [] => none
  | f :: r => match firstFail r with
    | none => some f
    | some g => if g.before f then some g else some f

/-- Failures of the sections of an image. -/
def State.sectFails (s : State) (x : Nat) (img : List Nat) (len : Nat) : List ImgFail :=
  let l := imgSects img
  let dn := s.par (K.CONTEXT_DESC_COUNT + x)
  let held := (s.cx x).descs
  let valid (i : Nat) : Bool := held.contains i || (l.any (fun c =>
    c.typ = 2 && decide (c.first ≤ i) && decide (i < c.first + c.length / 64)))
  ((l.zipIdx).map (fun p =>
    let c := p.1
    let at' (slot code : Nat) : ImgFail := ⟨code, p.2, slot⟩
    if sectBad l len p.2 c then [at' 0 0x0105]
    else
      let v : VerEnv := ⟨s, x, mapBits c.clusters, valid⟩
      if c.typ = 2 then
        (if dn < c.first + c.length / 64 then [at' 0 0x0109] else [])
          ++ ((c.descs img).map v.checkDesc).flatten.map (at' 0)
      else
        let ws := c.words img
        let early := l.take p.2
        (if c.clusters = 0 then [at' 0 0x0106] else [])
          ++ (mapBits c.clusters).filterMap (fun k =>
              if early.any (fun e => e.typ = 1 && bit e.clusters k) then some (at' k 0x0106) else none)
          ++ (mapBits c.clusters).filterMap (fun k => if s.holds x k then none else some (at' k 0x0201))
          ++ (if ws.length = 0 || 2048 < ws.length then [at' 0 0x0107]
              else (v.checkProgram ws).map (fun f => at' f.1 f.2)))).flatten

/-- Verifies an image for a context (R190, R191): its first failure. -/
def State.verify (s : State) (x : Nat) (img : List Nat) (len : Nat) : Option ImgFail :=
  let h := imgHead img
  if h.magic ≠ 0x53575049 || h.version ≠ 1 || h.sections = 0 || 33 < h.sections then some ⟨0x0101, 0, 0⟩
  else if h.length ≠ len || len < 64 + 32 * h.sections then some ⟨0x0102, 0, 0⟩
  else if crc32c ((img.take len).drop 64) ≠ h.crc then some ⟨0x0103, 0, 0⟩
  else if h.grade ≠ 0 && h.grade ≠ s.part.grade then some ⟨0x0104, 0, 0⟩
  else firstFail (s.sectFails x img len)

end Sys2Proof.Machine
end

