-- ==== Sys2Proof/Machine/Loader.lean ====
section
/-!
DEFINITION. The command that a context waits on, its completion, and the loader (R180, R184 to R192).
-/

namespace Sys2Proof.Machine

/-- OPCODE of a command. -/
def Cmd.op (c : Cmd) : Nat := bits c.word.toNat 511 504

/-- The command of a context that is read and not accepted, when its opcode is `op` and its context runs commands. -/
def State.curCmd (s : State) (x op : Nat) : Option Cmd :=
  match (s.cx x).cur with
  | none => none
  | some c => if s.live && (s.cx x).st = .opened && !(s.cx x).orphaned && c.op = op then some c else none

/-- Completes the current command of a context (R180, R192). -/
def State.finish (s : State) (x : Nat) (c : Cmd) (status code sect slot : Nat) : State :=
  (s.modCx x (fun q => { q with cur := none })).completeCmd x c status code sect slot true

/-! ### LOAD (R184, R185, R190) -/

/-- The image of a LOAD (R188): the bytes at ADDRESS in the address space of KEY, those outside the region as 0; none
when KEY fails R227 for reading. -/
def State.loadImage (s : State) (x : Nat) (w : Nat) : Option (List Nat) :=
  let k := bits w 319 304
  let a := bits w 383 320
  let base := (s.key k).base
  let len := bits w 303 272
  if !s.keyOk x k true false || a < base then none else some (s.padBytes (.key k) (a - base) len)

/-- The page that PAGE names for a cluster (R184). -/
def State.resolvePage (s : State) (c page : Nat) : Bool :=
  match page with
  | 0 => false
  | 1 => true
  | _ => !(s.cl c).active

/-- Program sections of an image with their numbers. -/
def progSects (img : List Nat) : List (Sect × Nat) := ((imgSects img).zipIdx).filter (fun p => p.1.typ = 1)

/-- The named clusters whose resolved page is being fetched (R184): section and cluster, first named first. -/
def State.busyPages (s : State) (img : List Nat) (page : Nat) : List (Nat × Nat) :=
  let all := ((progSects img).map (fun p => (mapBits p.1.clusters).map (fun c => (p.2, c)))).flatten
  let busy := all.filter (fun q => (s.cl q.2).running && (s.cl q.2).active = s.resolvePage q.2 page)
  busy.foldl (fun l q => if l.any (fun r => r.2 = q.2) then l else l ++ [q]) []

/-- Writes a program into a page of a cluster (R185, R189): slots past its end hold END. -/
def Cluster.writePage (l : Cluster) (p : Bool) (ws : List Nat) : Cluster :=
  let t : Tbl (BitVec 128) := (ws.zipIdx).foldl (fun t w => Tbl.put t endWord w.2 (BitVec.ofNat 128 w.1)) []
  if p then { l with page1 := t, valid1 := true, loaded := some true }
  else { l with page0 := t, valid0 := true, loaded := some false }

/-- Writes an image that the verifier has passed (R185, R187, R189). -/
def State.writeImage (s : State) (x : Nat) (img : List Nat) (page : Nat) : State :=
  (imgSects img).foldl (fun s c =>
    if c.typ = 1 then
      (mapBits c.clusters).foldl (fun s k => s.modCl k (fun l => l.writePage (s.resolvePage k page) (c.words img))) s
    else
      let n := c.length / 64
      let s := s.writeSpace 0 (s.par (K.CONTEXT_DESC_BASE + x) + 64 * c.first) ((img.drop c.offset).take c.length)
      s.modCx x (fun q => { q with descs := (List.range n).foldl (fun l i => insertNat (c.first + i) l) q.descs })) s

/-- The loader takes the LOAD of a context (R184, R190): busy pages first, then the verifier, then the writes. It waits
while the management core is down. -/
def State.load (s : State) (x : Nat) : State :=
  match s.curCmd x 1 with
  | none => s
  | some c =>
    let w := c.word.toNat
    let page := bits w 271 270
    if !s.service.mgmt.coreUp then s
    else
      match s.loadImage x w with
      | none => (s.bump K.IMAGE_REJECTS 1).finish x c 2 0x0101 0 0
      | some img =>
        let busy := s.busyPages img page
        match busy with
        | q :: _ => (s.bump K.PAGE_BUSY_DROPS busy.length).finish x c 3 0 q.1 q.2
        | [] =>
          match s.verify x img (bits w 303 272) with
          | some f => (s.bump K.IMAGE_REJECTS 1).finish x c 2 f.code f.sect f.slot
          | none => (s.writeImage x img page).finish x c 1 0 0 0

/-! ### A reset of the management core during a LOAD (R185) -/

/-- The pages that a LOAD writes, in order: cluster and page. -/
def State.loadPages (s : State) (x w : Nat) : List (Nat × Bool) :=
  match s.loadImage x w with
  | none => []
  | some img =>
    if s.busyPages img (bits w 271 270) ≠ [] || (s.verify x img (bits w 303 272)).isSome then []
    else ((progSects img).map (fun p => (mapBits p.1.clusters).map (fun k => (k, s.resolvePage k (bits w 271 270))))).flatten

/-- Clears the valid bit of a page. -/
def Cluster.spoil (l : Cluster) (p : Bool) : Cluster := if p then { l with valid1 := false } else { l with valid0 := false }

/-- The loader is reset while a LOAD of the context stands before it (R185). Whether it has taken the LOAD, and how many
pages it has begun to write, is timing: a LOAD that it has taken ends with LOADER_RESET and leaves those pages invalid; one
that it has not taken goes on waiting. -/
def State.loaderReset (s : State) (x : Nat) : State :=
  match s.curCmd x 1 with
  | none => s
  | some c =>
    let pages := s.loadPages x c.word.toNat
    let d := s.draw
    let n := d.1 % (pages.length + 2)
    if n = 0 then d.2
    else ((pages.take (n - 1)).foldl (fun s p => s.modCl p.1 (fun l => l.spoil p.2)) d.2).finish x c 6 0 0 0

/-- The loaders of all contexts at a reset of the management core. -/
def State.loadersReset (s : State) : State := (List.range 16).foldl State.loaderReset s

end Sys2Proof.Machine
end

