-- ==== Sys2Proof/Machine/Recover.lean ====
section
/-!
DEFINITION. Dumps (R484 to R487, R522, R523), resets (R481 to R483), the management core (R488 to R490), the spare
state (R495, R496), and what a port loses at a retraining (R399).
-/

namespace Sys2Proof.Machine

/-- Changes what resets hold. -/
def State.modResets (s : State) (f : Resets → Resets) : State :=
  { s with service := { s.service with resets := f s.service.resets } }

/-! ### Dumps -/

/-- Dump slots in the order in which they are tried (R385): none when every slot is locked. -/
def State.dumpSlot (s : State) : Option Nat :=
  ((List.range 4).map (fun i => (s.hbm.dumpSlot + i) % 4)).find? (fun n => !bit (s.par K.DUMP_SLOT_LOCKS) n)

/-- Starts a dump, records the trigger in the one that runs, or counts a dump that finds every slot locked (R385,
R484, R487). A dump wakes the clusters that sleep (R565). -/
def State.startDump (s : State) (trigger : Nat) (before : Bool) : State :=
  match s.service.dump with
  | some d => { s with service := { s.service with dump := some { d with also := d.also ++ [trigger] } } }
  | none =>
    match s.dumpSlot with
    | none => s.bump K.DUMPS_DROPPED 1
    | some n =>
      let s := if s.power.state = .active then (List.range 32).foldl (fun s c => s.wakeCluster c) s else s
      { s with service := { s.service with dump := some ⟨trigger, n, s.now, before, []⟩ } }

/-- `n` bytes that the spec does not lay out. -/
def State.openBytes (s : State) (n : Nat) : State × List Nat :=
  (List.range (ceilDiv n 8)).foldl (fun acc _ => let d := acc.1.draw; (d.2, acc.2 ++ toBytes 8 d.1)) (s, [])

/-- The UNIT field of a section (R522). -/
def unitOfCore (k : Nat) : Nat := (k / 64) <<< 14 + (k / 8 % 8) <<< 11 + (k % 8) <<< 8

/-- Entries read in turn. -/
def State.readAll (s : State) (ks : List Nat) : List Nat := (ks.map (fun k => (s.readEntry k).2)).flatten

/-- The data of a section (R523): the type and the unit; sections whose layout the spec does not give hold open bytes. -/
def State.section (s : State) (typ unit : Nat) : State × List Nat :=
  match typ with
  | 1 => (s, s.readAll [0x100003, 0x101006, 0x101001, 0x101002, 0x101003, 0x101004, 0x441001, 0x480001])
  | 2 => (s, toBytes 8 s.now ++ s.readAll [0x110004, 0x704001, 0x705003, 0x742002, 0x743002, 0x540001, 0x744002])
  | 3 => (s, ((List.range 16).map (fun x =>
      s.readAll ((List.range 9).map (fun i => 0x341001 + 256 * i + x) ++ [0x601001 + x, 0x601101 + x])
        ++ toBytes 32 (s.cx x).sealedWord.toNat ++ toBytes 32 (s.cx x).partnerWord.toNat
        ++ toBytes 64 (s.cx x).lastVerdict.toNat ++ toBytes 32 (s.cx x).hang.toNat
        ++ toBytes 32 (s.cx x).trap.toNat)).flatten)
  | 4 => s.openBytes 256
  | 5 =>
    let r := Tbl.get s.rings {} unit
    (s, packWords 16 ((List.range 256).map (fun i => (Tbl.get r.slots 0 i).toNat)) ++ toBytes 4 r.count)
  | 6 => let r := s.shownSample unit; (r.1, toBytes 2048 r.2)
  | 7 => (s, packWords 4 ((List.range 4096).map (fun i => (s.sem (.side unit i)).toNat)))
  | 8 => (s, packWords 4 ((List.range 16384).map (fun i => (s.sem (.pkg unit i)).toNat)))
  | 9 => s.openBytes (256 * 80)
  | 0xA => (s, packWords 8 ((List.range 9).map (fun i => s.portWord (9 * unit + i)))
      ++ ((List.range 9).map (fun i =>
        let q := s.port (9 * unit + i)
        packWords 8 [q.corrected, q.uncorrected, q.resentFlits, q.retrains])).flatten)
  | 0xB => (s, ((odTable.filter (fun r => r.acc = .pr)).map (fun r =>
      s.readAll ((List.range r.n).map (fun i => r.key + i)))).flatten)
  | 0xC => (s, packWords 32 ((List.range 65536).map (fun k => (Tbl.get s.keys 0 k).toNat)))
  | 0xD => (s, packWords 16 ((List.range 262144).map (fun e => s.ep unit e)))
  | _ =>
    let r := s.openBytes 256
    (r.1, r.2 ++ ((List.range 1536).map (fun i => toBytes 2048 (Tbl.get (s.co unit).slots Block.null i).data.toNat)).flatten
      ++ ((List.range 1536).map (fun i => toBytes 16 (Tbl.get (s.co unit).slots Block.null i).hdr.toNat)).flatten)

/-- The sections of a dump in order (R523): type, unit as the model numbers it, and UNIT field. -/
def State.sections (s : State) : List (Nat × Nat × Nat) :=
  let cl (t : Nat) : List (Nat × Nat × Nat) := (List.range 32).map (fun c => (t, c, unitOfCore (8 * c)))
  let io (t : Nat) : List (Nat × Nat × Nat) := (List.range s.part.ioDies).map (fun n => (t, n, n))
  [(1, 0, 0), (2, 0, 0), (3, 0, 0)] ++ cl 4 ++ cl 5 ++ (List.range s.part.ioDies).map (fun n => (5, 32 + n, n))
    ++ cl 6 ++ cl 7 ++ io 8 ++ cl 9 ++ io 0xA ++ [(0xB, 0, 0), (0xC, 0, 0)] ++ io 0xD
    ++ ((List.range 256).filter (fun k => !s.part.isFused k)).map (fun k => (0xE, k, unitOfCore k))

/-- Writes a section at an offset of service memory; the offset behind it. -/
def State.writeSection (s : State) (a : Nat) (q : Nat × Nat × Nat) : State × Nat :=
  let r := s.section q.1 q.2.1
  let data := fitBytes (16 * ceilDiv r.2.length 16) r.2
  let head := toBytes 32 (q.1 <<< 248 + q.2.2 <<< 232 + data.length <<< 192 + (s.now % 2 ^ 64) <<< 128
    + crc32c data <<< 96)
  ({ r.1 with mem := { r.1.mem with service := r.1.mem.service.write a (head ++ data) } }, a + 32 + data.length)

/-- Ends a dump: its sections and then its header are written, it is counted and reported (R484, R485, R522). Which
sections a truncated dump still holds is decided by timing: their number is free. -/
def State.endDump (s : State) (truncated : Bool) : State :=
  match s.service.dump with
  | none => s
  | some d =>
    let all := s.sections
    let f := s.draw
    let l := if truncated then all.take (f.1 % (all.length + 1)) else all
    let s := if truncated then f.2 else s
    let base := 0x20000000 + d.slot * 0x80000000
    let r := l.foldl (fun acc q => acc.1.writeSection acc.2 q) (s, base + 64)
    let s := r.1
    let w := 0x5357444D <<< 480 + 1 <<< 464 + s.part.grade <<< 448 + l.length <<< 416 + d.trigger <<< 408
      + b2n truncated <<< 407 + (d.start % 2 ^ 64) <<< 336 + (s.now % 2 ^ 64) <<< 272
      + (s.reports.next % 2 ^ 32) <<< 240 + (r.2 - base) <<< 200
    let head := toBytes 64 (w + crc32c ((toBytes 64 w).drop 4))
    let s : State := { s with
      mem := { s.mem with service := s.mem.service.write base head }
      hbm := { s.hbm with dumpSlot := (d.slot + 1) % 4 }
      service := { s.service with dump := none } }
    let s := s.bump K.DUMPS_WRITTEN 1
    let s := if truncated then s.bump K.DUMPS_TRUNCATED 1 else s
    s.report 0x0E none (d.slot + b2n truncated <<< 2 + d.trigger <<< 3)

/-! ### Ports -/

/-- A port that leaves ACTIVE for a retraining sends RETRAIN_REQ (R397) and keeps its retry buffer, sequence numbers,
credits and receive buffers (R399); what is half received is sent again. -/
def Port.retrain (p : Port) : Port :=
  { p with mode := .retraining, retryReq := none, asked := false, ctl := [BitVec.ofNat 40 (2 <<< 37)], recent := [] }

/-- An ACTIVE port retrains (R397). -/
def State.retrainPort (s : State) (q : Nat) : State :=
  let p := s.port q
  if p.mode ≠ .active then s
  else (s.setPort q { p.retrain with retrains := p.retrains + 1 }).bump K.PORT_RETRAINS 1

/-! ### The spare state (R495) -/

/-- Enters the spare state: job contexts are torn down, membership goes to 0, their endpoint entries lose VALID. -/
def State.enterSpare (s : State) (cause given : Nat) (domain : Nat) : State :=
  let jobs := (List.range 16).filter (fun x => s.jobSize x ≠ 0 && (s.cx x).st ≠ .closed)
  let s := jobs.foldl (fun s x => s.teardown x false domain) s
  let s := s.setPar K.JOB_MEMBERSHIP 0
  let dead := s.links.eps.filter (fun (e : Nat × BitVec 128) => jobs.contains (bits e.2.toNat 60 57))
  let s : State := { s with
    links := { s.links with eps := dead.foldl (fun l e =>
      Tbl.put l 0 e.1 (BitVec.ofNat 128 (setBits e.2.toNat 0 0 0))) s.links.eps }
    service := { s.service with spare := ⟨true, cause, given, none⟩ } }
  (s.bump K.SPARE_DROPS 1).report 0x0F none (cause + given <<< 3)

/-! ### Resets -/

/-- The contexts, other than CLOSED, that hold one of some clusters (R482). -/
def State.holders (s : State) (cs : List Nat) : List Nat :=
  (List.range 16).filter (fun x => (s.cx x).st ≠ .closed && cs.any (fun c => s.holds x c))

/-- The clusters of a reset's domain. -/
def ResetRun.clusters (r : ResetRun) : List Nat :=
  match r.domain with
  | .core => [r.unit / 8]
  | .cluster => [r.unit / 8]
  | .die => (List.range 8).map (fun c => 8 * (r.unit / 64) + c)
  | .warm => List.range 32
  | _ => []

/-- Resets a core (R482): its units, queues and queue store. -/
def State.clearCore (s : State) (k : Nat) : State := s.setCo k {}

/-- Resets a cluster (R482): sequencer, pages, cores, engine, sideboard. -/
def State.clearCluster (s : State) (c : Nat) : State :=
  let s := (List.range 8).foldl (fun s n => s.clearCore (8 * c + n)) s
  let s := s.setCl c { testDue := true, idleSince := s.now }
  { s with side := s.side.filter (fun (p : Nat × BitVec 24) => p.1 / 4096 ≠ c) }

/-- Resets a compute die (R482, R373): its clusters and drawers, its shelves' contents, its stacks go into training. -/
def State.clearDie (s : State) (d : Nat) : State :=
  let s := (List.range 8).foldl (fun s c => s.clearCluster (8 * d + c)) s
  let s : State := { s with mem := { s.mem with shelf := s.mem.shelf.lose d } }
  let s := (List.range 16).foldl (fun s x => s.setDrawer x d {}) s
  ((dieSites d).filter (fun h => s.part.hbmSites.contains h)).foldl (fun s h =>
    if (s.stack h).mode = .failed || (s.stack h).mode = .repair then s
    else s.setStack h { s.stack h with mode := .training }) s

/-- Entries that a package warm reset keeps: counters, DUMP_SLOT_LOCKS and NV entries (R483). -/
def keptAtWarm (k : Nat) : Bool :=
  (k / 0x10000 = 0x80 || k / 0x10000 = 0x81) || k / 256 = 0x2030 || k = K.DUMP_SLOT_LOCKS
    || (match odRow k with | some r => r.nv || r.acc = .pr | none => false)

/-- What a package warm reset leaves (R483), before its boot. -/
def State.clearPackage (s : State) : State :=
  let train : State → State := fun s => s.part.hbmSites.foldl (fun s h =>
    if (s.stack h).mode = .failed then s else s.setStack h { s.stack h with mode := .training }) s
  let counters : Tbl Port := s.links.ports.map (fun (p : Nat × Port) => (p.1, {
    corrected := p.2.corrected
    uncorrected := p.2.uncorrected
    resentFlits := p.2.resentFlits
    retrains := p.2.retrains }))
  train {
    pending := s.pending
    now := s.now
    free := s.free
    part := s.part
    od := s.od.filter (fun (e : Nat × Nat) => keptAtWarm e.1)
    ctxs := s.ctxs.map (fun (p : Nat × Ctx) => (p.1, { gen := p.2.gen }))
    mem := { s.mem with shelf := (List.range 4).foldl Store.lose s.mem.shelf }
    hbm := { s.hbm with gens := [] }
    links := { ports := counters }
    power := { s.power with state := .active, target := none, wake := false, cap := 5 }
    reports := s.reports
    defence := s.defence
    boot := { s.boot with ready := false, writing := false, staged := none,
                          attest := { s.boot.attest with building := false, want := none } }
    service := { time := s.service.time
                 resets := s.service.resets
                 mgmt := { nv := s.service.mgmt.nv
                           nvSeq := s.service.mgmt.nvSeq
                           nvCopy := s.service.mgmt.nvCopy
                           nvFailed := s.service.mgmt.nvFailed
                           nvRestore := s.service.mgmt.nvRestore
                           asset := s.service.mgmt.asset
                           fails := s.service.mgmt.fails
                           coreUp := false } } }

/-- POWER_CAP_TIME takes the time for which the power cap has been below 0x05 (R575). -/
def State.capTime (s : State) : State :=
  if s.power.cap < 5 then s.bump K.POWER_CAP_TIME (s.now - s.power.capSince) else s

/-- Trigger bit of a domain in DUMP_TRIGGERS. -/
def Domain.trigger : Domain → Option Nat
  | .core => some 0 | .cluster => some 1 | .die => some 2 | .warm => some 3 | .mgmt => some 4 | .port => none

/-- The part saves what must outlive a die's reset, and the rows of a repair, in the recovery state area of service memory
(R377, R384). The spec does not lay the area out: its contents are unpredictable from then on. -/
def State.saveRecovery (s : State) : State :=
  { s with mem := { s.mem with service := s.mem.service.lose 4 } }

/-- Steps 2 and 3 of R482, or the management core's reset with its loader's (R185, R488): teardowns, then the domain. -/
def State.performReset (s : State) (r : ResetRun) : State :=
  let s := s.modResets (fun q => { q with
    cur := some { r with phase := 1, mark := s.now, limit := s.parMs K.AO_STALL_TIMEOUT }
    waiting := if r.domain = .warm then [] else q.waiting })
  match r.domain with
  | .mgmt =>
    (((s.modMgmt (fun m => { m with coreUp := false })).bump K.MGMT_RESETS 1).report 0x0C none r.unit).loadersReset
  | .warm =>
    let s := (List.range 16).foldl (fun s x => s.teardown x false 6) s
    let s := (s.capTime.bump K.WARM_RESETS 1).clearPackage
    let s : State := { s with service := { s.service with spare := ⟨true, 3, 0, none⟩ } }
    (s.bump K.SPARE_DROPS 1).report 0x0F none 3
  | _ =>
    let s := (s.holders r.clusters).foldl (fun s x => s.teardown x false r.domain.code) s
    match r.domain with
    | .core => ((s.bump K.CORE_RESETS 1).clearCore r.unit).modCl (r.unit / 8) (fun l => { l with testDue := true })
    | .cluster => (s.bump K.CLUSTER_RESETS 1).clearCluster (r.unit / 8)
    | .die => (s.saveRecovery.bump K.DIE_RESETS 1).clearDie (r.unit / 64)
    | .port => s.retrainPort r.unit
    | _ => s

/-- Starts a reset: its dump first, when DUMP_TRIGGERS orders one, or the dump that runs already (R482, R485 to R487). -/
def State.beginReset (s : State) (r : ResetRun) : State :=
  let dumps := !r.served && (match r.domain.trigger with | some t => bit (s.par K.DUMP_TRIGGERS) t | none => false)
  let s := if dumps then s.startDump (r.domain.trigger.getD 0) true else s
  if s.service.dump.isSome && r.domain ≠ .port then s.modResets (fun q => { q with cur := some { r with phase := 0 } })
  else s.performReset r

/-- May a write of RESET_CTRL start a reset now (R481, R570)? -/
def State.resetAllowed (s : State) (d : Domain) : Bool :=
  s.service.resets.cur.isNone &&
    (match d with
     | .core | .cluster | .die => s.power.state = .active && s.power.target.isNone
     | _ => true)

/-- A write of RESET_CTRL (R481): whether it was accepted, and the state. -/
def State.resetWrite (s : State) (d : Domain) (unit : Nat) : State :=
  if !s.resetAllowed d then s
  else s.beginReset { domain := d, unit := unit, began := s.now, mark := s.now }

/-- A reset that the part starts by itself while another one is in progress waits for it; a dump that runs before the
other serves both (R497). -/
def State.queueReset (s : State) (r : ResetRun) : State :=
  match s.service.resets.cur with
  | none => s.beginReset r
  | some q =>
    let s := if q.phase = 0 && bit (s.par K.DUMP_TRIGGERS) (r.domain.trigger.getD 7) && !r.served
      then s.startDump (r.domain.trigger.getD 7) true else s
    s.modResets (fun t => { t with waiting := t.waiting ++ [{ r with served := q.phase = 0 }] })

/-- The next reset that waits begins (R497). -/
def State.nextReset (s : State) : State :=
  match s.service.resets.cur, s.service.resets.waiting with
  | none, r :: rest => (s.modResets (fun q => { q with waiting := rest })).beginReset r
  | _, _ => s

/-- A package warm reset that the part starts by itself (R17, R489, R490): it waits for a reset whose dump runs, and
takes the place of a reset in progress otherwise; two in one cycle are one (R497). -/
def State.forceWarm (s : State) : State :=
  let r : ResetRun := { domain := .warm, unit := 0, began := s.now, mark := s.now }
  match s.service.resets.cur with
  | none => s.beginReset r
  | some q =>
    if q.domain = .warm && (q.phase = 0 || q.mark = s.now) then s
    else if q.phase = 0 then
      if s.service.resets.waiting.any (fun w => w.domain = .warm) then s else s.queueReset r
    else (s.modResets (fun t => { t with cur := none })).beginReset r

/-- The management core is reset (R488, R489): at the limit within the window, the package is reset instead. -/
def State.mgmtReset (s : State) (cause : Nat) : State :=
  let recent := (s.service.mgmt.fails.filter (fun t => s.now < t + s.parMs K.MGMT_FAIL_WINDOW)) ++ [s.now]
  let s := s.modMgmt (fun m => { m with fails := recent })
  if s.par K.MGMT_FAIL_LIMIT ≤ recent.length then (s.modMgmt (fun m => { m with fails := [] })).forceWarm
  else
    s.queueReset { domain := .mgmt, unit := cause + min recent.length 15 <<< 2, began := s.now, mark := s.now }

/-- A dump has ended: the reset that waited for it goes on (R485). -/
def State.resumeReset (s : State) : State :=
  match s.service.resets.cur with
  | none => s
  | some r => if r.phase = 0 && s.service.dump.isNone then s.performReset r else s

/-- The unit field of a RESET_DONE report and of RESET_CTRL (R493). -/
def ResetRun.unitField (r : ResetRun) : Nat :=
  match r.domain with
  | .core | .cluster | .die => (r.unit / 64) <<< 6 + (r.unit / 8 % 8) <<< 3 + r.unit % 8
  | .port => r.unit
  | _ => 0

/-- Which of `n` candidate rows find a spare: `found` tells it by row, and no more of them than `left` (R377). -/
def repairsFound (found : Nat → Bool) (n left : Nat) : List Nat := ((List.range n).filter found).take left

/-- The candidates of a site are repaired after its die's reset (R377): hard repairs while the stack permits them (R371). -/
def State.repairSite (s : State) (b : BootIn) (site : Nat) (hard : Bool) : State :=
  let cands := (s.hbm.repairs.zipIdx).filter (fun p => p.1.site = site && p.1.st = 0)
  let x := s.stack site
  let done := repairsFound (fun i => b.spares.getD i true) cands.length
    (if hard then s.hardSpares site else cands.length)
  let n := done.length
  let upd := s.hbm.repairs.zipIdx.map (fun p =>
    match cands.findIdx? (fun q => q.2 = p.2) with
    | none => p.1
    | some i => { p.1 with st := if !done.contains i then 3 else if hard then 2 else 1 })
  let rows := (cands.zipIdx.filter (fun p => done.contains p.2)).map (fun p => p.1.1.row)
  let s : State := { s with hbm := { s.hbm with repairs := upd } }
  let s := s.setStack site { x with
    hard := x.hard + (if hard then n else 0)
    soft := if hard then x.soft.filter (fun r => !rows.contains r) else x.soft ++ rows }
  (s.bump K.HBM_REPAIRS n).storeNv K.HBM_REPAIR_LIST (fitBytes 1024 (packWords 16 (upd.map Repair.word)))

/-- A reset's last phase ends (R482): the domain returns to service and RESET_DONE is reported. -/
def State.resetEnd (s : State) (b : BootIn) : State :=
  match s.service.resets.cur with
  | none => s
  | some r =>
    if r.phase = 0 then s
    else
      let s : State := { s with now := s.now + 4000 * b.took.toNat }
      let s := s.modResets (fun q => { q with
        cur := none
        last := r.domain.code
        lasted := s.now - r.began })
      let s := match r.domain with
        | .die =>
          let s := s.trainStacks b ((dieSites (r.unit / 64)).filter (fun h => s.part.hbmSites.contains h)) false
          let s := s.testDie b (r.unit / 64)
          match r.repair with
          | some (h, hard) => s.repairSite b h hard
          | none => s
        | .warm => (s.bootFrom4 b false).modBoot (fun x => { x with fault := false })
        | .mgmt =>
          if s.stagedHash = s.boot.fwHash then s.modMgmt (fun m => { m with
            coreUp := true
            beat := s.now
            watch := s.parMs K.MGMT_WATCHDOG })
          else s.forceWarm
        | _ => s
      match r.domain with
      | .mgmt | .port => s
      | _ => s.report 0x0D none (r.domain.code + r.unitField <<< 4 + (s.service.resets.lasted / 4000 % 2 ^ 32) <<< 32)

/-- AO_STALL_TIMEOUT ends without a progress mark (R490). -/
def State.stalled (s : State) : State :=
  match s.service.resets.cur with
  | none => s
  | some r =>
    if r.phase = 0 then s else
    let s := s.reach (r.mark + r.limit)
    let told := s.report 0x0D none (r.domain.code + r.unitField <<< 4 + 1 <<< 12
      + ((s.now - r.began) / 4000 % 2 ^ 32) <<< 32)
    if r.domain = .warm then
      ((told.modResets (fun q => { q with cur := none })).romRecovery 7).modBoot (fun x => { x with fault := true })
    else told.forceWarm

end Sys2Proof.Machine
end

