-- ==== Sys2Proof/Machine/Hang.lean ====
section
/-!
DEFINITION. The wait-for detectors, hang records and the timeouts of waits, drawer stalls and transfers (R209 to R223,
R240, R281).
-/

namespace Sys2Proof.Machine

/-- What a hang record says of a stalled stream (R222): WAITER, WAIT_KIND, PC and the wait, when it is one. -/
structure Stall where
  waiter : Nat
  kind : Nat
  pc : Nat
  wait : Option WaitSt := none
deriving DecidableEq, Repr

/-- Is a semaphore internal to a context (R209): one of its sideboard semaphores, or of its package semaphores when
HANG_LOCAL_PKG is 1? -/
def State.internal (s : State) (x : Nat) : SemRef → Bool
  | .side c i => s.holds x c && s.inSideRange x i
  | .pkg _ i => s.par (K.HANG_LOCAL_PKG + x) = 1 && s.inPkgRange x i

/-- Is a cluster's stream non-idle (R211)? -/
def State.busyCl (s : State) (c : Nat) : Bool := (s.cl c).running

/-- Does a context's command stream hold a command that is not read (R177, R211)? -/
def State.busyCx (s : State) (x : Nat) : Bool :=
  let c := s.cx x
  c.read % 2 ^ 24 ≠ (s.sem (.pkg 0 (bits (s.par (K.CONTEXT_STREAM_CFG + x)) 45 32))).toNat

/-- How a cluster's sequencer is stalled (R213); none when it is not. -/
def State.stallCl (s : State) (c : Nat) : Option Stall :=
  let l := s.cl c
  let at' (k : Nat) : Option Stall := some ⟨c, k, l.pcCode, none⟩
  match l.wait with
  | some w => some ⟨c, 0, l.pcCode, some w⟩
  | none =>
    if s.frozen c then none
    else if l.ended then (if s.atEnd c then none else at' 7)
    else
      match s.fetch c with
      | none => if (s.coresOf c).any (fun k => (s.co k).popStalled || s.pushStalled c k) then at' 2 else none
      | some w =>
        match insOp w.toNat with
        | some .semAdd | some .semSub => if 4 ≤ l.posts.length then at' 6 else none
        | some o => if !o.bySequencer && !s.buffersFree c w.toNat then at' 4 else none
        | none => none

/-- How a context's command stream is stalled (R213). -/
def State.stallCx (s : State) (x : Nat) : Option Stall :=
  match (s.cx x).cur with
  | none => none
  | some c =>
    match (s.cx x).wait with
    | some w => some ⟨32, 1, c.n % 4096, some w⟩
    | none =>
      if bits c.word.toNat 511 504 = 2 && (mapBits (bits c.word.toNat 415 384)).any (fun k => (s.cl k).running) then
        some ⟨32, 3, c.n % 4096, none⟩
      else none

/-- Is a stalled stream blocked: a wait on an external semaphore, or one that has been granted, never is (R213). -/
def State.blocked (s : State) (x : Nat) (t : Stall) : Bool :=
  match t.wait with
  | none => true
  | some w => s.internal x w.sem && !w.granted

/-- Is a transfer, queue move or remote request that the context issued in flight (R215)? A queue move that waits for a
block of its source has none in flight (log entry 120). -/
def State.inFlight (s : State) (x : Nat) : Bool :=
  (List.range 32).any (fun c => (s.cl c).xfers.any (fun t => t.ctx = x))
    || s.moves.any (fun m => m.ctx = x && m.remote.isNone && m.blocks ≠ [])
    || (s.links.reqs ++ s.links.waiting).any (fun r => s.reqCtx r = some x)

/-- The blocked streams of a context, lowest first, when every non-idle stream is blocked and nothing is in flight
(R213, R215); `since` tells whether progress since the last scan counts against it. -/
def State.hangStreams (s : State) (x : Nat) (since : Bool) : Option (List Stall) :=
  let cls := (s.clustersOf x).filter (fun c => s.busyCl c && (s.cl c).ctx = x)
  let cl (c : Nat) : Option Stall :=
    if since && (s.cl c).progress then none else (s.stallCl c).filter (s.blocked x)
  let cmd : List (Option Stall) :=
    if s.busyCx x then [if since && (s.cx x).progress then none else (s.stallCx x).filter (s.blocked x)] else []
  let all := cls.map cl ++ cmd
  let found := all.filterMap id
  if all = [] || found.length ≠ all.length || s.inFlight x then none else some found

/-- A scan (R214 to R216). -/
def State.hangScan (s : State) : State :=
  let s := s.reach ((s.now / 400000 + 1) * 400000)
  let n := s.par K.HANG_SCAN_COUNT
  let s := (List.range 16).foldl (fun s x =>
    let c := s.cx x
    if c.st ≠ .opened && c.st ≠ .stopped then s
    else
      let met := (s.hangStreams x true).isSome
      let due := met && decide (n ≤ c.scans + 1)
      s.modCx x (fun c => { c with
        scans := if met && !due then c.scans + 1 else 0
        hung := c.hung || due })) s
  let s := (List.range 32).foldl (fun s c => s.modCl c (fun l => { l with progress := false })) s
  (List.range 16).foldl (fun s x => s.modCx x (fun c => { c with progress := false })) s

/-- Writes the hang record of a context, when it holds none (R222). The last three fields are those of a stash timeout
(R281): die and entry. -/
def State.hangRecord (s : State) (x cause blocked : Nat) (t : Stall) (die entry : Nat) : State :=
  let c := s.cx x
  if bit c.hang.toNat 0 then s
  else
    let sem : Nat := match t.wait with
      | none => die <<< 82 + entry <<< 65
      | some w =>
        (match w.sem with
         | .side k i => (k / 8) <<< 82 + (k % 8) <<< 79 + i <<< 65
         | .pkg n i => 2 <<< 84 + n <<< 82 + i <<< 65) + (s.sem w.sem).toNat <<< 41 + w.target <<< 17
    let w := (s.now % 2 ^ 64) <<< 192 + ((c.openNo.getD 0) % 2 ^ 32) <<< 160 + x <<< 156 + c.gen <<< 144 + cause <<< 140
      + blocked <<< 107 + t.waiter <<< 101 + t.kind <<< 98 + t.pc <<< 86 + sem + 1
    s.modCx x (fun c => { c with hang := BitVec.ofNat 256 w })

/-- A hang that the last scan has found is declared (R216 to R218, R332); DUMP_TRIGGERS may order a dump (R484). -/
def State.declareHang (s : State) (x : Nat) : State :=
  if !(s.cx x).hung then s
  else
    let s := (s.modCx x (fun c => { c with hung := false })).bump K.HANG_DECLARATIONS 1
    if bit (s.par K.SYNC_STATUS) x then s
    else
      let l := (s.hangStreams x false).getD []
      let blocked := (l.map (fun t => 2 ^ t.waiter)).sum
      let first := l.headD ⟨32, 0, 0, none⟩
      let fresh := !bit (s.cx x).hang.toNat 0
      let s := (s.hangRecord x 1 blocked first 0 0).syncFlag x
      let s := if fresh then s.reportCtx 0x01 x (blocked + first.waiter <<< 33) else s
      let s := if bit (s.par K.DUMP_TRIGGERS) 6 then s.startDump 6 false else s
      s.failStep x 1

/-- A wait in force times out (R219 to R221): record, flag, count and report; the wait stays in force. -/
def State.waitExpired (s : State) (x : Nat) (w : WaitSt) (t : Stall) : State :=
  let fresh := !bit (s.cx x).hang.toNat 0
  let s := ((s.reach (w.since + w.limit)).hangRecord x 2 0 t 0 0).syncFlag (16 + x)
  let s := s.bump K.WAIT_TIMEOUTS 1
  if fresh then s.reportCtx 0x02 x (t.waiter + t.kind <<< 6) else s

/-- SEM_WAIT_TIMEOUT ends for the wait of a stream (R219). -/
def State.waitTimeout (s : State) (st : Stream) : State :=
  match st with
  | .cluster c =>
    match (s.cl c).wait with
    | none => s
    | some w =>
      if w.granted || w.timedOut then s
      else
        (s.waitExpired (s.cl c).ctx w ⟨c, 0, (s.cl c).pcCode, some w⟩).modCl c (fun l =>
          { l with wait := l.wait.map (fun w => { w with timedOut := true }) })
  | .command x =>
    match (s.cx x).wait, (s.cx x).cur with
    | some w, some c =>
      if w.granted || w.timedOut then s
      else
        (s.waitExpired x w ⟨32, 1, c.n % 4096, some w⟩).modCx x (fun q =>
          { q with wait := q.wait.map (fun w => { w with timedOut := true }) })
    | _, _ => s

/-- STASH_TIMEOUT ends for the first stalled write of a drawer (R281). -/
def State.stashTimeout (s : State) (x d : Nat) : State :=
  let stalls := (s.drawer x d).stalled.filterMap (fun q =>
    (s.xfer q.1 q.2).bind (fun t => t.stall.map (fun u => (q, t, u.1 + u.2))))
  match stalls.find? (fun p => stalls.all (fun r => p.2.2 ≤ r.2.2)) with
  | none => s
  | some ((c, q), t, due) =>
    let s := s.reach due
    if ((s.drawer x d).freePage false).isSome then s.pageGrant x d
    else
    let entry := (drawerAt (t.offer.getD 0)).1
    let fresh := !bit (s.cx x).hang.toNat 0
    let s := s.killXfer c q .timeout false
    let s := ((s.hangRecord x 3 0 ⟨c, 5, t.pc, none⟩ d entry).syncFlag (16 + x)).bump K.STASH_TIMEOUTS 1
    let s := s.failStep x 2
    let s := if fresh then s.reportCtx 0x03 x (c + entry <<< 6 + d <<< 16) else s
    s.settle c

/-- DMA_TIMEOUT ends for a transfer (R240, R332); time in drawer stalls and holds does not count (R280, R331, R463). -/
def State.dmaTimeout (s : State) (c q : Nat) : State :=
  match s.xfer c q with
  | none => s
  | some t =>
    let held := s.accesses.any (fun a => a.owner = .xfer c q && (a.heldUndo || a.heldCopy.isSome))
    if s.xferDone c t || t.stall.isSome || held then s
    else
      let s := s.reach (t.start + t.limit + t.stalled)
      let s := (s.killXfer c q .timeout false).bump K.DMA_TIMEOUTS 1
      let s := s.failStep t.ctx 4
      let s := s.reportCtx 0x04 t.ctx (t.descIdx + (t.core / 64) <<< 20 + (t.core / 8 % 8) <<< 22 + (t.core % 8) <<< 25
        + t.seq <<< 28)
      s.settle c

end Sys2Proof.Machine
end

