-- ==== Sys2Proof/Machine/Opening.lean ====
section
/-!
DEFINITION. Opening and closing a context (R174, R175, R201, R222, R266 to R268, R291, R380, R459, R479, R496, R570), and
writes of key entries (R226, R361, R598).
-/

namespace Sys2Proof.Machine

/-- No context is other than CLOSED. -/
def State.allClosed (s : State) : Bool := (List.range 16).all (fun x => (s.cx x).st = .closed)

/-- The part is ACTIVE and changes no package state (R570). -/
def State.powered (s : State) : Bool := s.power.state = .active && s.power.target.isNone

/-! ### Keys -/

/-- Size of an HBM view (R360). -/
def State.viewBytes (s : State) (v : Nat) : Nat := (s.part.viewStacks v).length * stackBytes

/-- R361: an HBM address range that runs outside its view, or whose view is reserved, is bad. -/
def State.hbmRangeBad (s : State) (a n : Nat) : Bool :=
  bits a 63 48 ≠ 0 || s.part.viewStacks (bits a 47 40) = [] || decide (s.viewBytes (bits a 47 40) < bits a 39 0 + n)

/-- R361, R598: must the part refuse this key entry? -/
def State.keyBad (s : State) (w : Nat) : Bool :=
  let e := keyF w
  let m := e.length / 128
  e.base % 2048 ≠ 0 || e.side % 16 ≠ 0 || e.length % 2048 ≠ 0 || decide (2 < e.space)
    || (e.space = 0 && (s.hbmRangeBad e.base e.length || s.hbmRangeBad e.side m))
    || (e.space = 1 && (decide (2 ^ 35 < e.base + e.length) || decide (2 ^ 35 < e.side + m)
        || decide (2 ^ 35 ≤ e.base) || decide (2 ^ 35 ≤ e.side)))
    || (e.space = 2 && (decide (0x800000000 < e.base + e.length) || decide (0x800000000 < e.side + m)))

/-- The bits of a key entry that are not reserved (R225). -/
def keyMask (w : Nat) : Nat := bits w 255 81 <<< 81 + bits w 79 76 <<< 76 + bits w 0 0

/-- Writes a key entry (R226); the state is unchanged where the part refuses the write. -/
def State.writeKeyEntry (s : State) (k w : Nat) : State :=
  if !s.live || s.keyBad w then s
  else { s with keys := Tbl.put s.keys 0 k (BitVec.ofNat 256 (keyMask w)) }

/-! ### What OPEN asks for -/

/-- Does a die's drawer of a context break R267? -/
def State.drawerBad (s : State) (x d : Nat) : Bool :=
  let k := bits (s.par (K.DRAWER_KEYS + x)) (16 * d + 15) (16 * d)
  let q := bits (s.par (K.DRAWER_SPILL_KEYS + x)) (16 * d + 15) (16 * d)
  let reads := bits (s.par (K.DRAWER_CFG + x)) 7 4
  let e := s.key k
  let f := s.key q
  !s.keyOk x k true true || !s.keyOk x q true true
    || e.space ≠ 1 || !e.check || e.base / 2 ^ 33 ≠ d || decide ((d + 1) * 2 ^ 33 < e.base + e.length)
    || f.space ≠ 0 || !f.check || k = q || e.length % 65536 ≠ 0 || f.length % 65536 ≠ 0
    || decide (262144 < e.length / 65536 + f.length / 65536) || reads = 0 || decide (4 < reads)

/-- Bytes of a window slot with its scales (R289): 16,384 for BF16, 32,768 for FP32, 8,192 and 256 for E4M3. -/
def slotBytes (fmt : Nat) : Nat := if fmt = 0 then 16384 else if fmt = 2 then 32768 else 8192 + 256

/-- Does a VALID plan of a context break R291? -/
def State.planBad (s : State) (x p : Nat) : Bool :=
  let w := s.planWord p
  let g := (Tbl.get s.groups 0 (bits w 510 505)).toNat
  let reduce := bit w 511
  let sfmt := bits w 500 497
  let wfmt := bits w 496 493
  let rounds := bits w 492 485
  let fmts := if reduce then (sfmt = 0 || sfmt = 2) && (wfmt = 0 || wfmt = 2) && rounds ≠ 0
    else sfmt = 0 && (wfmt = 0 || wfmt = 3) && rounds = 0
  let lkey := bits w 484 469
  let wkey := bits w 408 393
  let skey := bits w 336 321
  let ukey := bits w 320 305
  let keys := s.keyOk x lkey true false && s.keyOk x wkey reduce (!reduce) && (s.key wkey).check
    && s.keyOk x skey true reduce && (s.key skey).check && (s.key skey).space = 0
    && (reduce || (s.keyOk x ukey true false && (s.key ukey).check && (s.key ukey).space = 0))
  let sems := [bits w 304 291, bits w 290 277] ++ (if reduce then [bits w 276 263] else [])
  !bit g 0 || bits g 145 142 ≠ x || decide (bits g 171 159 ≤ bits g 158 146)
    || decide (262144 < bits g 191 174 + bits g 171 159) || !fmts || !keys
    || decide ((s.key wkey).length < bits w 392 353 + bits w 352 337 * slotBytes (if reduce then sfmt else wfmt))
    || sems.any (fun i => !s.inPkgRange x i) || !decide sems.Nodup

/-- Does an enabled mirror of a context break R459? -/
def State.mirrorBad (s : State) (x : Nat) : Bool :=
  let k := s.par (K.WARDROBE_KEY + x)
  let all := (List.range 16).filter (fun y => s.mirrorOn y)
  s.mirrorOn x && (s.jobSize x = 0 || !s.entryServes (s.par (K.PARTNER_ENDPOINT + x)) x || s.undoPairs x = []
    || !s.keyOk x k true true || (s.key k).space ≠ 0 || !(s.key k).check
    || decide (16777216 < (all.map s.imageBlocks).sum))

/-- Does the part take a write of OPEN to CONTEXT_STATE (R174, R267, R291, R380, R459, R479, R570)? -/
def State.openAllowed (s : State) (x : Nat) : Bool :=
  let m := s.par (K.CONTEXT_CLUSTERS + x)
  let others := (List.range 16).filter (fun y => y ≠ x && (s.cx y).st ≠ .closed)
  s.live && (s.cx x).st = .closed && s.powered && m ≠ 0
    && others.all (fun y => Nat.land m (s.par (K.CONTEXT_CLUSTERS + y)) = 0)
    && s.inPkgRange x (bits (s.par (K.CONTEXT_STREAM_CFG + x)) 45 32)
    && (List.range 4).all (fun d => !bit (s.par (K.DRAWER_CFG + x)) d || !s.drawerBad x d)
    && (s.plansOf x).all (fun p => !s.planBad x p)
    && !s.hbm.gens.any (fun (g : Nat × TrafficGen) => bits g.2.status.toNat 255 252 = 1)
    && !s.mirrorBad x

/-! ### Opening -/

/-- The drawer of a context on a die as its opening leaves it (R268, R283). -/
def State.freshDrawer (s : State) (x d : Nat) : Drawer :=
  let k := bits (s.par (K.DRAWER_KEYS + x)) (16 * d + 15) (16 * d)
  let q := bits (s.par (K.DRAWER_SPILL_KEYS + x)) (16 * d + 15) (16 * d)
  let e := s.key k
  let f := s.key q
  if !bit (s.par (K.DRAWER_CFG + x)) d then {}
  else
    { key := k
      base := e.base
      side := e.side
      pages := e.length / 65536
      skey := q
      sbase := f.base
      sside := f.side
      spages := f.length / 65536
      reads := bits (s.par (K.DRAWER_CFG + x)) 7 4 }

/-- A context as its opening leaves it (R175, R61, R222): what was kept of its last verdict and words stays. -/
def Ctx.opened (c : Ctx) (seed : BitVec 64) : Ctx :=
  { st := .opened
    gen := (c.gen + 1) % 4096
    seed := seed
    sealedWord := c.sealedWord
    partnerWord := c.partnerWord
    lastVerdict := c.lastVerdict }

/-- Opens a context, where the part does not refuse it (R175, R201, R268, R496). -/
def State.openCtx (s : State) (x : Nat) : State :=
  if !s.openAllowed x then s
  else
    let s := s.modCx x (fun c => c.opened (BitVec.ofNat 64 (s.par (K.ROUND_SEED_CTX0 + x))))
    let s := (s.clustersOf x).foldl (fun s c => s.modCl c (fun l =>
      { l with page0 := [], page1 := [], valid0 := false, valid1 := false, loaded := none })) s
    let s : State := { s with
      side := s.side.filter (fun (p : Nat × BitVec 24) => !(s.holds x (p.1 / 4096) && s.inSideRange x (p.1 % 4096)))
      pkg := s.pkg.filter (fun (p : Nat × BitVec 24) => !s.inPkgRange x (p.1 % 16384)) }
    let s := s.grantAll
    let s := (List.range 4).foldl (fun s d => s.setDrawer x d (s.freshDrawer x d)) s
    let s := (s.plansOf x).foldl (fun s p => s.setPlan p {}) s
    if s.jobSize x = 0 then s
    else { s with service := { s.service with spare := { s.service.spare with isSpare := false } } }

/-- CONTEXT_OPEN: OPEN is written to CONTEXT_STATE. -/
def execContextOpen (x : Fin 16) (s : State) : Outcome := s.ends (s.openCtx x.val)

/-- CONTEXT_TEARDOWN: CLOSED is written to CONTEXT_STATE (R479, R480). -/
def execContextTeardown (x : Fin 16) (s : State) : Outcome :=
  s.ends (if s.live then s.teardown x.val true 0 else s)

/-- KEY_ENTRY_WRITE (R226). -/
def execKeyEntryWrite (key : BitVec 16) (value : BitVec 256) (s : State) : Outcome :=
  s.ends (s.writeKeyEntry key.toNat value.toNat)

end Sys2Proof.Machine
end

