-- ==== Sys2Proof/Machine/Upsets.lean ====
section
/-!
DEFINITION. Errors of memories (R253, R370, R436), the repair list (R375 to R377) and the HBM traffic generators (R379).
-/

namespace Sys2Proof.Machine

/-! ### Errors and the repair list -/

/-- Stores the repair list (R376): it persists across power cycles. -/
def State.setRepairs (s : State) (l : List Repair) : State :=
  ({ s with hbm := { s.hbm with repairs := l } } : State).storeNv K.HBM_REPAIR_LIST
    (fitBytes 1024 (packWords 16 (l.map Repair.word)))

/-- Adds a candidate to the repair list (R375, R376): in a full list it takes the place of the oldest REFUSED record. -/
def State.addCandidate (s : State) (r : Repair) : State :=
  let l := s.hbm.repairs
  if l.any (fun q => q.site = r.site && q.row = r.row) then
    s.setRepairs (l.map (fun q => if q.site = r.site && q.row = r.row then { q with errors := min 255 (q.errors + 1) } else q))
  else if l.length < 64 then s.setRepairs (l ++ [r])
  else
    match l.find? (fun q => q.st = 3) with
    | some q => s.setRepairs (l.erase q ++ [r])
    | none => s.bump K.HBM_REPAIR_LIST_FULL 1

/-- A word of 8 bytes at address `a` of a store with some of its bits inverted. -/
def Store.upset (m : Store) (a flip : Nat) : Store :=
  let b := a / 8 * 8
  m.write b (toBytes 8 (Nat.xor (ofBytes (m.read b 8)) flip))

/-- The row that holds a byte of a stack, as CHANNEL, PC, BANK and ROW of R376: pseudo-channel and address follow from the
byte's offset (R362, R363), bank and row from the controller's fixed function. -/
def rowOf (addr : Nat) : Nat :=
  (addr / 256 % 64) <<< 24 + (Config.bankRow (256 * (addr / 2 ^ 14) + addr % 256)).toNat

/-- An error in a burst that is read from a stack (R370, R375, R445). -/
def State.hbmError (s : State) (h : Nat) (unc : Bool) (addr flip : Nat) : State :=
  if !s.live || !s.part.hbmSites.contains h || s.siteOff h then s
  else
    let x := s.stack h
    let id := rowOf addr
    let old := Tbl.get x.rows (0, 0, 0) id
    let first := if old.1 = 0 then s.now else old.2.2
    let errs := old.1 + 1
    let n := old.2.1 + b2n !unc
    let s := s.setStack h { x with rows := Tbl.put x.rows (0, 0, 0) id (errs, n, first) }
    let listed := s.hbm.repairs.any (fun q => q.site = h && q.row = id)
    let rcd (u : Bool) : Repair := ⟨first, h, id, errs, u, 0⟩
    if unc then
      let s : State := { s with mem := { s.mem with hbm := s.mem.hbm.upset (h * 2 ^ 36 + addr) flip } }
      let s := (s.bump K.HBM_UNCORRECTED 1).event ringIO0 0x13 (h <<< 30 + id)
      (s.addCandidate (rcd true)).health .uncorrected 1
    else
      let s := s.bump K.HBM_CORRECTED 1
      if listed || decide (s.par K.HBM_REPAIR_THRESHOLD ≤ n) then s.addCandidate (rcd false) else s

/-- An error in a shelf word that cluster `c` reads (R253, R445). -/
def State.shelfError (s : State) (c addr : Nat) (dbl : Bool) (flip : Nat) : State :=
  if !s.live then s
  else if dbl then
    let s : State := { s with mem := { s.mem with shelf := s.mem.shelf.upset addr flip } }
    ((s.bump K.SHELF_ECC_UNCORRECTED 1).event c 0x06
      (bits addr 34 33 <<< 50 + bits addr 32 27 <<< 44 + bits addr 26 0 / 8 * 8)).health .uncorrected 1
  else s.bump K.SHELF_ECC_CORRECTED 1

/-- A block of a queue store with bits of one of its words inverted. -/
def Block.upset (b : Block) (sidecar : Bool) (word flip : Nat) : Block :=
  if sidecar then { b with hdr := b.hdr ^^^ BitVec.ofNat 128 (flip <<< (64 * (word % 2))) }
  else { b with data := b.data ^^^ BitVec.ofNat 16384 (flip <<< (64 * word)) }

/-- An error in a word of a queue store (R436, R445). -/
def State.qstoreError (s : State) (k slot : Nat) (sidecar : Bool) (word : Nat) (dbl : Bool) (flip : Nat) : State :=
  if !s.live || s.part.isFused k then s
  else if dbl then
    let s := s.modCo k (fun o => { o with
      slots := Tbl.put o.slots Block.null slot ((Tbl.get o.slots Block.null slot).upset sidecar word flip) })
    ((s.bump K.QSTORE_ECC_UNCORRECTED 1).event (k / 8) 0x07 (k <<< 44 + b2n sidecar <<< 11 + slot)).health .uncorrected 1
  else s.bump K.QSTORE_ECC_CORRECTED 1

/-- The packages of service memory that are in service (R383). -/
def State.lpddrUp (s : State) : List Nat := (List.range 2).filter (fun p => !s.hbm.lpddrFail.getD p false)

/-- Bytes of service memory that can be addressed: 16 GiB a package in service (R382, R383). -/
def State.serviceBytes (s : State) : Nat := 0x400000000 * s.lpddrUp.length

/-- Channel and byte within it of byte `x` of service memory (R382): the channels of the packages in service take 64
bytes in turn; with one of them, those are its own four (R383). -/
def State.lpddrPlace (s : State) (x : Nat) : Nat × Nat :=
  let l := (s.lpddrUp.map (fun p => [4 * p, 4 * p + 1, 4 * p + 2, 4 * p + 3])).flatten
  (l.getD (x / 64 % max 1 l.length) 0, 64 * (x / (64 * max 1 l.length)) + x % 64)

/-- An error on the bus as byte `x` of service memory moves (R381): no byte moves above the packages in service. -/
def State.lpddrError (s : State) (x : Nat) (unc : Bool) : State :=
  if s.boot.mode = .hold || decide (s.serviceBytes ≤ x) then s
  else s.bump (if unc then K.LPDDR_LINK_UNCORRECTED else K.LPDDR_LINK_CORRECTED) 1

/-! ### Repair (R377) -/

/-- Does the part refuse a write of HBM_REPAIR_CMD (R377, R570)? -/
def State.repairRefused (s : State) (v : Nat) : Bool :=
  let h := bits v 3 0
  let cand := s.hbm.repairs.any (fun r => r.site = h && r.st = 0)
  !s.live || !s.powered || !s.allClosed || !s.part.hbmSites.contains h || (s.stack h).mode ≠ .inService || !cand
    || s.service.resets.cur.isSome

/-- HBM_REPAIR_CMD (R377): the site goes to REPAIR, its candidate rows are saved in class P3 (R367), in a number of bursts
that the spec does not state, and its die goes through a die reset; the state is unchanged where the part refuses the
write. -/
def State.repairCmd (s : State) (v : Nat) : State :=
  let h := bits v 3 0
  let die := (List.range 4).find? (fun d => (dieSites d).contains h)
  if s.repairRefused v then s
  else
    ((s.setStack h { s.stack h with mode := .repair }).saveRecovery.bumpFree (K.HBM_BURSTS_P0 + 3)).beginReset
      { domain := .die, unit := 64 * die.getD 0, began := s.now, mark := s.now, repair := some (h, bit v 4) }

/-- HBM_REPAIR_CMD. -/
def execHbmRepairCmd (v : BitVec 16) (s : State) : Outcome := s.ends (s.repairCmd v.toNat)

/-! ### Traffic generators (R379) -/

/-- The fields of HBM_TG_CFG. -/
structure TgCfg where
  pattern : Nat
  mode : Nat
  pcsel : Nat
  seed : Nat
  start : Nat
  length : Nat
  loops : Nat
deriving DecidableEq, Repr

/-- Reads HBM_TG_CFG. -/
def tgCfg (w : Nat) : TgCfg :=
  ⟨bits w 255 248, bits w 247 246, bits w 245 244, bits w 223 192, bits w 191 152, bits w 151 112, bits w 111 96⟩

/-- Bytes of a pseudo-channel (R362): a stack's bytes over 64. -/
def pcBytes : Nat := stackBytes / 64

/-- Bursts of the range, inside the pseudo-channel. -/
def TgCfg.bursts (c : TgCfg) : Nat :=
  let n := if c.length = 0 then pcBytes - c.start else min c.length (pcBytes - c.start)
  n / 32

/-- The pseudo-channels of the channel that the setup takes. -/
def TgCfg.pcs (c : TgCfg) : List Nat := match c.pcsel with | 0 => [0] | 1 => [1] | _ => [0, 1]

/-- Does the setup hold a reserved value (R379)? -/
def TgCfg.bad (c : TgCfg) (w : Nat) : Bool :=
  decide (7 < c.pattern) || (c.pattern ≠ 7 && c.mode = 3) || c.pcsel = 3 || bits w 243 224 ≠ 0 || bits w 95 0 ≠ 0

/-- `n` steps of the register of PRBS31 (x^31 + x^28 + 1), the output bits collected lowest first. -/
def prbs31 : Nat → Nat → Nat × Nat
  | 0, r => (0, r)
  | n + 1, r =>
    let b := Nat.xor (r >>> 30) (r >>> 27) % 2
    let q := prbs31 n ((2 * r + b) % 2 ^ 31)
    (b + 2 * q.1, q.2)

/-- Data of burst `i` of the range (the table of patterns). -/
def TgCfg.data (c : TgCfg) (i : Nat) : Nat :=
  match c.pattern with
  | 1 => 2 ^ 256 - 1
  | 2 => if i % 2 = 0 then (2 ^ 256 - 1) / 3 else (2 ^ 256 - 1) / 3 * 2
  | 3 => 2 ^ (i % 256)
  | 4 => 2 ^ 256 - 1 - 2 ^ (i % 256)
  | 5 => ((List.range 8).map (fun w => Nat.xor ((c.start + 32 * i + 4 * w) % 2 ^ 32) c.seed <<< (32 * w))).sum
  | 6 => (prbs31 256 ((prbs31 (256 * i) (if c.seed % 2 ^ 31 = 0 then 1 else c.seed % 2 ^ 31)).2)).1
  | _ => 0

/-- The passes over the range of one loop: descending, accesses of each burst, what is written. -/
def TgCfg.passes (c : TgCfg) : List (Bool × Nat × Option (Nat → Nat)) :=
  let ones : Nat → Nat := fun _ => 2 ^ 256 - 1
  let zero : Nat → Nat := fun _ => 0
  if c.pattern = 7 then
    [(false, 1, some zero), (false, 2, some ones), (false, 2, some zero), (true, 2, some ones), (true, 2, some zero),
     (false, 1, none)]
  else
    match c.mode with
    | 0 => [(false, 1, some c.data), (false, 1, none)]
    | 1 => [(false, 1, some c.data)]
    | _ => [(false, 1, none)]

/-- What burst `i` of `n` holds after `m` accesses of a loop, when the loop has written it by then. -/
def tgHeld (n m i : Nat) : Nat → List (Bool × Nat × Option (Nat → Nat)) → Option Nat
  | _, [] => none
  | t, (down, k, w) :: r =>
    let pos := if down then n - 1 - i else i
    let here := if t + k * pos + k ≤ m then w.map (fun f => f i) else none
    match tgHeld n m i (t + k * n) r with
    | some v => some v
    | none => here

/-- Address in the HBM store of burst `i` of a range: site, channel and pseudo-channel (R362, R363). -/
def TgCfg.addr (c : TgCfg) (h ch pc i : Nat) : Nat :=
  let a := c.start + 32 * i
  h * 2 ^ 36 + 256 * (64 * (a / 256) + 2 * ch + pc) + a % 256

/-- Writes what a run of `m` accesses per pseudo-channel leaves in memory. -/
def State.tgWrite (s : State) (h ch : Nat) (c : TgCfg) (m : Nat) : State :=
  let n := c.bursts
  let m := min m (n * (c.passes.map (fun p => p.2.1)).sum)
  let mem := c.pcs.foldl (fun (st : Store) pc => (List.range n).foldl (fun (st : Store) (i : Nat) =>
    match tgHeld n m i 0 c.passes with
    | some v => st.write (c.addr h ch pc i) (toBytes 32 v)
    | none => st) st) s.mem.hbm
  { s with mem := { s.mem with hbm := mem } }

/-- The bursts that a check of the range finds wrong: pseudo-channel, burst and what is stored. -/
def State.tgWrong (s : State) (h ch : Nat) (c : TgCfg) : List (Nat × Nat × Nat) :=
  (c.pcs.map (fun pc => ((List.range c.bursts).map (fun i =>
    (pc, i, ofBytes (s.mem.hbm.read (c.addr h ch pc i) 32)))).filter (fun q => q.2.2 ≠ c.data q.2.1))).flatten

/-- Does a run only check what memory holds? -/
def TgCfg.checks (c : TgCfg) : Bool := c.pattern ≠ 7 && c.mode = 2

/-- HBM_TG_STATUS of a run that has ended, from the bursts found wrong and how often one was. -/
def TgCfg.status (c : TgCfg) (st bursts : Nat) (wrong : List (Nat × Nat × Nat)) (errors : Nat) : BitVec 256 :=
  let tail := match wrong with
    | [] => 0
    | (pc, i, v) :: _ =>
      let d := Nat.xor v (c.data i)
      let w := ((List.range 8).find? (fun j => bits d (32 * j + 31) (32 * j) ≠ 0)).getD 0
      (c.start + 32 * i) <<< 88 + pc <<< 87 + bits (c.data i) (32 * w + 31) (32 * w) <<< 32 + bits v (32 * w + 31) (32 * w)
  BitVec.ofNat 256 (st <<< 252 + (bursts % 2 ^ 64) <<< 160 + (min errors (2 ^ 32 - 1)) <<< 128 + tail)

/-- HBM_TG_STATUS as a run on a faulty memory leaves it, in state `st`: reserved fields are 0 (R6). -/
def tgReport (st : Nat) (found : BitVec 256) : BitVec 256 :=
  BitVec.ofNat 256 (setBits (setBits found.toNat 255 224 (st <<< 28)) 86 64 0)

/-- A generator. -/
def State.gen (s : State) (i : Nat) : TrafficGen := Tbl.get s.hbm.gens {} i
/-- Replaces a generator. -/
def State.setGen (s : State) (i : Nat) (g : TrafficGen) : State :=
  { s with hbm := { s.hbm with gens := Tbl.put s.hbm.gens {} i g } }
/-- STATE of a generator. -/
def TrafficGen.st (g : TrafficGen) : Nat := bits g.status.toNat 255 252
/-- The generator that HBM_TG_SELECT names. -/
def State.tgSelect (s : State) : Nat := bits (s.par K.HBM_TG_SELECT) 3 0 * 32 + bits (s.par K.HBM_TG_SELECT) 8 4

/-- Does the part refuse a start of the selected generator under R379? -/
def State.tgRefused (s : State) : Bool :=
  let h := s.tgSelect / 32
  let g := s.gen s.tgSelect
  !s.allClosed || !s.part.hbmSites.contains h || (s.stack h).mode ≠ .inService || (tgCfg g.cfg).bad g.cfg

/-- HBM_TG_CTRL with 1 (R379, R570). -/
def State.tgStart (s : State) : State :=
  let i := s.tgSelect
  let g := s.gen i
  if g.st = 1 then s
  else if !s.live || !s.powered || s.tgRefused then s.setGen i { g with status := BitVec.ofNat 256 (3 <<< 252) }
  else s.setGen i { g with status := BitVec.ofNat 256 (1 <<< 252), setup := g.cfg, found := none }

/-- HBM_TG_CTRL with 2 (R379): how far the run has come, the accesses made of each pseudo-channel, is decided by timing. A
checking run reports the bursts that it has found wrong by then, or what a faulty memory gave. -/
def State.tgStop (s : State) : State :=
  let i := s.tgSelect
  let g := s.gen i
  if !s.live || g.st ≠ 1 then s
  else
    let c := tgCfg g.setup
    let d := s.draw
    let n := c.pcs.length * d.1
    let wrong := if c.checks then d.2.tgWrong (i / 32) (i % 32) c else []
    let seen := wrong.filter (fun q => decide (q.2.1 < d.1))
    let last := (wrong.filter (fun q => decide (q.2.1 < d.1 % max 1 c.bursts))).length
    let s := (d.2.tgWrite (i / 32) (i % 32) c d.1).bump (K.HBM_BURSTS_P0 + 3) n
    s.setGen i { g with status := match g.found with
      | none => c.status 4 n seen (d.1 / max 1 c.bursts * wrong.length + last)
      | some v => tgReport 4 v }

/-- A generator's run ends (R379): its result follows from what memory holds, unless `found` tells what a faulty memory
gave. -/
def State.tgDone (s : State) (h ch : Nat) (found : Option (BitVec 256)) : State :=
  let i := h * 32 + ch
  let g := s.gen i
  let c := tgCfg g.setup
  if g.st ≠ 1 || c.loops = 0 then s
  else
    let per := c.pcs.length * c.bursts * (c.passes.map (fun p => p.2.1)).sum
    let wrong := if c.checks then s.tgWrong h ch c else []
    let s := (s.tgWrite h ch c (c.bursts * (c.passes.map (fun p => p.2.1)).sum)).bump (K.HBM_BURSTS_P0 + 3) (per * c.loops)
    let r := match found <|> g.found with
      | none => c.status 2 (per * c.loops) wrong (c.loops * wrong.length)
      | some v => tgReport 2 v
    s.setGen i { g with status := r }

/-- A running generator reads bursts that do not hold its pattern although they were written so (R380). -/
def State.tgFinds (s : State) (h ch : Nat) (found : BitVec 256) : State :=
  let g := s.gen (h * 32 + ch)
  if g.st ≠ 1 then s else s.setGen (h * 32 + ch) { g with found := some found }

/-- Copies of the engines will be wrong in elements to come (R437). -/
def State.withFaults (s : State) (l : List CopyFault) : State :=
  { s with defence := { s.defence with copies := s.defence.copies ++ l } }

/-- What reaches a memory, but for a write (R253, R370, R380, R381, R436, R437). -/
def State.memError (s : State) (e : AccessEv) : State :=
  match e with
  | .write _ => s
  | .hbm site unc addr flip => s.hbmError site.val unc addr.toNat flip.toNat
  | .lpddr addr unc => s.lpddrError addr.toNat unc
  | .shelf cl addr dbl flip => s.shelfError cl.val addr.toNat dbl flip.toNat
  | .qstore core slot side word dbl flip => s.qstoreError core.val slot.val side word.toNat dbl flip.toNat
  | .generator site ch found => s.tgFinds site.val ch.toNat found
  | .copies faults => s.withFaults faults

/-- HBM_TG_START. -/
def execHbmTgStart (s : State) : Outcome := s.ends s.tgStart
/-- HBM_TG_STOP. -/
def execHbmTgStop (s : State) : Outcome := s.ends s.tgStop
/-- HBM_TG_DONE. -/
def execHbmTgDone (site : Fin 12) (channel : BitVec 5) (found : Option (BitVec 256)) (s : State) : Outcome :=
  s.ends (s.tgDone site.val channel.toNat found)

end Sys2Proof.Machine
end

