-- ==== Sys2Proof/Machine/Receive.lean ====
section
/-!
DEFINITION. Messages that arrive (R405 to R413, R423 to R429, R325): what every message is checked for, and the WRITE, SEM_OP
and RESP messages.
-/

namespace Sys2Proof.Machine

/-- R406: type, virtual channel and length agree; a message with blocks has 1 to 4, as its BCOUNT says. -/
def Msg.wellFormed (m : Msg) : Bool :=
  let c := m.common
  let blocks (n hi lo : Nat) : Bool :=
    let k := bits (m.slot 1) hi lo
    decide (1 ≤ k) && decide (k ≤ 4) && c.slots = n + 129 * k
  let one (v n : Nat) : Bool := c.vc = v && c.slots = n
  decide (c.slots = m.length) &&
    (match c.mtype with
     | 0 => c.slots = 1
     | 1 => c.vc = 0 && decide (2 ≤ c.slots)
     | 2 => one 1 5
     | 3 => one 1 2
     | 4 => one 2 2
     | 5 => (c.vc = 4 || c.vc = 6 || c.vc = 7) && blocks 2 49 47
     | 6 => one 3 2
     | 7 => one 5 3
     | 8 => c.vc = 5 && blocks 3 47 45
     | 9 => c.vc = 5 && blocks 3 47 45
     | _ => false)

/-- The I/O die that a message is for, when it is one of the part's (R414). -/
def State.ioOf (s : State) (m : Msg) : Option Nat :=
  let a := s.par K.FABRIC_ADDRESS
  let d := m.common.daddr
  if a ≤ d && decide (d - a < s.part.ioDies) then some (d - a) else none

/-- What becomes of a message at its I/O die. -/
inductive Admit
  /-- it is dropped, held, or waits in its receive buffer; the state after it -/
  | ended (t : State)
  /-- it lands for a context, through an entry of an I/O die, under a step's number and attempt when it is logged -/
  | lands (t : State) (io e x : Nat) (step : Option (Nat × Nat))
deriving DecidableEq, Repr

/-- Slots that the held messages of a context take (R330). -/
def State.heldSlots (s : State) (x : Nat) : Nat :=
  ((s.links.held.filter (fun h => h.ctx = x)).map (fun h => h.msg.length)).sum

/-- R325: the step identity of a message against the steps of the context that it is for. -/
def State.stepCheck (s : State) (io e x : Nat) (m : Msg) : Admit :=
  let c := s.cx x
  let live := c.steps.filter (fun t => t.st = .opened || t.st = .sealed || t.st = .replaying)
  let host := bit (s.ep io e) 40
  let id : StepId := if !host then m.stepId
    else match c.openStep with
      | some t => ⟨t.num % 2 ^ 16, t.attempt, false⟩
      | none => ⟨0, 0, true⟩
  let drop : Admit := .ended ((s.takeMsg m).bump K.STEP_ARRIVAL_DROPS 1)
  if id.nostep then
    if live = [] then .lands (s.takeMsg m) io e x none else drop
  else
    match live.find? (fun t => t.num % 2 ^ 16 = id.tag && t.attempt = id.attempt) with
    | some t => .lands (s.takeMsg m) io e x (some (t.num, t.attempt))
    | none =>
      match c.openStep with
      | none => drop
      | some t =>
        let ahead := (id.attempt + 16 - t.attempt) % 16
        if id.tag = (t.num + 1) % 2 ^ 16 || (id.tag = t.num % 2 ^ 16 && decide (1 ≤ ahead) && decide (ahead ≤ 7)) then
          if (s.key (s.par (K.CHEST_HOLD_KEY + x))).length < 16 * (s.heldSlots x + m.length) then
            .ended (s.withhold x m)
          else
            let s := s.takeMsg m
            .ended { s with links := { s.links with held := s.links.held ++ [⟨io, x, m⟩] } }
        else drop

/-- The checks of R423 on a message for I/O die `io`, the first failure deciding. -/
def State.judge (s : State) (io : Nat) (m : Msg) : Admit :=
  let c := m.common
  let e := c.dep
  let w := s.ep io e
  let x := bits w 60 57
  let q := s.cx x
  let drop (k : Nat) : Admit := .ended ((s.takeMsg m).bump k 1)
  if !bit w 0 || e = 0x3FFFF then drop K.EP_INVALID_DROPS
  else if c.key ≠ bits w 85 70 then drop K.EP_KEY_DROPS
  else if !bit w 40 && c.membership ≠ s.par K.JOB_MEMBERSHIP then drop K.MEMBERSHIP_DROPS
  else if c.ctx ≠ bits w 56 53 || c.gen ≠ bits w 52 41 || (q.st ≠ .opened && q.st ≠ .stopped) then
    drop K.STALE_REMOTE_DROPS
  else if c.mtype = 6 && bits (m.slot 1) 102 91 ≠ q.gen then drop K.LATE_REPLY_DROPS
  else if 2 ≤ c.vc && decide (c.vc ≤ 5) then s.stepCheck io e x m
  else .lands (s.takeMsg m) io e x none

/-- A message of one type that arrives: checked and, when it lands, acted on. A message for another part, of another
type, or while the part does not run, is left where it is. -/
def State.receive (s : State) (mtype : Nat) (m : Msg) (act : State → Nat → Nat → Nat → Option (Nat × Nat) → State) :
    State :=
  match s.ioOf m with
  | none => s
  | some io =>
    if !s.live || m.common.mtype ≠ mtype then s
    else if !m.wellFormed then (s.takeMsg m).bump K.BAD_MESSAGES 1
    else if s.power.state = .deep && s.links.inbox.any (fun p => p.2 = m && p.1 / 9 ≠ io) then
      (s.takeMsg m).bump K.DEEP_CROSSING_DROPS 1
    else
      match s.judge io m with
      | .ended t => t
      | .lands t io e x step => act t io e x step

/-! ### Duplicates (R429) -/

/-- The lowest tag not applied, moved past the marked ones. -/
def EpTags.settle : Nat → EpTags → EpTags
  | 0, t => t
  | n + 1, t =>
    if t.marked.contains t.low then
      EpTags.settle n { t with low := (t.low + 1) % 2 ^ 16, marked := t.marked.filter (fun k => k ≠ t.low) }
    else t

/-- Marks a tag as applied; a tag beyond the window moves the window up. -/
def EpTags.mark (t : EpTags) (tag : Nat) : EpTags :=
  let d := (tag + 2 ^ 16 - t.low) % 2 ^ 16
  let t := if 64 ≤ d then
      let low := (tag + 2 ^ 16 - 63) % 2 ^ 16
      { t with low := low, marked := t.marked.filter (fun k => (k + 2 ^ 16 - low) % 2 ^ 16 < 64) }
    else t
  EpTags.settle 64 { t with marked := t.marked ++ [tag] }

/-- Has the tag been applied? -/
def EpTags.seen (t : EpTags) (tag : Nat) : Bool :=
  decide (2 ^ 15 ≤ (tag + 2 ^ 16 - t.low) % 2 ^ 16) || t.marked.contains tag

/-- Lets a request act once (R429): a duplicate gets its RESP again, stamped anew (R422). -/
def State.once (s : State) (io e : Nat) (m : Msg) (act : State → State) : State :=
  let tag := m.common.tag
  let t := s.tags io e
  if m.common.vc = 7 then act s
  else if t.seen tag then
    let s := s.bump K.DUPLICATE_REQUESTS 1
    match t.kept.find? (fun p => p.1 = tag) with
    | some p => s.sendMask (epPorts io (s.ep io e))
        (s.mkResp io e m.common (bits (Msg.slot p.2 1) 106 103) (bits (Msg.slot p.2 1) 90 88))
    | none => s
  else act (s.setTags io e (t.mark tag))

/-! ### WRITE (R408 to R410) -/

/-- Checks the blocks that arrive (R232, R233), under the ring of the I/O die. -/
def State.checkArrived (s : State) (io x src : Nat) (l : List Block) : State × List Block :=
  l.foldl (fun acc b =>
    let r := acc.1.checkBlock (32 + io) x src false b
    (r.1, acc.2 ++ [r.2.1])) (s, [])

/-- A WRITE to a queue (R408, R192, R24, R26, R127, R136, R68). -/
def State.writeQueue (s : State) (io e x : Nat) (step : Option (Nat × Nat)) (m : Msg) : State :=
  let w := m.slot 1
  let k := bits w 89 82
  let q := bits w 81 76
  let slot := m.headD 0
  if !s.holds x (k / 8) then (s.bump K.DMA_ADDRESS_FAULTS 1).answer io e slot XStatus.addressFault.code 0
  else if s.part.isFused k then
    ((s.bump K.ABSENT_TARGET_DROPS 1).event (k / 8) 0x01 (x <<< 52 + k <<< 44 + 2 <<< 42 + m.common.tag)).answer io e slot
      XStatus.absent.code 0
  else if q ≠ 63 && ((s.co k).queue q).size = 0 then (s.bump K.NOQUEUE_DROPS 1).answer io e slot XStatus.noqueue.code 0
  else
    let r := s.checkArrived io x (1 <<< 19 + k <<< 6 + q) (m.blocks 2)
    let s := r.1
    let f : MoveFlight := {
      src := 0xFFFF
      id := 0
      no := 0
      ctx := x
      gen := (s.cx x).gen
      dst := k
      dq := q
      blocks := r.2
      step := step.map (·.1)
      judged := some false
      remote := some (io, e, slot) }
    ({ s with moves := s.moves ++ [f] } : State).settle (k / 8)

/-- A WRITE to memory (R408, R409, R227, R270): its blocks are on their way to their controllers. -/
def State.writeMemory (s : State) (io e x : Nat) (step : Option (Nat × Nat)) (m : Msg) : State :=
  let w := m.slot 1
  let k := bits w 105 90
  let off := bits w 89 50
  let n := Machine.writeBlocks (m.headD 0)
  let slot := m.headD 0
  let fault (s : State) : State := s.answer io e slot XStatus.addressFault.code 0
  if (s.drawerDie x k).isSome || s.isSpillKey x k then fault s
  else if !s.keyOk x k false true || off % 2048 ≠ 0 || decide ((s.key k).length < off + 2048 * n) then
    fault (s.bump K.DMA_ADDRESS_FAULTS 1)
  else
    let r := s.checkArrived io x k (m.blocks 2)
    let s := r.1
    let acc (b : Block × Nat) : Access := {
      owner := .remote io e slot
      ctx := x
      gen := (s.cx x).gen
      key := k
      off := off + 2048 * b.2
      bytes := toBytes 2048 b.1.data.toNat
      hdr := if (s.key k).check then some b.1.hdr else none
      came := some b.1.hdr
      step := step.map (·.1) }
    { s with accesses := s.accesses ++ (r.2.zipIdx).map acc }

/-- A WRITE lands. -/
def State.landWrite (s : State) (m : Msg) (io e x : Nat) (step : Option (Nat × Nat)) : State :=
  s.once io e m (fun s => if bit (m.slot 1) 106 then s.writeQueue io e x step m else s.writeMemory io e x step m)

/-! ### SEM_OP (R203, R411) -/

/-- A SEM_OP lands: its post leaves for the package semaphore, and the requester gets its RESP. An index outside the
context's range drops it, and its tag stays unapplied (R203, R429; log entry 105). -/
def State.landSemOp (s : State) (m : Msg) (io e x : Nat) (step : Option (Nat × Nat)) : State :=
  let w := m.slot 1
  let n := bits w 105 104
  let i := bits w 103 90
  let v := bits w 89 66
  if (decide (s.part.ioDies ≤ n) || !s.inPkgRange x i) && !(s.tags io e).seen m.common.tag then
    (s.bump K.SEM_RANGE_DROPS 1).event ringIO0 0x10 (x <<< 52 + e <<< 32 + n <<< 30 + i)
  else
    s.once io e m (fun s =>
      let s := s.logUnder x (step.map (·.1)) (logRecord e 2 i (b2n (bit w 106) <<< 24 + v) 0 0 n 0) none
      (s.post ⟨.pkg n i, bit w 106, v, x, (s.cx x).gen, 4 + io⟩).answer io e (m.headD 0) 1 0)

/-! ### RESP (R410, R425, R427) -/

/-- Requests and copies that wait for a tag of an entry go on (R427). -/
def State.pumpEntry (s : State) (io e : Nat) : State :=
  let s := s.pumpReqs io e
  if io ≠ 0 then s
  else
    (List.range 16).foldl (fun s x => [CopyKind.mirror, .checkpoint, .takeover, .log].foldl (fun s k =>
      match s.copyOf x k with
      | some c => if c.ep = e then s.runCopy x k else s
      | none => s) s) s

/-- The owner of a request learns its answer: a status of R239's codes, and the blocks that are visible. -/
def State.reqAnswered (s : State) (r : Req) (status blocks : Nat) : State :=
  if r.orphan then s
  else
    match r.owner with
    | .xfer c q =>
      let s := s.modXfer c q (fun t =>
        if status = 1 then { t with
          moved := t.moved + (r.counts.take blocks).sum
          missing := t.missing + (r.counts.length - blocks) }
        else t.setStatus (XStatus.ofCode status))
      s.settle c
    | .sem _ => s
    | .copy x k closing => s.copyResp x k closing (status = 1) status (Machine.writeBlocks (r.msg.headD 0) - blocks)

/-- A RESP lands: the tag of its request is freed; one without a request changes nothing (R425). -/
def State.landResp (s : State) (m : Msg) (io e _x : Nat) (_step : Option (Nat × Nat)) : State :=
  let tag := m.common.tag
  match s.links.reqs.find? (fun r => r.io = io && r.entry = e && r.tag = tag) with
  | none => s
  | some r =>
    let s : State := { s with links := { s.links with reqs := s.links.reqs.erase r } }
    (s.reqAnswered r (bits (m.slot 1) 106 103) (bits (m.slot 1) 90 88)).pumpEntry io e

/-! ### Requests without an answer (R428), endpoint entries (R421) -/

/-- A request of an entry by its tag. -/
def State.req (s : State) (io e tag : Nat) : Option Req :=
  s.links.reqs.find? (fun r => r.io = io && r.entry = e && r.tag = tag)

/-- Does a request still wait to be transmitted: for an ACTIVE port, or at a port for credits (R416, R428)? -/
def State.unsent (s : State) (r : Req) : Bool :=
  s.links.parked.any (fun p => p.2 = r.msg) || (List.range 27).any (fun q => (s.port q).out.contains r.msg)

/-- LINK_REQ_RETRY ends for a request: it is sent again. -/
def State.retransmit (s : State) (io e tag : Nat) : State :=
  match s.req io e tag with
  | none => s
  | some r =>
    if !s.live || decide (r.limit ≤ r.retries) || s.unsent r then s
    else
      let s := s.reach (r.sent + r.wait)
      let r' : Req := { r with msg := s.restamp io e r.msg, sent := s.now, retries := r.retries + 1 }
      let s : State := { s with links := { s.links with reqs := s.links.reqs.map (fun q => if q = r then r' else q) } }
      (s.bump K.REQ_RETRANSMITS 1).sendMask (epPorts io (s.ep io e)) r'.msg

/-- A request that has been taken out of the list ends without an answer: its transfer completes with TIMEOUT, its copy
fails. -/
def State.giveUp (s : State) (r : Req) : State :=
  if r.orphan then s
  else
    match r.owner with
    | .xfer c q => (s.killXfer c q .timeout false).settle c
    | .sem _ => s
    | .copy x k closing => s.copyResp x k closing false 6 0

/-- A request has had its last retransmission and no answer (R428). -/
def State.exhaust (s : State) (io e tag : Nat) : State :=
  match s.req io e tag with
  | none => s
  | some r =>
    if !s.live || decide (r.retries < r.limit) || s.unsent r then s
    else
      let s := s.reach (r.sent + r.wait)
      let x := r.msg.common.ctx
      let vc := r.msg.common.vc
      let told := match r.owner with | .copy _ _ _ => false | _ => !r.orphan
      let s := (s.bump K.REQ_EXHAUSTED 1).event (32 + io) 0x14 (x <<< 52 + vc <<< 49 + io <<< 46 + e <<< 28 + tag)
      let s := ({ s with links := { s.links with reqs := s.links.reqs.erase r } } : State).giveUp r
      let s := if told then s.reportCtx 0x06 x (e + io <<< 18 + tag <<< 20 + vc <<< 36) else s
      s.pumpEntry io e

/-- The bits of an endpoint entry that are not reserved (R418). -/
def epMask (w : Nat) : Nat := bits w 127 40 <<< 40 + bits w 0 0

/-- Writes an endpoint entry (R419, R421); unchanged where the part refuses the write. -/
def State.writeEp (s : State) (io e w : Nat) : State :=
  if !s.live || s.part.ioDies ≤ io || e = 0x3FFFF then s
  else
    let old := s.ep io e
    let new := epMask w
    let moved := bits old 127 104 ≠ bits new 127 104 || bits old 85 70 ≠ bits new 85 70 || bits old 56 41 ≠ bits new 56 41
    let s : State := { s with links := { s.links with
      eps := Tbl.put s.links.eps 0 (io * 2 ^ 18 + e) (BitVec.ofNat 128 new) } }
    if !moved then s
    else
      let mine (r : Req) : Bool := r.io = io && r.entry = e
      let l := s.links.reqs.filter mine
      let s : State := { s with links := { s.links with reqs := s.links.reqs.filter (fun r => !mine r) } }
      (l.foldl (fun s r => s.giveUp r) s).pumpEntry io e

/-! ### The rows -/

/-- WRITE. -/
def execWrite (m : List (BitVec 128)) (s : State) : Outcome := s.ends (s.receive 5 m (fun t => t.landWrite m))
/-- SEM_OP. -/
def execSemOp (m : List (BitVec 128)) (s : State) : Outcome := s.ends (s.receive 4 m (fun t => t.landSemOp m))
/-- RESP. -/
def execResp (m : List (BitVec 128)) (s : State) : Outcome := s.ends (s.receive 6 m (fun t => t.landResp m))
/-- REQUEST_RETRANSMIT (R428). -/
def execRequestRetransmit (io : Fin 3) (entry : BitVec 18) (tag : BitVec 16) (s : State) : Outcome :=
  s.ends (s.retransmit io.val entry.toNat tag.toNat)
/-- REQUEST_EXHAUSTED (R428). -/
def execRequestExhausted (io : Fin 3) (entry : BitVec 18) (tag : BitVec 16) (s : State) : Outcome :=
  s.ends (s.exhaust io.val entry.toNat tag.toNat)
/-- EP_ENTRY_WRITE (R421). -/
def execEpEntryWrite (io : Fin 3) (entry : BitVec 18) (value : BitVec 128) (s : State) : Outcome :=
  s.ends (s.writeEp io.val entry.toNat value.toNat)

end Sys2Proof.Machine
end

