-- ==== Sys2Proof/Machine/Collective.lean ====
section
/-!
DEFINITION. The collective engines (R284 to R313, R413, R437): gathers of sharded parameters and reductions of gradients.
-/

namespace Sys2Proof.Machine

/-- The fields of a collective message. -/
structure CollF where
  plan : Nat
  entry : Nat
  unit : Nat
  round : Nat
  first : Nat
  hash : Nat
  tensor : Nat
deriving DecidableEq, Repr

/-- Reads R413. -/
def Msg.coll (m : Msg) : CollF :=
  ⟨bits (m.slot 1) 106 100, bits (m.slot 1) 99 80, bits (m.slot 1) 79 56, bits (m.slot 1) 55 48, bits (m.slot 1) 44 40,
   bits (m.slot 2) 127 64, bits (m.slot 2) 63 40⟩

/-- The check of R293: the plan of a message, or none when it is dropped. -/
def State.collPlan (s : State) (x : Nat) (reduce : Bool) (c : CollF) : Option PlanF :=
  match s.planF c.plan with
  | none => none
  | some f =>
    if f.ctx = x && f.reduce = reduce && f.hash = c.hash && decide (c.entry < f.lcount)
        && (s.listEntry f c.entry).tensor = c.tensor then some f else none

/-- A collective message that R293 drops. -/
def State.shapeMismatch (s : State) (x : Nat) (c : CollF) : State :=
  (s.bump K.SHAPE_MISMATCH_DROPS 1).event ringIO0 0x11 (x <<< 52 + c.plan <<< 44 + c.entry <<< 24 + c.unit)

/-- Adds two partials element by element (R307): the sums and the flushes. -/
def addUnits (a b : List (BitVec 32)) : List Nat × Nat :=
  let rs := (a.zip b).map (fun p => addF32 (decodeElem .fp32 p.1.toNat) (decodeElem .fp32 p.2.toNat))
  (rs.map (fun r => (roundIeee .fp32 .nearest r.val).code), (rs.filter (·.flush)).length)

/-- An engine adds two partials in its three copies (R307, R312, R437): the sums, flushes and non-finite results counted. -/
def State.addVoted (s : State) (x : Nat) (a b : List (BitVec 32)) : State × List (BitVec 32) :=
  let r := addUnits a b
  let v := s.voted .fp32 r.1
  let cs := v.2.map (BitVec.ofNat 32)
  let s := if r.2 = 0 then v.1 else v.1.bump K.OUTPUT_FLUSHES r.2
  (s.engineNonfinite x (cs.filter f32Bad).length, cs)

/-! ### GATHER: fetches and messages (R294, R295, R301) -/

/-- A GATHER plan fetches its next unit (R294, R295, R298, R328). -/
def State.gatherFetch (s : State) (p : Nat) : State :=
  match s.planF p with
  | none => s
  | some f =>
    let q := s.plan p
    let k := q.count.taken
    let c := s.cx f.ctx
    let lu := s.listUnits f
    match c.curStep, findUnit s f f.lcount 0 (k % max 1 lu) with
    | some t, some (i, u) =>
      if !s.live || f.reduce || c.st ≠ .opened || !waitGe (s.sem (.pkg f.io f.go)) (k + 1)
          || decide (64 ≤ (q.units.filter (fun u => !u.done)).length) then s
      else
        let e := s.listEntry f i
        let v := (t.num + 2 ^ 16 - 1) % 2 ^ 16
        let unit : GatherUnit := {
          k := k
          tensor := e.tensor
          unit := u
          start := s.now
          limit := s.parMs K.COLLECTIVE_TIMEOUT
          step := t.num
          version := v }
        let s := s.setPlan p { q with count := { q.count with taken := k + 1 }, units := q.units ++ [unit] }
        let s := s.modCx f.ctx (fun c => c.charge (fun t =>
          let g := Tbl.get t.gathers (k, 0) p
          { t with gathers := Tbl.put t.gathers (0, 0) p (g.1, g.2 + 1) }))
        let own := f.owner u e.tensor
        if own = f.rank then s.serveGather f p ⟨f.rank, i, e.tensor, u, v, [], []⟩
        else s.sendEp f.io (f.epBase + own) f.ctx 7 5 (collSlots (s.identity f.ctx) p i u 0 0 0 f.hash e.tensor)
    | _, _ => s

/-- A gather request lands at the owner (R293, R298). -/
def State.landGatherReq (s : State) (m : Msg) (_io e x : Nat) (_step : Option (Nat × Nat)) : State :=
  let c := m.coll
  match s.collPlan x false c with
  | none => s.shapeMismatch x c
  | some f =>
    let v := (m.stepId.tag + 2 ^ 16 - 1) % 2 ^ 16
    s.serveGather f c.plan ⟨e - f.epBase, c.entry, c.tensor, c.unit, v, [], []⟩

/-- A gather reply lands at the requester (R232, R293, R303). -/
def State.landGatherReply (s : State) (m : Msg) (io _e x : Nat) (_step : Option (Nat × Nat)) : State :=
  let c := m.coll
  match s.collPlan x false c with
  | none => s.shapeMismatch x c
  | some f =>
    let r := s.checkArrived io x f.wkey (m.blocks 3)
    r.1.unitBlocksIn f c.plan c.entry c.tensor c.unit (r.2.zipIdx.map (fun b => (c.first + b.2, b.1)))

/-- The first of some waits whose deadline, its start plus its limit, none of the others precedes. -/
def firstDue (l : List α) (due : α → Nat) : Option α := l.find? (fun a => l.all (fun b => due a ≤ due b))

/-- COLLECTIVE_TIMEOUT ends for the unit in flight of a plan whose deadline comes first (R301). -/
def State.gatherTimeout (s : State) (p : Nat) : State :=
  match s.planF p with
  | none => s
  | some f =>
    let q := s.plan p
    match firstDue (q.units.filter (fun u => !u.done)) (fun u => u.start + u.limit) with
    | none => s
    | some u =>
      if f.reduce then s
      else
        let s := s.reach (u.start + u.limit)
        let s := s.setPlan p { q with held := q.held.filter (fun g => !(g.rank = f.rank && g.unit = u.unit && g.tensor = u.tensor
          && g.version = u.version)) }
        s.landStale f p u

/-! ### REDUCE (R304 to R310) -/

/-- Levels of the tree: `⌈log2 G⌉` (R306). -/
def treeLevels (g : Nat) : Nat := if g ≤ 1 then 0 else Nat.log2 (g - 1) + 1

/-- Relative rank of this part for a unit (R306). -/
def PlanF.rel (f : PlanF) (unit tensor : Nat) : Nat := (f.rank + f.size - f.owner unit tensor) % f.size

/-- Rank of a relative rank for a unit. -/
def PlanF.absRank (f : PlanF) (unit tensor q : Nat) : Nat := (f.owner unit tensor + q) % f.size

/-- The partial held from a child for a reduction, when every block of it is there (R308). -/
def PlanSt.partialOf (q : PlanSt) (f : PlanF) (r : Reduction) (child : Nat) : Option HeldPartial :=
  q.partials.find? (fun h => h.unit = r.unit && h.tensor = r.tensor && h.round = r.round && h.tag = r.step % 2 ^ 16
    && h.attempt = r.attempt && h.rank = child && h.blocks.length = unitBlocks f.wfmt)

/-- Sends a partial to its parent in the tree (R306, R307, R413) under the step of its reduction (R314). -/
def State.sendPartial (s : State) (f : PlanF) (p : Nat) (r : Reduction) (dest : Nat) : State :=
  let enc := encodeUnit f.wfmt r.tensor (r.step % 2 ^ 16) r.acc
  let id : StepId := ⟨r.step % 2 ^ 16, r.attempt, false⟩
  let s := (s.bump K.REDUCE_PARTIALS_SENT 1).engineNonfinite f.ctx (enc.1.map (badElems f.wfmt)).sum
  let s := if enc.2 = 0 then s else s.bump K.OUTPUT_FLUSHES enc.2
  ((runs 4 enc.1).zipIdx).foldl (fun s b =>
    s.sendEp f.io (f.epBase + dest) f.ctx 9 5
      (collSlots id p r.entry r.unit r.round b.1.length (4 * b.2) f.hash r.tensor ++ (b.1.map Block.slots).flatten)) s

/-- The key of an owned unit's rounds added: the pass of the plan's submissions over list and rounds, and the unit's position
in the list. -/
def addedKey (pass pos : Nat) : Nat := pass * 2 ^ 48 + pos

/-- READYSEM rises for the owned units that complete the run (R310), pass by pass, at most `n`. Passes that READYSEM had
counted when every uncommitted step opened are forgotten. -/
def State.readyRun (f : PlanF) (p : Nat) (owned : List (Nat × Nat × Nat)) : Nat → State → State
  | 0, s => s
  | n + 1, s =>
    let q := s.plan p
    let len := max 1 owned.length
    match owned[q.count.ready % len]? with
    | none => s
    | some (pos, _, _) =>
      if Tbl.get q.added 0 (addedKey (q.count.ready / len) pos) < f.rounds then s
      else
        let low := (s.cx f.ctx).steps.foldl (fun n t => min n (Tbl.get t.planCounts {} p).ready) (q.count.ready + 1)
        let s := s.setPlan p { q with
          count := { q.count with ready := q.count.ready + 1 }
          added := q.added.filter (fun (e : Nat × Nat) => decide (low / len ≤ e.1 / 2 ^ 48)) }
        State.readyRun f p owned n (s.planPost f f.ready)

/-- Adds a round's sum into the accumulator (R309, R312). -/
def State.accumulate (s : State) (f : PlanF) (u : UnitSum) : State :=
  let off := f.slotOff (s.listEntry f u.entry) u.unit 32768
  let old := (List.range 16).map (fun b => s.readBlock f.skey (off / 2048 + b))
  let r := if u.round = 0 then (s, u.els)
    else
      let s := (s.bursts 1 f.skey off 32768).engineNonfinite f.ctx (old.map (badElems 2)).sum
      s.addVoted f.ctx ((old.map (fun b => (decodeBlock 2 b).1)).flatten) u.els
  let s := r.1.engineNonfinite f.ctx (r.2.filter f32Bad).length
  ((runs 512 r.2).zipIdx).foldl (fun s b =>
    s.enginePut f.ctx f.skey (off + 2048 * b.2)
      (engineBlock u.tensor (16 * u.unit + b.2) 2 false (u.step % 2 ^ 16) (packCodes 32 (b.1.map (·.toNat))))) s

/-- Adds the sums that may be added now, at most `n` (R309): their step has opened at the root, and every earlier round of
the unit has been added. -/
def State.addSums (f : PlanF) (p : Nat) : Nat → State → State
  | 0, s => s
  | n + 1, s =>
    let q := s.plan p
    let c := s.cx f.ctx
    match q.sums.find? (fun u => c.steps.any (fun t => t.num = u.step)
        && Tbl.get q.added 0 (addedKey u.pass u.pos) = u.round) with
    | none => s
    | some u =>
      let s := s.setPlan p { q with
        sums := q.sums.erase u
        added := Tbl.put q.added 0 (addedKey u.pass u.pos) (u.round + 1) }
      let s := (s.accumulate f u).bump K.REDUCE_UNITS_ROOTED 1
      let owned := s.ownedUnits f
      State.addSums f p n (State.readyRun f p owned (2 * owned.length) s)

/-- Runs a reduction through the tree as far as its partials have come (R306), at most `n` levels. -/
def State.runReduction (f : PlanF) (p : Nat) : Nat → State → Reduction → State
  | 0, s, _ => s
  | n + 1, s, r =>
    let q := f.rel r.unit r.tensor
    let keep (s : State) : State := s.setPlan p { s.plan p with reds := (s.plan p).reds ++ [r] }
    if treeLevels f.size ≤ r.level then
      let lu := max 1 (s.listUnits f)
      let u : UnitSum := ⟨r.unit, r.tensor, r.entry, r.k % lu, r.k / (lu * f.rounds), r.round, r.step, r.acc⟩
      State.addSums f p ((s.plan p).sums.length + 1) (s.setPlan p { s.plan p with sums := (s.plan p).sums ++ [u] })
    else
      let w := 2 ^ r.level
      if q % (2 * w) = w then s.sendPartial f p r (f.absRank r.unit r.tensor (q - w))
      else if q % (2 * w) = 0 && decide (q + w < f.size) then
        match (s.plan p).partialOf f r (f.absRank r.unit r.tensor (q + w)) with
        | none => keep s
        | some h =>
          let els := ((List.range h.blocks.length).map (fun i => ((h.blocks.find? (fun b => b.1 = i)).map (·.2)).getD [])).flatten
          let a := (s.setPlan p { s.plan p with partials := (s.plan p).partials.erase h }).addVoted f.ctx r.acc els
          State.runReduction f p n a.1 { r with acc := a.2, level := r.level + 1 }
      else State.runReduction f p n s { r with level := r.level + 1 }

/-- A REDUCE plan takes its next submission (R294, R304, R305, R336, R351). -/
def State.reduceSubmission (s : State) (p : Nat) : State :=
  match s.planF p with
  | none => s
  | some f =>
    let q := s.plan p
    let i := q.count.taken
    let c := s.cx f.ctx
    let lu := max 1 (s.listUnits f)
    match c.curStep, findUnit s f f.lcount 0 (i % lu) with
    | some t, some (e, u) =>
      if !s.live || !f.reduce || c.st ≠ .opened || !waitGe (s.sem (.pkg f.io f.go)) (i + 1) then s
      else
        let n := unitBlocks f.sfmt
        let base := f.woff + 2048 * n * (i % f.wunits)
        let s := s.bursts 1 f.wkey base (2048 * n)
        let r := (List.range n).foldl (fun (acc : State × List Block) b =>
          let c := acc.1.checkBlock (32 + f.io) f.ctx f.wkey false (acc.1.readBlock f.wkey (base / 2048 + b))
          (c.1, acc.2 ++ [c.2.1])) (s, [])
        let s := r.1.modCx f.ctx (fun c => c.charge (fun t => r.2.foldl Step.digest t))
        let s := s.setPlan p { q with count := { q.count with taken := i + 1, done := i + 1 } }
        let s := s.planPost f f.done
        if c.openStep.isNone then s
        else
          let dec := r.2.map (decodeBlock f.sfmt)
          let els := (dec.map (·.1)).flatten
          let fl := (dec.map (·.2)).sum
          let s := if fl = 0 then s else s.bump K.INPUT_FLUSHES fl
          let s := s.engineNonfinite f.ctx (els.filter f32Bad).length
          State.runReduction f p 16 s
            { unit := u
              tensor := (s.listEntry f e).tensor
              entry := e
              round := i / lu % f.rounds
              step := t.num
              k := i
              attempt := t.attempt
              acc := els
              level := 0
              start := s.now
              limit := s.parMs K.COLLECTIVE_TIMEOUT }
    | _, _ => s

/-- A partial lands (R232, R293, R308): it is kept, and used when its reduction waits for it. -/
def State.landPartial (s : State) (m : Msg) (io e x : Nat) (_step : Option (Nat × Nat)) : State :=
  let c := m.coll
  match s.collPlan x true c with
  | none => s.shapeMismatch x c
  | some f =>
    let r := s.checkArrived io x f.wkey (m.blocks 3)
    let dec := r.2.map (decodeBlock f.wfmt)
    let new := dec.zipIdx.map (fun b => (c.first + b.2, b.1.1))
    let fl := (dec.map (·.2)).sum
    let s := if fl = 0 then r.1 else r.1.bump K.INPUT_FLUSHES fl
    let s := s.engineNonfinite x (dec.map (fun b => (b.1.filter f32Bad).length)).sum
    let q := s.plan c.plan
    let same (h : HeldPartial) : Bool := h.unit = c.unit && h.tensor = c.tensor && h.round = c.round
      && h.tag = m.stepId.tag && h.attempt = m.stepId.attempt && h.rank = e - f.epBase
    let h0 : HeldPartial := (q.partials.find? same).getD
      ⟨c.unit, c.tensor, c.round, m.stepId.tag, m.stepId.attempt, e - f.epBase, []⟩
    let h := { h0 with blocks := h0.blocks.filter (fun b => !new.any (fun n => n.1 = b.1)) ++ new }
    let s := s.setPlan c.plan { q with partials := q.partials.filter (fun g => !same g) ++ [h] }
    match q.reds.find? (fun r => r.unit = c.unit && r.tensor = c.tensor && r.round = c.round
        && r.step % 2 ^ 16 = m.stepId.tag && r.attempt = m.stepId.attempt) with
    | none => s
    | some r =>
      let s := s.setPlan c.plan { s.plan c.plan with reds := (s.plan c.plan).reds.erase r }
      State.runReduction f c.plan 16 s r

/-- COLLECTIVE_TIMEOUT ends for a unit that waits on a child (R311, R332): of the reductions of that unit and round, the one
whose deadline comes first. -/
def State.collTimeout (s : State) (p unit round : Nat) : State :=
  match s.planF p with
  | none => s
  | some f =>
    let q := s.plan p
    match firstDue (q.reds.filter (fun r => r.unit = unit && r.round = round)) (fun r => r.start + r.limit) with
    | none => s
    | some r =>
      let s := s.reach (r.start + r.limit)
      let child := f.absRank r.unit r.tensor (f.rel r.unit r.tensor + 2 ^ r.level)
      let s := s.setPlan p { q with reds := q.reds.erase r }
      let s := (s.bump K.COLLECTIVE_TIMEOUTS 1).event ringIO0 0x12
        (f.ctx <<< 52 + p <<< 45 + unit <<< 21 + round <<< 13 + child)
      let s := s.failStep f.ctx 3
      s.reportCtx 0x05 f.ctx (p + unit <<< 7 + round <<< 31 + child <<< 39)

/-! ### The rows -/

/-- GATHER_FETCH (R295). -/
def execGatherFetch (p : Fin 128) (s : State) : Outcome := s.ends (s.gatherFetch p.val)
/-- GATHER_REQ (R298). -/
def execGatherReq (m : List (BitVec 128)) (s : State) : Outcome :=
  s.ends (s.receive 7 m (fun t => t.landGatherReq m))
/-- GATHER_REPLY (R303). -/
def execGatherReply (m : List (BitVec 128)) (s : State) : Outcome :=
  s.ends (s.receive 8 m (fun t => t.landGatherReply m))
/-- GATHER_UNIT_TIMEOUT (R301). -/
def execGatherUnitTimeout (p : Fin 128) (s : State) : Outcome := s.ends (s.gatherTimeout p.val)
/-- REDUCE_SUBMISSION (R304). -/
def execReduceSubmission (p : Fin 128) (faults : List CopyFault) (s : State) : Outcome :=
  s.ends ((s.withFaults faults).reduceSubmission p.val).regather
/-- PARTIAL (R306). -/
def execPartialMsg (m : List (BitVec 128)) (faults : List CopyFault) (s : State) : Outcome :=
  s.ends ((s.withFaults faults).receive 9 m (fun t => t.landPartial m)).regather
/-- COLLECTIVE_TIMEOUT (R311). -/
def execCollectiveTimeout (p : Fin 128) (unit : BitVec 24) (round : BitVec 8) (s : State) : Outcome :=
  s.ends (s.collTimeout p.val unit.toNat round.toNat)

/-- An access reaches its memory: a write on its way takes effect, or a word is read with an error; then held gathers are
judged again (R228, R253, R299, R366, R370, R436). -/
def State.accessArrives (s : State) (e : AccessEv) : State :=
  match e with
  | .write i => (s.arriveAt i).regather
  | e => s.memError e

/-- MEMORY_ACCESS_ARRIVAL (R366). -/
def execMemoryAccessArrival (ev : AccessEv) (s : State) : Outcome := s.ends (s.accessArrives ev)

end Sys2Proof.Machine
end

