-- ==== Sys2Proof/Machine/Commands.lean ====
section
/-!
DEFINITION. The command processor (R173 to R192): reading commands, RUN, SIGNAL and WAIT.
-/

namespace Sys2Proof.Machine

/-! ### Reading (R177 to R181, R344, R354, R479) -/

/-- R181: a reserved opcode, PAGE value or C field, or a reserved field that is not 0. -/
def Cmd.bad (p : Part) (c : Cmd) : Bool :=
  let w := c.word.toNat
  let op := c.op
  let plain := decide (1 ≤ op) && decide (op ≤ 4)
  let step := decide (0x10 ≤ op) && decide (op ≤ 0x13)
  !(plain || step) || bits w 460 448 ≠ 0 || bits w 224 0 ≠ 0 || (op = 1 && bits w 271 270 = 3)
    || bits w 269 268 = 3 || (bits w 269 268 = 2 && p.ioDies ≤ bits w 267 266)
    || (op = 4 && bits w 269 268 = 0)
    || (step && (bits w 415 384 ≠ 0 || bits w 319 270 ≠ 0 || bits w 382 380 ≠ 0 || bits w 375 372 ≠ 0))

/-- The command processor reads the next command of a context (R177): a bad one completes at once (R181), and after a
rollback every command before a STEP.OPEN is ABORTED (R344). -/
def State.readCmd (s : State) (x : Nat) : State :=
  let c := s.cx x
  let cfg := s.par (K.CONTEXT_STREAM_CFG + x)
  let sem := s.sem (.pkg 0 (bits cfg 45 32))
  if !s.live || c.st ≠ .opened || c.orphaned || c.cur.isSome || c.read % 2 ^ 24 = sem.toNat then s
  else
    let a := s.par (K.CONTEXT_STREAM_BASE + x) + 64 * (c.read % 2 ^ bits cfg 4 0)
    let cmd : Cmd := { n := c.read, word := BitVec.ofNat 512 (ofBytes (s.readSpace 0 a 64)), gen := c.gen }
    let s := (s.modCx x (fun q => { q with read := (q.read + 1) % 2 ^ 32, cur := some cmd })).progressCx x
    if cmd.bad s.part then (s.bump K.BAD_COMMANDS 1).finish x cmd 7 0 0 0
    else if cmd.op = 0x10 then s.modCx x (fun q => { q with aborting := false })
    else if c.aborting then s.finish x cmd 9 0 0 0
    else s

/-! ### RUN (R186, R149, R106, R439, R509, R565) -/

/-- The page that a RUN makes active in a cluster. -/
def Cluster.runPage (l : Cluster) : Bool := l.loaded.getD l.active

/-- Is a page of a cluster valid? -/
def Cluster.pageValid (l : Cluster) (p : Bool) : Bool := if p then l.valid1 else l.valid0

/-- A core at a program start (R149, R106): epilogue state at its defaults, counters 0; the weight tile goes when another
context or generation loaded it. -/
def Core.start (o : Core) (x gen : Nat) : Core :=
  { o with
    epi := {}
    vkeys := {}
    ckeys := {}
    jobs := []
    passMax := []
    half := []
    evc := []
    tile := if o.tile.ctx = x && o.tile.gen = gen then o.tile else {} }

/-- Starts a cluster from slot 0 of its page (R186, R509); a sleeping cluster wakes (R565). -/
def State.startCluster (s : State) (x c n : Nat) : State :=
  let s := s.wakeCluster c
  let g := (s.cx x).gen
  let ev := BitVec.ofNat 128 (s.par (K.COUNTER_EVENTS + x))
  let mode := bit (s.par K.COUNTER_MODE) (c / 8)
  let s := (s.coresOf c).foldl (fun s k => s.modCo k (fun o => o.start x g)) s
  s.modCl c (fun l => { l with
    active := l.runPage
    loaded := none
    running := true
    ended := false
    pc := 0
    frames := []
    wait := none
    posts := []
    issue := 0
    ctx := x
    gen := g
    tag := n % 2 ^ 32
    codes := ev
    modeB := mode
    started := s.now
    progress := true })

/-- The RUN of a context is refused, waits for a boundary or a self-test, or starts its clusters (R186, R439). -/
def State.runCmd (s : State) (x : Nat) : State :=
  match s.curCmd x 2 with
  | none => s
  | some c =>
    let cs := mapBits (bits c.word.toNat 415 384)
    if cs = [] then s.finish x c 4 0 0 0
    else
      match cs.find? (fun k => !s.holds x k) with
      | some k => s.finish x c 4 0 0 k
      | none =>
        if cs.any (fun k => (s.cl k).testing) then
          cs.foldl (fun s k => s.modCl k (fun l =>
            if l.testing && l.runSince.isNone then { l with runSince := some s.now } else l)) s
        else if cs.any (fun k => (s.cl k).running || s.frozen k) || s.power.state ≠ .active then s
        else
          match cs.find? (fun k => !(s.cl k).pageValid (s.cl k).runPage) with
          | some k => s.finish x c 5 0 0 k
          | none =>
            let s := cs.foldl (fun s k => s.startCluster x k c.n) s
            (s.modCx x (fun q => { q with
              cur := none
              running := q.running ++ [{ c with left := bits c.word.toNat 415 384 }] })).progressCx x

/-! ### SIGNAL and WAIT (R179, R205) -/

/-- SIGNAL is accepted, and completes, when every earlier command of the context has completed. -/
def State.signalCmd (s : State) (x : Nat) : State :=
  match s.curCmd x 3 with
  | none => s
  | some c => if (s.cx x).running = [] then s.finish x c 1 0 0 0 else s

/-- WAIT completes without an ADD (R179). -/
def State.finishWait (s : State) (x : Nat) (c : Cmd) : State :=
  (s.modCx x (fun q => { q with cur := none, wait := none })).completeCmd x c 1 0 0 0 false

/-- WAIT comes into force, or is accepted when its semaphore satisfies it (R179, R205). -/
def State.waitCmd (s : State) (x : Nat) : State :=
  match s.curCmd x 4 with
  | none => s
  | some c =>
    let w := c.word.toNat
    match semOfC (bits w 269 268) (bits w 267 266) (bits w 265 263) (bits w 262 249), (s.cx x).wait with
    | none, _ => s
    | some r, none =>
      if bits w 269 268 = 1 && !s.holds x (bits w 267 263) then s.finish x c 4 0 0 0
      else if waitGe (s.sem r) (bits w 248 225) then (s.finishWait x c)
      else s.modCx x (fun q => { q with
        wait := some ⟨r, bits w 248 225, s.now, s.parMs K.SEM_WAIT_TIMEOUT, false, false⟩ })
    | some _, some t => if t.granted then s.finishWait x c else s
end Sys2Proof.Machine
end

