-- ==== Sys2Proof/Machine/CoreRows.lean ====
section
/-!
DEFINITION. The meanings of the rows of cores, sequencers, DMA engines, command streams, hang detectors and drawers
(chapters 04 to 09): each is one operation of the files before it.
-/

namespace Sys2Proof.Machine

/-! ### Broadcast instructions (R139, R140, R194) -/

/-- MMA (R144). -/
def execMma (cl : Fin 32) (s : State) : Outcome := s.ends (s.broadcast cl.val .mma)

/-- ARRAY.WARM (R122). -/
def execArrayWarm (cl : Fin 32) (s : State) : Outcome := s.ends (s.broadcast cl.val .arrayWarm)

/-- EPI.FMT (R149). -/
def execEpiFmt (cl : Fin 32) (s : State) : Outcome := s.ends (s.broadcast cl.val .epiFmt)

/-- EPI.SCALE (R149). -/
def execEpiScale (cl : Fin 32) (s : State) : Outcome := s.ends (s.broadcast cl.val .epiScale)

/-- EPI.CLIP (R149). -/
def execEpiClip (cl : Fin 32) (s : State) : Outcome := s.ends (s.broadcast cl.val .epiClip)

/-- EPI.KEYS (R149). -/
def execEpiKeys (cl : Fin 32) (s : State) : Outcome := s.ends (s.broadcast cl.val .epiKeys)

/-- EPI.STRIDE (R149). -/
def execEpiStride (cl : Fin 32) (s : State) : Outcome := s.ends (s.broadcast cl.val .epiStride)

/-- VADD (R154). -/
def execVadd (cl : Fin 32) (s : State) : Outcome := s.ends (s.broadcast cl.val .vadd)

/-- VSUB (R154). -/
def execVsub (cl : Fin 32) (s : State) : Outcome := s.ends (s.broadcast cl.val .vsub)

/-- VMUL (R154). -/
def execVmul (cl : Fin 32) (s : State) : Outcome := s.ends (s.broadcast cl.val .vmul)

/-- VFMA (R154). -/
def execVfma (cl : Fin 32) (s : State) : Outcome := s.ends (s.broadcast cl.val .vfma)

/-- VMAX (R154). -/
def execVmax (cl : Fin 32) (s : State) : Outcome := s.ends (s.broadcast cl.val .vmax)

/-- VMIN (R154). -/
def execVmin (cl : Fin 32) (s : State) : Outcome := s.ends (s.broadcast cl.val .vmin)

/-- VSEL (R154). -/
def execVsel (cl : Fin 32) (s : State) : Outcome := s.ends (s.broadcast cl.val .vsel)

/-- VEXP2 (R154). -/
def execVexp2 (cl : Fin 32) (s : State) : Outcome := s.ends (s.broadcast cl.val .vexp2)

/-- VLOG2 (R154). -/
def execVlog2 (cl : Fin 32) (s : State) : Outcome := s.ends (s.broadcast cl.val .vlog2)

/-- VRCP (R154). -/
def execVrcp (cl : Fin 32) (s : State) : Outcome := s.ends (s.broadcast cl.val .vrcp)

/-- VRSQRT (R154). -/
def execVrsqrt (cl : Fin 32) (s : State) : Outcome := s.ends (s.broadcast cl.val .vrsqrt)

/-- VDOT (R154, R156). -/
def execVdot (cl : Fin 32) (s : State) : Outcome := s.ends (s.broadcast cl.val .vdot)

/-- CVT (R159). -/
def execCvt (cl : Fin 32) (s : State) : Outcome := s.ends (s.broadcast cl.val .cvt)

/-- DMA.ISSUE (R165, R168). -/
def execDmaIssue (cl : Fin 32) (s : State) : Outcome := s.ends (s.broadcast cl.val .dmaIssue)

/-- QCFG (R170). -/
def execQcfg (cl : Fin 32) (s : State) : Outcome := s.ends (s.broadcast cl.val .qcfg)

/-- QRESET (R137). -/
def execQreset (cl : Fin 32) (s : State) : Outcome := s.ends (s.broadcast cl.val .qreset)

/-- QMOVE (R171). -/
def execQmove (cl : Fin 32) (s : State) : Outcome := s.ends (s.broadcast cl.val .qmove)

/-- QDROP (R172). -/
def execQdrop (cl : Fin 32) (s : State) : Outcome := s.ends (s.broadcast cl.val .qdrop)

/-! ### Sequencer instructions -/

/-- NOP. -/
def execNop (cl : Fin 32) (s : State) : Outcome := s.ends (s.seqNop cl.val)
/-- LOOP (R167). -/
def execLoop (cl : Fin 32) (s : State) : Outcome := s.ends (s.seqLoop cl.val)
/-- END (R193). -/
def execEndProg (cl : Fin 32) (s : State) : Outcome := s.ends (s.seqEnd cl.val)
/-- SEM.WAIT (R162). -/
def execSemWait (cl : Fin 32) (s : State) : Outcome := s.ends (s.seqWait cl.val)
/-- SEM.ADD (R161, R163, R204). -/
def execSemAdd (cl : Fin 32) (s : State) : Outcome := s.ends (s.seqPost cl.val .semAdd)
/-- SEM.SUB (R161, R163, R204). -/
def execSemSub (cl : Fin 32) (s : State) : Outcome := s.ends (s.seqPost cl.val .semSub)

/-! ### Arrays -/

/-- A step of a ramp-down (R117, R573). -/
def execArrayRampDown (core : Fin 256) (s : State) : Outcome := s.ends (s.rampDown core.val)
/-- A step of a climb (R119). -/
def execArrayRampUp (core : Fin 256) (s : State) : Outcome := s.ends (s.rampUp core.val)

/-! ### Semaphores -/

/-- A waiting post takes effect at its sequencer (R163, R204). -/
def execFencedPostEffect (cl : Fin 32) (s : State) : Outcome := s.ends (s.postNext cl.val)

/-- The `i`-th post on its way reaches its semaphore, or is dropped as stale (R199, R478). While its path is stopped, it
waits (R14, R482). -/
def State.postArrives (s : State) (i : Nat) : State :=
  match s.posts[i]? with
  | none => s
  | some p =>
    if s.pathWaits p.src p.sem.node then s else
    let s := { s with posts := s.posts.eraseIdx i }
    if s.stale p.ctx p.gen then s.dropStale else s.applySem p.sem p.sub p.value

/-- SEMAPHORE_POST_ARRIVAL (R199, R200). -/
def execSemaphorePostArrival (i : Nat) (s : State) : Outcome := s.ends (s.postArrives i)

/-- The wake notice of a granted wait reaches its stream (R200, R205, R207). -/
def State.wake (s : State) (st : Stream) : State :=
  match st with
  | .cluster c => s.wakeCl c
  | .command x =>
    match s.curCmd x 4, (s.cx x).wait with
    | some c, some w => if w.granted then s.finishWait x c else s
    | _, _ => s

/-- SEM_WAIT_WAKE. -/
def execSemWaitWake (st : Stream) (s : State) : Outcome := s.ends (s.wake st)
/-- SEM_WAIT_TIMEOUT (R219 to R221). -/
def execSemWaitTimeout (st : Stream) (s : State) : Outcome := s.ends (s.waitTimeout st)

/-! ### DMA, program boundaries and queue moves -/

/-- A transfer's last writes become visible and it completes, when nothing of it is left to do (R239). -/
def State.dmaComplete (s : State) (c seq : Nat) : State :=
  match s.xfer c seq with
  | none => s
  | some _ =>
    let s := s.flushXfer c seq
    match s.xfer c seq with
    | none => s
    | some t => if s.xferDone c t && !s.recordAsleep t then ((s.completeXfer c t false).settle c).regather else s.regather

/-- DMA_COMPLETION (R239). -/
def execDmaCompletion (cl : Fin 32) (seq : BitVec 32) (s : State) : Outcome := s.ends (s.dmaComplete cl.val seq.toNat)
/-- DMA_TIMEOUT (R240). -/
def execDmaTimeout (cl : Fin 32) (seq : BitVec 32) (s : State) : Outcome := s.ends (s.dmaTimeout cl.val seq.toNat)

/-- END completes when all that the program started has completed (R169). -/
def State.programBoundary (s : State) (c : Nat) : State := if s.atEnd c then s.boundary c else s

/-- PROGRAM_BOUNDARY (R169). -/
def execProgramBoundary (cl : Fin 32) (s : State) : Outcome := s.ends (s.programBoundary cl.val)

/-- The die that a QMOVE, or a remote WRITE to a queue, comes from (R14). -/
def MoveFlight.node (m : MoveFlight) : Nat :=
  match m.remote with
  | some (io, _, _) => 4 + io
  | none => m.src / 64

/-- The `i`-th QMOVE on its way reaches its destination (R171), once its path is open (R14, R482). -/
def State.moveArrives (s : State) (i : Nat) : State :=
  match s.moves[i]? with
  | none => s
  | some m => if s.pathWaits m.node (m.dst / 64) then s else s.arriveMove m

/-- QMOVE_ARRIVAL (R171). -/
def execQmoveArrival (i : Nat) (s : State) : Outcome := s.ends (s.moveArrives i)

/-! ### Command streams -/

/-- COMMAND_READ (R177, R181). -/
def execCommandRead (x : Fin 16) (s : State) : Outcome := s.ends (s.readCmd x.val)
/-- LOAD (R184 to R190). -/
def execLoad (x : Fin 16) (s : State) : Outcome := s.ends (s.load x.val)
/-- RUN (R186). -/
def execRun (x : Fin 16) (s : State) : Outcome := s.ends (s.runCmd x.val)
/-- SIGNAL (R179). -/
def execSignal (x : Fin 16) (s : State) : Outcome := s.ends (s.signalCmd x.val)
/-- WAIT (R179, R205). -/
def execWait (x : Fin 16) (s : State) : Outcome := s.ends (s.waitCmd x.val)

/-! ### Hangs and status flags -/

/-- HANG_SCAN (R214 to R216). -/
def execHangScan (s : State) : Outcome := s.ends s.hangScan
/-- HANG_DECLARATION (R216 to R218). -/
def execHangDeclaration (x : Fin 16) (s : State) : Outcome := s.ends (s.declareHang x.val)
/-- STATUS_FLAG_CLEAR (R223). -/
def execStatusFlagClear (entry : Nat) (mask : BitVec 32) (s : State) : Outcome := s.ends (s.clearFlags entry mask.toNat)

/-! ### Drawers -/

/-- DRAWER_SPILL_COPY (R275). -/
def execDrawerSpillCopy (x : Fin 16) (die : Fin 4) (s : State) : Outcome := s.ends (s.spillCopy x.val die.val)
/-- DRAWER_PAGE_GRANT (R279). -/
def execDrawerPageGrant (x : Fin 16) (die : Fin 4) (s : State) : Outcome := s.ends (s.pageGrant x.val die.val)
/-- STASH_TIMEOUT (R281). -/
def execStashTimeout (x : Fin 16) (die : Fin 4) (s : State) : Outcome := s.ends (s.stashTimeout x.val die.val)

end Sys2Proof.Machine
end

