-- ==== Sys2Proof/Machine/Ports.lean ====
section
/-!
DEFINITION. The link ports (R387 to R404, R415 to R417): codewords and flits received, retries, training, failure, and
messages that pass through; and faults of the links inside the package (R16, R17).
-/

namespace Sys2Proof.Machine

/-! ### Receiving (R388 to R393, R402) -/

/-- Is a MGMT message for this part (R529)? -/
def State.forMgmt (s : State) (m : Msg) : Bool := m.common.daddr = 0xFFFFFF || (s.ioOf m).isSome

/-- A MGMT message joins the request queue (R534, R571): a full queue drops it, and in DEEP one that would cross a compute
die is dropped. One whose path to IO0 is stopped waits where it arrived (R14, R482). -/
def State.queueMgmt (s : State) (q : Nat) (m : Msg) : State :=
  let l := s.service.mgmt.queue
  if s.pathWaits (4 + q / 9) 4 then { s with links := { s.links with inbox := s.links.inbox ++ [(q, m)] } }
  else if s.power.state = .deep && decide (9 ≤ q) then s.bump K.DEEP_CROSSING_DROPS 1
  else if 64 ≤ l.length then s.bump K.MGMT_QUEUE_DROPS 1
  else { s with service := { s.service with mgmt := { s.service.mgmt with queue := l ++ [(q, m)] } } }

/-- MGMT messages that waited for their path go on. -/
def State.queueWaiting (s : State) : State :=
  let mine := s.links.inbox.filter (fun p => p.2.common.mtype = 1 && s.forMgmt p.2)
  mine.foldl (fun s p => s.queueMgmt p.1 p.2)
    { s with links := { s.links with inbox := s.links.inbox.filter (fun p => !mine.contains p) } }

/-- Takes whole messages from the slots received, at most `n`; NULL slots and malformed messages leave the buffer
(R391, R406). -/
def State.takeSlots (q : Nat) : Nat → State → State
  | 0, s => s
  | n + 1, s =>
    let p := s.port q
    match p.rxPart with
    | [] => s
    | h :: r =>
      let c := Msg.common [h]
      let len := max 1 c.slots
      if c.mtype = 0 && c.slots = 1 then State.takeSlots q n (s.setPort q { p with rxPart := r })
      else if p.rxPart.length < len then s
      else
        let m := p.rxPart.take len
        let p := { p with rxPart := p.rxPart.drop len }
        if Msg.wellFormed m then
          if c.mtype = 1 && s.forMgmt m then State.takeSlots q n ((s.setPort q (p.owe c.vc len)).queueMgmt q m)
          else
            let s := s.setPort q p
            State.takeSlots q n { s with links := { s.links with inbox := s.links.inbox ++ [(q, m)] } }
        else State.takeSlots q n ((s.setPort q (p.owe c.vc len)).bump K.BAD_MESSAGES 1)

/-- A flit has been received: its number, its slots, and whether a codeword that holds bits of it could not be corrected. It is
delivered in sequence and otherwise discarded (R390, R392): the flit that is due, when it is damaged, and the first one
behind a gap ask for a retry; those after it are discarded until the one that is due arrives. -/
def State.takeFlit (s : State) (q : Nat) (n : Nat) (bad : Bool) (slots : List (BitVec 128)) : State :=
  let p := s.port q
  let behind := (p.rxSeq + 4096 - n) % 4096
  if n = p.rxSeq then
    if bad then s.setPort q { p with retryReq := some n, asked := true }
    else
      State.takeSlots q 4096 (s.setPort q { p with
        rxSeq := (n + 1) % 4096
        rxPart := p.rxPart ++ slots
        retryReq := none
        asked := false })
  else if (1 ≤ behind && decide (behind ≤ 2048)) || p.asked then s
  else s.setPort q { p with retryReq := some p.rxSeq, asked := true }

/-- The 16 slots of a flit, the first in its lowest bits. -/
def flitSlots (v : Nat) : List (BitVec 128) := (List.range 16).map (fun i => BitVec.ofNat 128 (v >>> (128 * i)))

/-- A codeword's 5,100 bits of the flit stream arrive (R388 to R391): flits of 2,048 bits follow one another and straddle
codewords; FSEQ numbers the one that holds the first bit. A codeword that could not be corrected tells neither bits nor
number: every flit that it touches is damaged. -/
def State.codeword (s : State) (q : Nat) (ok : Bool) (ctl data : Nat) : State :=
  let p := s.port q
  let no := if ok then bits ctl 12 1 else p.rxNo
  let w := p.rxFlit + (if ok then data else 0) <<< p.rxBits
  let k := (p.rxBits + 5100) / 2048
  let s := s.setPort q { p with
    rxNo := (no + k) % 4096
    rxBits := (p.rxBits + 5100) % 2048
    rxFlit := w >>> (2048 * k)
    rxBad := !ok && (p.rxBits + 5100) % 2048 ≠ 0 }
  (List.range k).foldl (fun s i =>
    s.takeFlit q ((no + i) % 4096) (!ok || (i = 0 && p.rxBad)) (flitSlots (w >>> (2048 * i)))) s

/-- Flits that an ACK at a sequence frees (R393): all up to it, when the buffer holds it. -/
def Port.ack (p : Port) (n : Nat) : Port :=
  match p.retry.findIdx? (fun f => f.seq = n) with
  | none => p
  | some i => { p with retry := p.retry.drop (i + 1) }

/-- Resends the flits from a sequence on (R392, R393). -/
def State.resend (s : State) (q n : Nat) : State :=
  let p := s.port q
  match p.retry.findIdx? (fun f => f.seq = n) with
  | none => s
  | some i =>
    let k := p.retry.length - i
    (s.setPort q { p with
      line := p.line.take (if p.lineBits = 0 then 0 else 1) ++ (p.retry.drop i).map (·.seq)
      retry := p.retry.take i ++ (p.retry.drop i).map (fun f => { f with resent := f.resent + 1 })
      resentFlits := p.resentFlits + k }).bump K.FLIT_RETRIES k

/-- Sends what can be sent on a port. -/
def State.pumpPort (s : State) (q : Nat) : State := s.sendOn q (s.port q)

/-- The flits that the next pair of codewords still lacks are made of NULL slots (R388, R391), while the retry buffer has
room (R393). -/
def Port.fill (p : Port) : Port :=
  let k := ceilDiv (p.lineBits + 10200) 2048 - p.line.length
  (List.range k).foldl (fun p _ => if 2048 ≤ p.retry.length then p else p.flit) p

/-- The control field of the next codeword (R389): a RETRY_REQ that is due (R392); otherwise NORMAL with the last flit
received in order and the credits of the lowest VC that has some to return (R402). -/
def Port.field (p : Port) : Port :=
  let fseq := p.line.headD p.txSeq <<< 1
  let p := { p with
    line := p.line.drop ((p.lineBits + 5100) / 2048)
    lineBits := if p.line.length ≤ (p.lineBits + 5100) / 2048 then 0 else (p.lineBits + 5100) % 2048 }
  match p.retryReq with
  | some n => { p with ctl := p.ctl ++ [BitVec.ofNat 40 (1 <<< 37 + n <<< 25 + fseq)], retryReq := none }
  | none =>
    let v := ((List.range 8).find? (fun v => p.owed.getD v 0 ≠ 0)).getD 0
    let n := min (p.owed.getD v 0) 511
    { p with
      ctl := p.ctl ++ [BitVec.ofNat 40 ((p.rxSeq + 4095) % 4096 <<< 25 + v <<< 22 + n <<< 13 + fseq)]
      owed := p.owed.set v (p.owed.getD v 0 - n) }

/-- An ACTIVE port sends a pair of codewords as it receives one, both directions having one rate (R388; log entry 58). -/
def State.sendPair (s : State) (q : Nat) : State :=
  let p := s.port q
  if p.mode ≠ .active then s else s.setPort q { p.fill with ctl := [] }.field.field

/-- Acts on a control field (R389). -/
def State.control (s : State) (q : Nat) (w : Nat) : State :=
  let p := s.port q
  match bits w 39 37 with
  | 0 =>
    let v := bits w 24 22
    let p := p.ack (bits w 36 25)
    (s.setPort q { p with credits := p.credits.set v (p.credits.getD v 0 + bits w 21 13) }).pumpPort q
  | 1 => s.resend q (bits w 36 25)
  | 2 => s.retrainPort q
  | _ => s

/-- What the decoder makes of a codeword (R390): it counts the symbols it corrects, or the codeword. -/
def State.decoded (s : State) (q : Nat) (e : Option (Fin 16)) : State :=
  let p := s.port q
  match e with
  | some k =>
    if k.val = 0 then s
    else (s.setPort q { p with corrected := p.corrected + k.val }).bump K.FEC_CORRECTED_SYMBOLS k.val
  | none =>
    (s.setPort q { p with
      uncorrected := p.uncorrected + 1
      recent := p.recent.filter (fun t => s.now < t + unitsPerMs) ++ [s.now] }).bump K.FEC_UNCORRECTED_CODEWORDS 1

/-- A port receives a pair of codewords, and sends one. -/
def State.codewords (s : State) (q : Nat) (c : CodePair) : State :=
  let p := s.port q
  if !s.answering || !s.part.hasPort q || (p.mode ≠ .active && p.mode ≠ .training && p.mode ≠ .retraining) then s
  else
    let s := (s.decoded q c.errA).decoded q c.errB
    if p.mode ≠ .active then s
    else
      let s := s.codeword q c.errA.isSome c.ctlA.toNat c.dataA.toNat
      let s := s.codeword q c.errB.isSome c.ctlB.toNat c.dataB.toNat
      let s := if c.errA.isSome then s.control q c.ctlA.toNat else s
      let s := if c.errB.isSome then s.control q c.ctlB.toNat else s
      s.sendPair q

/-! ### Training and failure (R394 to R400, R432) -/

/-- A port loses its retry buffer and what it has half received (R399). -/
def State.losePort (s : State) (q : Nat) (mode : PortMode) : State :=
  let p := s.port q
  (s.setPort q { p with
    mode := mode
    txSeq := 0
    txPart := []
    line := []
    lineBits := 0
    ctl := []
    rxSeq := 0
    rxPart := []
    rxNo := 0
    rxBits := 0
    rxFlit := 0
    rxBad := false
    retry := []
    retryReq := none
    asked := false
    recent := []
    credits := [512, 256, 512, 512, 4096, 4096, 2048, 1024]
    owed := [0, 0, 0, 0, 0, 0, 0, 0]
    withheld := [] }).bump K.PORT_FLITS_LOST p.retry.length

/-- The sender has resent a flit 8 times without an ACK (R394). -/
def State.retryLimit (s : State) (q : Nat) : State :=
  if (s.port q).retry.any (fun f => decide (8 ≤ f.resent)) then s.retrainPort q else s

/-- More than PORT_UNCORR_LIMIT uncorrectable codewords in 1 ms (R397). -/
def State.uncorrLimit (s : State) (q : Nat) : State :=
  let p := s.port q
  if s.par K.PORT_UNCORR_LIMIT < (p.recent.filter (fun t => s.now < t + unitsPerMs)).length then s.retrainPort q else s

/-- May the port work: it is present and enabled (R395)? -/
def State.portOn (s : State) (q : Nat) : Bool := s.part.hasPort q && bit (s.par K.PORT_ENABLE) q

/-- A signal on every lane of a port in DETECT (R395). -/
def State.signalFound (s : State) (q : Nat) : State :=
  let p := s.port q
  if s.answering && s.portOn q && p.mode = .detect then s.setPort q { p with mode := .training } else s

/-- The width that the lanes that pass allow (R400): none where no usable pair does. -/
def State.trainedWidth (s : State) (q lanes : Nat) : Option Nat :=
  if lanes % 16 = 15 then some 0
  else if !bit (s.par K.PORT_WIDTH2) q then none
  else if lanes % 4 = 3 then some 1
  else if lanes / 4 % 4 = 3 then some 2
  else none

/-- The cause for which a training fails, in the order of its phases; 0 where it succeeds (R396). -/
def State.trainCause (s : State) (q lanes cause rtt : Nat) (host : Bool) : Nat :=
  if cause = 1 then 1
  else if (s.trainedWidth q lanes).isNone || cause = 6 then 6
  else if cause = 2 then 2
  else if 2300 < rtt || cause = 3 then 3
  else if host ≠ bit (s.par K.PORT_HOST) q || cause = 4 then 4
  else cause

/-- A training or retraining ends (R396, R399, R400). -/
def State.trainingEnd (s : State) (q lanes cause rtt : Nat) (host : Bool) : State :=
  let p := s.port q
  if !s.answering || !s.portOn q || (p.mode ≠ .training && p.mode ≠ .retraining) || decide (3 ≤ p.fails) then s
  else
    let c := s.trainCause q lanes cause rtt host
    if c ≠ 0 then s.setPort q { p with fails := p.fails + 1, cause := c }
    else
      let k := p.retry.length
      let s := (s.setPort q { p with
        mode := .active
        width := (s.trainedWidth q lanes).getD 0
        host := host
        rtt := rtt
        fails := 0
        retry := p.retry.map (fun f => { f with resent := 0 })
        line := p.retry.map (·.seq)
        lineBits := 0
        rxNo := p.rxSeq
        rxBits := 0
        rxFlit := 0
        rxBad := false
        resentFlits := p.resentFlits + k }).bump K.FLIT_RETRIES k
      s.unpark.pumpPort q

/-- Three consecutive trainings have failed (R398). -/
def State.portFailed (s : State) (q : Nat) : State :=
  let p := s.port q
  if (p.mode ≠ .training && p.mode ≠ .retraining) || decide (p.fails < 3) then s
  else (s.losePort q .failed).report 0x10 none (q + p.cause <<< 5)

/-- RETRAIN is written to PORT_CTRL (R397, R398). -/
def State.portCtrl (s : State) (q : Nat) : State :=
  if !s.answering || !s.portOn q then s
  else
    match (s.port q).mode with
    | .active => s.retrainPort q
    | .failed => s.setPort q { s.port q with mode := .training, fails := 0 }
    | _ => s.setPort q { s.port q with fails := 0 }

/-! ### Messages that pass through (R415, R417) -/

/-- A message with HOPS raised by 1. -/
def Msg.hop (m : Msg) : Msg :=
  match m with
  | [] => []
  | h :: r => BitVec.ofNat 128 (setBits h.toNat 109 106 (bits h.toNat 109 106 + 1)) :: r

/-- Does a message never pass through (R500, R529)? -/
def Msg.stays (m : Msg) : Bool := m.common.mtype = 3 || (m.common.mtype = 1 && m.common.daddr = 0xFFFFFF)

/-- A message for another part arrives at a port. While its path to the port that it leaves by is stopped, it waits in the
receive buffer (R14, R482). -/
def State.forward (s : State) (m : Msg) : State :=
  if !s.answering || (s.ioOf m).isSome || m.stays then s
  else
    let at' := (s.links.inbox.find? (fun p => p.2 = m)).map (·.1)
    let out := (s.route m.common.daddr).bind (fun mask => s.choosePort mask m.common.vc)
    let waits := match at', out with
      | some i, some q => s.pathWaits (4 + i / 9) (4 + q / 9)
      | _, _ => false
    if waits then s else
    let s := s.takeMsg m
    if m.common.hops = 15 then s.bump K.HOP_LIMIT_DROPS 1
    else
      match (s.route m.common.daddr).bind (fun mask => s.choosePort mask m.common.vc) with
      | none => s.bump K.NO_ROUTE_DROPS 1
      | some q =>
        if s.power.state = .deep && (at'.map (fun p => p / 9)).getD (q / 9) ≠ q / 9 then s.bump K.DEEP_CROSSING_DROPS 1
        else (s.toPort q m.hop).bump K.PASS_THROUGH_MESSAGES 1

/-! ### Links inside the package (R16, R17) -/

/-- A ring link or die link does not deliver a flit: FAULT_L is driven, the fault is reported, and a package warm reset
follows; DUMP_TRIGGERS may order a dump (R17, R484, R594). -/
def State.packageFault (s : State) (link : Nat) : State :=
  if !s.live then s
  else
    let s := (s.modBoot (fun b => { b with fault := true })).report 0x0B none link
    let s := if bit (s.par K.DUMP_TRIGGERS) 5 then s.startDump 5 false else s
    s.forceWarm

/-! ### The rows -/

/-- CODEWORD_RECEIVE (R390). -/
def execCodewordReceive (port : Fin 27) (pair : CodePair) (s : State) : Outcome := s.ends (s.codewords port.val pair)
/-- FLIT_RETRY_LIMIT (R394). -/
def execFlitRetryLimit (port : Fin 27) (s : State) : Outcome := s.ends (s.retryLimit port.val)
/-- PORT_UNCORR_LIMIT_EXCEEDED (R397). -/
def execPortUncorrLimitExceeded (port : Fin 27) (s : State) : Outcome := s.ends (s.uncorrLimit port.val)
/-- PORT_ALIGNMENT_LOSS (R397). -/
def execPortAlignmentLoss (port : Fin 27) (s : State) : Outcome := s.ends (s.retrainPort port.val)
/-- PORT_SIGNAL_DETECT (R395). -/
def execPortSignalDetect (port : Fin 27) (s : State) : Outcome := s.ends (s.signalFound port.val)
/-- PORT_TRAINING_END (R396, R400). -/
def execPortTrainingEnd (port : Fin 27) (lanes : BitVec 4) (cause : Fin 7) (rtt : BitVec 12) (host : Bool)
    (s : State) : Outcome := s.ends (s.trainingEnd port.val lanes.toNat cause.val rtt.toNat host)
/-- PORT_FAILED (R398). -/
def execPortFailed (port : Fin 27) (s : State) : Outcome := s.ends (s.portFailed port.val)
/-- PORT_CTRL_RETRAIN (R397, R398). -/
def execPortCtrlRetrain (port : Fin 27) (s : State) : Outcome := s.ends (s.portCtrl port.val)
/-- MESSAGE_FORWARD (R415). The port that the message came by plays no part beyond its receive buffer. -/
def execMessageForward (_port : Fin 27) (m : List (BitVec 128)) (s : State) : Outcome := s.ends (s.forward m)
/-- DIE_LINK_RETRY (R16). -/
def execDieLinkRetry (s : State) : Outcome := s.ends (if s.answering then s.bump K.DIE_LINK_RETRIES 1 else s)
/-- PACKAGE_FAULT (R17). -/
def execPackageFault (link : BitVec 4) (s : State) : Outcome := s.ends (s.packageFault link.toNat)

end Sys2Proof.Machine
end

