-- ==== Sys2Proof/Machine/ServiceRows.lean ====
section
/-!
DEFINITION. The commands of self-tests, score, expulsion and observation (chapter 14), of copies, restores and checkpoints
(chapter 15), and of resets, dumps, the management core, reports and fences (chapter 16).
-/

namespace Sys2Proof.Machine

/-- Changes a state while the part runs. -/
def State.whenLive (s : State) (f : State → State) : State := if s.live then f s else s

/-! ### Self-tests, score, expulsion, observation -/

/-- SELFTEST_START (R438, R565). -/
def execSelftestStart (cl : Fin 32) (s : State) : Outcome := s.ends (s.whenLive (fun s => s.startTest cl.val))
/-- SELFTEST_END (R439 to R441). -/
def execSelftestEnd (cl : Fin 32) (fails : List (BitVec 128)) (s : State) : Outcome :=
  s.ends (s.whenLive (fun s => s.endTest cl.val fails))
/-- HEALTH_DECAY (R446). -/
def execHealthDecay (s : State) : Outcome := s.ends (s.whenLive State.decay)
/-- EXPEL_HOLDOFF_END (R451). -/
def execExpelHoldoffEnd (s : State) : Outcome := s.ends (s.whenLive State.holdoffEnd)
/-- EXPEL_ACCEPTED (R452). -/
def execExpelAccepted (seq : BitVec 16) (s : State) : Outcome := s.ends (s.whenLive (fun s => s.expelAccept seq.toNat))
/-- EXPEL_DEFERRED (R452). -/
def execExpelDeferred (seq : BitVec 16) (s : State) : Outcome := s.ends (s.whenLive (fun s => s.expelDefer seq.toNat))
/-- EXPEL_ANSWER_TIMEOUT (R453). -/
def execExpelAnswerTimeout (s : State) : Outcome := s.ends (s.whenLive State.answerExpired)
/-- OBSERVATION_EXIT_WRITE (R454). -/
def execObservationExitWrite (s : State) : Outcome := s.ends (s.whenLive (fun s => s.setObserving false))
/-- OBSERVATION_ENTER_WRITE (R454). -/
def execObservationEnterWrite (s : State) : Outcome := s.ends (s.whenLive (fun s => s.setObserving true))

/-! ### Copies, restores, checkpoints -/

/-- MIRROR_CTRL_FULL (R466). -/
def execMirrorCtrlFull (x : Fin 16) (s : State) : Outcome := s.ends (s.whenLive (fun s => s.mirrorCtrl x.val))
/-- MIRROR_RETRY (R465). -/
def execMirrorRetry (x : Fin 16) (s : State) : Outcome := s.ends (s.whenLive (fun s => s.mirrorRetryDue x.val))
/-- WARDROBE_SEND (R470). -/
def execWardrobeSend (v : BitVec 64) (s : State) : Outcome := s.ends (s.whenLive (fun s => s.wardrobeSendWrite v.toNat))
/-- RESTORE_CTRL (R471). -/
def execRestoreCtrl (x : Fin 16) (v : BitVec 32) (s : State) : Outcome :=
  s.ends (s.whenLive (fun s => s.restoreWrite x.val v.toNat))
/-- RESTORE_COMPLETE (R472, R473). -/
def execRestoreComplete (x : Fin 16) (s : State) : Outcome := s.ends (s.whenLive (fun s => s.restoreEnd x.val))
/-- CKPT_CTRL (R474). -/
def execCkptCtrl (x : Fin 16) (v : BitVec 64) (s : State) : Outcome :=
  s.ends (s.whenLive (fun s => s.ckptWrite x.val v.toNat))

/-! ### Resets and dumps -/

/-- CORE_RESET (R481, R482). -/
def execCoreReset (core : Fin 256) (s : State) : Outcome := s.ends (s.whenLive (fun s => s.resetWrite .core core.val))

/-- A write of 2 to RESET_CTRL (R481, R488). -/
def State.mgmtResetWrite (s : State) : State := if s.resetAllowed .mgmt then s.mgmtReset 2 else s

/-- MGMT_CORE_RESET (R488). -/
def execMgmtCoreReset (s : State) : Outcome := s.ends (s.whenLive State.mgmtResetWrite)
/-- CLUSTER_RESET (R481, R482). -/
def execClusterReset (cl : Fin 32) (s : State) : Outcome := s.ends (s.whenLive (fun s => s.resetWrite .cluster (8 * cl.val)))
/-- LINK_PORT_RESET (R481, R482, R397). -/
def execLinkPortReset (port : Fin 27) (s : State) : Outcome :=
  s.ends (s.whenLive (fun s => if port.val < 9 * s.part.ioDies then s.resetWrite .port port.val else s))
/-- DIE_RESET (R481, R482). -/
def execDieReset (die : Fin 4) (s : State) : Outcome := s.ends (s.whenLive (fun s => s.resetWrite .die (64 * die.val)))
/-- PACKAGE_WARM_RESET (R481 to R483). -/
def execPackageWarmReset (s : State) : Outcome := s.ends (s.whenLive (fun s => s.resetWrite .warm 0))
/-- What waited for a path goes on when a die's reset has ended (R482): requests, messages, the clusters' transfers. -/
def State.pathsOpen (s : State) : State :=
  let s := ((s.links.waiting.map (fun r => (r.io, r.entry))).eraseDups).foldl (fun s p => s.pumpReqs p.1 p.2) s
  (List.range 32).foldl State.settle s.queueWaiting

/-- A reset has ended (R482). -/
def State.resetDone (s : State) (b : BootIn) : State :=
  let t := (s.resetEnd b).nextReset
  if s.stoppedDie.isSome && t.stoppedDie.isNone && t.live then t.pathsOpen else t

/-- RESET_DONE (R482). -/
def execResetDone (b : BootIn) (s : State) : Outcome := s.ends (s.resetDone b)

/-- DUMP_CTRL (R484, R486). -/
def execDumpCtrl (s : State) : Outcome := s.ends (s.whenLive (fun s => s.startDump 0xFF false))
/-- DUMP_END (R484, R485, R522). -/
def execDumpEnd (s : State) : Outcome := s.ends (s.endDump false).resumeReset

/-- A dump that a reset waits for reaches 50 ms after its trigger (R485). -/
def State.dumpLate (s : State) : State :=
  match s.service.dump, s.service.resets.cur with
  | some d, some r =>
    if r.phase ≠ 0 then s
    else ((s.reach (max d.start r.began + 50 * unitsPerMs)).endDump true).resumeReset
  | _, _ => s

/-- DUMP_TRUNCATION (R485). -/
def execDumpTruncation (s : State) : Outcome := s.ends s.dumpLate

/-! ### The management core -/

/-- The firmware writes its heartbeat (R488). -/
def State.heartbeat (s : State) : State :=
  if s.service.mgmt.coreUp then s.modMgmt (fun m => { m with
    beat := s.now
    watch := s.parMs K.MGMT_WATCHDOG
    beats := m.beats + 1 }) else s

/-- Does a reset of the management core run or wait? -/
def State.coreResetDue (s : State) : Bool :=
  (s.service.resets.cur.toList ++ s.service.resets.waiting).any (fun r => r.domain = .mgmt || r.domain = .warm)

/-- MGMT_WATCHDOG ends without a heartbeat (R488, R489). -/
def State.watchdog (s : State) : State :=
  if s.service.mgmt.coreUp && !s.coreResetDue then
    (s.reach (s.service.mgmt.beat + s.service.mgmt.watch)).mgmtReset 1
  else s

/-- Would a reset of the management core now be the MGMT_FAIL_LIMIT-th within MGMT_FAIL_WINDOW (R489)? -/
def State.failsOut (s : State) : Bool :=
  let t := max s.now (s.service.mgmt.beat + s.service.mgmt.watch)
  let recent := s.service.mgmt.fails.filter (fun u => t < u + s.parMs K.MGMT_FAIL_WINDOW)
  decide (s.par K.MGMT_FAIL_LIMIT ≤ recent.length + 1)

/-- MGMT_HEARTBEAT (R488). -/
def execMgmtHeartbeat (s : State) : Outcome := s.ends (s.whenLive State.heartbeat)
/-- MGMT_WATCHDOG_EXPIRY (R488). -/
def execMgmtWatchdogExpiry (s : State) : Outcome := s.ends (s.whenLive State.watchdog)
/-- MGMT_FAIL_LIMIT_REACHED (R489): the failure that reaches the limit resets the package. -/
def execMgmtFailLimitReached (s : State) : Outcome :=
  s.ends (s.whenLive (fun s => if s.failsOut then s.watchdog else s))
/-- AO_STALL_TIMEOUT (R490). -/
def execAoStallTimeout (s : State) : Outcome := s.ends s.stalled

/-! ### Reports (R491, R492) -/

/-- Records that have waited REPORT_RESEND are sent again; the oldest is due first (R491). -/
def State.resendReports (s : State) : State :=
  match s.reports.unacked with
  | [] => s
  | (_, t) :: _ =>
    let s := s.reach t
    let due := s.reports.unacked.filter (fun (p : Nat × Nat) => decide (p.2 ≤ s.now))
    let s := due.foldl (fun s p => s.sendReport (Tbl.get s.reports.ring 0 (p.1 % 64))) s
    { s with reports := { s.reports with
      unacked := s.reports.unacked.map (fun p => if p.2 ≤ s.now then (p.1, s.now + s.parMs K.REPORT_RESEND) else p) } }

/-- Acknowledges every record at or before a SEQ (R492). -/
def State.ackReports (s : State) (seq : Nat) : State :=
  { s with reports := { s.reports with
    unacked := s.reports.unacked.filter (fun p => !decide ((seq + 2 ^ 32 - p.1) % 2 ^ 32 < 2 ^ 31)) } }

/-- REPORT_RESEND (R491). -/
def execReportResend (s : State) : Outcome := s.ends (if s.answering then s.resendReports else s)
/-- REPORT_ACK (R492). -/
def execReportAck (seq : BitVec 32) (s : State) : Outcome :=
  s.ends (if s.answering then s.ackReports seq.toNat else s)

/-! ### Fences (R494, R495) -/

/-- FENCE_NOTICE_WAIT ends (R495). -/
def State.fenceWaitEnd (s : State) : State :=
  match s.service.spare.wait with
  | none => s
  | some (t, wait) => (s.reach (t + wait)).enterSpare 2 0 0

/-- FENCE_NOTICE (R495). -/
def execFenceNotice (v : BitVec 16) (s : State) : Outcome := s.ends (s.whenLive (fun s => s.enterSpare 1 v.toNat 0))
/-- FENCE_NOTICE_WAIT_EXPIRY (R495). -/
def execFenceNoticeWaitExpiry (s : State) : Outcome := s.ends (s.whenLive State.fenceWaitEnd)

end Sys2Proof.Machine
end

