-- ==== Sys2Proof/Machine/Power.lean ====
section
/-!
DEFINITION. Power, clocks and limits (chapter 19): inputs, droop, sleeping clusters, package states, caps and trips; the
release and assertion of RESET_L (R578, R581).
-/

namespace Sys2Proof.Machine

/-! ### Droop and sleep (R559, R564) -/

/-- A droop stretches a cluster's clock (R559); how many cycles it lengthens is decided by the rail. -/
def State.droop (s : State) (c : Nat) : State :=
  if (s.cl c).stretched then s
  else
    let d := s.draw
    (d.2.bump K.DROOP_STRETCH_CYCLES d.1).modCl c (fun l => { l with stretched := true })

/-- The rail is back and the clock returns to nominal (R559). -/
def State.droopEnd (s : State) (c : Nat) : State :=
  if (s.cl c).stretched then s.modCl c (fun l => { l with stretched := false }) else s

/-- Puts a cluster to sleep: its arrays are at level 0 (R564). -/
def State.putToSleep (s : State) (c : Nat) : State :=
  let s := (s.coresOf c).foldl (fun s k => s.modCo k (fun o => { o with level := 0, ramp := .steady })) s
  s.modCl c (fun l => { l with asleep := true, stretched := false })

/-- A cluster that has been idle for CLUSTER_SLEEP_DELAY falls asleep (R564, R577). -/
def State.sleep (s : State) (c : Nat) : State :=
  let l := s.cl c
  if l.running || l.asleep || l.testing || l.testDue || s.power.state ≠ .active then s
  else (s.reach (l.idleSince + 4000 * l.delay.getD (s.par K.CLUSTER_SLEEP_DELAY))).putToSleep c

/-- DROOP_DETECT (R559). -/
def execDroopDetect (cl : Fin 32) (s : State) : Outcome := s.ends (s.whenLive (fun s => s.droop cl.val))
/-- DROOP_RECOVERY (R559). -/
def execDroopRecovery (cl : Fin 32) (s : State) : Outcome := s.ends (s.whenLive (fun s => s.droopEnd cl.val))
/-- CLUSTER_SLEEP (R564). -/
def execClusterSleep (cl : Fin 32) (s : State) : Outcome := s.ends (s.whenLive (fun s => s.sleep cl.val))

/-! ### Package states (R567 to R572) -/

/-- Does the part refuse a write of RETAIN or DEEP to POWER_STATE (R567)? A repair runs as the reset of its die. -/
def State.powerRefused (s : State) : Bool :=
  !s.live || !s.allClosed || !s.boot.ready || s.service.resets.cur.isSome
    || s.hbm.gens.any (fun (g : Nat × TrafficGen) => g.2.st = 1) || s.power.target.isSome

/-- RETAIN or DEEP is written to POWER_STATE: the clusters sleep and the stacks enter self-refresh (R567). -/
def State.enterPower (s : State) (goal : PkgState) : State :=
  if s.powerRefused then s
  else
    let s := (List.range 32).foldl (fun s c => s.putToSleep c) s
    let s := s.part.hbmSites.foldl (fun s h =>
      if (s.stack h).mode = .inService then s.setStack h { s.stack h with mode := .selfRefresh } else s) s
    s.modPower (fun p => { p with target := some goal, began := s.now, wake := false })

/-- ACTIVE is written to POWER_STATE (R572). -/
def State.wakePower (s : State) : State :=
  let p := s.power
  match p.target with
  | some .active => s
  | some _ => s.modPower (fun p => { p with wake := true })
  | none => if p.state = .active then s else s.modPower (fun p => { p with target := some .active, began := s.now })

/-- The compute dies and shelves lose their contents (R568, R569), key and context entries among them. -/
def State.loseDies (s : State) : State :=
  let s := (List.range 4).foldl (fun s d => s.clearDie d) s
  let s := s.part.hbmSites.foldl (fun s h =>
    if (s.stack h).mode = .training then s.setStack h { s.stack h with mode := .selfRefresh } else s) s
  let s := (List.range 32).foldl (fun s c => s.putToSleep c) s
  { s with
    keys := []
    od := s.od.filter (fun (e : Nat × Nat) => !(decide (0x3412 ≤ e.1 / 256) && decide (e.1 / 256 ≤ 0x3418))) }

/-- The stacks come back from self-refresh: without training after RETAIN, trained after DEEP (R572). -/
def State.refreshEnd (s : State) (b : BootIn) (train : Bool) : State :=
  let sites := s.part.hbmSites.filter (fun h => (s.stack h).mode = .selfRefresh)
  if train then s.trainStacks b sites false
  else sites.foldl (fun s h => s.setStack h { s.stack h with mode := .inService }) s

/-- A transition between package states ends (R567, R569, R572). -/
def State.powerEnd (s : State) (b : BootIn) : State :=
  match s.power.target with
  | none => s
  | some t =>
    let old := s.power.state
    let s : State := { s with now := s.now + 4000 * b.took.toNat }
    let s := match t with
      | .deep => s.loseDies
      | .retain => s
      | .active =>
        let s := s.refreshEnd b (old = PkgState.deep)
        if old = PkgState.deep then
          (List.range 32).foldl (fun s c => s.putToSleep c) ((List.range 4).foldl (fun s d => s.testDie b d) s)
        else s
    let s := (s.bump K.POWER_STATE_CHANGES 1).modPower (fun p => { p with
      state := t
      target := none
      lasted := s.now - p.began })
    if s.power.wake then
      (s.modPower (fun p => { p with wake := false })).wakePower
    else s

/-- POWER_STATE_RETAIN (R567). -/
def execPowerStateRetain (s : State) : Outcome := s.ends (s.enterPower .retain)
/-- POWER_STATE_DEEP (R567). -/
def execPowerStateDeep (s : State) : Outcome := s.ends (s.enterPower .deep)
/-- POWER_STATE_ACTIVE (R572). -/
def execPowerStateActive (s : State) : Outcome := s.ends (s.whenLive State.wakePower)
/-- POWER_TRANSITION_END (R567, R572). -/
def execPowerTransitionEnd (b : BootIn) (s : State) : Outcome := s.ends (s.whenLive (fun s => s.powerEnd b))

/-! ### Caps (R573 to R575) -/

/-- A die reaches or leaves THERMAL_THROTTLE (R574). -/
def State.thermal (s : State) (d : Nat) (hot : Bool) : State :=
  let p := s.power
  if p.hot.getD d false = hot then s
  else
    let s := if hot then s else s.bump K.THERMAL_THROTTLE_TIME (s.now - p.hotSince.getD d 0)
    (s.modPower (fun p => { p with hot := p.hot.set d hot, hotSince := p.hotSince.set d s.now })).setThermal

/-- A power window ends with the mean power of the package (R575). -/
def State.powerWindow (s : State) (watts : Nat) : State :=
  let s := s.reach s.power.window
  let p := s.power
  let s := s.capTime
  let limit := s.par K.POWER_LIMIT
  let cap := if limit < watts then max 2 (p.cap - 1) else if 20 * watts ≤ 19 * limit then min 5 (p.cap + 1) else p.cap
  (s.modPower (fun p => { p with
    cap := cap
    capSince := s.now
    mean := watts
    window := (s.now / 4000000 + 1) * 4000000 })).setThermal

/-- THERMAL_THROTTLE_CHANGE (R574). -/
def execThermalThrottleChange (die : Fin 4) (hot : Bool) (s : State) : Outcome :=
  s.ends (s.whenLive (fun s => s.thermal die.val hot))
/-- POWER_WINDOW_END (R575). -/
def execPowerWindowEnd (watts : BitVec 16) (s : State) : Outcome :=
  s.ends (s.whenLive (fun s => s.powerWindow watts.toNat))

/-! ### Trips and inputs (R555 to R557, R576, R581) -/

/-- A sensor reaches 125 °C (R576): the rails go, and the trip record waits to be written. -/
def State.trip (s : State) (sensor reading : Nat) : State :=
  if !s.answering then s
  else
    let r := BitVec.ofNat 128 ((s.now % 2 ^ 64) <<< 64 + sensor <<< 56 + reading <<< 40 + 1)
    (s.dark .dark).modPower (fun p => { p with tripped := true, tripWait := some r })

/-- The trip record is in the NV area (R576). -/
def State.tripWritten (s : State) : State :=
  match s.power.tripWait with
  | none => s
  | some r =>
    (s.modPower (fun p => { p with trip := r, tripWait := none })).storeNv K.TRIP_RECORD (toBytes 16 r.toNat)

/-- The main input leaves its range for 50 µs (R556). -/
def State.mainLoss (s : State) : State :=
  let s := if s.answering then
      ((s.dark .dark).modBoot (fun b => { b with fault := true })).modPower (fun p => { p with next := 2 })
    else s
  if s.power.aoOn then s.modPower (fun p => { p with mainLost := true }) else s

/-- RESET_L goes low (R581): a write of the trip record runs to its end whatever it does. -/
def State.resetLow (s : State) : State :=
  if s.boot.mode = .resetLow || !s.power.aoOn then s
  else (s.dark .resetLow).modPower (fun p => { p with next := 1 })

/-- The cold boot of R578, where the inputs and REFCLK stand; a trip record on its way is written first. -/
def State.bootCold (s : State) (b : BootIn) : State :=
  if !s.power.aoOn || !s.power.refclk || s.power.mainLost then s else s.tripWritten.coldBoot b

/-- The main input is back in its range for 100 ms (R556). -/
def State.mainRestore (s : State) (b : BootIn) : State :=
  if !s.power.mainLost then s
  else
    let s := s.modPower (fun p => { p with mainLost := false })
    if s.boot.mode = .dark && !s.power.tripped then s.bootCold b else s

/-- RESET_L is released (R578). While the main input lies outside its range the part stays dark, with FAULT_L driven, until it
is back (R556); a trip's latch ends here and gives that boot its cause (R576, R597). -/
def State.release (s : State) (b : BootIn) : State :=
  if s.boot.mode ≠ .resetLow then s
  else if s.power.aoOn && s.power.refclk && s.power.mainLost then
    (s.modBoot (fun x => { x with mode := .dark, fault := true })).modPower (fun p => { p with
      tripped := false
      next := if p.tripped then 3 else 2 })
  else s.bootCold b

/-- The always-on input goes: what the always-on domain alone held is lost (R555, R557, R590). -/
def State.removeAo (s : State) : State :=
  if !s.power.aoOn then s
  else
    let t := s.dark .unpowered
    { t with
      ctxs := []
      reports := {}
      defence := {}
      power := { aoOn := false, refclk := false, mainLost := t.power.mainLost, trip := t.power.trip, next := 0 }
      boot := { t.boot with fault := false, attest := { t.boot.attest with high := 0 } }
      service := { t.service with time := {} } }

/-- The always-on input comes into range (R557, R562): the time base starts from 0 and REFCLK is still to come. -/
def State.applyAo (s : State) : State :=
  if s.power.aoOn then s
  else
    let s := s.modPower (fun p => { p with aoOn := true, refclk := false, next := 0 })
    { s.modBoot (fun b => { b with mode := .resetLow }) with now := 0 }

/-- REFCLK is present and stable (R562). -/
def State.refclkOn (s : State) : State :=
  if s.power.aoOn then s.modPower (fun p => { p with refclk := true }) else s

/-- THERMTRIP (R576). -/
def execThermtrip (sensor : BitVec 8) (reading : BitVec 16) (s : State) : Outcome :=
  s.ends (s.trip sensor.toNat reading.toNat)
/-- TRIP_RECORD_WRITTEN (R576). -/
def execTripRecordWritten (s : State) : Outcome := s.ends s.tripWritten
/-- MAIN_INPUT_LOSS (R556). -/
def execMainInputLoss (s : State) : Outcome := s.ends s.mainLoss
/-- MAIN_INPUT_RESTORE (R556). -/
def execMainInputRestore (b : BootIn) (s : State) : Outcome := s.ends (s.mainRestore b)
/-- RESET_L_ASSERT (R581). -/
def execResetLAssert (s : State) : Outcome := s.ends s.resetLow
/-- COLD_BOOT (R578). -/
def execColdBoot (b : BootIn) (s : State) : Outcome := s.ends (s.release b)
/-- POWER_ON (R557). -/
def execPowerOn (s : State) : Outcome := s.ends s.applyAo
/-- AO_INPUT_REMOVAL (R555). -/
def execAoInputRemoval (s : State) : Outcome := s.ends s.removeAo
/-- REFCLK_STABLE (R562). -/
def execRefclkStable (s : State) : Outcome := s.ends s.refclkOn

end Sys2Proof.Machine
end

