-- ==== Sys2Proof/Machine/StepRows.lean ====
section
/-!
DEFINITION. The step commands (R320 to R327, R333, R350, R351, R443, R463) and the verdict messages (R338 to R355).
-/

namespace Sys2Proof.Machine

/-- STEP of a step command. -/
def Cmd.step (c : Cmd) : Nat := bits c.word.toNat 351 320
/-- REPLAY of a STEP.OPEN. -/
def Cmd.replay (c : Cmd) : Bool := bit c.word.toNat 383
/-- JOBCTX of a STEP.OPEN. -/
def Cmd.jobctx (c : Cmd) : Nat := bits c.word.toNat 379 376
/-- SUSPECT of a STEP.OPEN. -/
def Cmd.suspect (c : Cmd) : Nat := bits c.word.toNat 371 352

/-! ### STEP.OPEN -/

/-- A key of the step configuration (R327). -/
def State.stepKeyBad (s : State) (x k : Nat) : Bool :=
  !s.keyOk x k true true || (s.key k).space ≠ 0 || !(s.key k).check

/-- Does the step configuration of a context fail R327? -/
def State.stepConfigBad (s : State) (x : Nat) : Bool :=
  [K.CHEST_LOG_KEY, K.CHEST_HOLD_KEY, K.REPLAY_IN_KEY].any (fun k => s.stepKeyBad x (s.par (k + x)))
    || (s.undoPairs x).any (fun p => s.stepKeyBad x p.1 || s.stepKeyBad x p.2
      || (s.key p.1).length ≠ (s.key p.2).length)
    || s.jobSize x = 0 || decide (s.jobSize x ≤ s.jobRank x)
    || !s.inPkgRange x (bits (s.par (K.STEP_CFG + x)) 31 18)

/-- Is `n` the number that R322 expects? -/
def Ctx.expects (c : Ctx) (n : Nat) : Bool :=
  if !c.stepped then true
  else if c.expectRolled then (match c.rolled with | some r => n = r.1 | none => false)
  else
    match c.steps with
    | [] => n = (c.lastCommitted + 1) % 2 ^ 32
    | t :: _ => n = (t.num + 1) % 2 ^ 32

/-- The attempt that a STEP.OPEN of `n` gives (R321). -/
def Ctx.attemptOf (c : Ctx) (n : Nat) : Nat :=
  match c.rolled with
  | some r => if n = r.1 then (r.2 + 1) % 16 else 0
  | none => 0

/-- Must a STEP.OPEN wait (R322)? -/
def Ctx.openWaits (c : Ctx) : Bool :=
  c.steps.any (fun t => t.st = .opened || t.st = .rollingBack) || decide (2 ≤ c.steps.length) || c.orphaned

/-- The value that the part writes into bit 4 of STEP_CFG at the opening of step `n` (R443). -/
def State.verifyBit (s : State) (x n : Nat) : Bool :=
  let w := s.par (K.VERIFY_POLICY + x)
  let p := bits w 31 16
  bit w 0 || s.defence.observing || (p ≠ 0 && (n + s.jobRank x) % p = 0)

/-- Writes bit 4 of STEP_CFG, when R443 says so. -/
def State.writeVerify (s : State) (x n : Nat) : State :=
  if s.jobSize x = 0 || (s.par (K.VERIFY_POLICY + x) = 0 && !s.defence.observing) then s
  else s.setPar (K.STEP_CFG + x) (setBits (s.par (K.STEP_CFG + x)) 4 4 (b2n (s.verifyBit x n)))

/-- A step as its opening leaves it (R323, R326, R328). -/
def State.freshStep (s : State) (x n attempt : Nat) : Step :=
  { num := n
    attempt := attempt
    st := .opened
    seed := BitVec.ofNat 64 (s.par (K.ROUND_SEED_CTX0 + x))
    verify := bit (s.par (K.STEP_CFG + x)) 4
    shadowSide := s.side.filter (fun (p : Nat × BitVec 24) => s.holds x (p.1 / 4096) && s.inSideRange x (p.1 % 4096))
    shadowPkg := s.pkg.filter (fun (p : Nat × BitVec 24) => s.inPkgRange x (p.1 % 16384))
    planCounts := (s.plansOf x).foldl (fun l p => Tbl.put l {} p (s.plan p).count) [] }

/-- A held message goes back to its I/O die (R325): it is judged like one that arrives then. -/
def State.redeliver (s : State) (m : Msg) : State :=
  match m.common.mtype with
  | 4 => s.receive 4 m (fun t => t.landSemOp m)
  | 5 => s.receive 5 m (fun t => t.landWrite m)
  | 6 => s.receive 6 m (fun t => t.landResp m)
  | 7 => s.receive 7 m (fun t => t.landGatherReq m)
  | 8 => s.receive 8 m (fun t => t.landGatherReply m)
  | 9 => s.receive 9 m (fun t => t.landPartial m)
  | _ => s

/-- Lands what was held for the step that has opened, in the order of arrival (R325). -/
def State.landHeld (s : State) (x : Nat) : State :=
  let mine := s.links.held.filter (fun h => h.ctx = x)
  let box := s.links.inbox
  let s : State := { s with links := { s.links with held := s.links.held.filter (fun h => h.ctx ≠ x), inbox := [] } }
  let s := mine.foldl (fun s h => s.redeliver h.msg) s
  ({ s with links := { s.links with inbox := box } } : State).grantHeld x

/-- Sums that were waiting for their step to open at the root are added (R309). -/
def State.addHeldSums (s : State) (x : Nat) : State :=
  (s.plansOf x).foldl (fun s p =>
    match s.planF p with
    | some f => if f.reduce then State.addSums f p (s.plan p).sums.length s else s
    | none => s) s

/-- A step opens (R323). -/
def State.openStep (s : State) (x n : Nat) : State :=
  let s := s.writeVerify x n
  let t := s.freshStep x n ((s.cx x).attemptOf n)
  let s := s.modCx x (fun c => { c with
    seed := t.seed
    trap := 0
    steps := c.steps ++ [t]
    stepped := true
    expectRolled := false })
  ((s.landHeld x).addHeldSums x).regather

/-- STEP_OPEN: a STEP.OPEN without REPLAY. -/
def State.stepOpen (s : State) (x : Nat) : State :=
  match s.curCmd x 0x10 with
  | none => s
  | some c =>
    if c.replay || (s.cx x).openWaits then s
    else if (s.mir x).barred then s.finish x c 0xA 0 0 0
    else if !(s.cx x).expects c.step then s.finish x c 8 0 0 0
    else if s.stepConfigBad x then s.finish x c 0xA 0 0 0
    else (s.openStep x c.step).finish x c 1 0 0 0

/-- Must a STEP.OPEN with REPLAY wait (R351)? -/
def Ctx.replayWaits (c : Ctx) : Bool :=
  c.openStep.isSome || (match c.replay with | some t => t.st = .opened | none => false)

/-- REPLAY_STEP_OPEN: a STEP.OPEN with REPLAY (R350, R351). -/
def State.replayOpen (s : State) (x : Nat) : State :=
  match s.curCmd x 0x10 with
  | none => s
  | some c =>
    if !c.replay || (s.cx x).replayWaits then s
    else if (s.mir x).barred || s.stepConfigBad x then s.finish x c 0xA 0 0 0
    else
      let theirs := (s.cx c.jobctx).steps.find? (fun t => t.num = c.step)
      let t := { s.freshStep x c.step ((theirs.map (·.attempt)).getD 0) with
        replay := some (c.suspect, c.jobctx)
        verify := false }
      let s := s.modCx x (fun q => { q with seed := t.seed, replay := some t })
      s.finish x c 1 0 0 0

/-! ### STEP.SEAL, STEP.AWAIT, STEP.FAIL -/

/-- The OPEN step, or the open replay step, that carries a number. -/
def Ctx.openNumbered (c : Ctx) (n : Nat) : Option Step :=
  match c.curStep with
  | some t => if t.num = n then some t else none
  | none => none

/-- Has the context opened a step of this number, not counting steps that are still uncommitted? The newest such step
tells whether it committed (R320). -/
def Ctx.closedNumbered (c : Ctx) (n : Nat) : Option Bool :=
  ((c.closedSteps.reverse.find? (fun p => p.1 = n)).map (·.2))

/-- Is a step of this number sealed and uncommitted? -/
def Ctx.sealedNumbered (c : Ctx) (n : Nat) : Bool :=
  c.steps.any (fun t => t.num = n && (t.st = .sealed || t.st = .replaying))

/-- May a STEP.SEAL be accepted: nothing that was issued under the step is in progress? -/
def State.sealReady (s : State) (x : Nat) (t : Step) : Bool :=
  let under (u : Xfer) : Bool := u.ctx = x && u.step = some t.num && u.replay = t.replay.isSome
  let ours (r : Req) : Bool :=
    let c := r.msg.common
    s.reqCtx r = some x && decide (2 ≤ c.vc) && decide (c.vc ≤ 4) && r.msg.stepId.tag = t.num % 2 ^ 16
      && r.msg.stepId.attempt = t.attempt && !r.msg.stepId.nostep
  let credited (p : Nat) : Bool :=
    match s.planF p with
    | some f => f.reduce && waitGe (s.sem (.pkg f.io f.go)) ((s.plan p).count.taken + 1)
    | none => false
  (s.cx x).running = [] && !(List.range 32).any (fun c => (s.cl c).xfers.any under)
    && !s.moves.any (fun m => m.ctx = x && m.remote.isNone)
    && !s.links.reqs.any ours && !s.links.waiting.any ours && !(s.plansOf x).any credited

/-- STEP_SEAL. -/
def State.stepSeal (s : State) (x : Nat) : State :=
  match s.curCmd x 0x11 with
  | none => s
  | some c =>
    match (s.cx x).openNumbered c.step with
    | some t =>
      if !s.sealReady x t then s
      else ((if t.replay.isSome then s.sealReplay x t else s.sealStep x t).finish x c 1 0 0 0)
    | none =>
      if (s.cx x).sealedNumbered c.step then s.finish x c 1 0 0 0 else s.finish x c 8 0 0 0

/-- STEP_AWAIT: it waits while the step is uncommitted. -/
def State.stepAwait (s : State) (x : Nat) : State :=
  match s.curCmd x 0x12 with
  | none => s
  | some c =>
    if (s.cx x).steps.any (fun t => t.num = c.step) then s
    else
      match (s.cx x).closedNumbered c.step with
      | some true => s.finish x c 1 0 0 0
      | some false => s.finish x c 9 0 0 0
      | none => s.finish x c 8 0 0 0

/-- STEP_FAIL. -/
def State.stepFail (s : State) (x : Nat) : State :=
  match s.curCmd x 0x13 with
  | none => s
  | some c =>
    match (s.cx x).openNumbered c.step with
    | some _ => (s.failStep x 5).finish x c 1 0 0 0
    | none => s.finish x c 8 0 0 0

/-! ### Verdict messages -/

/-- What a verdict message is for: its TYPE among the four, CODE among those of its TYPE (R338). -/
def VMsg.known (v : VMsg) : Bool :=
  decide (1 ≤ v.typ) && decide (v.typ ≤ 4) && (if v.typ = 3 then decide (1 ≤ v.code) && decide (v.code ≤ 3) else v.code = 0)

/-- A verdict message of a TYPE arrives for a context: judged by R342 and R354, then acted on for the step that it
names. A message of another TYPE is left to its own command. -/
def State.verdictMsg (s : State) (m : Msg) (typ : Nat) (act : State → Nat → Nat → VMsg → Step → State) : State :=
  let v := m.verdict
  if v.typ ≠ typ && v.known then s
  else s.receive 2 m (fun s _ e x _ =>
    let c := s.cx x
    if c.orphaned then s.bump K.LATE_VERDICT_DROPS 1
    else
      match c.steps.find? (fun t => t.num = v.step && t.attempt = v.attempt && (t.st = .sealed || t.st = .replaying)) with
      | none => s.bump K.VERDICT_MESSAGE_DROPS 1
      | some t =>
        if v.membership ≠ s.par K.JOB_MEMBERSHIP || !v.known then s.bump K.VERDICT_MESSAGE_DROPS 1
        else act s e x v t)

/-- The number of a child by the entry that its messages come through. -/
def State.childOf (s : State) (x e : Nat) : Option Nat := (s.children x).findIdx? (fun k => k = e)

/-- HEALTH of a child (R339). -/
def State.takeHealth (s : State) (e x : Nat) (v : VMsg) (t : Step) : State :=
  match s.childOf x e with
  | none => s
  | some i =>
    (s.modCx x (fun c => c.modStep t.num t.attempt (fun u =>
      { u with childHealth := Tbl.put u.childHealth none i (some v) }))).tryHealth x t.num t.attempt

/-- REPLAY_RESULT of a child (R352). -/
def State.takeResult (s : State) (e x : Nat) (v : VMsg) (t : Step) : State :=
  match s.childOf x e with
  | none => s
  | some i =>
    (s.modCx x (fun c => c.modStep t.num t.attempt (fun u =>
      { u with childReplay := Tbl.put u.childReplay none i (some v) }))).tryReplay x t.num t.attempt

/-- A health word as the part takes it from a message: its reserved bits are 0 (R7, R335). -/
def cleanHealth (w : Nat) : BitVec 256 := BitVec.ofNat 256 (setBits (setBits w 250 248 0) 211 192 0)

/-- PARTNER_HEALTH (R339, R351): the health word of the part whose replays this one makes. One that comes after the REPLAY
verdict that names its sender makes the part owe the replay from then on (R349, R352). -/
def State.takePartner (s : State) (x : Nat) (v : VMsg) (t : Step) : State :=
  let ranks := (VMsg.ofWord (s.cx x).lastVerdict.toNat).ranks
  let owes := t.st = .replaying && t.owed = 0 && !t.replaySent && ranks.contains v.sender
  let s := s.modCx x (fun c => { c.modStep t.num t.attempt (fun u => { u with
        partner := some (cleanHealth v.word)
        suspectRank := v.sender
        owed := if owes then 1 else u.owed }) with
    partnerWord := cleanHealth v.word })
  if owes && ranks.contains (s.jobRank x) then s.recordMiss x t.num else s.announceReplay x

/-- VERDICT: forwarded to the children, then held and applied in order (R341). -/
def State.takeVerdict (s : State) (x : Nat) (v : VMsg) (t : Step) : State :=
  let s := (s.children x).foldl (fun s e => s.sendVerdict x e v) s
  let s := s.modCx x (fun c => c.modStep t.num t.attempt (fun u => { u with verdict := some v }))
  State.applyVerdicts x 2 s

/-- VERDICT_APPLY: a verdict that the part holds is applied (R341, R467). -/
def State.verdictApply (s : State) (x : Nat) : State := if s.live then State.applyVerdicts x 2 s else s

/-- Has a step's final verdict arrived or been issued, so that it applies whatever its timeout (R353, R357, R467)? -/
def Step.final (t : Step) : Bool := match t.verdict with | some v => v.code ≠ 2 | none => false

/-- VERDICT_TIMEOUT ends for the sealed step without a final verdict whose deadline comes first (R353, R357). -/
def State.verdictTimeout (s : State) (x : Nat) : State :=
  let waits := (s.cx x).steps.filter (fun t => (t.st = .sealed || t.st = .replaying) && !t.final)
  match firstDue waits (fun t => t.sealedAt + t.limit) with
  | none => s
  | some t => if s.live then (s.reach (t.sealedAt + t.limit)).verdictExpired x t else s

/-! ### JOB_MEMBERSHIP (R355, R356, R451, R495) -/

/-- A context of a job meets a new membership generation (R355, R356). -/
def State.rejoin (s : State) (x : Nat) : State :=
  if s.jobSize x = 0 || (s.cx x).st = .closed || (s.cx x).st = .teardown then s
  else
    let c := s.cx x
    let newest := c.steps.getLast?
    let v := s.localVerdict x c.newest ((newest.map (·.attempt)).getD 0) 6
    let s := match c.replay with
      | some t => if t.st = StepSt.opened then s.sealReplay x { t with failed := true } else s
      | none => s
    let s := s.rollback x v
    s.modCx x (fun c => if c.orphaned then { c with orphaned := false, stepped := false } else c)

/-- Writes JOB_MEMBERSHIP. -/
def State.writeMembership (s : State) (v : Nat) : State :=
  if !s.answering then s
  else
    let old := s.par K.JOB_MEMBERSHIP
    let s := s.setPar K.JOB_MEMBERSHIP v
    let s : State := { s with service := { s.service with spare := { s.service.spare with wait := none } } }
    if old = v then s
    else
      let s : State := { s with defence := { s.defence with barred := false } }
      (List.range 16).foldl (fun s x => s.rejoin x) s

/-! ### The rows -/

/-- STEP_OPEN (R322). -/
def execStepOpen (x : Fin 16) (s : State) : Outcome := s.ends (s.stepOpen x.val)
/-- REPLAY_STEP_OPEN (R351). -/
def execReplayStepOpen (x : Fin 16) (s : State) : Outcome := s.ends (s.replayOpen x.val)
/-- STEP_SEAL (R333). -/
def execStepSeal (x : Fin 16) (s : State) : Outcome := s.ends (s.stepSeal x.val)
/-- STEP_AWAIT (R320). -/
def execStepAwait (x : Fin 16) (s : State) : Outcome := s.ends (s.stepAwait x.val)
/-- STEP_FAIL (R332). -/
def execStepFail (x : Fin 16) (s : State) : Outcome := s.ends (s.stepFail x.val)
/-- HEALTH (R339). -/
def execHealth (m : List (BitVec 128)) (s : State) : Outcome :=
  s.ends (State.verdictMsg s m 1 (fun s e x v t => s.takeHealth e x v t))
/-- PARTNER_HEALTH (R339). -/
def execPartnerHealth (m : List (BitVec 128)) (s : State) : Outcome :=
  s.ends (State.verdictMsg s m 4 (fun s _ x v t => s.takePartner x v t))
/-- VERDICT (R341). -/
def execVerdict (m : List (BitVec 128)) (s : State) : Outcome :=
  s.ends (State.verdictMsg s m 3 (fun s _ x v t => s.takeVerdict x v t))
/-- VERDICT_APPLY (R341). -/
def execVerdictApply (x : Fin 16) (s : State) : Outcome := s.ends (s.verdictApply x.val)
/-- REPLAY_RESULT (R352). -/
def execReplayResult (m : List (BitVec 128)) (s : State) : Outcome :=
  s.ends (State.verdictMsg s m 2 (fun s e x v t => s.takeResult e x v t))
/-- VERDICT_TIMEOUT (R353). -/
def execVerdictTimeout (x : Fin 16) (s : State) : Outcome := s.ends (s.verdictTimeout x.val)
/-- JOB_MEMBERSHIP_WRITE (R355). -/
def execJobMembershipWrite (v : BitVec 16) (s : State) : Outcome := s.ends (s.writeMembership v.toNat)

end Sys2Proof.Machine
end

