-- ==== Sys2Proof/Machine/Timing.lean ====
section
/-!
DEFINITION. The alignment of the time base (R498 to R503), periodic counter samples (R511) and the draining of traces
(R521).
-/

namespace Sys2Proof.Machine

/-- Changes the alignment's state. -/
def State.modTime (s : State) (f : TimeSync → TimeSync) : State :=
  { s with service := { s.service with time := f s.service.time } }

/-- A TIME_SYNC message (R500). -/
def timeMsg (tag t turn kind : Nat) : Msg :=
  Msg.make ⟨3, 1, 0, 0, 0, 0, 0, 0, 0, 0, tag⟩
    [BitVec.ofNat 128 ((t % 2 ^ 64) <<< 64 + (turn % 2 ^ 32) <<< 32 + kind)]

/-- TIME_SYNC_INTERVAL ends (R501, R503): a request leaves on the source port; an interval without a reply is counted. -/
def State.timeInterval (s : State) : State :=
  let p := s.par K.TIME_SOURCE_PORT
  if !s.answering || p = 0x1F then s
  else
    let s := s.reach s.service.time.due
    let t := s.service.time
    let tag := (t.tag + 1) % 2 ^ 16
    let s := s.modTime (fun t => { t with
      misses := if t.t1.isSome then t.misses + 1 else t.misses
      tag := tag
      t1 := some s.now
      due := s.now + s.parMs K.TIME_SYNC_INTERVAL })
    if s.part.hasPort p && (s.port p).mode = .active then s.toPort p (timeMsg tag s.now 0 0) else s

/-- Does a message of TIME_SYNC have the KIND given? -/
def Msg.timeKind (m : Msg) (kind : Nat) : Bool := m.common.mtype = 3 && bits (m.slot 1) 0 0 = kind

/-- A TIME_SYNC message that an ACTIVE port consumes (R500, R406); a message of another kind is left where it is. -/
def State.timeMessage (s : State) (p : Nat) (m : Msg) (kind : Nat) (act : State → State) : State :=
  if !s.answering || !m.timeKind kind || !s.part.hasPort p || (s.port p).mode ≠ .active then s
  else if !m.wellFormed then (s.takeMsg m).bump K.BAD_MESSAGES 1
  else act (s.takeMsg m)

/-- A request is answered on its port (R500). -/
def State.timeAnswer (p : Nat) (m : Msg) (turn : Nat) (s : State) : State :=
  let t2 := s.now
  (s.reach (s.now + turn)).toPort p (timeMsg m.common.tag t2 turn 1)

/-- The offset of a reply (R501): half of an odd difference is rounded to either side, which the spec leaves open. -/
def State.offset (s : State) (t1 t2 turn : Nat) : State × Int :=
  let t4 : Int := Int.ofNat (s.now % 2 ^ 64)
  let d : Int := (Int.ofNat t2 - Int.ofNat t1) - (t4 - (Int.ofNat t2 + Int.ofNat turn))
  if d % 2 = 0 then (s, d / 2)
  else
    let f := s.draw
    (f.2, if f.1 % 2 = 0 then d / 2 else d / 2 + 1)

/-- Is a context OPEN? -/
def State.anyOpen (s : State) : Bool := (List.range 16).any (fun x => (s.cx x).st = .opened)

/-- A reply to the last request corrects the time base (R501, R502, R503). -/
def State.timeCorrect (p : Nat) (m : Msg) (s : State) : State :=
  let t := s.service.time
  match t.t1 with
  | none => s
  | some t1 =>
    if p ≠ s.par K.TIME_SOURCE_PORT || m.common.tag ≠ t.tag then s
    else
      let w := m.slot 1
      let (s, th) := s.offset (t1 % 2 ^ 64) (bits w 127 64) (bits w 63 32)
      let s := s.modTime (fun t => { t with t1 := none, misses := 0, holdover := false, theta := th })
      if !t.locked && !s.anyOpen && 0 ≤ th then
        ({ s with now := s.now + th.toNat } : State).modTime (fun t => { t with locked := true, slew := 0 })
      else
        s.modTime (fun t => { t with
          slew := th
          locked := t.locked || (decide (-8 ≤ th) && decide (th ≤ 8)) })

/-- 100 consecutive intervals have passed without a reply (R503). -/
def State.timeHoldover (s : State) : State :=
  let t := s.service.time
  if !s.answering || t.misses < 100 || t.holdover then s
  else (s.modTime (fun t => { t with holdover := true })).bump K.TIME_HOLDOVERS 1

/-- TIME_SYNC_INTERVAL_EXPIRY (R501). -/
def execTimeSyncIntervalExpiry (s : State) : Outcome := s.ends s.timeInterval
/-- TIME_SYNC_REQUEST (R500). -/
def execTimeSyncRequest (port : Fin 27) (m : List (BitVec 128)) (turn : BitVec 32) (s : State) : Outcome :=
  s.ends (s.timeMessage port.val m 0 (State.timeAnswer port.val m turn.toNat))
/-- TIME_SYNC_REPLY (R501, R502). -/
def execTimeSyncReply (port : Fin 27) (m : List (BitVec 128)) (s : State) : Outcome :=
  s.ends (s.timeMessage port.val m 1 (State.timeCorrect port.val m))
/-- TIME_HOLDOVER (R503). -/
def execTimeHoldover (s : State) : Outcome := s.ends s.timeHoldover

/-! ### Counter samples -/

/-- COUNTER_SAMPLE_INTERVAL ends for a cluster whose program runs (R511). -/
def State.sampleDue (s : State) (c : Nat) : State :=
  let l := s.cl c
  let i := s.parMs (K.COUNTER_SAMPLE_INTERVAL + l.ctx)
  if !s.live || !l.running || i = 0 then s
  else
    let s := s.reach (l.started + ((s.now - l.started) / i + 1) * i)
    let r := s.sample c false
    r.1.writeSample c r.2

/-- COUNTER_SAMPLE_INTERVAL (R511). -/
def execCounterSampleInterval (cl : Fin 32) (s : State) : Outcome := s.ends (s.sampleDue cl.val)

/-! ### Traces -/

/-- A die drains its next block of 128 trace records (R521): through the entry and to the key that TRACE_CFG names, at the
block's place in the ring. What the block's header holds, its CRC apart, the spec leaves open. The records drained count
towards the cap of the window (R520): a drain that would pass it waits for the next window, and a cap below a block
leaves no room for one. -/
def State.traceDrain (s : State) (d : Nat) : State :=
  let t := Tbl.get s.traces {} d
  let b := t.drained / 128
  let len := s.traceCfg d 191 128
  let e := s.traceCfg d 209 192
  let w := s.ep 0 e
  let x := bits w 60 57
  if !s.live || !bit (s.traceCfg d 5 0) 5 || len = 0 || t.written < 128 * (b + 1) || !bit w 0 then s
  else
    if s.traceCap d < 128 then s
    else
    let s := if t.window = s.now / 4096 && decide (s.traceCap d < t.used + 128) then s.reach ((s.now / 4096 + 1) * 4096) else s
    let used := if t.window = s.now / 4096 then t.used else 0
    let off := 2048 * b % len
    let data := s.readSpace 0 ((0x10 + d) <<< 40 + (s.traceCfg d 127 64 + off) % 2 ^ 40) 2048
    let s := s.bump (K.HBM_BURSTS_P0 + 3) 64
    let f := s.draw
    let g := f.2.draw
    let low := f.1 + (g.1 % 2 ^ 32) <<< 64
    let blk : Block := ⟨BitVec.ofNat 128 (low + blockCrc low (ofBytes data) <<< 96), BitVec.ofNat 16384 (ofBytes data)⟩
    let s : State := { g.2 with traces := Tbl.put s.traces {} d { t with
      window := s.now / 4096
      used := used + 128
      drained := 128 * (b + 1) } }
    s.sendEp 0 e x 5 7 (writeSlot none false (s.traceCfg d 239 224) off 1 :: blk.slots)

/-- TRACE_DRAIN (R521). -/
def execTraceDrain (die : Fin 4) (s : State) : Outcome := s.ends (s.traceDrain die.val)

end Sys2Proof.Machine
end

