-- ==== Sys2Proof/Machine/Writes.lean ====
section
/-!
DEFINITION. What a WRITE over the management channel does to an entry (chapter 18 and the Entries tables of the
chapters): ranges, refusals and effects; non-volatile entries (R546 to R549); the signing of quotes (R592).
-/

namespace Sys2Proof.Machine

/-! ### Attestation quotes (R589 to R592) -/

/-- The quote of a nonce with the next leaf (R592). -/
def State.quote (s : State) (nonce : Nat) : List Nat :=
  let a := s.boot.attest
  let body := toBytes 128 (nonce <<< 768 + s.boot.fwHash <<< 512 + ofBytes serialBytes <<< 384 + (s.now % 2 ^ 64) <<< 320
    + a.leaf <<< 288 + a.fuse <<< 272 + s.part.grade <<< 256 + stepping <<< 240 + s.power.cause <<< 232
    + s.defence.score <<< 216)
  body ++ fitBytes 2820 ((Config.xmssSign a.fuse a.leaf (asBytes body)).map (·.toNat))

/-- Signs a nonce; the last leaf of a batch is followed by the next reservation (R590, R597). -/
def State.sign (s : State) (nonce : Nat) : State :=
  let q := s.quote nonce
  s.modBoot (fun b =>
    let b := { b with attest := { b.attest with quote := q, want := none, leaf := b.attest.leaf + 1 } }
    if b.attest.leaf < b.attest.stop then b else b.reserve)

/-- Does the part refuse ATTEST_REQUEST (R591)? -/
def State.attestRefused (s : State) : Bool :=
  let a := s.boot.attest
  !s.live || !s.service.mgmt.coreUp || a.ended

/-- ATTEST_REQUEST: the quote waits while the node cache is built (R592). -/
def State.attest (s : State) (nonce : Nat) : State :=
  if s.attestRefused then s
  else if s.boot.attest.building then
    s.modBoot (fun b => { b with attest := { b.attest with want := some (BitVec.ofNat 256 nonce) } })
  else s.sign nonce

/-- The node cache is built: a nonce that waited is signed (R592). -/
def State.attestBuilt (s : State) : State :=
  if !s.live || !s.boot.attest.building then s
  else
    let s := s.modBoot (fun b => { b with attest := { b.attest with building := false } })
    match s.boot.attest.want with
    | none => s
    | some n => s.sign n.toNat

/-! ### NV_CTRL (R549) -/

/-- NV_CTRL is written: 1 schedules the restore of factory defaults, 2 cancels it. -/
def State.nvCtrl (s : State) (on : Bool) : State :=
  if s.live && s.service.mgmt.coreUp then s.modMgmt (fun m => { m with nvRestore := on }) else s

/-! ### Ranges (R533, R537) -/

/-- Bits of a written BLOB that are not reserved (R7): plans, groups, endpoint entries, generators, traces, children. -/
def blobMask (k : Nat) : Nat → Nat :=
  match k / 256 with
  | 0x4430 => fun w => bits w 255 244 <<< 244 + bits w 223 96 <<< 96
  | 0x5810 => fun w => bits w 255 142 <<< 142 + bits w 0 0
  | 0x5820 => fun w => bits w 511 263 <<< 263 + bits w 0 0
  | 0x5831 => fun w => bits w 7 0 + ((List.range 8).map (fun i =>
      bits w (32 * i + 49) (32 * i + 32) <<< (32 * i + 32))).sum
  | 0x8420 => fun w => bits w 5 0 + bits w 209 64 <<< 64 + bits w 239 224 <<< 224
  | _ => fun w => w

/-- A written value with its reserved bits taken as 0 (R7). -/
def OdRow.clean (r : OdRow) (k v : Nat) : Nat :=
  match r.ty with
  | .string => v
  | .blob => blobMask k v
  | _ => Nat.land v r.mask

/-- The gaps of ranges that MIN and MAX do not show (R538). -/
def rangeGap (k v : Nat) : Bool :=
  match k / 256 with
  | 0x2000 => v = 1
  | 0x1100 => k % 256 = 2 && decide (26 < v) && v ≠ 31
  | 0x3410 => decide (1 < v)
  | 0x3414 => decide (4096 < bits v 41 29) || decide (16384 < bits v 14 0)
  | 0x3415 => v % 64 ≠ 0
  | 0x3416 => decide (bits v 4 0 < 4) || decide (16 < bits v 4 0)
  | 0x3417 => v % 64 ≠ 0
  | 0x4400 =>
    (k % 256 = 1 && v % 400 ≠ 0)
      || (k % 256 = 2 && (bits v 3 0 = 0 || decide (16 < bits v 3 0 + bits v 7 4 + bits v 11 8)))
  | 0x5000 => k % 256 = 6 && (List.range 4).any (fun i => bits v (4 * i + 3) (4 * i) = 0)
  | 0x5831 => decide (8 < bits v 7 0)
  | 0x6016 => decide (8 < bits v 3 0)
  | 0x7420 => k % 256 = 1 && (bits v 3 0 = 0 || decide (6 < bits v 3 0) || (bits v 3 0 = 4 && decide (26 < bits v 8 4)))
  | 0x8420 => bits v 127 64 % 2048 ≠ 0 || bits v 191 128 % 2048 ≠ 0
  | _ => false

/-- Is a written value inside the entry's range? -/
def OdRow.inRange (r : OdRow) (k v : Nat) (bytes : List Nat) : Bool :=
  match r.ty with
  | .string => bytes.all (fun b => decide (0x20 ≤ b) && decide (b ≤ 0x7E))
  | .blob => !rangeGap k v
  | _ => decide (r.lo ≤ v) && decide (v ≤ r.hi) && !rangeGap k v

/-! ### Refusals and effects -/

/-- The context whose state must be CLOSED for a write of an entry (R174, R267, R327, R459). -/
def frozenBy (k : Nat) : Option Nat :=
  let i := k / 256
  if (decide (0x3412 ≤ i) && decide (i ≤ 0x3418)) || (decide (0x4020 ≤ i) && decide (i ≤ 0x4022))
      || (decide (0x5830 ≤ i) && decide (i ≤ 0x5833)) || (decide (0x6012 ≤ i) && decide (i ≤ 0x6016))
      || (decide (0x6400 ≤ i) && decide (i ≤ 0x6402)) then some (k % 256 - 1)
  else none

/-- Does a group or plan entry, as it stands or as it is written, name a context that is not CLOSED (R291)? An entry that
stands counts when it is VALID. -/
def State.ownedOpen (s : State) (old new hi lo : Nat) : Bool :=
  (s.cx (bits new hi lo)).st ≠ .closed || (bit old 0 && (s.cx (bits old hi lo)).st ≠ .closed)

/-- PORT_ENABLE takes a value (R395): a port whose bit is cleared is DISABLED, one whose bit is set goes to DETECT. -/
def State.portEnable (s : State) (v : Nat) : State :=
  let old := s.par K.PORT_ENABLE
  let s := s.setPar K.PORT_ENABLE v
  (List.range 27).foldl (fun s q =>
    if !s.part.hasPort q || bit old q = bit v q then s
    else if bit v q then s.setPort q { s.port q with mode := .detect }
    else s.losePort q .disabled) s

/-- RESET_CTRL: the domain and unit of a value (R481). -/
def State.resetCtrl (s : State) (v : Nat) : Bool × State :=
  let unit := 64 * bits v 11 10
  let go (d : Domain) (u : Nat) : Bool × State := (s.live && s.resetAllowed d, s.whenLive (fun s => s.resetWrite d u))
  match bits v 3 0 with
  | 1 => go .core (unit + 8 * bits v 9 7 + bits v 6 4)
  | 2 => (s.live && s.resetAllowed .mgmt, s.whenLive State.mgmtResetWrite)
  | 3 => go .cluster (unit + 8 * bits v 9 7)
  | 4 => if bits v 8 4 < 9 * s.part.ioDies then go .port (bits v 8 4) else (false, s)
  | 5 => go .die unit
  | _ => go .warm 0

/-- CLUSTER_SLEEP_DELAY applies to clusters that become idle after the write (R564). -/
def State.keepDelays (s : State) : State :=
  let old := s.par K.CLUSTER_SLEEP_DELAY
  (List.range 32).foldl (fun s c => if (s.cl c).running then s else s.modCl c (fun l =>
    { l with delay := some (l.delay.getD old) })) s

/-- ARRAY_FILL_GAP is read as a gap begins (R120): a core whose hold still runs begins its gap later. -/
def State.laterGaps (s : State) (v : Nat) : State :=
  (List.range 256).foldl (fun s k =>
    if s.now < (s.co k).holdTill then s.modCo k (fun o => { o with fillGap := v }) else s) s

/-- The effect of a write that stands in its entry's range: whether it is accepted, and the state. `v` is the value with
its reserved bits at 0, `bytes` what was carried. -/
def State.applyWrite (s : State) (k v : Nat) (bytes : List Nat) : Bool × State :=
  let n := k % 256 - 1
  let plain : Bool × State := (true, s.setPar k v)
  let run (f : State → State) : Bool × State := (s.live, s.whenLive f)
  match frozenBy k with
  | some x => if (s.cx x).st = .closed then plain else (false, s)
  | none =>
    match k / 256 with
    | 0x1000 => (true, s.modMgmt (fun m => { m with asset := bytes }))
    | 0x1020 => (true, s.nvCtrl (v = 1))
    | 0x2000 =>
      if v = 0 then (true, s.whenLive State.wakePower)
      else if s.powerRefused then (false, s)
      else (true, s.enterPower (if v = 2 then .retain else .deep))
    | 0x2020 => if n = 2 then (true, s.clearFlags k v) else plain
    | 0x2400 => (true, s.keepDelays.setPar k v)
    | 0x3010 => (true, (s.laterGaps v).setPar k v)
    | 0x3410 =>
      if v = 1 then (s.openAllowed n, s.openCtx n)
      else (true, s.whenLive (fun s => s.teardown n true 0))
    | 0x4010 => if n = 0 then plain else (s.live && !s.keyBad v, s.writeKeyEntry (s.par K.KEY_SELECT) v)
    | 0x4420 => (!s.repairRefused v, s.repairCmd v)
    | 0x4430 =>
      if n = 0 then plain
      else if n = 1 then (true, s.setGen s.tgSelect { s.gen s.tgSelect with cfg := v })
      else if v = 1 then (s.live && s.powered && !s.tgRefused, s.tgStart)
      else (true, s.tgStop)
    | 0x5000 =>
      match n with
      | 1 => (true, s.portEnable v)
      | 4 => (true, s.portCtrl (bits v 4 0))
      | _ => plain
    | 0x5020 =>
      if n = 0 then plain
      else (true, { s with links := { s.links with routes := Tbl.put s.links.routes 0 (s.par K.ROUTE_SELECT) v } })
    | 0x5400 => (true, s.writeMembership v)
    | 0x5410 =>
      let e := s.par K.EP_SELECT
      if n = 0 then plain
      else (s.live && decide (bits e 19 18 < s.part.ioDies) && bits e 17 0 ≠ 0x3FFFF,
        s.writeEp (bits e 19 18) (bits e 17 0) v)
    | 0x5810 =>
      let g := s.par K.GROUP_SELECT
      if n = 0 then plain
      else if s.ownedOpen (Tbl.get s.groups 0 g).toNat v 145 142 then (false, s)
      else (true, { s with groups := Tbl.put s.groups 0 g (BitVec.ofNat 256 v) })
    | 0x5820 =>
      let p := s.par K.PLAN_SELECT
      if n = 0 then plain
      else if s.ownedOpen (s.planWord p) v 504 501 then (false, s)
      else (true, { s with plans := Tbl.put s.plans 0 p (BitVec.ofNat 512 v) })
    | 0x6404 => run (fun s => s.mirrorCtrl n)
    | 0x6410 =>
      let t := s.whenLive (fun s => s.wardrobeSendWrite v)
      (s.live && t.send.state ≠ 3, t)
    | 0x6420 =>
      let t := s.whenLive (fun s => s.ckptWrite n v)
      (s.live && (t.mir n).ckptState ≠ 4, t)
    | 0x6430 => run (fun s => s.restoreWrite n v)
    | 0x7050 =>
      match n with
      | 3 => run (fun s => if bits v 17 16 = 1 then s.expelAccept (bits v 15 0) else s.expelDefer (bits v 15 0))
      | 6 => run (fun s => s.setObserving (v = 1))
      | _ => plain
    | 0x7410 => (true, s.clearFlags k v)
    | 0x7420 =>
      match n with
      | 0 => s.resetCtrl v
      | 3 => run (fun s => s.startDump 0xFF false)
      | _ => plain
    | 0x7430 => run (fun s => s.enterSpare 1 v 0)
    | 0x7440 => if n = 2 then (true, s.ackReports v) else plain
    | 0x8420 => (true, { s.setPar k v with traces := Tbl.put s.traces {} n {} })
    | 0x9010 => (!s.attestRefused, s.attest v)
    | _ => plain

/-! ### Commits (R547, R548) -/

/-- The value that an entry holds in the NV area: its factory default when none is stored. -/
def State.nvStored (s : State) (r : OdRow) (k : Nat) : List Nat :=
  match Tbl.get s.service.mgmt.nv [] k with
  | [] => if r.ty = .string then [] else toBytes r.size r.dflt
  | v => v

/-- The value that an entry's last commit in progress will store, or the stored one. -/
def State.nvLast (s : State) (r : OdRow) (k : Nat) : List Nat :=
  match (s.service.mgmt.commits.filter (fun c => c.key = k)).getLast? with
  | some c => c.value
  | none => s.nvStored r k

end Sys2Proof.Machine
end

