-- ==== Sys2Proof/Machine/MgmtRows.lean ====
section
/-!
DEFINITION. The management channel (R526 to R552): requests, their checks and their replies; the boot and recovery messages
(R583, R584, R586).
-/

namespace Sys2Proof.Machine

/-! ### Requests and replies (R528 to R532) -/

/-- A management request (R530). -/
structure MReq where
  port : Nat
  op : Nat
  index : Nat
  sub : Nat
  saddr : Nat
  sel : Nat
  selv : Bool
  length : Nat
  segment : Nat
  tag : Nat
  data : List Nat
deriving DecidableEq, Repr

/-- Reads a request. -/
def MReq.read (p : Nat) (m : Msg) : MReq :=
  let w := m.slot 1
  let n := bits w 30 20
  { port := p
    op := bits w 127 120
    index := bits w 111 96
    sub := bits w 95 88
    saddr := bits w 87 64
    sel := bits w 63 32
    selv := bit w 31
    length := n
    segment := bits w 19 10
    tag := m.common.tag
    data := ((List.drop 2 m).map (fun x => toBytes 16 x.toNat)).flatten.take n }

/-- The entry that a request names. -/
def MReq.key (r : MReq) : Nat := r.index * 256 + r.sub

/-- The reply to a request (R532). -/
def State.replyMsg (s : State) (r : MReq) (status sel : Nat) (data : List Nat) : Msg :=
  mgmtMsg r.saddr r.tag (((r.op + 0x80) % 256) <<< 120 + status <<< 112 + r.index <<< 96 + r.sub <<< 88
    + (s.ioAddr 0) <<< 64 + (sel % 2 ^ 32) <<< 32 + data.length <<< 20 + r.segment <<< 10) data

/-- A reply leaves by the port on which its request came, or is dropped (R532). -/
def State.sendReply (s : State) (p : Nat) (m : Msg) : State :=
  if s.part.hasPort p && (s.port p).mode = .active then s.toPort p m else s.bump K.MGMT_SEND_DROPS 1

/-- Answers a request, counting what R533 counts. -/
def State.reply (s : State) (r : MReq) (status sel : Nat) (data : List Nat) : State :=
  let s := if status = 0 then s else s.bump K.MGMT_ERROR_REPLIES 1
  let s := if status = 7 then s.bump K.MGMT_BUSY_REPLIES 1 else s
  s.sendReply r.port (s.replyMsg r status (if status = 0 then sel else 0) (if status = 0 then data else []))

/-- A request whose turn has come: its state after it has left the queue; none while others stand
before it (R534), or while it may not cross to the management core: over a die in reset (R14, R482) or in DEEP (R571). -/
def State.takeRequest (s : State) (p : Nat) (m : Msg) : Option State :=
  match s.service.mgmt.queue with
  | [] => if s.pathWaits (4 + p / 9) 4 || (s.power.state = .deep && decide (9 ≤ p)) then none else some s
  | q :: l => if q = (p, m) then some (s.modMgmt (fun g => { g with queue := l })) else none

/-- Serves a request of one of some operations when its turn has come (R529, R534, R571). A request of another operation is
left where it is; one that finds others before it joins the queue, or finds it full. -/
def State.serve (s : State) (p : Nat) (m : Msg) (ops : Nat → Bool) (act : MReq → State → State) : State :=
  let r := MReq.read p m
  if !s.answering || m.common.mtype ≠ 1 || !s.forMgmt m || !ops r.op || !s.part.hasPort p then s
  else if !m.wellFormed || m.length ≠ 2 + ceilDiv r.length 16 then s.bump K.BAD_MESSAGES 1
  else
    match s.takeRequest p m with
    | none => if s.service.mgmt.queue.contains (p, m) then s else s.queueMgmt p m
    | some t => act r (t.bump K.MGMT_REQUESTS 1)

/-! ### Checks (R533) -/

/-- The row of an entry; subindex 0 holds the highest subindex of its index (R526). -/
def entryRow (k : Nat) : Option OdRow :=
  if k % 256 = 0 then (odTop (k / 256)).map (fun t => ⟨k, 1, .u8, 1, .ro, false, false, false, t, 1, 255, 255⟩)
  else odRow k

/-- The select partner of a data entry (R544). -/
def selectOf (k : Nat) : Option Nat :=
  if k = 0x401002 || k = 0x502002 || k = 0x541002 || k = 0x581002 || k = 0x582002 || k = 0x821002 || k = 0x840002
      || k = 0x841002 || k = 0x443002 || k = 0x443003 || k = 0x443004 then some (k / 256 * 256 + 1)
  else none

/-- SEL as the select partner takes it: cut to its width, reserved bits at 0 (R7, R544). -/
def selValue (r : OdRow) (sel : Nat) : Nat := Nat.land (sel % 2 ^ (8 * r.size)) r.mask

/-- Is an access firmware-held (R550)? -/
def firmwareHeld (r : OdRow) (k : Nat) (write : Bool) : Bool :=
  let i := k / 256
  (decide (0x9000 ≤ i) && decide (i ≤ 0x9FFF))
    || (write && ((r.nv && !(decide (0x2000 ≤ i) && decide (i ≤ 0x27FF))) || k = K.NV_CTRL || k = K.HBM_REPAIR_CMD))

/-- The snapshot of an entry that a sender took (R541). -/
def State.snapOf (s : State) (saddr k : Nat) : Option Snapshot :=
  s.service.mgmt.snaps.find? (fun q => q.saddr = saddr && q.entry = k)

/-- BAD_REQUEST of R533. -/
def MReq.bad (r : MReq) : Bool :=
  !(r.op = 1 || r.op = 2 || r.op = 3) || (r.op ≠ 2 && r.length ≠ 0) || (r.op ≠ 1 && r.segment ≠ 0)
    || (r.selv && ((selectOf r.key).isNone || r.segment ≠ 0))

/-- TYPE of R533: a WRITE whose LENGTH its type does not allow. -/
def OdRow.badLength (o : OdRow) (n : Nat) : Bool := if o.ty = .string then decide (o.size < n) else n ≠ o.size

/-- The last segment of an entry (R540). -/
def OdRow.lastSegment (o : OdRow) : Nat := if o.ty = .blob then (o.size - 1) / 1024 else 0

/-- Does an entry's READ take snapshots (R541)? -/
def OdRow.snapped (o : OdRow) : Bool := o.ty = .blob && decide (o.size ≤ 8192)

/-- The first status of R533 up to RANGE, 0 for none. -/
def State.mgmtCheck (s : State) (r : MReq) : Nat :=
  if r.bad then 1
  else
    match entryRow r.key with
    | none => 2
    | some o =>
      let v := o.clean r.key (ofBytes r.data)
      let selBad := match r.selv, (selectOf r.key).bind odRow with
        | true, some q => decide (selValue q r.sel < q.lo) || decide (q.hi < selValue q r.sel)
        | _, _ => false
      if (r.op = 1 && o.acc = .wo) || (r.op = 2 && (o.acc = .ro || o.acc = .pr)) then 3
      else if r.op = 2 && o.badLength r.length then 4
      else if r.op = 1 && decide (o.lastSegment < r.segment) then 5
      else if r.op = 1 && o.snapped && r.segment ≠ 0 && (s.snapOf r.saddr r.key).isNone then 6
      else if r.op ≠ 3 && firmwareHeld o r.key (r.op = 2) && !(s.live && s.service.mgmt.coreUp) then 7
      else if selBad || (r.op = 2 && !o.inRange r.key v r.data) then 8
      else 0

/-- SEL goes into the select partner (R544). -/
def State.select (s : State) (r : MReq) : State :=
  match r.selv, (selectOf r.key).bind odRow with
  | true, some q => s.setPar q.key (selValue q r.sel)
  | _, _ => s

/-! ### READ, WRITE, DESCRIBE -/

/-- Keeps a snapshot (R542). -/
def State.keepSnap (s : State) (q : Snapshot) : State :=
  s.modMgmt (fun m =>
    let l := m.snaps.filter (fun p => !(p.saddr = q.saddr && p.entry = q.entry))
    { m with snaps := (if 8 ≤ l.length then l.drop 1 else l) ++ [q] })

/-- A segment of a value (R540). -/
def segmentOf (n : Nat) (bs : List Nat) : List Nat := (bs.drop (1024 * n)).take 1024

/-- Serves a READ that passes the checks. -/
def State.readReply (s : State) (r : MReq) (o : OdRow) : State :=
  let s := s.select r
  if r.segment ≠ 0 && o.snapped then
    match s.snapOf r.saddr r.key with
    | none => s
    | some q => (s.keepSnap q).reply r 0 o.size (segmentOf r.segment q.bytes)
  else
    let d := s.readEntry r.key
    let s := if o.snapped then d.1.keepSnap ⟨r.saddr, r.key, d.2⟩ else d.1
    s.reply r 0 (if o.ty = .string then d.2.length else o.size) (segmentOf r.segment d.2)

/-- MGMT_READ: a READ, or a request of an operation that no manager sends (R531). -/
def State.mgmtRead (r : MReq) (s : State) : State :=
  let st := s.mgmtCheck r
  if st ≠ 0 then s.reply r st 0 []
  else
    match entryRow r.key with
    | none => s
    | some o => s.readReply r o

/-- Ends an accepted WRITE: a changed NV value is committed before the reply (R547). -/
def State.writeReply (s : State) (r : MReq) (o : OdRow) (v : Nat) : State :=
  let bytes := if o.ty = .string then r.data else toBytes o.size v
  if o.nv && s.nvLast o r.key ≠ bytes then
    s.modMgmt (fun m => { m with commits := m.commits ++ [⟨r.key, bytes, some (r.port, s.replyMsg r 0 o.size [])⟩] })
  else s.reply r 0 o.size []

/-- MGMT_WRITE (R535, R536). A refused write leaves the select partner as it was. -/
def State.mgmtWrite (r : MReq) (s : State) : State :=
  let st := s.mgmtCheck r
  if st ≠ 0 then s.reply r st 0 []
  else
    match entryRow r.key with
    | none => s
    | some o =>
      let v := o.clean r.key (ofBytes r.data)
      let res := (s.select r).applyWrite r.key v r.data
      if res.1 then res.2.writeReply r o v
      else
        let t := match r.selv, selectOf r.key with
          | true, some q => res.2.setPar q (s.par q)
          | _, _ => res.2
        t.reply r 9 0 []

/-- The descriptor of an entry (R538). -/
def OdRow.descriptor (o : OdRow) (k : Nat) : Nat :=
  let scalar := o.ty ≠ .string && o.ty ≠ .blob
  let fw := firmwareHeld o k true
  (if scalar then o.dflt % 2 ^ 64 else 0) <<< 192 + (o.lo % 2 ^ 64) <<< 128 + (o.hi % 2 ^ 64) <<< 64 + o.size <<< 32
    + o.ty.code <<< 28 + o.acc.code <<< 24 + b2n o.nv <<< 23 + b2n fw <<< 22 + b2n o.w1c <<< 21 + b2n o.var <<< 20
    + b2n (selectOf k).isSome <<< 19

/-- MGMT_DESCRIBE (R538). -/
def State.mgmtDescribe (r : MReq) (s : State) : State :=
  let st := s.mgmtCheck r
  if st ≠ 0 then s.reply r st 0 []
  else
    match entryRow r.key with
    | none => s
    | some o => (s.select r).reply r 0 o.size (toBytes 32 (o.descriptor r.key))

/-- Operations that MGMT_READ serves: all but those with rows of their own. -/
def readOp (op : Nat) : Bool := !(op = 2 || op = 3 || (decide (0x11 ≤ op) && decide (op ≤ 0x15)))

/-- MGMT_READ (R541). -/
def execMgmtRead (port : Fin 27) (req : List (BitVec 128)) (s : State) : Outcome :=
  s.ends (s.serve port.val req readOp State.mgmtRead)
/-- MGMT_WRITE (R535). -/
def execMgmtWrite (port : Fin 27) (req : List (BitVec 128)) (s : State) : Outcome :=
  s.ends (s.serve port.val req (fun op => op = 2) State.mgmtWrite)
/-- MGMT_DESCRIBE (R538). -/
def execMgmtDescribe (port : Fin 27) (req : List (BitVec 128)) (s : State) : Outcome :=
  s.ends (s.serve port.val req (fun op => op = 3) State.mgmtDescribe)

/-! ### Non-volatile entries (R547 to R549) -/

/-- The first commit in progress ends (R547, R548). -/
def State.commitEnd (s : State) (ok : Bool) : State :=
  match s.service.mgmt.commits with
  | [] => s
  | c :: l =>
    let s := (s.modMgmt (fun m => { m with commits := l })).bump K.NV_COMMITS 1
    let s := if ok then s.storeNv c.key c.value else s.modMgmt (fun m => { m with nvFailed := true })
    match c.reply with
    | none => s
    | some (p, m) =>
      if ok then s.sendReply p m
      else
        let w := setBits (setBits (m.slot 1) 119 112 0xA) 63 32 0
        (s.bump K.MGMT_ERROR_REPLIES 1).sendReply p (m.set 1 (BitVec.ofNat 128 w))

/-- NV_COMMIT_END (R547, R548). -/
def execNvCommitEnd (ok : Bool) (s : State) : Outcome := s.ends (if s.answering then s.commitEnd ok else s)
/-- NV_RESTORE_DEFAULTS (R549). -/
def execNvRestoreDefaults (s : State) : Outcome := s.ends (s.nvCtrl true)
/-- NV_RESTORE_CANCEL (R549). -/
def execNvRestoreCancel (s : State) : Outcome := s.ends (s.nvCtrl false)

/-! ### Images (R582 to R586) -/

/-- The image that is being staged. -/
def State.setStaged (s : State) (g : Option Staged) : State := s.modBoot (fun b => { b with staged := g })

/-- Without service memory there is no staging area (R583). -/
def State.noStaging (s : State) : Bool := s.boot.mode = .rom && s.boot.cause = 8

/-- IMAGE_BEGIN (R584). -/
def State.imageBegin (r : MReq) (s : State) : State :=
  if r.length ≠ 0 || r.segment ≠ 0 then s.reply r 1 0 []
  else if r.sel < 4097 || 67108864 < r.sel then s.reply r 8 0 []
  else if s.boot.writing || s.noStaging then s.reply r 9 0 []
  else (s.setStaged (some { length := r.sel })).reply r 0 0 []

/-- IMAGE_DATA (R584). -/
def State.imageData (r : MReq) (s : State) : State :=
  if r.length = 0 || 1024 < r.length || r.segment ≠ 0 then s.reply r 1 0 []
  else
    match s.boot.staged with
    | none => s.reply r 9 0 []
    | some g =>
      if g.length < 1024 * r.sel + r.length then s.reply r 8 0 []
      else if s.noStaging then s.reply r 9 0 []
      else
        let ch := insertNat r.sel g.chunks
        let s : State := { s with mem := { s.mem with service := s.mem.service.write (1024 * r.sel) r.data } }
        (s.setStaged (some { g with chunks := ch, verdict := none })).reply r 0 ch.length []

/-- The verdict of IMAGE_CHECK on the staged image: 0, or the cause of the first failure of checks 2 to 5 (R582). -/
def State.checkImage (s : State) : Nat :=
  (s.modBoot (fun b => { b with flashStatus := setBits b.flashStatus 9 9 1 })).verifyImage

/-- IMAGE_CHECK (R584). -/
def State.imageCheck (r : MReq) (s : State) : State :=
  if r.length ≠ 0 || r.segment ≠ 0 then s.reply r 1 0 []
  else
    match s.boot.staged with
    | none => s.reply r 9 0 []
    | some g =>
      if g.chunks.length < ceilDiv g.length 1024 || s.noStaging then s.reply r 9 0 []
      else
        let c := s.checkImage
        (s.setStaged (some { g with verdict := some c })).reply r 0 c []

/-- Has the staged image passed its check? -/
def State.passed (s : State) : Bool :=
  match s.boot.staged with
  | some g => g.verdict = some 0 && !s.noStaging
  | none => false

/-- IMAGE_FLASH: the first sector is erased before anything else (R584, R586). -/
def State.imageFlash (r : MReq) (s : State) : State :=
  if r.length ≠ 0 || r.segment ≠ 0 then s.reply r 1 0 []
  else if !s.passed || !bit s.boot.flashStatus 9 || s.boot.writing then s.reply r 9 0 []
  else (s.modBoot (fun b => { (b.eraseFlash 0 0x10000) with writing := true, progress := 0 })).reply r 0 0 []

/-- The write of an image ends (R586): the first sector comes last. A write that fails leaves the first sector erased, and
how much of the body it has written is open. -/
def State.flashEnd (s : State) (ok : Bool) : State :=
  match s.boot.staged with
  | none => s
  | some g =>
    if !s.boot.writing then s
    else
      let f := s.draw
      let s := if ok then s else f.2
      let n := if ok then g.length else 0x10000 + f.1 % (g.length + 1)
      let body := s.staging 0x10000 (min n g.length - 0x10000)
      let first := s.staging 0 (min 0x10000 g.length)
      s.modBoot (fun b =>
        let b := (b.eraseFlash 0x10000 (ceilDiv body.length 0x10000 * 0x10000)).writeFlash 0x10000 body
        let b := if ok then b.writeFlash 0 first else b
        { b with
          writing := false
          progress := if ok then 100 else b.progress
          flashStatus := setBits b.flashStatus 10 10 (b2n (!ok)) })

/-- IMAGE_START: the reply leaves, the queue is discarded, and the boot goes on from step 5 (R584, R597). -/
def State.imageStart (b : BootIn) (r : MReq) (s : State) : State :=
  if r.length ≠ 0 || r.segment ≠ 0 then s.reply r 1 0 []
  else if !s.passed then s.reply r 9 0 []
  else
    let s := (s.reply r 0 0 []).modMgmt (fun m => { m with queue := [] })
    let cold := !s.live
    ({ s with now := s.now + 4000 * b.took.toNat } : State).bootFrom5 b cold

/-- IMAGE_BEGIN (R584). -/
def execImageBegin (port : Fin 27) (req : List (BitVec 128)) (s : State) : Outcome :=
  s.ends (s.serve port.val req (fun op => op = 0x11) State.imageBegin)
/-- IMAGE_DATA (R584). -/
def execImageData (port : Fin 27) (req : List (BitVec 128)) (s : State) : Outcome :=
  s.ends (s.serve port.val req (fun op => op = 0x12) State.imageData)
/-- IMAGE_CHECK (R584). -/
def execImageCheck (port : Fin 27) (req : List (BitVec 128)) (s : State) : Outcome :=
  s.ends (s.serve port.val req (fun op => op = 0x13) State.imageCheck)
/-- IMAGE_FLASH (R584, R586). -/
def execImageFlash (port : Fin 27) (req : List (BitVec 128)) (s : State) : Outcome :=
  s.ends (s.serve port.val req (fun op => op = 0x14) State.imageFlash)
/-- IMAGE_FLASH_END (R586). -/
def execImageFlashEnd (ok : Bool) (s : State) : Outcome := s.ends (if s.answering then s.flashEnd ok else s)
/-- IMAGE_START (R584). -/
def execImageStart (port : Fin 27) (req : List (BitVec 128)) (b : BootIn) (s : State) : Outcome :=
  s.ends (s.serve port.val req (fun op => op = 0x15) (State.imageStart b))

/-! ### Announcements (R583) -/

/-- The announcement of a part in ROM recovery (R583, R584). -/
def State.announcement (s : State) (daddr : Nat) : Msg :=
  mgmtMsg daddr 0 (0x10 <<< 120 + (s.ioAddr 0) <<< 64 + (s.boot.cause + (s.boot.straps / 4) <<< 8) <<< 32 + 16 <<< 20)
    serialBytes

/-- In ROM recovery, the part announces itself on every ACTIVE port, and to REPORT_ADDRESS (R583). -/
def State.announce (s : State) : State :=
  if s.boot.mode ≠ .rom then s
  else
    let s := s.reach s.boot.announce
    let s := s.modBoot (fun b => { b with announce := s.now + 1000 * unitsPerMs })
    let s := (List.range 27).foldl (fun s p =>
      if s.part.hasPort p && (s.port p).mode = .active then s.toPort p (s.announcement 0xFFFFFF) else s) s
    let a := bits (s.par K.REPORT_ADDRESS) 23 0
    if a = 0 then s
    else
      match (s.route a).bind (fun mask => s.choosePort mask 0) with
      | none => s.bump K.MGMT_SEND_DROPS 1
      | some p => s.toPort p (s.announcement a)

/-- ANNOUNCE (R583). -/
def execAnnounce (s : State) : Outcome := s.ends s.announce

/-! ### Attestation (R592) -/

/-- ATTEST_REQUEST (R592). -/
def execAttestRequest (nonce : BitVec 256) (s : State) : Outcome := s.ends (s.attest nonce.toNat)
/-- ATTEST_BUILD_END (R592). -/
def execAttestBuildEnd (s : State) : Outcome := s.ends s.attestBuilt

/-! ### SMBus and TAP (R595, R596) -/

/-- Changes the SMBus target. -/
def State.modSmbus (s : State) (f : Smbus → Smbus) : State := s.modBoot (fun b => { b with smbus := f b.smbus })

/-- May the SMBus read an entry (R595)? -/
def smbusOk (k : Nat) : Bool :=
  let i := k / 256
  ((decide (0x1000 ≤ i) && decide (i ≤ 0x10FF)) || (decide (0x2000 ≤ i) && decide (i ≤ 0x27FF))
    || (decide (0xA000 ≤ i) && decide (i ≤ 0xAFFF))) &&
    (match entryRow k with
     | some o => o.acc ≠ .wo
     | none => false)

/-- A Block Read of command 0x11 (R595): the count and the value. -/
def State.smbusBlock (s : State) : State :=
  let k := s.boot.smbus.entry
  if !s.answering then s
  else if !smbusOk k then s.modSmbus (fun b => { b with out := [0] })
  else
    let d := s.readEntry k
    d.1.modSmbus (fun b => { b with out := if 32 < d.2.length then [0] else d.2.length :: d.2 })

/-- SMBUS_SELECT (R595). -/
def execSmbusSelect (index : BitVec 16) (sub : BitVec 8) (s : State) : Outcome :=
  s.ends (if s.answering then s.modSmbus (fun b => { b with entry := index.toNat * 256 + sub.toNat }) else s)
/-- SMBUS_READ (R595). -/
def execSmbusRead (s : State) : Outcome := s.ends s.smbusBlock

/-- IDCODE (R596). -/
def State.idcode (s : State) : BitVec 32 :=
  BitVec.ofNat 32 ((stepping / 256 % 16) <<< 28 + s.part.grade <<< 12 + 0x4D3 <<< 1 + 1)

/-- Does an instruction act as it says, rather than as BYPASS (R596)? The lanes are unpowered in reset. -/
def State.tapActs (s : State) (i : TapIns) : Bool :=
  match i with
  | .bypass | .idcode | .samplePreload => true
  | .extest | .clamp | .highz => s.boot.mode = .resetLow || s.boot.mode = .hold
  | .extestPulse | .extestTrain => s.boot.mode = .hold

/-- The TAP takes an instruction while the 3.3 V input is present (R596). -/
def State.tapTake (s : State) (i : TapIns) : State :=
  if !s.power.aoOn then s
  else s.modBoot (fun b => { b with tap := ⟨i, if i = .idcode then s.idcode else 0⟩ })

/-- The instruction that acts: BYPASS, where the one taken does not act (R596). -/
def State.tapActing (s : State) : TapIns := if s.tapActs s.boot.tap.taken then s.boot.tap.taken else .bypass

/-- BYPASS (R596). -/
def execBypass (s : State) : Outcome := s.ends (s.tapTake .bypass)
/-- IDCODE (R596). -/
def execIdcode (s : State) : Outcome := s.ends (s.tapTake .idcode)
/-- SAMPLE/PRELOAD (R596). -/
def execSamplePreload (s : State) : Outcome := s.ends (s.tapTake .samplePreload)
/-- EXTEST (R596). -/
def execExtest (s : State) : Outcome := s.ends (s.tapTake .extest)
/-- CLAMP (R596). -/
def execClamp (s : State) : Outcome := s.ends (s.tapTake .clamp)
/-- HIGHZ (R596). -/
def execHighz (s : State) : Outcome := s.ends (s.tapTake .highz)
/-- EXTEST_PULSE (R596). -/
def execExtestPulse (s : State) : Outcome := s.ends (s.tapTake .extestPulse)
/-- EXTEST_TRAIN (R596). -/
def execExtestTrain (s : State) : Outcome := s.ends (s.tapTake .extestTrain)

end Sys2Proof.Machine
end

