-- ==== Sys2Proof/Machine/Dispatch.lean ====
section
/-!
DEFINITION. One arm per command: the one place where a command meets its meaning.
-/

namespace Sys2Proof.Machine

def exec (i : Instr) (s : State) : Host.Outcome State Fault Refusal :=
  match i with
  | .nop cl => Sys2Proof.Machine.execNop cl s
  | .mma cl => Sys2Proof.Machine.execMma cl s
  | .arrayWarm cl => Sys2Proof.Machine.execArrayWarm cl s
  | .arrayRampDown core => Sys2Proof.Machine.execArrayRampDown core s
  | .arrayRampUp core => Sys2Proof.Machine.execArrayRampUp core s
  | .epiFmt cl => Sys2Proof.Machine.execEpiFmt cl s
  | .epiScale cl => Sys2Proof.Machine.execEpiScale cl s
  | .epiClip cl => Sys2Proof.Machine.execEpiClip cl s
  | .epiKeys cl => Sys2Proof.Machine.execEpiKeys cl s
  | .epiStride cl => Sys2Proof.Machine.execEpiStride cl s
  | .vadd cl => Sys2Proof.Machine.execVadd cl s
  | .vsub cl => Sys2Proof.Machine.execVsub cl s
  | .vmul cl => Sys2Proof.Machine.execVmul cl s
  | .vfma cl => Sys2Proof.Machine.execVfma cl s
  | .vmax cl => Sys2Proof.Machine.execVmax cl s
  | .vmin cl => Sys2Proof.Machine.execVmin cl s
  | .vsel cl => Sys2Proof.Machine.execVsel cl s
  | .vexp2 cl => Sys2Proof.Machine.execVexp2 cl s
  | .vlog2 cl => Sys2Proof.Machine.execVlog2 cl s
  | .vrcp cl => Sys2Proof.Machine.execVrcp cl s
  | .vrsqrt cl => Sys2Proof.Machine.execVrsqrt cl s
  | .vdot cl => Sys2Proof.Machine.execVdot cl s
  | .cvt cl => Sys2Proof.Machine.execCvt cl s
  | .semWait cl => Sys2Proof.Machine.execSemWait cl s
  | .semAdd cl => Sys2Proof.Machine.execSemAdd cl s
  | .semSub cl => Sys2Proof.Machine.execSemSub cl s
  | .fencedPostEffect cl => Sys2Proof.Machine.execFencedPostEffect cl s
  | .semaphorePostArrival n => Sys2Proof.Machine.execSemaphorePostArrival n s
  | .semWaitWake st => Sys2Proof.Machine.execSemWaitWake st s
  | .dmaIssue cl => Sys2Proof.Machine.execDmaIssue cl s
  | .dmaCompletion cl seq => Sys2Proof.Machine.execDmaCompletion cl seq s
  | .dmaTimeout cl seq => Sys2Proof.Machine.execDmaTimeout cl seq s
  | .loop cl => Sys2Proof.Machine.execLoop cl s
  | .endProg cl => Sys2Proof.Machine.execEndProg cl s
  | .programBoundary cl => Sys2Proof.Machine.execProgramBoundary cl s
  | .qcfg cl => Sys2Proof.Machine.execQcfg cl s
  | .qreset cl => Sys2Proof.Machine.execQreset cl s
  | .qmove cl => Sys2Proof.Machine.execQmove cl s
  | .qmoveArrival n => Sys2Proof.Machine.execQmoveArrival n s
  | .qdrop cl => Sys2Proof.Machine.execQdrop cl s
  | .commandRead x => Sys2Proof.Machine.execCommandRead x s
  | .load x => Sys2Proof.Machine.execLoad x s
  | .run x => Sys2Proof.Machine.execRun x s
  | .signal x => Sys2Proof.Machine.execSignal x s
  | .wait x => Sys2Proof.Machine.execWait x s
  | .contextOpen x => Sys2Proof.Machine.execContextOpen x s
  | .contextTeardown x => Sys2Proof.Machine.execContextTeardown x s
  | .hangScan => Sys2Proof.Machine.execHangScan s
  | .hangDeclaration x => Sys2Proof.Machine.execHangDeclaration x s
  | .semWaitTimeout st => Sys2Proof.Machine.execSemWaitTimeout st s
  | .statusFlagClear entry mask => Sys2Proof.Machine.execStatusFlagClear entry mask s
  | .keyEntryWrite key value => Sys2Proof.Machine.execKeyEntryWrite key value s
  | .memoryAccessArrival ev => Sys2Proof.Machine.execMemoryAccessArrival ev s
  | .drawerSpillCopy x die => Sys2Proof.Machine.execDrawerSpillCopy x die s
  | .drawerPageGrant x die => Sys2Proof.Machine.execDrawerPageGrant x die s
  | .stashTimeout x die => Sys2Proof.Machine.execStashTimeout x die s
  | .gatherFetch p => Sys2Proof.Machine.execGatherFetch p s
  | .gatherReq m => Sys2Proof.Machine.execGatherReq m s
  | .gatherReply m => Sys2Proof.Machine.execGatherReply m s
  | .gatherUnitTimeout p => Sys2Proof.Machine.execGatherUnitTimeout p s
  | .reduceSubmission p faults => Sys2Proof.Machine.execReduceSubmission p faults s
  | .partialMsg m faults => Sys2Proof.Machine.execPartialMsg m faults s
  | .collectiveTimeout p unit round => Sys2Proof.Machine.execCollectiveTimeout p unit round s
  | .stepOpen x => Sys2Proof.Machine.execStepOpen x s
  | .replayStepOpen x => Sys2Proof.Machine.execReplayStepOpen x s
  | .stepSeal x => Sys2Proof.Machine.execStepSeal x s
  | .stepAwait x => Sys2Proof.Machine.execStepAwait x s
  | .stepFail x => Sys2Proof.Machine.execStepFail x s
  | .health m => Sys2Proof.Machine.execHealth m s
  | .partnerHealth m => Sys2Proof.Machine.execPartnerHealth m s
  | .verdict m => Sys2Proof.Machine.execVerdict m s
  | .verdictApply x => Sys2Proof.Machine.execVerdictApply x s
  | .replayResult m => Sys2Proof.Machine.execReplayResult m s
  | .verdictTimeout x => Sys2Proof.Machine.execVerdictTimeout x s
  | .jobMembershipWrite v => Sys2Proof.Machine.execJobMembershipWrite v s
  | .hbmRepairCmd v => Sys2Proof.Machine.execHbmRepairCmd v s
  | .hbmTgStart => Sys2Proof.Machine.execHbmTgStart s
  | .hbmTgStop => Sys2Proof.Machine.execHbmTgStop s
  | .hbmTgDone site channel found => Sys2Proof.Machine.execHbmTgDone site channel found s
  | .codewordReceive port pair => Sys2Proof.Machine.execCodewordReceive port pair s
  | .flitRetryLimit port => Sys2Proof.Machine.execFlitRetryLimit port s
  | .portUncorrLimitExceeded port => Sys2Proof.Machine.execPortUncorrLimitExceeded port s
  | .portAlignmentLoss port => Sys2Proof.Machine.execPortAlignmentLoss port s
  | .portSignalDetect port => Sys2Proof.Machine.execPortSignalDetect port s
  | .portTrainingEnd port lanes cause rtt host => Sys2Proof.Machine.execPortTrainingEnd port lanes cause rtt host s
  | .portFailed port => Sys2Proof.Machine.execPortFailed port s
  | .portCtrlRetrain port => Sys2Proof.Machine.execPortCtrlRetrain port s
  | .dieLinkRetry => Sys2Proof.Machine.execDieLinkRetry s
  | .packageFault link => Sys2Proof.Machine.execPackageFault link s
  | .messageForward port m => Sys2Proof.Machine.execMessageForward port m s
  | .write m => Sys2Proof.Machine.execWrite m s
  | .semOp m => Sys2Proof.Machine.execSemOp m s
  | .resp m => Sys2Proof.Machine.execResp m s
  | .requestRetransmit io entry tag => Sys2Proof.Machine.execRequestRetransmit io entry tag s
  | .requestExhausted io entry tag => Sys2Proof.Machine.execRequestExhausted io entry tag s
  | .epEntryWrite io entry value => Sys2Proof.Machine.execEpEntryWrite io entry value s
  | .selftestStart cl => Sys2Proof.Machine.execSelftestStart cl s
  | .selftestEnd cl fails => Sys2Proof.Machine.execSelftestEnd cl fails s
  | .healthDecay => Sys2Proof.Machine.execHealthDecay s
  | .expelHoldoffEnd => Sys2Proof.Machine.execExpelHoldoffEnd s
  | .expelAccepted seq => Sys2Proof.Machine.execExpelAccepted seq s
  | .expelDeferred seq => Sys2Proof.Machine.execExpelDeferred seq s
  | .expelAnswerTimeout => Sys2Proof.Machine.execExpelAnswerTimeout s
  | .observationExitWrite => Sys2Proof.Machine.execObservationExitWrite s
  | .observationEnterWrite => Sys2Proof.Machine.execObservationEnterWrite s
  | .mirrorCtrlFull x => Sys2Proof.Machine.execMirrorCtrlFull x s
  | .mirrorRetry x => Sys2Proof.Machine.execMirrorRetry x s
  | .wardrobeSend v => Sys2Proof.Machine.execWardrobeSend v s
  | .restoreCtrl x v => Sys2Proof.Machine.execRestoreCtrl x v s
  | .restoreComplete x => Sys2Proof.Machine.execRestoreComplete x s
  | .ckptCtrl x v => Sys2Proof.Machine.execCkptCtrl x v s
  | .coreReset core => Sys2Proof.Machine.execCoreReset core s
  | .mgmtCoreReset => Sys2Proof.Machine.execMgmtCoreReset s
  | .clusterReset cl => Sys2Proof.Machine.execClusterReset cl s
  | .linkPortReset port => Sys2Proof.Machine.execLinkPortReset port s
  | .dieReset die => Sys2Proof.Machine.execDieReset die s
  | .packageWarmReset => Sys2Proof.Machine.execPackageWarmReset s
  | .dumpCtrl => Sys2Proof.Machine.execDumpCtrl s
  | .dumpEnd => Sys2Proof.Machine.execDumpEnd s
  | .dumpTruncation => Sys2Proof.Machine.execDumpTruncation s
  | .mgmtHeartbeat => Sys2Proof.Machine.execMgmtHeartbeat s
  | .mgmtWatchdogExpiry => Sys2Proof.Machine.execMgmtWatchdogExpiry s
  | .mgmtFailLimitReached => Sys2Proof.Machine.execMgmtFailLimitReached s
  | .aoStallTimeout => Sys2Proof.Machine.execAoStallTimeout s
  | .reportResend => Sys2Proof.Machine.execReportResend s
  | .reportAck seq => Sys2Proof.Machine.execReportAck seq s
  | .fenceNotice v => Sys2Proof.Machine.execFenceNotice v s
  | .fenceNoticeWaitExpiry => Sys2Proof.Machine.execFenceNoticeWaitExpiry s
  | .timeSyncIntervalExpiry => Sys2Proof.Machine.execTimeSyncIntervalExpiry s
  | .timeSyncRequest port m turn => Sys2Proof.Machine.execTimeSyncRequest port m turn s
  | .timeSyncReply port m => Sys2Proof.Machine.execTimeSyncReply port m s
  | .timeHoldover => Sys2Proof.Machine.execTimeHoldover s
  | .counterSampleInterval cl => Sys2Proof.Machine.execCounterSampleInterval cl s
  | .traceDrain die => Sys2Proof.Machine.execTraceDrain die s
  | .mgmtRead port req => Sys2Proof.Machine.execMgmtRead port req s
  | .mgmtWrite port req => Sys2Proof.Machine.execMgmtWrite port req s
  | .mgmtDescribe port req => Sys2Proof.Machine.execMgmtDescribe port req s
  | .nvCommitEnd ok => Sys2Proof.Machine.execNvCommitEnd ok s
  | .nvRestoreDefaults => Sys2Proof.Machine.execNvRestoreDefaults s
  | .nvRestoreCancel => Sys2Proof.Machine.execNvRestoreCancel s
  | .mainInputLoss => Sys2Proof.Machine.execMainInputLoss s
  | .mainInputRestore b => Sys2Proof.Machine.execMainInputRestore b s
  | .droopDetect cl => Sys2Proof.Machine.execDroopDetect cl s
  | .clusterSleep cl => Sys2Proof.Machine.execClusterSleep cl s
  | .powerStateRetain => Sys2Proof.Machine.execPowerStateRetain s
  | .powerStateDeep => Sys2Proof.Machine.execPowerStateDeep s
  | .powerStateActive => Sys2Proof.Machine.execPowerStateActive s
  | .powerTransitionEnd b => Sys2Proof.Machine.execPowerTransitionEnd b s
  | .thermalThrottleChange die hot => Sys2Proof.Machine.execThermalThrottleChange die hot s
  | .powerWindowEnd watts => Sys2Proof.Machine.execPowerWindowEnd watts s
  | .thermtrip sensor reading => Sys2Proof.Machine.execThermtrip sensor reading s
  | .resetLAssert => Sys2Proof.Machine.execResetLAssert s
  | .coldBoot b => Sys2Proof.Machine.execColdBoot b s
  | .announce => Sys2Proof.Machine.execAnnounce s
  | .imageBegin port req => Sys2Proof.Machine.execImageBegin port req s
  | .imageData port req => Sys2Proof.Machine.execImageData port req s
  | .imageCheck port req => Sys2Proof.Machine.execImageCheck port req s
  | .imageFlash port req => Sys2Proof.Machine.execImageFlash port req s
  | .imageFlashEnd ok => Sys2Proof.Machine.execImageFlashEnd ok s
  | .imageStart port req b => Sys2Proof.Machine.execImageStart port req b s
  | .attestRequest nonce => Sys2Proof.Machine.execAttestRequest nonce s
  | .attestBuildEnd => Sys2Proof.Machine.execAttestBuildEnd s
  | .smbusSelect index sub => Sys2Proof.Machine.execSmbusSelect index sub s
  | .smbusRead => Sys2Proof.Machine.execSmbusRead s
  | .bypass => Sys2Proof.Machine.execBypass s
  | .idcode => Sys2Proof.Machine.execIdcode s
  | .samplePreload => Sys2Proof.Machine.execSamplePreload s
  | .extest => Sys2Proof.Machine.execExtest s
  | .clamp => Sys2Proof.Machine.execClamp s
  | .highz => Sys2Proof.Machine.execHighz s
  | .extestPulse => Sys2Proof.Machine.execExtestPulse s
  | .extestTrain => Sys2Proof.Machine.execExtestTrain s
  | .resetDone b => Sys2Proof.Machine.execResetDone b s
  | .droopRecovery cl => Sys2Proof.Machine.execDroopRecovery cl s
  | .powerOn => Sys2Proof.Machine.execPowerOn s
  | .aoInputRemoval => Sys2Proof.Machine.execAoInputRemoval s
  | .refclkStable => Sys2Proof.Machine.execRefclkStable s
  | .tripRecordWritten => Sys2Proof.Machine.execTripRecordWritten s

end Sys2Proof.Machine
end

