-- ==== Sys2Proof/WellFormed.lean ====
section
/-!
DEFINITION. Well-formed commands: what their operands must satisfy for the part that they are meant for (chapter 00, R2, R12,
R405, R530). Bounds that a type states are not stated again.
-/

namespace Sys2Proof

open Sys2Proof.Machine

/-- The port is present in the grade (R395). -/
def portPresent (p : Part) (q : Nat) : Bool := p.hasPort q
/-- The I/O die is present in the grade. -/
def ioPresent (p : Part) (n : Nat) : Bool := decide (n < p.ioDies)
/-- The core is present in the grade and enabled (R20). -/
def corePresent (p : Part) (k : Nat) : Bool := !p.isFused k
/-- The site holds a stack. -/
def sitePresent (p : Part) (h : Nat) : Bool := p.hbmSites.contains h
/-- A message has from 1 slot to the 519 of the longest message (R406). -/
def messageSized (m : List (BitVec 128)) : Bool := decide (1 ≤ m.length) && decide (m.length ≤ 519)
/-- A management request has its two header slots and at most 1,024 bytes of data (R528). -/
def requestSized (m : List (BitVec 128)) : Bool := decide (2 ≤ m.length) && decide (m.length ≤ 66)
/-- The entry holds flags that a written 1 clears. -/
def flagEntry (k : Nat) : Bool := k = K.SYNC_STATUS || k = K.THERMAL_STATUS
/-- A sensor's number in the trip record. -/
def sensorNumbered (n : Nat) : Bool := decide (n ≤ 46)
/-- The accesses that a memory of the part can meet. -/
def accessPresent (p : Part) : AccessEv → Bool
  | .write _ => true
  | .hbm site _ addr _ => sitePresent p site.val && decide (addr.toNat < stackBytes)
  | .lpddr _ _ => true
  | .shelf _ _ _ _ => true
  | .qstore core _ _ _ _ _ => corePresent p core.val
  | .generator site _ _ => sitePresent p site.val
  | .copies _ => true
/-- What a boot meets: at most a failed-training count per site and a find for each record of the repair list. -/
def bootSized (b : BootIn) : Bool := decide (b.failed.length ≤ 12) && decide (b.spares.length ≤ 64)
/-- A command is well formed for a part. -/
def Instr.wellFormed (p : Part) : Instr → Bool
  | .nop _ => true
  | .mma _ => true
  | .arrayWarm _ => true
  | .arrayRampDown core => corePresent p core.val
  | .arrayRampUp core => corePresent p core.val
  | .epiFmt _ => true
  | .epiScale _ => true
  | .epiClip _ => true
  | .epiKeys _ => true
  | .epiStride _ => true
  | .vadd _ => true
  | .vsub _ => true
  | .vmul _ => true
  | .vfma _ => true
  | .vmax _ => true
  | .vmin _ => true
  | .vsel _ => true
  | .vexp2 _ => true
  | .vlog2 _ => true
  | .vrcp _ => true
  | .vrsqrt _ => true
  | .vdot _ => true
  | .cvt _ => true
  | .semWait _ => true
  | .semAdd _ => true
  | .semSub _ => true
  | .fencedPostEffect _ => true
  | .semaphorePostArrival _ => true
  | .semWaitWake _ => true
  | .dmaIssue _ => true
  | .dmaCompletion _ _ => true
  | .dmaTimeout _ _ => true
  | .loop _ => true
  | .endProg _ => true
  | .programBoundary _ => true
  | .qcfg _ => true
  | .qreset _ => true
  | .qmove _ => true
  | .qmoveArrival _ => true
  | .qdrop _ => true
  | .commandRead _ => true
  | .load _ => true
  | .run _ => true
  | .signal _ => true
  | .wait _ => true
  | .contextOpen _ => true
  | .contextTeardown _ => true
  | .hangScan => true
  | .hangDeclaration _ => true
  | .semWaitTimeout _ => true
  | .statusFlagClear entry _ => flagEntry entry
  | .keyEntryWrite _ _ => true
  | .memoryAccessArrival ev => accessPresent p ev
  | .drawerSpillCopy _ _ => true
  | .drawerPageGrant _ _ => true
  | .stashTimeout _ _ => true
  | .gatherFetch _ => true
  | .gatherReq m => messageSized m
  | .gatherReply m => messageSized m
  | .gatherUnitTimeout _ => true
  | .reduceSubmission _ _ => true
  | .partialMsg m _ => messageSized m
  | .collectiveTimeout _ _ _ => true
  | .stepOpen _ => true
  | .replayStepOpen _ => true
  | .stepSeal _ => true
  | .stepAwait _ => true
  | .stepFail _ => true
  | .health m => messageSized m
  | .partnerHealth m => messageSized m
  | .verdict m => messageSized m
  | .verdictApply _ => true
  | .replayResult m => messageSized m
  | .verdictTimeout _ => true
  | .jobMembershipWrite _ => true
  | .hbmRepairCmd _ => true
  | .hbmTgStart => true
  | .hbmTgStop => true
  | .hbmTgDone site _ _ => sitePresent p site.val
  | .codewordReceive port _ => portPresent p port.val
  | .flitRetryLimit port => portPresent p port.val
  | .portUncorrLimitExceeded port => portPresent p port.val
  | .portAlignmentLoss port => portPresent p port.val
  | .portSignalDetect port => portPresent p port.val
  | .portTrainingEnd port _ _ _ _ => portPresent p port.val
  | .portFailed port => portPresent p port.val
  | .portCtrlRetrain port => portPresent p port.val
  | .dieLinkRetry => true
  | .packageFault _ => true
  | .messageForward port m => portPresent p port.val && messageSized m
  | .write m => messageSized m
  | .semOp m => messageSized m
  | .resp m => messageSized m
  | .requestRetransmit io _ _ => ioPresent p io.val
  | .requestExhausted io _ _ => ioPresent p io.val
  | .epEntryWrite io _ _ => ioPresent p io.val
  | .selftestStart _ => true
  | .selftestEnd _ _ => true
  | .healthDecay => true
  | .expelHoldoffEnd => true
  | .expelAccepted _ => true
  | .expelDeferred _ => true
  | .expelAnswerTimeout => true
  | .observationExitWrite => true
  | .observationEnterWrite => true
  | .mirrorCtrlFull _ => true
  | .mirrorRetry _ => true
  | .wardrobeSend _ => true
  | .restoreCtrl _ _ => true
  | .restoreComplete _ => true
  | .ckptCtrl _ _ => true
  | .coreReset core => corePresent p core.val
  | .mgmtCoreReset => true
  | .clusterReset _ => true
  | .linkPortReset port => portPresent p port.val
  | .dieReset _ => true
  | .packageWarmReset => true
  | .dumpCtrl => true
  | .dumpEnd => true
  | .dumpTruncation => true
  | .mgmtHeartbeat => true
  | .mgmtWatchdogExpiry => true
  | .mgmtFailLimitReached => true
  | .aoStallTimeout => true
  | .reportResend => true
  | .reportAck _ => true
  | .fenceNotice _ => true
  | .fenceNoticeWaitExpiry => true
  | .timeSyncIntervalExpiry => true
  | .timeSyncRequest port m _ => portPresent p port.val && messageSized m
  | .timeSyncReply port m => portPresent p port.val && messageSized m
  | .timeHoldover => true
  | .counterSampleInterval _ => true
  | .traceDrain _ => true
  | .mgmtRead port req => portPresent p port.val && requestSized req
  | .mgmtWrite port req => portPresent p port.val && requestSized req
  | .mgmtDescribe port req => portPresent p port.val && requestSized req
  | .nvCommitEnd _ => true
  | .nvRestoreDefaults => true
  | .nvRestoreCancel => true
  | .mainInputLoss => true
  | .mainInputRestore b => bootSized b
  | .droopDetect _ => true
  | .clusterSleep _ => true
  | .powerStateRetain => true
  | .powerStateDeep => true
  | .powerStateActive => true
  | .powerTransitionEnd b => bootSized b
  | .thermalThrottleChange _ _ => true
  | .powerWindowEnd _ => true
  | .thermtrip sensor _ => sensorNumbered sensor.toNat
  | .resetLAssert => true
  | .coldBoot b => bootSized b
  | .announce => true
  | .imageBegin port req => portPresent p port.val && requestSized req
  | .imageData port req => portPresent p port.val && requestSized req
  | .imageCheck port req => portPresent p port.val && requestSized req
  | .imageFlash port req => portPresent p port.val && requestSized req
  | .imageFlashEnd _ => true
  | .imageStart port req b => portPresent p port.val && requestSized req && bootSized b
  | .attestRequest _ => true
  | .attestBuildEnd => true
  | .smbusSelect _ _ => true
  | .smbusRead => true
  | .bypass => true
  | .idcode => true
  | .samplePreload => true
  | .extest => true
  | .clamp => true
  | .highz => true
  | .extestPulse => true
  | .extestTrain => true
  | .resetDone b => bootSized b
  | .droopRecovery _ => true
  | .powerOn => true
  | .aoInputRemoval => true
  | .refclkStable => true
  | .tripRecordWritten => true

end Sys2Proof
end

