-- ==== Sys2Proof/Safety.lean ====
section
/-!
DEFINITION. What counts as a safe run: the invariant of states that the model's steps keep, and the commands that the queue
may hold.
-/

namespace Sys2Proof.Machine

/-- Every command that waits is well formed for the part. -/
def State.queueOk (s : State) : Bool := s.pending.all (fun c => c.wellFormed s.part)

/-- A step goes on: it neither faults nor is refused. -/
def goesOn (s : State) : Prop := ∃ t : State, step s = .next t

end Sys2Proof.Machine
end

