-- ==== Sys2Proof/Certificates/Slice0/Obligations.lean ====
section
/-!
DEFINITION. What is claimed of the model: one proposition per claim, and the few tables and frames that they name.
-/

open Sys2Proof Sys2Proof.Machine

namespace Sys2Proof.Claims

/-- The commands that broadcast one instruction of a cluster's program, each with its opcode (R143). -/
def broadcastRows (cl : Fin 32) : List (Instr × Op) :=
  [(.mma cl, .mma), (.arrayWarm cl, .arrayWarm), (.epiFmt cl, .epiFmt), (.epiScale cl, .epiScale),
   (.epiClip cl, .epiClip), (.epiKeys cl, .epiKeys), (.epiStride cl, .epiStride), (.vadd cl, .vadd),
   (.vsub cl, .vsub), (.vmul cl, .vmul), (.vfma cl, .vfma), (.vmax cl, .vmax), (.vmin cl, .vmin),
   (.vsel cl, .vsel), (.vexp2 cl, .vexp2), (.vlog2 cl, .vlog2), (.vrcp cl, .vrcp), (.vrsqrt cl, .vrsqrt),
   (.vdot cl, .vdot), (.cvt cl, .cvt), (.dmaIssue cl, .dmaIssue), (.qcfg cl, .qcfg), (.qreset cl, .qreset),
   (.qmove cl, .qmove), (.qdrop cl, .qdrop)]

/-- The instruction that a unit receives: the word, its place in the cluster's order, and what it latches (R65, R165). -/
def receives (s : State) (cl : Nat) (w : BitVec 128) (u : CoreUnit) : Job :=
  { word := w, no := (s.cl cl).issue, unit := u, pc := (s.cl cl).pcCode, ctx := (s.cl cl).ctx, gen := (s.cl cl).gen,
    io := s.epDie (s.cl cl).ctx (cl / 8),
    iter := (((s.cl cl).frames[(issueF w.toNat).lsel]?).map (·.idx)).getD 0 }

/-- The sequencer past its current slot (R167, R193). -/
def pastSlot (l : Cluster) : Cluster :=
  { l with pc := (nextSlot l.pc l.frames).1, frames := (nextSlot l.pc l.frames).2, progress := true }

/-- No trace record of a class is written on the die of a cluster (R519). -/
def traceOff (s : State) (d cls : Nat) : Prop := bit (s.traceCfg d 5 0) 4 = false ∨ bit (s.traceCfg d 5 0) cls = false

/-- A post of the cluster's program: the operation of its word on the semaphore that it names. -/
def postOf (s : State) (cl : Nat) (w : BitVec 128) : Post :=
  ⟨semTarget cl (semF w.toNat), decide (insOp w.toNat = some .semSub), (semF w.toNat).value, (s.cl cl).ctx,
    (s.cl cl).gen, cl / 8⟩

/-- The moves on their way once one of them is dropped: it is gone, or reads on when it has blocks to read (R171). -/
def movesWithout (s : State) (m : MoveFlight) : List MoveFlight :=
  if m.left = 0 then s.moves.erase m
  else s.moves.map (fun x => if x = m then { x with judged := some true, blocks := [] } else x)

/-- A counter of the dictionary has grown by `n` (R4). -/
def counted (s t : State) (k n : Nat) : Prop := t.par k = (s.par k + n) % 2 ^ 64

/-- The key of a semaphore in its store; two semaphores of the part share none (R196). -/
def semKey : SemRef → Bool × Nat
  | .side c i => (false, c * 4096 + i)
  | .pkg n i => (true, n * 16384 + i)

/-- The completion ADD that a command or descriptor names, as a post of its context from a die (R180, R235, R14). -/
def addOf (scope die cluster index value x gen src : Nat) : List Post :=
  ((semOfC scope die cluster index).map (fun r => (⟨r, false, value, x, gen, src⟩ : Post))).toList

/-- The completion ADD of a command word (R179, R180). -/
def cmdAdd (x : Nat) (c : Cmd) : List Post :=
  addOf (bits c.word.toNat 269 268) (bits c.word.toNat 267 266) (bits c.word.toNat 265 263) (bits c.word.toNat 262 249)
    (bits c.word.toNat 248 225) x c.gen 4

/-- Does a command name, as its completion, a cluster that its context does not hold (R192)? -/
def foreignAdd (s : State) (x : Nat) (c : Cmd) : Bool :=
  bits c.word.toNat 269 268 = 1 && !s.holds x (bits c.word.toNat 267 263)

/-- The word of a completed command: STATUS, CODE, SECTION, SLOT and NUMBER filled in (R180). -/
def doneWord (c : Cmd) (status code sect slot : Nat) : Nat :=
  setBits (setBits (setBits (setBits (setBits c.word.toNat 503 496 status) 495 480 code) 479 472 sect) 471 461 slot)
    447 416 c.n

/-- From `s` to `t` a command other than WAIT completes: it waits no more, its result stands in its slot of the stream, and
its ADD is on its way. One that names a foreign cluster completes NOT_OWNED, without its ADD (R180, R192). -/
def Completes (s t : State) (x : Nat) (c : Cmd) (status code sect slot : Nat) : Prop :=
  (t.cx x).cur = none ∧ t.posts = s.posts ++ (if foreignAdd s x c then [] else cmdAdd x c) ∧
  t.mem = (s.writeSpace 0 (s.par (K.CONTEXT_STREAM_BASE + x) + 64 * (c.n % 2 ^ bits (s.par (K.CONTEXT_STREAM_CFG + x)) 4 0))
    (toBytes 64 (if foreignAdd s x c then doneWord c 4 0 0 (bits c.word.toNat 267 263)
      else doneWord c status code sect slot))).mem

/-- The command of a word at number n of a context's stream (R177). -/
def nextCmd (s : State) (x : Nat) : Cmd :=
  { n := (s.cx x).read, gen := (s.cx x).gen,
    word := BitVec.ofNat 512 (ofBytes (s.readSpace 0 (s.par (K.CONTEXT_STREAM_BASE + x)
      + 64 * ((s.cx x).read % 2 ^ bits (s.par (K.CONTEXT_STREAM_CFG + x)) 4 0)) 64)) }

/-- May the command processor read the context's next command (R177)? -/
def mayRead (s : State) (x : Nat) : Prop :=
  s.live = true ∧ (s.cx x).st = .opened ∧ (s.cx x).orphaned = false ∧ (s.cx x).cur = none ∧
    (s.cx x).read % 2 ^ 24 ≠ (s.sem (.pkg 0 (bits (s.par (K.CONTEXT_STREAM_CFG + x)) 45 32))).toNat

/-- What a message that lands does, given the I/O die, the entry, the context and the step that it lands in. -/
abbrev Landing := State → Nat → Nat → Nat → Option (Nat × Nat) → State

/-- The commands of messages on VC2 to VC7 that arrive, each with its MTYPE, the faults that it brings to the copies of the
collective engines, and what it does where it lands (R406, R437). -/
def arrivalRows (m : List (BitVec 128)) (faults : List CopyFault) : List (Instr × Nat × List CopyFault × Landing) :=
  [(.semOp m, 4, [], fun t => t.landSemOp m), (.write m, 5, [], fun t => t.landWrite m),
   (.resp m, 6, [], fun t => t.landResp m), (.gatherReq m, 7, [], fun t => t.landGatherReq m),
   (.gatherReply m, 8, [], fun t => t.landGatherReply m),
   (.partialMsg m faults, 9, faults, fun t io e x st => (t.landPartial m io e x st).regather)]

/-- The message is dropped under a counter: it leaves its receive buffer, and nothing else changes. -/
def droppedAs (s : State) (m : List (BitVec 128)) (k : Nat) (o : Outcome) : Prop :=
  ∃ t, o = .next t ∧ t = { s with links := (s.takeMsg m).links, od := t.od } ∧ t.par k = (s.par k + 1) % 2 ^ 64 ∧
    ∀ j, j ≠ k → t.par j = s.par j

/-- A request without the time of its last transmission, which moves when a port transmits it (R428). -/
def timeless (r : Req) : Req := { r with sent := 0 }

/-- An endpoint entry that admits nothing: not VALID, or the reserved index (R418, R419). -/
def admitsNothing (s : State) (io e : Nat) : Prop := bit (s.ep io e) 0 = false ∨ e = 0x3FFFF

/-- In DEEP a message came to a port of another I/O die than it is for (R576). -/
def crossesInDeep (s : State) (io : Nat) (m : List (BitVec 128)) : Bool :=
  s.power.state = .deep && s.links.inbox.any (fun p => p.2 = m && p.1 / 9 ≠ io)

/-- The message names another context or generation than its entry, or one that takes nothing (R423). -/
def staleRemote (s : State) (io : Nat) (m : List (BitVec 128)) : Prop :=
  let w := s.ep io (Msg.common m).dep
  (Msg.common m).ctx ≠ bits w 56 53 ∨ (Msg.common m).gen ≠ bits w 52 41 ∨
    ((s.cx (bits w 60 57)).st ≠ .opened ∧ (s.cx (bits w 60 57)).st ≠ .stopped)

/-- A step of a context by number and attempt. -/
def stepsNamed (s : State) (x num attempt : Nat) : List Step :=
  (s.cx x).steps.filter (fun t => t.num = num && t.attempt = attempt)

/-- What a verdict message does, given the entry, the context, the message and the step that it names. -/
abbrev VerdictAct := State → Nat → Nat → VMsg → Step → State

/-- The commands of verdict messages, each with its TYPE and what it does where it is admitted (R338, R339, R341). -/
def verdictRows (m : List (BitVec 128)) : List (Instr × Nat × VerdictAct) :=
  [(.health m, 1, fun s e x v t => s.takeHealth e x v t), (.replayResult m, 2, fun s e x v t => s.takeResult e x v t),
   (.verdict m, 3, fun s _ x v t => s.takeVerdict x v t), (.partnerHealth m, 4, fun s _ x v t => s.takePartner x v t)]

/-- The step of a context that a verdict message names, while it awaits its verdict (R342). -/
def awaited (s : State) (x : Nat) (v : VMsg) : Option Step :=
  (s.cx x).steps.find? (fun t => t.num = v.step && t.attempt = v.attempt && (t.st = .sealed || t.st = .replaying))

/-- The record that a command adds to the report ring: its KIND and DETAIL (R491, R493). -/
def reported (s t : State) (kind detail : Nat) : Prop :=
  let w := (Tbl.get t.reports.ring 0 (s.reports.next % 64)).toNat
  bits w 159 152 = kind ∧ bits w 63 0 = detail % 2 ^ 64 ∧ bits w 191 160 = s.reports.next % 2 ^ 32 ∧
    t.reports.next = (s.reports.next + 1) % 2 ^ 32

/-- The part after the clearing of a package warm reset (R483). -/
def warmCleared (s t : State) : Prop :=
  t.clusters = [] ∧ t.cores = [] ∧ t.side = [] ∧ t.pkg = [] ∧ t.keys = [] ∧ t.posts = [] ∧ t.moves = [] ∧
    t.accesses = [] ∧ t.boot.ready = false ∧ t.service.mgmt.coreUp = false ∧ t.service.spare.isSpare = true ∧
    t.power.cap = 5 ∧ (∀ x, (t.cx x).st = .closed) ∧ t.now = s.now

/-- A port that has left ACTIVE to retrain: it has sent a control field with RETRAIN_REQ (CTYPE 2); what it holds and its
numbering stay (R389, R397, R399). -/
def retrained (p : Port) : Port :=
  { p with
    mode := .retraining
    retryReq := none
    asked := false
    ctl := [BitVec.ofNat 40 (2 <<< 37)]
    recent := []
    retrains := p.retrains + 1 }

/-- The commands that retrain an ACTIVE port, each with its condition (R394, R397). -/
def retrainRows (s : State) (q : Fin 27) : List (Instr × Prop) :=
  [(.portAlignmentLoss q, True), (.flitRetryLimit q, ∃ f ∈ (s.port q).retry, 8 ≤ f.resent),
   (.portUncorrLimitExceeded q,
     s.par K.PORT_UNCORR_LIMIT < ((s.port q).recent.filter (fun t => decide (s.now < t + 4000000))).length)]

/-- The port by which a message for another part leaves (R416), and whether its path to it is stopped (R14, R482). -/
def leavesBy (s : State) (m : List (BitVec 128)) : Option Nat :=
  (s.route (Msg.common m).daddr).bind (fun mask => s.choosePort mask (Msg.common m).vc)

/-- The port at which a message stands. -/
def standsAt (s : State) (m : List (BitVec 128)) : Option Nat := (s.links.inbox.find? (fun p => p.2 = m)).map (·.1)

/-- Is the path of a message through the package stopped by the reset of a die (R14, R482)? -/
def forwardWaits (s : State) (m : List (BitVec 128)) : Prop :=
  ∃ i out, standsAt s m = some i ∧ leavesBy s m = some out ∧ s.pathWaits (4 + i / 9) (4 + out / 9) = true

/-- The burst of an HBM range that covers an address of the store. -/
def tgCovers (c : TgCfg) (h ch a : Nat) : Prop :=
  ∃ pc ∈ c.pcs, ∃ i < c.bursts, c.addr h ch pc i ≤ a ∧ a < c.addr h ch pc i + 32

/-- A reset of a domain with its command: what it resets, its number in the domain's units, and its bit of DUMP_TRIGGERS
(R481, R482, R484). -/
structure ResetRow where
  cmd : Instr
  domain : Domain
  unit : Nat
  trigger : Nat
  /-- the clusters of the domain -/
  clusters : List Nat
  /-- what the domain looks like after its reset -/
  done : State → State → Prop

/-- The commands that reset a core, a cluster, a die or the package. -/
def resetRows (core : Fin 256) (cl : Fin 32) (die : Fin 4) : List ResetRow :=
  [⟨.coreReset core, .core, core, 0, [core / 8], fun s t => t.co core = {} ∧ (t.cl (core / 8)).testDue = true ∧
      counted s t K.CORE_RESETS 1 ∧ t.mem.shelf.lost = s.mem.shelf.lost⟩,
   ⟨.clusterReset cl, .cluster, 8 * cl, 1, [cl.val], fun s t => (∀ k, k / 8 = cl.val → t.co k = {}) ∧
      t.cl cl = { testDue := true, idleSince := t.now } ∧ (∀ n < 4096, t.sem (.side cl n) = 0) ∧
      counted s t K.CLUSTER_RESETS 1 ∧ t.mem.shelf.lost = s.mem.shelf.lost⟩,
   ⟨.dieReset die, .die, 64 * die, 2, (List.range 8).map (fun c => 8 * die.val + c), fun s t =>
      (∀ k, k / 64 = die.val → t.co k = {}) ∧
      (∀ h ∈ dieSites die, h ∈ s.part.hbmSites → (s.stack h).mode ≠ .failed → (s.stack h).mode ≠ .repair →
        (t.stack h).mode = .training) ∧ counted s t K.DIE_RESETS 1 ∧
      Tbl.get t.mem.shelf.lost 0 die = Tbl.get s.mem.shelf.lost 0 die + 1⟩,
   ⟨.packageWarmReset, .warm, 0, 3, List.range 32, fun s t => warmCleared s t ∧ t.service.time = s.service.time ∧
      t.defence = s.defence ∧ t.service.spare.cause = 3⟩]

/-- Ways in which the management core is reset: the command, when, under which condition, and the report's cause
(R488, R489). -/
def mgmtRows (s : State) : List (Instr × Nat × Bool × Nat) :=
  [(.mgmtCoreReset, s.now, s.service.resets.cur.isNone, 2),
   (.mgmtWatchdogExpiry, max s.now (s.service.mgmt.beat + s.service.mgmt.watch),
     s.service.mgmt.coreUp && !s.coreResetDue, 1)]

/-- A reset of the part by itself comes next: in progress where none was, and otherwise in progress or waiting (R497). -/
def warmComes (s t : State) : Prop :=
  (s.service.resets.cur = none → ∃ q, t.service.resets.cur = some q ∧ q.domain = .warm) ∧
    ∃ q ∈ t.service.resets.cur.toList ++ t.service.resets.waiting, q.domain = .warm

/-- The resets of the management core that count at a time (R489): those of the last MGMT_FAIL_WINDOW, and this one. -/
def countedFails (s : State) (now : Nat) : List Nat :=
  s.service.mgmt.fails.filter (fun u => decide (now < u + s.parMs K.MGMT_FAIL_WINDOW)) ++ [now]

/-- The commands that serve one management request, each with the operations that it serves (R531, R584). -/
def requestRows (q : Fin 27) (m : List (BitVec 128)) (b : BootIn) : List (Instr × (Nat → Bool)) :=
  [(.mgmtRead q m, fun op => op = 1 || op = 0 || (4 ≤ op && op < 0x11) || 0x15 < op), (.mgmtWrite q m, fun op => op = 2),
   (.mgmtDescribe q m, fun op => op = 3), (.imageBegin q m, fun op => op = 0x11), (.imageData q m, fun op => op = 0x12),
   (.imageCheck q m, fun op => op = 0x13), (.imageFlash q m, fun op => op = 0x14), (.imageStart q m b, fun op => op = 0x15)]

/-- A request that the part may answer: for this part, by a port that it has, while the channel answers (R529). -/
def isRequest (s : State) (q : Nat) (m : List (BitVec 128)) : Prop :=
  s.answering = true ∧ (Msg.common m).mtype = 1 ∧ s.forMgmt m = true ∧ s.part.hasPort q = true

/-- A request is well formed and carries the slots that its LENGTH takes (R530). -/
def rightForm (q : Nat) (m : List (BitVec 128)) : Bool :=
  Msg.wellFormed m && decide (m.length = 2 + ((MReq.read q m).length + 15) / 16)

/-- The request's turn has come, and the state behind it: nothing waits, or it stands first and leaves the queue (R534). -/
def itsTurn (s : State) (q : Nat) (m : List (BitVec 128)) (o : State) : Prop :=
  isRequest s q m ∧ rightForm q m = true ∧
    ((s.service.mgmt.queue = [] ∧ o = s ∧ (s.power.state ≠ .deep ∨ q < 9) ∧ s.pathWaits (4 + q / 9) 4 = false) ∨
     ∃ l, s.service.mgmt.queue = (q, m) :: l ∧
      o = { s with service := { s.service with mgmt := { s.service.mgmt with queue := l } } })

/-- A reply to a request has joined the port that the request came by (R532): its operation, status, SEL and data. -/
def replied (o t : State) (r : MReq) (status sel : Nat) (data : List Nat) : Prop :=
  o.part.hasPort r.port = true → (o.port r.port).mode = .active → ∃ n h w, t.port r.port =
    Port.pump o.vcWeights n { o.port r.port with out := (o.port r.port).out ++ [h :: w :: slotsOf data] } ∧
    (Msg.common [h]).mtype = 1 ∧ (Msg.common [h]).vc = 0 ∧ (Msg.common [h]).daddr = r.saddr ∧ (Msg.common [h]).tag = r.tag ∧
    (o.par K.FABRIC_ADDRESS < 2 ^ 24 → bits w.toNat 127 120 = (r.op + 0x80) % 256 ∧ bits w.toNat 119 112 = status ∧
      bits w.toNat 111 96 = r.index ∧ bits w.toNat 95 88 = r.sub ∧ bits w.toNat 63 32 = sel ∧
      bits w.toNat 30 20 = data.length)

/-- Entries that hold what is written and do nothing else. -/
def plainEntries : List Nat :=
  [K.ARRAY_FILL_GAP, K.TIME_SYNC_INTERVAL, K.THERMAL_THROTTLE, K.POWER_LIMIT, K.HBM_REPAIR_THRESHOLD, K.EXPEL_THRESHOLD,
   K.DUMP_TRIGGERS, K.SELFTEST_INTERVAL]

/-- The number that a sign, a magnitude and a power of two stand for. -/
def ratOf (n : Bool) (m : Nat) (e : Int) : ℚ := (sint n m : ℚ) * (2 : ℚ) ^ e

/-- A value is this number: finite, and equal to it. -/
def Stands (v : Val) (x : ℚ) : Prop := ∃ n m e, v = .fin n m e ∧ ratOf n m e = x

end Sys2Proof.Claims

open Sys2Proof.Claims

/-- For every command c and every state whose queue begins with c, a step is exec of c on that state with the queue's
rest. After spec/95_what_each_step_holds.md. -/
def Obligations.StepRunsTheFrontCommand : Prop :=
  ∀ (s : State) (c : Instr) (rest : List Instr), s.pending = c :: rest →
    step s = exec c { s with pending := rest }

/-- On an empty queue a step answers a next state that differs from the old one in the time base and its slewing alone:
the count grows by 0, 1 or 2; by 1 when the clock runs and nothing is left to slew; by 0 when the always-on input or
REFCLK is missing. That an idle step is a tick of the time base is the model's choice (log entry 1). After
spec/17_observability.md R498, spec/17_observability.md R502. -/
def Obligations.IdleStepCountsTheTimeBase : Prop :=
  ∀ s : State, s.pending = [] →
    ∃ (n : Nat) (u : TimeSync),
      step s = .next { s with now := s.now + n, service := { s.service with time := u } } ∧ n ≤ 2 ∧
      (s.power.aoOn = true → s.power.refclk = true → s.service.time.slew = 0 → n = 1) ∧
      (s.power.aoOn = false ∨ s.power.refclk = false → n = 0)

/-- For every command and every state exec answers a next state, in which the commands that wait, the grade and the
fused-unit map are as before (the fused-unit map is set at manufacture, R21). After spec/95_what_each_step_holds.md,
spec/01_swipin_package.md R21. -/
def Obligations.EveryCommandAnswersANextState : Prop :=
  ∀ (c : Instr) (s : State), ∃ t : State, exec c s = .next t ∧ t.pending = s.pending ∧ t.part = s.part

/-- If every waiting command is well formed for the part and a step answers a next state, then the part is the same and
every command that still waits is well formed for it. Also, a step takes at most the front command: the new queue is
the old one without its front. After spec/00_scope.md R2, spec/01_swipin_package.md R12. -/
def Obligations.WaitingCommandsStayWellFormed : Prop :=
  ∀ s t : State, s.queueOk = true → step s = .next t →
    t.queueOk = true ∧ t.part = s.part ∧ t.pending = s.pending.tail

/-- After reset the memory is in its canonical form and every byte of HBM, shelves and service memory reads 0 (the
model's choice of first contents, log entry 4), every context is CLOSED, no cluster runs, every semaphore is 0, no
command waits and the time base is 0. After spec/08_dma_and_shelves.md R229, spec/06_sequencers_and_loading.md R173. -/
def Obligations.ResetIsCanonical : Prop :=
  State.reset.mem.wf = true ∧ (∀ a, State.reset.mem.hbm.byte a = 0) ∧ (∀ a, State.reset.mem.shelf.byte a = 0) ∧
    (∀ a, State.reset.mem.service.byte a = 0) ∧ (∀ x, (State.reset.cx x).st = .closed) ∧
    (∀ c, (State.reset.cl c).running = false) ∧ (∀ r, State.reset.sem r = 0) ∧
    State.reset.pending = [] ∧ State.reset.now = 0

/-- For every state whose HBM, shelves and service memory are each listed in canonical form (addresses strictly rising,
no byte listed that equals what its address reads as when unlisted), a step that answers a next state keeps all
three in that form, whatever command runs. After spec/08_dma_and_shelves.md R229, spec/12_external_memory.md R362. -/
def Obligations.MemoryStaysCanonical : Prop :=
  ∀ s t : State, s.mem.wf = true → step s = .next t → t.mem.wf = true

/-- For each of the 25 commands that broadcast an instruction: when the word at the sequencer's slot is that instruction
and no buffer is full, exec answers a next state. It is the state in which each target unit of each enabled core of
the cluster whose CMASK bit is 1 has received the instruction after those it held, every other core is unchanged,
and the sequencer has moved past the slot, and in which the cluster's units then do all that they can. No fused core
receives it, and nothing but the cluster and those cores changes before the units run. For each of the 25 broadcast
commands: when the buffer of a target unit of a selected core is full, or the sequencer has no word of that opcode
to fetch, the state stays as it is. Formalises R22. -/
def Obligations.BroadcastReachesTheSelectedCores : Prop :=
  (∀ (cl : Fin 32) (s : State) (r : Instr × Op) (w : BitVec 128), r ∈ broadcastRows cl →
      s.fetchOp cl r.2 = some w → s.buffersFree cl w.toNat = true →
      ∃ t : State,
        exec r.1 s = .next { t.settle cl with pending := s.pending, part := s.part } ∧
        (∀ k, t.co k = if k / 8 = cl.val ∧ s.part.isFused k = false ∧ bit (insCmask w.toNat) (k % 8) = true
          then { s.co k with jobs := (s.co k).jobs ++ (insUnits w.toNat).map (receives s cl w) } else s.co k) ∧
        t.cl cl = { pastSlot (s.cl cl) with issue := (s.cl cl).issue + 1 } ∧
        (∀ c, c ≠ cl.val → t.cl c = s.cl c) ∧
        t = { s with clusters := t.clusters, cores := t.cores }) ∧
  (∀ (cl : Fin 32) (s : State) (r : Instr × Op), r ∈ broadcastRows cl →
      (∀ w, s.fetchOp cl r.2 = some w → s.buffersFree cl w.toNat = false) → exec r.1 s = .next s)

/-- When the sequencer fetches the instruction: NOP moves it past its slot. LOOP with COUNT 0 moves it past the body;
otherwise it opens a loop with counter 0 over the BODY slots that follow and goes to the first. END stops the
fetching. Nothing but the cluster changes. After spec/06_sequencers_and_loading.md R193,
spec/05_core_instructions.md R167. -/
def Obligations.SequencerNopLoopAndEnd : Prop :=
  ∀ (cl : Fin 32) (s : State) (w : BitVec 128),
    (s.fetchOp cl .nop = some w →
      ∃ t, exec (.nop cl) s = .next t ∧ t = { s with clusters := t.clusters } ∧
        ∀ c, t.cl c = if c = cl.val then pastSlot (s.cl cl) else s.cl c) ∧
    (s.fetchOp cl .loop = some w → loopCount w.toNat = 0 →
      ∃ t, exec (.loop cl) s = .next t ∧ t = { s with clusters := t.clusters } ∧
        ∀ c, t.cl c = if c = cl.val then { s.cl cl with
            pc := (nextSlot ((s.cl cl).pc + loopBody w.toNat) (s.cl cl).frames).1
            frames := (nextSlot ((s.cl cl).pc + loopBody w.toNat) (s.cl cl).frames).2
            progress := true } else s.cl c) ∧
    (s.fetchOp cl .loop = some w → loopCount w.toNat ≠ 0 →
      ∃ t, exec (.loop cl) s = .next t ∧ t = { s with clusters := t.clusters } ∧
        ∀ c, t.cl c = if c = cl.val then { s.cl cl with
            pc := (s.cl cl).pc + 1
            frames := ⟨(s.cl cl).pc + 1, (s.cl cl).pc + loopBody w.toNat, 0, loopCount w.toNat⟩ :: (s.cl cl).frames
            progress := true } else s.cl c) ∧
    (s.fetchOp cl .endProg = some w →
      ∃ t, exec (.endProg cl) s = .next t ∧ t = { s with clusters := t.clusters } ∧
        ∀ c, t.cl c = if c = cl.val then { s.cl cl with ended := true, progress := true } else s.cl c)

/-- For a loop over slots first to last with counter 0 and COUNT above 0: after each of the first COUNT − 1 ends of the
body the sequencer is back at its first slot with the counter one higher, and at the end of the last pass it leaves
the loop as if it had not been there. A LOOP with COUNT 0 goes past its body with the open loops as they are at the
body's last slot. Formalises R167. -/
def Obligations.LoopBodyRunsCountTimes : Prop :=
  (∀ (first last count : Nat) (r : List Frame), 0 < count →
    (∀ n, n < count →
      (fun l => (nextSlot last l).2)^[n] (⟨first, last, 0, count⟩ :: r) = ⟨first, last, n, count⟩ :: r ∧
      (n + 1 < count → (nextSlot last (⟨first, last, n, count⟩ :: r)).1 = first)) ∧
    nextSlot last (⟨first, last, count - 1, count⟩ :: r) = nextSlot last r) ∧
  (∀ (cl : Fin 32) (s : State) (w : BitVec 128), s.fetchOp cl .loop = some w → loopCount w.toNat = 0 →
    ∃ t, exec (.loop cl) s = .next t ∧
      (t.cl cl).pc = (nextSlot ((s.cl cl).pc + loopBody w.toNat) (s.cl cl).frames).1 ∧
      (t.cl cl).frames = (nextSlot ((s.cl cl).pc + loopBody w.toNat) (s.cl cl).frames).2)

/-- When the sequencer fetches a SEM.WAIT: if the semaphore that it names satisfies WAIT_GE against VALUE, the sequencer
moves past it; otherwise it stays at the slot with the wait in force, for SEM_WAIT_TIMEOUT from now, and fetches
nothing more. Only the cluster and the trace (its records in memory and its counters) change; with tracing of
semaphores off on the die, only the cluster. When a cluster has a wait in force that its semaphore has granted,
SEM_WAIT_WAKE for the cluster takes the wait out of force and moves the sequencer past its slot; only the cluster
and the trace change. When the wait has not been granted, nothing changes. After spec/05_core_instructions.md R162,
spec/07_synchronisation.md R198, spec/07_synchronisation.md R205, spec/07_synchronisation.md R200. -/
def Obligations.SemWaitHoldsUntilItsWakeNotice : Prop :=
  (∀ (cl : Fin 32) (s : State) (w : BitVec 128), s.fetchOp cl .semWait = some w →
      ∃ t, exec (.semWait cl) s = .next t ∧
        t = { s with clusters := t.clusters, od := t.od, traces := t.traces, mem := t.mem } ∧
        (traceOff s (cl / 8) 3 → t = { s with clusters := t.clusters }) ∧
        (∀ c, c ≠ cl.val → t.cl c = s.cl c) ∧
        (waitGe (s.sem (semTarget cl (semF w.toNat))) (semF w.toNat).value = true → t.cl cl = pastSlot (s.cl cl)) ∧
        (waitGe (s.sem (semTarget cl (semF w.toNat))) (semF w.toNat).value = false →
          t.cl cl = { s.cl cl with
            wait := some ⟨semTarget cl (semF w.toNat), (semF w.toNat).value, s.now, s.parMs K.SEM_WAIT_TIMEOUT, false, false⟩
            progress := true } ∧ t.fetch cl = none)) ∧
  (∀ (c : Nat) (s : State) (w : WaitSt), (s.cl c).wait = some w →
      (w.granted = false → exec (.semWaitWake (.cluster c)) s = .next s) ∧
      (w.granted = true →
        ∃ t, exec (.semWaitWake (.cluster c)) s = .next t ∧
          t = { s with clusters := t.clusters, od := t.od, traces := t.traces, mem := t.mem } ∧
          (traceOff s (c / 8) 3 → t.mem = s.mem) ∧
          ∀ d, t.cl d = if d = c then { pastSlot (s.cl c) with wait := none } else s.cl d))

/-- For every 24-bit value s and target t: the model's test answers true exactly when (s − t) mod 2^24 is below 2^23.
Formalises R198. -/
def Obligations.WaitGeIsACircularComparison : Prop :=
  ∀ (v : BitVec 24) (t : Nat), t < 2 ^ 24 →
    (waitGe v t = true ↔ (((v.toNat : Int) - (t : Int)) % 2 ^ 24) < 2 ^ 23)

/-- When the sequencer fetches a SEM.ADD or SEM.SUB of scope 0 to 2: with no post waiting and its fence open, one post
with its VALUE, context and generation leaves for the semaphore that it names and the sequencer moves on. With a
post waiting or its fence shut, and fewer than four waiting, it joins the waiting posts and the sequencer moves on;
with four, nothing changes. Of scope 3 with its fence open it leaves the sequencer too: through an entry that does
not serve the context it counts 1 in EP_SEND_FAULTS and sends nothing. No semaphore changes yet. When posts wait at
a sequencer: if everything broadcast before the oldest to its fenced units has completed in every selected core,
FENCED_POST_EFFECT takes it out of the waiting posts and, for scope 0 to 2, sends it to the semaphore that it names;
otherwise nothing changes. No semaphore changes yet. After spec/05_core_instructions.md R161,
spec/05_core_instructions.md R163, spec/07_synchronisation.md R204. -/
def Obligations.SemAddAndSubLeaveOrWaitForTheFence : Prop :=
  (∀ (cl : Fin 32) (s : State) (w : BitVec 128) (c : Instr) (o : Op),
      (c, o) ∈ [(Instr.semAdd cl, Op.semAdd), (Instr.semSub cl, Op.semSub)] → s.fetchOp cl o = some w →
      let p : PostSt := ⟨w, (s.cl cl).issue, (s.cl cl).pcCode⟩
      let io := s.epDie (s.cl cl).ctx (cl / 8)
      ∃ t, exec c s = .next t ∧ t.side = s.side ∧ t.pkg = s.pkg ∧ t.cores = s.cores ∧ t.ctxs = s.ctxs ∧
        (∀ d, d ≠ cl.val → t.cl d = s.cl d) ∧
        ((semF w.toNat).scope ≠ 3 → t.links = s.links) ∧
        ((s.cl cl).posts = [] → s.fenceOpen cl p = true →
          t.cl cl = { pastSlot (s.cl cl) with issue := (s.cl cl).issue + 1 } ∧
          t.posts = s.posts ++ (if (semF w.toNat).scope = 3 then [] else [postOf s cl w]) ∧
          ((semF w.toNat).scope = 3 → s.epOk io (semF w.toNat).endpoint (s.cl cl).ctx = false →
            traceOff s (cl / 8) 3 → t.links = s.links ∧ counted s t K.EP_SEND_FAULTS 1)) ∧
        (((s.cl cl).posts ≠ [] ∨ s.fenceOpen cl p = false) → (s.cl cl).posts.length < 4 →
          t.posts = s.posts ∧ t.mem = s.mem ∧
          t.cl cl = { pastSlot (s.cl cl) with issue := (s.cl cl).issue + 1, posts := (s.cl cl).posts ++ [p] }) ∧
        (4 ≤ (s.cl cl).posts.length → t = s)) ∧
  (∀ (cl : Fin 32) (s : State) (p : PostSt) (r : List PostSt), (s.cl cl).posts = p :: r →
      (s.fenceOpen cl p = false → exec (.fencedPostEffect cl) s = .next s) ∧
      (s.fenceOpen cl p = true → (semF p.word.toNat).scope ≠ 3 →
        ∃ t, exec (.fencedPostEffect cl) s = .next t ∧ t.posts = s.posts ++ [postOf s cl p.word] ∧
          t.side = s.side ∧ t.pkg = s.pkg ∧ t.cores = s.cores ∧ t.ctxs = s.ctxs ∧
          (∀ c, t.cl c = if c = cl.val then { s.cl cl with posts := r } else s.cl c)))

/-- When the n-th post on its way is of the current generation of an open or stopped context, SEMAPHORE_POST_ARRIVAL
answers a next state in which the post is gone, its semaphore holds (s + v) mod 2^24 for an ADD and (s − v) mod 2^24
for a SUB, every other semaphore of the part is unchanged, and each wait in force of a cluster or a command stream
on that semaphore is granted if the new value satisfies it and is otherwise as before. Nothing else of a cluster or
a context changes, and no other state. While a link of its path is stopped by the reset of a die, it waits and
nothing changes. Formalises R196. -/
def Obligations.PostArrivesAtItsSemaphore : Prop :=
  ∀ (n : Nat) (s : State) (p : Post), s.posts[n]? = some p →
    (s.pathWaits p.src p.sem.node = true → exec (.semaphorePostArrival n) s = .next s) ∧
    (s.pathWaits p.src p.sem.node = false → s.stale p.ctx p.gen = false →
    ∃ t, exec (.semaphorePostArrival n) s = .next t ∧ t.posts = s.posts.eraseIdx n ∧
      (t.sem p.sem).toNat = (if p.sub then ((s.sem p.sem).toNat + (2 ^ 24 - p.value % 2 ^ 24)) % 2 ^ 24
        else ((s.sem p.sem).toNat + p.value) % 2 ^ 24) ∧
      (∀ r, semKey r ≠ semKey p.sem → t.sem r = s.sem r) ∧
      (∀ c, c < 32 → t.cl c = { s.cl c with wait := (s.cl c).wait.map (·.test p.sem (t.sem p.sem)) }) ∧
      (∀ x, x < 16 → t.cx x = { s.cx x with wait := (s.cx x).wait.map (·.test p.sem (t.sem p.sem)) }) ∧
      t = { s with posts := t.posts, side := t.side, pkg := t.pkg, clusters := t.clusters, ctxs := t.ctxs })

/-- When a running cluster has executed END, holds no post, has no transfer and no QMOVE under way and its cores have no
instruction left, PROGRAM_BOUNDARY answers a next state in which the cluster is stopped at slot 0 with no loop, wait
or post, and every queue of each of its enabled cores is empty and unconfigured. The cores and the sequencers of all
other clusters, and every semaphore, are unchanged. While any of that is left, nothing changes. After
spec/05_core_instructions.md R169, spec/05_core_instructions.md R135. -/
def Obligations.ProgramBoundaryClearsTheCluster : Prop :=
  ∀ (cl : Fin 32) (s : State),
    (s.atEnd cl = false → exec (.programBoundary cl) s = .next s) ∧
    (s.atEnd cl = true →
      ∃ t, exec (.programBoundary cl) s = .next t ∧
        (t.cl cl).running = false ∧ (t.cl cl).ended = false ∧ (t.cl cl).pc = 0 ∧ (t.cl cl).frames = [] ∧
        (t.cl cl).wait = none ∧ (t.cl cl).posts = [] ∧ (t.cl cl).active = (s.cl cl).active ∧
        (t.cl cl).page0 = (s.cl cl).page0 ∧ (t.cl cl).page1 = (s.cl cl).page1 ∧
        (∀ k q, k / 8 = cl.val → s.part.isFused k = false → (t.co k).queue q = {}) ∧
        (∀ k, k / 8 ≠ cl.val → t.co k = s.co k) ∧ (∀ c, c ≠ cl.val → t.cl c = s.cl c) ∧
        t.side = s.side ∧ t.pkg = s.pkg)

/-- For an enabled core whose level is above 0 and within the cap: ARRAY_RAMP_DOWN at a steady level happens when the
gap after the last hold has lasted the latched ARRAY_FILL_GAP, or later, lowers the level by 1, counts 1 in
RAMP_DOWNS and the dummies that filled the gap; in a ramp-down it happens 64 cycles after the last step, lowers the
level by 1 and counts no ramp; while the array climbs it changes nothing. Above the cap it lowers the level by 1,
counting nothing. ARRAY_RAMP_UP of an array that climbs below its cap raises the level by 1, and the cluster then
does all that it can; of any other it changes nothing. A fused core never changes. Only that core, the time base,
the counters and the model's free-value counter change before the cluster goes on. After spec/04_tensor_array.md
R115, spec/04_tensor_array.md R117, spec/04_tensor_array.md R119, spec/04_tensor_array.md R120,
spec/19_power_and_clocks.md R573. -/
def Obligations.ArrayLevelClimbsAndFalls : Prop :=
  ∀ (core : Fin 256) (s : State),
    let o := s.co core
    (s.part.isFused core = true → exec (.arrayRampDown core) s = .next s ∧ exec (.arrayRampUp core) s = .next s) ∧
    (s.part.isFused core = false → o.level ≠ 0 → o.level ≤ s.levelCap (core / 64) →
      ((o.ramp = .up ∨ o.ramp = .warm) → exec (.arrayRampDown core) s = .next s) ∧
      (o.ramp = .steady →
        ∃ t, exec (.arrayRampDown core) s = .next t ∧ t = { s with now := t.now, cores := t.cores, od := t.od } ∧
          t.now = max s.now (max o.since o.holdTill + cycleUnits o.fillGap) ∧
          (t.co core).level = o.level - 1 ∧ counted s t K.RAMP_DOWNS 1 ∧
          counted s t K.DUMMY_ROW_SLOTS
            (o.rowSlots (o.hold + o.fillGap) * (if o.level = 5 then 4 else o.level - 1) / 4) ∧
          ∀ k, k ≠ core.val → t.co k = s.co k) ∧
      (o.ramp = .down →
        ∃ t, exec (.arrayRampDown core) s = .next t ∧ t = { s with now := t.now, cores := t.cores, od := t.od } ∧
          t.now = max s.now (o.since + cycleUnits 64) ∧ (t.co core).level = o.level - 1 ∧
          t.par K.RAMP_DOWNS = s.par K.RAMP_DOWNS ∧ ∀ k, k ≠ core.val → t.co k = s.co k)) ∧
    (s.part.isFused core = false → s.levelCap (core / 64) < o.level →
      ∃ t, exec (.arrayRampDown core) s = .next t ∧ t = { s with now := t.now, cores := t.cores } ∧
        ∀ k, t.co k = if k = core.val then { o with level := o.level - 1, ramp := .steady, since := t.now } else s.co k) ∧
    ((s.levelCap (core / 64) ≤ o.level ∨ (o.ramp ≠ .up ∧ o.ramp ≠ .warm)) → exec (.arrayRampUp core) s = .next s) ∧
    (s.part.isFused core = false → o.level < s.levelCap (core / 64) → (o.ramp = .up ∨ o.ramp = .warm) →
      ∃ t : State, exec (.arrayRampUp core) s = .next { t.settle (core / 8) with pending := s.pending, part := s.part } ∧
        t = { s with now := t.now, cores := t.cores, od := t.od, free := t.free } ∧
        (t.co core).level = o.level + 1 ∧ (t.co core).level ≤ s.levelCap (core / 64) ∧
        ∀ k, k ≠ core.val → t.co k = s.co k)

/-- When a transfer of a cluster's engine has no write on its way and has moved all that it moves, DMA_COMPLETION takes
it out of the engine and sends the ADD that its descriptor names, if it names one; no semaphore and no core changes
by that; no other cluster, unless it read a drawer, whose waiting writes it may set free; and without RECORD and
trace no memory byte. The cluster's units and the gathers that wait then go on. While it has more to move, or the
stack of its record sleeps, only gathers that wait go on. When a transfer is not done, is not in a drawer stall and
has no held write, DMA_TIMEOUT takes it out of its engine, no earlier than its start plus DMA_TIMEOUT plus the time
it spent stalled; no core changes by that unless a replay step of its context ends with it. The cluster's units then
go on. A transfer that is done, stalled or held, or does not exist, is left alone. After spec/08_dma_and_shelves.md
R239, spec/08_dma_and_shelves.md R235, spec/08_dma_and_shelves.md R240, spec/11_step_transactions.md R332. -/
def Obligations.TransfersCompleteOrTimeOut : Prop :=
  (∀ (cl : Fin 32) (q : BitVec 32) (s : State) (x : Xfer), s.xfer cl q.toNat = some x →
      s.accesses.all (fun a => a.owner ≠ .xfer cl q.toNat) = true →
      (s.xferDone cl x = true → s.recordAsleep x = false →
        ∃ t : State,
          exec (.dmaCompletion cl q) s = .next { (t.settle cl).regather with pending := s.pending, part := s.part } ∧
          t.xfer cl q.toNat = none ∧
          t.posts = s.posts ++ addOf x.desc.cscope x.desc.cdie x.desc.ccluster x.desc.cindex x.desc.cvalue x.ctx x.gen
            (cl / 8) ∧
          t.side = s.side ∧ t.pkg = s.pkg ∧ t.cores = s.cores ∧ (x.dread = [] → ∀ c, c ≠ cl.val → t.cl c = s.cl c) ∧
          (x.desc.record = false → traceOff s (cl / 8) 2 → t.mem = s.mem)) ∧
      ((s.xferDone cl x = false ∨ s.recordAsleep x = true) →
        exec (.dmaCompletion cl q) s = .next { s.regather with pending := s.pending, part := s.part })) ∧
  (∀ (cl : Fin 32) (q : BitVec 32) (s : State),
      (s.xfer cl q.toNat = none → exec (.dmaTimeout cl q) s = .next s) ∧
      (∀ x, s.xfer cl q.toNat = some x → (s.xferDone cl x = true ∨ x.stall.isSome = true) →
        exec (.dmaTimeout cl q) s = .next s) ∧
      (∀ x, s.xfer cl q.toNat = some x → s.xferDone cl x = false → x.stall = none →
        s.accesses.any (fun a => a.owner = .xfer cl q.toNat && (a.heldUndo || a.heldCopy.isSome)) = false →
        ∃ t : State,
          exec (.dmaTimeout cl q) s = .next { t.settle cl with pending := s.pending, part := s.part } ∧
          t.xfer cl q.toNat = none ∧ ((s.cx x.ctx).replay = none → t.cores = s.cores) ∧ t.now = max s.now (x.start + x.limit + x.stalled)))

/-- For a QMOVE of the current generation that is not judged yet, its path open: at a fused core it is dropped with 1
more in ABSENT_TARGET_DROPS; at an unconfigured queue other than the null queue it is dropped with 1 more in
NOQUEUE_DROPS and nothing else changed; at a configured queue of an enabled core, or at the null queue, it is judged
once to land behind what arrived before it, and the destination's cluster then does all that it can. A QMOVE that is
dropped while it has blocks to read stays until it has read them, and none of its blocks land. While a link of its
path is stopped, nothing changes. When a post or an unjudged QMOVE on its way, its path open, carries a generation
that its context no longer has, or its context is closed or being torn down, its arrival drops it and adds 1 to
STALE_LOCAL_DROPS; no semaphore, queue, context or memory byte changes. After spec/05_core_instructions.md R171,
spec/01_swipin_package.md R24, spec/05_core_instructions.md R136, spec/16_hang_reset_recovery.md R478,
spec/07_synchronisation.md R202. -/
def Obligations.QmovesAndStaleItems : Prop :=
  (∀ (n : Nat) (s : State) (m : MoveFlight), s.moves[n]? = some m → m.judged = none →
      (s.pathWaits m.node (m.dst / 64) = true → exec (.qmoveArrival n) s = .next s) ∧
      (s.pathWaits m.node (m.dst / 64) = false → s.stale m.ctx m.gen = false →
        (s.part.isFused m.dst = true → ∃ t, exec (.qmoveArrival n) s = .next t ∧ t.moves = movesWithout s m ∧
          t.cores = s.cores ∧ counted s t K.ABSENT_TARGET_DROPS 1) ∧
        (s.part.isFused m.dst = false → m.dq ≠ 63 → ((s.co m.dst).queue m.dq).size = 0 →
          ∃ t, exec (.qmoveArrival n) s = .next t ∧ t = { s with moves := movesWithout s m, od := t.od } ∧
            counted s t K.NOQUEUE_DROPS 1) ∧
        (s.part.isFused m.dst = false → (m.dq = 63 ∨ ((s.co m.dst).queue m.dq).size ≠ 0) →
          ∃ t : State, t = { s with moves := s.moves.erase m ++ [{ m with judged := some false }] } ∧
            exec (.qmoveArrival n) s = .next { t.settle (m.dst / 8) with pending := s.pending, part := s.part }))) ∧
  ((∀ (n : Nat) (s : State) (p : Post), s.posts[n]? = some p → s.pathWaits p.src p.sem.node = false →
      s.stale p.ctx p.gen = true →
      ∃ t, exec (.semaphorePostArrival n) s = .next t ∧ t = { s with posts := s.posts.eraseIdx n, od := t.od } ∧
        t.par K.STALE_LOCAL_DROPS = (s.par K.STALE_LOCAL_DROPS + 1) % 2 ^ 64 ∧
        ∀ k, k ≠ K.STALE_LOCAL_DROPS → t.par k = s.par k) ∧
    (∀ (n : Nat) (s : State) (m : MoveFlight), s.moves[n]? = some m → m.judged = none →
      s.pathWaits m.node (m.dst / 64) = false → s.stale m.ctx m.gen = true →
      ∃ t, exec (.qmoveArrival n) s = .next t ∧ t = { s with moves := movesWithout s m, od := t.od } ∧
        t.par K.STALE_LOCAL_DROPS = (s.par K.STALE_LOCAL_DROPS + 1) % 2 ^ 64 ∧
        ∀ k, k ≠ K.STALE_LOCAL_DROPS → t.par k = s.par k))

/-- While the part runs, a context is OPEN and not ORPHANED, no command waits to be accepted and the count of commands
read, modulo 2^24, differs from the stream semaphore, COMMAND_READ takes the command of ring slot n mod SIZE and
counts it. A good one then waits to be accepted, unless a rollback has made commands ABORTED; a bad one waits for
nothing and adds 1 to BAD_COMMANDS. No cluster, core or semaphore changes. Where the context may not read, nothing
changes. After spec/06_sequencers_and_loading.md R177, spec/06_sequencers_and_loading.md R181,
spec/11_step_transactions.md R344. -/
def Obligations.CommandsAreReadInOrder : Prop :=
  ∀ (x : Fin 16) (s : State),
    (¬ mayRead s x → exec (.commandRead x) s = .next s) ∧
    (mayRead s x → ∃ t, exec (.commandRead x) s = .next t ∧
      (t.cx x).read = ((s.cx x).read + 1) % 2 ^ 32 ∧ t.clusters = s.clusters ∧ t.cores = s.cores ∧ t.side = s.side ∧
      t.pkg = s.pkg ∧ (∀ y, y ≠ x.val → t.cx y = s.cx y) ∧
      ((nextCmd s x).bad s.part = false → ((s.cx x).aborting = false ∨ (nextCmd s x).op = 0x10) →
        (t.cx x).cur = some (nextCmd s x) ∧ t = { s with ctxs := t.ctxs }) ∧
      ((nextCmd s x).bad s.part = true →
        (t.cx x).cur = none ∧ t.par K.BAD_COMMANDS = (s.par K.BAD_COMMANDS + 1) % 2 ^ 64))

/-- When a LOAD waits to be accepted and the management core runs: if its key lets the image be read, no page that it
would write is being fetched and the verifier finds no fault, each program section stands in the resolved page of
each cluster that it names, valid, with END past its end, the indices of each descriptor section are valid, and the
command completes with OK. If a page is busy it completes with PAGE_BUSY at the first one and PAGE_BUSY_DROPS counts
them; if the image cannot be read or the verifier finds a fault, it completes with REJECTED and the fault, and
IMAGE_REJECTS counts 1: then no cluster and no descriptor changes. No core and no semaphore changes. While the
management core is down, nothing changes. After spec/06_sequencers_and_loading.md R184,
spec/06_sequencers_and_loading.md R185, spec/06_sequencers_and_loading.md R190. -/
def Obligations.LoadWritesOrRefusesItsImage : Prop :=
  ∀ (x : Fin 16) (s : State) (c : Cmd) (img : List Nat), s.curCmd x 1 = some c →
    (s.service.mgmt.coreUp = false → exec (.load x) s = .next s) ∧
    (s.service.mgmt.coreUp = true →
      let page := bits c.word.toNat 271 270
      ∃ t, exec (.load x) s = .next t ∧ t.cores = s.cores ∧ t.side = s.side ∧ t.pkg = s.pkg ∧
        (s.loadImage x c.word.toNat = none →
          Completes s t x c 2 0x0101 0 0 ∧ counted s t K.IMAGE_REJECTS 1 ∧ t.clusters = s.clusters ∧
          (t.cx x).descs = (s.cx x).descs) ∧
        (s.loadImage x c.word.toNat = some img →
          (∀ q r, s.busyPages img page = q :: r →
            Completes s t x c 3 0 q.1 q.2 ∧ counted s t K.PAGE_BUSY_DROPS (r.length + 1) ∧ t.clusters = s.clusters ∧
            (t.cx x).descs = (s.cx x).descs) ∧
          (∀ f, s.busyPages img page = [] → s.verify x img (bits c.word.toNat 303 272) = some f →
            Completes s t x c 2 f.code f.sect f.slot ∧ counted s t K.IMAGE_REJECTS 1 ∧ t.clusters = s.clusters ∧
            (t.cx x).descs = (s.cx x).descs) ∧
          (s.busyPages img page = [] → s.verify x img (bits c.word.toNat 303 272) = none →
            Completes (s.writeImage x img page) t x c 1 0 0 0 ∧
            (∀ k, t.cl k = (imgSects img).foldl (fun l e =>
              if e.typ = 1 ∧ k ∈ mapBits e.clusters then l.writePage (s.resolvePage k page) (e.words img) else l) (s.cl k)) ∧
            (∀ i, i ∈ (t.cx x).descs ↔ i ∈ (s.cx x).descs ∨
              ∃ e ∈ imgSects img, e.typ ≠ 1 ∧ e.first ≤ i ∧ i < e.first + e.length / 64))))

/-- When a RUN waits to be accepted and names clusters of its context that are at their boundary, under no test and not
frozen, in an ACTIVE part: if the page that it would make active is valid in each, every named cluster runs its
program of this context and generation from slot 0 of that page with no loop, wait or post, each of its enabled
cores has its default epilogue setup and no instruction, and the RUN waits for the boundaries. Otherwise no cluster
changes and the command completes. A RUN that names no cluster or one outside the context changes no cluster either.
No semaphore changes. After spec/06_sequencers_and_loading.md R186, spec/05_core_instructions.md R149,
spec/17_observability.md R509. -/
def Obligations.RunStartsEveryNamedCluster : Prop :=
  ∀ (x : Fin 16) (s : State) (c : Cmd), s.curCmd x 2 = some c →
    let cs := mapBits (bits c.word.toNat 415 384)
    ((cs = [] ∨ cs.any (fun k => !s.holds x k) = true) →
      ∃ t, exec (.run x) s = .next t ∧ t.clusters = s.clusters ∧ t.cores = s.cores ∧ (t.cx x).cur = none ∧
        t.side = s.side ∧ t.pkg = s.pkg) ∧
    (cs ≠ [] → cs.all (fun k => s.holds x k) = true →
      cs.all (fun k => !(s.cl k).testing && !(s.cl k).running && !s.frozen k) = true → s.power.state = .active →
      (cs.any (fun k => !(s.cl k).pageValid (s.cl k).runPage) = true →
        ∃ t, exec (.run x) s = .next t ∧ t.clusters = s.clusters ∧ t.cores = s.cores ∧ (t.cx x).cur = none ∧
          t.side = s.side ∧ t.pkg = s.pkg) ∧
      (cs.all (fun k => (s.cl k).pageValid (s.cl k).runPage) = true →
        ∃ t, exec (.run x) s = .next t ∧ (t.cx x).cur = none ∧
          (t.cx x).running = (s.cx x).running ++ [{ c with left := bits c.word.toNat 415 384 }] ∧
          (∀ k ∈ cs, (t.cl k).running = true ∧ (t.cl k).ended = false ∧ (t.cl k).asleep = false ∧ (t.cl k).pc = 0 ∧
            (t.cl k).active = (s.cl k).runPage ∧ (t.cl k).frames = [] ∧ (t.cl k).wait = none ∧ (t.cl k).posts = [] ∧
            (t.cl k).ctx = x.val ∧ (t.cl k).gen = (s.cx x).gen ∧ (t.cl k).tag = c.n % 2 ^ 32) ∧
          (∀ k, k ∉ cs → t.cl k = s.cl k) ∧
          (∀ k, k / 8 ∈ cs → s.part.isFused k = false → (t.co k).jobs = [] ∧ (t.co k).epi = {}) ∧
          (∀ k, k / 8 ∉ cs → t.co k = s.co k) ∧ t.side = s.side ∧ t.pkg = s.pkg ∧ t.mem = s.mem))

/-- A SIGNAL with no command of its context in progress completes and sends its ADD (where its C fields name no cluster
outside the context); with one in progress, nothing changes. A WAIT on a package semaphore that satisfies WAIT_GE
completes without an ADD; otherwise it comes into force for SEM_WAIT_TIMEOUT from now, and its wake notice completes
it. No semaphore, cluster or core changes. After spec/06_sequencers_and_loading.md R179,
spec/06_sequencers_and_loading.md R180. -/
def Obligations.SignalAndWaitComplete : Prop :=
  ∀ (x : Fin 16) (s : State) (c : Cmd),
    (s.curCmd x 3 = some c → (s.cx x).running ≠ [] → exec (.signal x) s = .next s) ∧
    (s.curCmd x 3 = some c → (s.cx x).running = [] →
      (bits c.word.toNat 269 268 = 1 → s.holds x (bits c.word.toNat 267 263) = true) →
      ∃ t, exec (.signal x) s = .next t ∧ (t.cx x).cur = none ∧ t.posts = s.posts ++ cmdAdd x c ∧
        t = { s with ctxs := t.ctxs, mem := t.mem, posts := t.posts }) ∧
    (s.curCmd x 4 = some c → bits c.word.toNat 269 268 = 2 →
      let r := SemRef.pkg (bits c.word.toNat 267 266) (bits c.word.toNat 262 249)
      let v := bits c.word.toNat 248 225
      ((s.cx x).wait = none → waitGe (s.sem r) v = true →
        ∃ t, exec (.wait x) s = .next t ∧ (t.cx x).cur = none ∧ (t.cx x).wait = none ∧
          t = { s with ctxs := t.ctxs, mem := t.mem }) ∧
      ((s.cx x).wait = none → waitGe (s.sem r) v = false →
        ∃ t, exec (.wait x) s = .next t ∧ t = { s with ctxs := t.ctxs } ∧
          t.cx x = { s.cx x with wait := some ⟨r, v, s.now, s.parMs K.SEM_WAIT_TIMEOUT, false, false⟩ }) ∧
      (∀ w, (s.cx x).wait = some w → w.granted = true →
        ∃ t, exec (.semWaitWake (.command x)) s = .next t ∧ (t.cx x).cur = none ∧ (t.cx x).wait = none ∧
          t = { s with ctxs := t.ctxs, mem := t.mem }))

/-- Where the part takes a write of OPEN: the context is OPEN with generation (G + 1) mod 4,096, command count 0,
LAST_COMMITTED 0, no valid descriptor, no step and no trap or hang record; both instruction pages of each of its
clusters are invalid; the stream semaphore and every semaphore of its ranges, on its clusters and in the package, is
0, and every other semaphore is as before. Every other context is unchanged. Where it refuses, nothing changes; it
refuses when no cluster is named, one is shared with a context that is not CLOSED, the stream semaphore lies outside
the range, or the context is not CLOSED. After spec/06_sequencers_and_loading.md R174,
spec/06_sequencers_and_loading.md R175, spec/07_synchronisation.md R201. -/
def Obligations.OpeningAContext : Prop :=
  ∀ (x : Fin 16) (s : State),
    ((s.par (K.CONTEXT_CLUSTERS + x) = 0 ∨ (s.cx x).st ≠ .closed ∨
      (∃ y, y < 16 ∧ y ≠ x.val ∧ (s.cx y).st ≠ .closed ∧
        Nat.land (s.par (K.CONTEXT_CLUSTERS + x)) (s.par (K.CONTEXT_CLUSTERS + y)) ≠ 0) ∨
      s.inPkgRange x (bits (s.par (K.CONTEXT_STREAM_CFG + x)) 45 32) = false) →
        exec (.contextOpen x) s = .next s) ∧
    (s.openAllowed x = false → exec (.contextOpen x) s = .next s) ∧
    (s.openAllowed x = true →
      ∃ t, exec (.contextOpen x) s = .next t ∧ (t.cx x).st = .opened ∧ (t.cx x).gen = ((s.cx x).gen + 1) % 4096 ∧
        (t.cx x).read = 0 ∧ (t.cx x).lastCommitted = 0 ∧ (t.cx x).descs = [] ∧ (t.cx x).steps = [] ∧
        (t.cx x).trap = 0 ∧ (t.cx x).hang = 0 ∧ (t.cx x).cur = none ∧ (t.cx x).running = [] ∧
        (∀ c, c < 32 → s.holds x c = true → (t.cl c).valid0 = false ∧ (t.cl c).valid1 = false) ∧
        (∀ c, c < 32 → s.holds x c = false → t.cl c = s.cl c) ∧
        (∀ c i, i < 4096 → t.sem (.side c i) =
          if s.holds x c = true ∧ s.inSideRange x i = true then 0 else s.sem (.side c i)) ∧
        (∀ n i, i < 16384 → t.sem (.pkg n i) = if s.inPkgRange x i = true then 0 else s.sem (.pkg n i)) ∧
        (∀ y, y ≠ x.val → t.cx y = s.cx y) ∧ t.mem = s.mem ∧ t.keys = s.keys ∧ t.cores = s.cores)

/-- While the part runs and its key table is in canonical form, CONTEXT_TEARDOWN of a context that is OPEN or STOPPED
leaves it CLOSED with no step, no replay and no command in progress; no transfer, memory write, QMOVE or held
message of it is left; every key of the table that names it is invalid and every other key is as before; and
TEARDOWNS counts it. Of a CLOSED context, nothing changes. After spec/16_hang_reset_recovery.md R480,
spec/16_hang_reset_recovery.md R479. -/
def Obligations.TearingAContextDown : Prop :=
  ∀ (x : Fin 16) (s : State),
    ((s.cx x).st = .closed → exec (.contextTeardown x) s = .next s) ∧
    (s.live = true → Tbl.wf s.keys 0 = true → ((s.cx x).st = .opened ∨ (s.cx x).st = .stopped) →
      ∃ t, exec (.contextTeardown x) s = .next t ∧ (t.cx x).st = .closed ∧ (t.cx x).steps = [] ∧
        (t.cx x).replay = none ∧ (t.cx x).cur = none ∧ (t.cx x).running = [] ∧
        (∀ c, c < 32 → (t.cl c).xfers.all (fun u => u.ctx ≠ x.val) = true) ∧
        t.accesses.all (fun a => a.ctx ≠ x.val) = true ∧ t.moves.all (fun m => m.ctx ≠ x.val) = true ∧
        t.links.held.all (fun h => h.ctx ≠ x.val) = true ∧
        (∀ k, (s.key k).ctx = x.val → (t.key k).valid = false) ∧ (∀ k, (s.key k).ctx ≠ x.val → t.key k = s.key k) ∧
        counted s t K.TEARDOWNS 1)

/-- While the part runs, KEY_ENTRY_WRITE with a good value leaves the entry with exactly the fields of the value, its
reserved bits 0, and every other key as it was. A value with SPACE 0 whose BASE names a reserved view or has
non-zero reserved bits, or whose region or sidecar runs past its view, and any other bad value, changes nothing.
Nothing but the key table changes. A write to entry 0x3FFFF, or to an I/O die that the grade does not have, changes
nothing. Any other write to a running part leaves the entry with the value and its reserved bits 0, and every other
entry as it was; where FADDR, KEY, RCTX and RGEN stay, nothing else changes. After spec/08_dma_and_shelves.md R225,
spec/12_external_memory.md R361, spec/08_dma_and_shelves.md R598, spec/13_ryuryn_links.md R418,
spec/13_ryuryn_links.md R419, spec/13_ryuryn_links.md R421. -/
def Obligations.TableEntriesAreWrittenOrRefused : Prop :=
  (∀ (k : BitVec 16) (v : BitVec 256) (s : State),
      (s.keyBad v.toNat = true → exec (.keyEntryWrite k v) s = .next s) ∧
      ((keyF v.toNat).space = 0 → (bits (keyF v.toNat).base 63 48 ≠ 0 ∨
          s.part.viewStacks (bits (keyF v.toNat).base 47 40) = [] ∨
          s.viewBytes (bits (keyF v.toNat).base 47 40) < bits (keyF v.toNat).base 39 0 + (keyF v.toNat).length) →
        s.keyBad v.toNat = true) ∧
      (s.live = true → s.keyBad v.toNat = false →
        ∃ t, exec (.keyEntryWrite k v) s = .next t ∧ t = { s with keys := t.keys } ∧ t.key k.toNat = keyF v.toNat ∧
          bits (Tbl.get t.keys 0 k.toNat).toNat 80 80 = 0 ∧ bits (Tbl.get t.keys 0 k.toNat).toNat 75 1 = 0 ∧
          ∀ j, j ≠ k.toNat → t.key j = s.key j)) ∧
  (∀ (io : Fin 3) (e : BitVec 18) (v : BitVec 128) (s : State),
      ((e = 0x3FFFF ∨ s.part.ioDies ≤ io.val) → exec (.epEntryWrite io e v) s = .next s) ∧
      (s.live = true → e ≠ 0x3FFFF → io.val < s.part.ioDies →
        ∃ t, exec (.epEntryWrite io e v) s = .next t ∧
          (∀ h l, ((h, l) ∈ [(127, 104), (103, 86), (85, 70), (69, 61), (60, 57), (56, 53), (52, 41), (40, 40), (0, 0)]) →
            bits (t.ep io e.toNat) h l = bits v.toNat h l) ∧ bits (t.ep io e.toNat) 39 1 = 0 ∧
          (∀ (j : Nat) (f : Nat), f < 2 ^ 18 → (j ≠ io.val ∨ f ≠ e.toNat) → t.ep j f = s.ep j f) ∧
          (bits (s.ep io e.toNat) 127 104 = bits v.toNat 127 104 → bits (s.ep io e.toNat) 85 70 = bits v.toNat 85 70 →
            bits (s.ep io e.toNat) 56 41 = bits v.toNat 56 41 →
            t = { s with links := { s.links with eps := t.links.eps } })))

/-- HANG_SCAN happens at the next multiple of 400,000 units. For each context that is OPEN or STOPPED, its count of
consecutive scans rises by 1 if it meets the hang condition and goes to 0 otherwise; a count that would reach
HANG_SCAN_COUNT restarts at 0 and a declaration is due. Of any other context, only the progress is cleared, as every
stream's progress since the last scan is. No semaphore, memory byte, queue, core, state of a context or register
changes. When a declaration is due for a context, HANG_DECLARATION takes it and adds 1 to HANG_DECLARATIONS. With
its hang bit in SYNC_STATUS set, that is all. With the bit clear, it also sets the bit and, where the context holds
no hang record, writes one with CAUSE HANG and the blocked streams; without a dump ordered by DUMP_TRIGGERS, no
semaphore, queue or core changes, unless a replay step that is open fails with it. When none is due, nothing
changes. After spec/07_synchronisation.md R214, spec/07_synchronisation.md R216, spec/07_synchronisation.md R217,
spec/07_synchronisation.md R218. -/
def Obligations.HangsAreScannedForAndDeclared : Prop :=
  (∀ s : State, ∃ t, exec .hangScan s = .next t ∧
      t = { s with now := t.now, ctxs := t.ctxs, clusters := t.clusters } ∧ t.now = (s.now / 400000 + 1) * 400000 ∧
      (∀ x, x < 16 → ((s.cx x).st = .opened ∨ (s.cx x).st = .stopped) →
        t.cx x = { s.cx x with
          scans := if (s.hangStreams x true).isSome ∧ (s.cx x).scans + 1 < s.par K.HANG_SCAN_COUNT
            then (s.cx x).scans + 1 else 0
          hung := (s.cx x).hung || ((s.hangStreams x true).isSome && decide (s.par K.HANG_SCAN_COUNT ≤ (s.cx x).scans + 1))
          progress := false }) ∧
      (∀ x, x < 16 → (s.cx x).st ≠ .opened → (s.cx x).st ≠ .stopped → t.cx x = { s.cx x with progress := false }) ∧
      (∀ c, c < 32 → t.cl c = { s.cl c with progress := false })) ∧
  (∀ (x : Fin 16) (s : State),
      let l := (s.hangStreams x false).getD []
      ((s.cx x).hung = false → exec (.hangDeclaration x) s = .next s) ∧
      ((s.cx x).hung = true →
        ∃ t, exec (.hangDeclaration x) s = .next t ∧ (t.cx x).hung = false ∧ counted s t K.HANG_DECLARATIONS 1 ∧
          (bit (s.par K.SYNC_STATUS) x = true → t = { s with ctxs := t.ctxs, od := t.od } ∧
            t.cx x = { s.cx x with hung := false } ∧ ∀ k, k ≠ K.HANG_DECLARATIONS → t.par k = s.par k) ∧
          (bit (s.par K.SYNC_STATUS) x = false →
            bit (t.par K.SYNC_STATUS) x = true ∧
            (t.cx x).hang = ((s.hangRecord x 1 ((l.map (fun u => 2 ^ u.waiter)).sum) (l.headD ⟨32, 0, 0, none⟩) 0 0).cx x).hang ∧
            (bit (s.cx x).hang.toNat 0 = true → (t.cx x).hang = (s.cx x).hang) ∧
            (bit (s.par K.DUMP_TRIGGERS) 6 = false → (s.cx x).replay = none →
              t.cores = s.cores ∧ t.side = s.side ∧ t.pkg = s.pkg))))

/-- When the wait in force of a cluster, or of a context's command WAIT, is not granted and has not timed out,
SEM_WAIT_TIMEOUT happens at its deadline or later, marks the wait, sets the context's timeout bit in SYNC_STATUS,
counts 1 in WAIT_TIMEOUTS and, if the context held no hang record, writes one with CAUSE WAIT_TIMEOUT; the wait is
still in force, and no semaphore, core, memory byte or other cluster changes. A wait that is granted or has timed
out, and a stream with no wait, is left alone. After spec/07_synchronisation.md R219, spec/07_synchronisation.md
R220, spec/07_synchronisation.md R222. -/
def Obligations.TimedOutWaitStaysInForce : Prop :=
  let flagged (s t : State) (x : Nat) (w : WaitSt) (b : Stall) : Prop :=
    t.now = max s.now (w.since + w.limit) ∧ bit (t.par K.SYNC_STATUS) (16 + x) = true ∧ counted s t K.WAIT_TIMEOUTS 1 ∧
    (t.cx x).hang = (((s.reach (w.since + w.limit)).hangRecord x 2 0 b 0 0).cx x).hang ∧
    (bit (s.cx x).hang.toNat 0 = true → (t.cx x).hang = (s.cx x).hang) ∧
    t.side = s.side ∧ t.pkg = s.pkg ∧ t.cores = s.cores ∧ t.mem = s.mem
  (∀ (c : Nat) (s : State), (s.cl c).wait = none → exec (.semWaitTimeout (.cluster c)) s = .next s) ∧
  (∀ (c : Nat) (s : State) (w : WaitSt), (s.cl c).wait = some w →
    ((w.granted = true ∨ w.timedOut = true) → exec (.semWaitTimeout (.cluster c)) s = .next s) ∧
    (w.granted = false → w.timedOut = false →
      ∃ t, exec (.semWaitTimeout (.cluster c)) s = .next t ∧ flagged s t (s.cl c).ctx w ⟨c, 0, (s.cl c).pcCode, some w⟩ ∧
        t.cl c = { s.cl c with wait := some { w with timedOut := true } } ∧ ∀ d, d ≠ c → t.cl d = s.cl d)) ∧
  (∀ (x : Nat) (s : State) (w : WaitSt) (k : Cmd), (s.cx x).wait = some w → (s.cx x).cur = some k →
    ((w.granted = true ∨ w.timedOut = true) → exec (.semWaitTimeout (.command x)) s = .next s) ∧
    (w.granted = false → w.timedOut = false →
      ∃ t, exec (.semWaitTimeout (.command x)) s = .next t ∧ flagged s t x w ⟨32, 1, k.n % 4096, some w⟩ ∧
        (t.cx x).wait = some { w with timedOut := true } ∧ (t.cx x).cur = some k ∧ t.clusters = s.clusters)) ∧
  (∀ (x : Nat) (s : State), ((s.cx x).wait = none ∨ (s.cx x).cur = none) →
    exec (.semWaitTimeout (.command x)) s = .next s)

/-- While the part runs, STATUS_FLAG_CLEAR of SYNC_STATUS leaves each of its 32 bits set exactly where it was set and
the mask does not name it, and changes nothing else. Of THERMAL_STATUS, a bit stays where the mask does not name it
or its condition still holds. After spec/07_synchronisation.md R223, spec/19_power_and_clocks.md R574. -/
def Obligations.StatusFlagsAreClearedByWritingOnes : Prop :=
  ∀ (m : BitVec 32) (s : State), s.live = true →
    (∃ t, exec (.statusFlagClear K.SYNC_STATUS m) s = .next t ∧ t = { s with od := t.od } ∧
      (∀ i, i < 32 → bit (t.par K.SYNC_STATUS) i = (bit (s.par K.SYNC_STATUS) i && !m.getLsbD i)) ∧
      (∀ k, k ≠ K.SYNC_STATUS → t.par k = s.par k)) ∧
    (∃ t, exec (.statusFlagClear K.THERMAL_STATUS m) s = .next t ∧
      t = { s with power := { s.power with flags := t.power.flags } } ∧
      (∀ i, i < 8 → t.power.flags.getLsbD i =
        ((s.power.flags.getLsbD i && !m.getLsbD i) || s.power.thermalNow.testBit i)))

/-- DRAWER_SPILL_COPY: when a resident page can be copied, a spill page is free and its stacks are awake, and fewer than
DRAWER_SPILL_MARK resident pages are free, the page of the oldest entry moves to that spill page, keeping its
blocks' read counts, and DRAWER_PAGES_SPILLED counts 1; its blocks, where none fails its check, are written there
one by one, and shelves, clusters and semaphores are as before. Otherwise nothing changes. DRAWER_PAGE_GRANT: when a
resident page is free, the first waiting write that needs a page has it allocated for its block and needs none any
more; then all waiting writes that need no page go on. With no waiting write, nothing changes. Of the drawer's
waiting writes that are stalled, STASH_TIMEOUT takes the one whose STASH_TIMEOUT ends first (of equal ones the
first) and happens then or later. With a resident page free, the page is granted instead. Otherwise the transfer
leaves its engine, STASH_TIMEOUTS counts 1 and the context's timeout bit is set in SYNC_STATUS; the transfer's
cluster then goes on. With no stalled write, nothing changes. After spec/09_backward_and_pipeline.md R275,
spec/09_backward_and_pipeline.md R279, spec/09_backward_and_pipeline.md R281. -/
def Obligations.DrawersSpillGrantAndTimeOut : Prop :=
  (∀ (x : Fin 16) (d : Fin 4) (s : State),
      ((((s.drawer x d).spillNext = none ∨ (s.drawer x d).freePage true = none) ∨
          s.par K.DRAWER_SPILL_MARK ≤ (s.drawer x d).free false) → exec (.drawerSpillCopy x d) s = .next s) ∧
      (∀ i, (s.drawer x d).freePage true = some i → s.asleepSites ((s.drawer x d).sbase + 65536 * i) 0 65536 = true →
        exec (.drawerSpillCopy x d) s = .next s) ∧
      (∀ p i, (s.drawer x d).spillNext = some p → (s.drawer x d).freePage true = some i →
        (s.drawer x d).free false < s.par K.DRAWER_SPILL_MARK →
        s.asleepSites ((s.drawer x d).sbase + 65536 * i) 0 65536 = false →
        ∃ t, exec (.drawerSpillCopy x d) s = .next t ∧ t.drawer x d = { s.drawer x d with
            held := (s.drawer x d).held.map (fun q =>
              if q.entry = p.entry && q.page = p.page then { q with spilled := true, slot := i } else q) } ∧
          t.clusters = s.clusters ∧ t.cores = s.cores ∧ t.side = s.side ∧ t.pkg = s.pkg ∧ t.mem.shelf = s.mem.shelf ∧
          t.mem.service = s.mem.service ∧ counted s t K.DRAWER_PAGES_SPILLED 1 ∧
          ((s.drawer x d).page p.entry (32 * p.page) = some p →
            (∀ r ∈ p.reads, r.1 < 32 ∧ ((s.drawerBlock x d p.entry (32 * p.page + r.1)).h.bad = true ∨
              (s.drawerBlock x d p.entry (32 * p.page + r.1)).crcOk = true)) →
            t.mem = (p.reads.foldl (fun u r => u.spillPut x (s.drawer x d) (32 * i + r.1)
              (s.drawerBlock x d p.entry (32 * p.page + r.1))) s).mem)) ∧
      ((s.drawer x d).stalled = [] → exec (.drawerPageGrant x d) s = .next s) ∧
      (((s.drawer x d).stalled.find? (s.needsPage x d) = none ∨ (s.drawer x d).freePage false = none) →
        exec (.drawerPageGrant x d) s = .next { s.serveWaiting x d with pending := s.pending, part := s.part }) ∧
      (∀ c q i u, (s.drawer x d).stalled.find? (s.needsPage x d) = some (c, q) → (s.drawer x d).freePage false = some i →
        s.xfer c q = some u →
        let e := drawerAt (u.offer.getD 0)
        let s' := s.setDrawer x d ((s.drawer x d).allocate e.1 e.2 i u.step)
        exec (.drawerPageGrant x d) s = .next { s'.serveWaiting x d with pending := s.pending, part := s.part } ∧
        s'.needsPage x d (c, q) = false ∧ (s'.drawer x d).page e.1 e.2 = some ⟨e.1, e.2 / 32, false, i, [], 0⟩)) ∧
  (∀ (x : Fin 16) (d : Fin 4) (s : State),
      ((∀ p ∈ (s.drawer x d).stalled, ∀ v, s.xfer p.1 p.2 = some v → v.stall = none) →
        exec (.stashTimeout x d) s = .next s) ∧
      (∀ (c q since limit : Nat) (l r : List (Nat × Nat)) (u : Xfer),
        (s.drawer x d).stalled = l ++ (c, q) :: r → s.xfer c q = some u → u.stall = some (since, limit) →
        (∀ p ∈ l, ∀ v a b, s.xfer p.1 p.2 = some v → v.stall = some (a, b) → since + limit < a + b) →
        (∀ p ∈ r, ∀ v a b, s.xfer p.1 p.2 = some v → v.stall = some (a, b) → since + limit ≤ a + b) →
        (((s.drawer x d).freePage false).isSome = true →
          exec (.stashTimeout x d) s = .next { (s.reach (since + limit)).pageGrant x d with
            pending := s.pending, part := s.part }) ∧
        ((s.drawer x d).freePage false = none →
          ∃ t : State,
            exec (.stashTimeout x d) s = .next { t.settle c with pending := s.pending, part := s.part } ∧
            t.xfer c q = none ∧ t.now = max s.now (since + limit) ∧ counted s t K.STASH_TIMEOUTS 1 ∧
            bit (t.par K.SYNC_STATUS) (16 + x) = true)))

/-- A write of bytes to the shelves or to service memory changes exactly the bytes from its address on. A write to an
HBM view of at least one stack changes exactly the cells that the view gives to those addresses: each reads as the
byte written to it, every other byte of the three memories as before. The view gives distinct addresses distinct
cells: 2,048-byte blocks rotate over its stacks. For every view v with S stacks and offset x within S stacks of 48
GiB: the byte lies in the stack that is entry b mod S of the view's list, with b = ⌊x / 2,048⌋, at 2,048⌊b / S⌋ + x
mod 2,048 of its addresses; and two offsets of the view share no byte. The package view of an SW-680 holds H0, H1,
H2, H3, H6, H7, H8 and H9. After spec/08_dma_and_shelves.md R228, spec/12_external_memory.md R362,
spec/08_dma_and_shelves.md R605, spec/12_external_memory.md R360. -/
def Obligations.WritesReachTheirBytesAndNoOthers : Prop :=
  ((∀ (s : State) (a x : Nat) (bs : List Nat),
      (s.writeSpace 1 a bs).mem.shelf.byte x =
        (if a ≤ x ∧ x < a + bs.length then BitVec.ofNat 8 (bs.getD (x - a) 0) else s.mem.shelf.byte x) ∧
      (s.writeSpace 2 a bs).mem.service.byte x =
        (if a ≤ x ∧ x < a + bs.length then BitVec.ofNat 8 (bs.getD (x - a) 0) else s.mem.service.byte x) ∧
      (s.writeSpace 1 a bs).mem.hbm = s.mem.hbm ∧ (s.writeSpace 1 a bs).mem.service = s.mem.service ∧
      (s.writeSpace 2 a bs).mem.hbm = s.mem.hbm ∧ (s.writeSpace 2 a bs).mem.shelf = s.mem.shelf) ∧
    (∀ (s : State) (v o : Nat) (bs : List Nat), v < 256 → s.part.viewStacks v ≠ [] →
      o + bs.length ≤ (s.part.viewStacks v).length * stackBytes →
      let a := v * 2 ^ 40 + o
      (s.writeSpace 0 a bs).mem.shelf = s.mem.shelf ∧ (s.writeSpace 0 a bs).mem.service = s.mem.service ∧
      (∀ i, i < bs.length →
        (s.writeSpace 0 a bs).mem.hbm.byte (s.part.hbmCell (a + i)) = BitVec.ofNat 8 (bs.getD i 0)) ∧
      (∀ y, (∀ i, i < bs.length → y ≠ s.part.hbmCell (a + i)) →
        (s.writeSpace 0 a bs).mem.hbm.byte y = s.mem.hbm.byte y))) ∧
  ((∀ (p : Part) (v x : Nat), v < 256 → x < 2 ^ 40 → p.viewStacks v ≠ [] →
      p.hbmCell (v * 2 ^ 40 + x) = (p.viewStacks v).getD (x / 2048 % (p.viewStacks v).length) 0 * 2 ^ 36
        + 2048 * (x / 2048 / (p.viewStacks v).length) + x % 2048) ∧
    (∀ (p : Part) (v x y : Nat), v < 256 → x < (p.viewStacks v).length * stackBytes →
      y < (p.viewStacks v).length * stackBytes → p.hbmCell (v * 2 ^ 40 + x) = p.hbmCell (v * 2 ^ 40 + y) → x = y) ∧
    (∀ p : Part, p.grade = 680 → p.viewStacks 0 = [0, 1, 2, 3, 6, 7, 8, 9]))

/-- For the i-th write on its way: while a link of its path is stopped, it waits behind the others. Otherwise: if its
generation is stale, it is dropped and counted in STALE_LOCAL_DROPS; of a transfer in flight, if its key is not
valid and the context's, in REVOKED_WRITE_DROPS: no memory byte changes. If it is current, of a transfer in flight,
its key is valid and the context's, it writes no drawer and no wardrobe of a replay, its memory is in service and
awake, no write that reached its bursts earlier waits there and no undo, mirror or checkpoint rule holds it, its
bytes and header are written through its key, the transfer's MOVED counts its data bytes and the time that it was
held does not count towards DMA_TIMEOUT. No semaphore and no core changes. No gather waits in these states. After
spec/08_dma_and_shelves.md R228, spec/12_external_memory.md R366, spec/16_hang_reset_recovery.md R478. -/
def Obligations.MemoryWriteArrives : Prop :=
  ∀ (i : Nat) (s : State) (a : Access), s.accesses[i]? = some a → (∀ p, (s.plan p).held = []) →
    (s.accessWaits a = true → exec (.memoryAccessArrival (.write i)) s =
      .next { s with accesses := s.accesses.eraseIdx i ++ [a] }) ∧
    (s.accessWaits a = false → s.stale a.ctx a.gen = true →
      ∃ t, exec (.memoryAccessArrival (.write i)) s = .next t ∧
        t = { s with accesses := s.accesses.eraseIdx i, od := t.od } ∧ counted s t K.STALE_LOCAL_DROPS 1) ∧
    (∀ (c q : Nat) (u : Xfer), s.accessWaits a = false → s.stale a.ctx a.gen = false → a.owner = .xfer c q →
      s.xfer c q = some u →
      (¬((s.key a.key).valid = true ∧ (s.key a.key).ctx = a.ctx) →
        ∃ t, exec (.memoryAccessArrival (.write i)) s = .next t ∧ t.mem = s.mem ∧ counted s t K.REVOKED_WRITE_DROPS 1 ∧
          t.accesses = s.accesses.eraseIdx i ∧ t.side = s.side ∧ t.pkg = s.pkg ∧ t.cores = s.cores) ∧
      ((s.key a.key).valid = true → (s.key a.key).ctx = a.ctx →
        (a.replay = false ∨ a.key ≠ s.par (K.WARDROBE_KEY + a.ctx)) → a.drawer = none →
        s.offlineAt a.key a.off a.bytes.length a.hdr.isSome = 0 →
        s.asleepAt a.key a.off a.bytes.length a.hdr.isSome = false →
        State.behind { s with accesses := s.accesses.eraseIdx i } a = false →
        (a.replay = true ∨ s.undoHeld a.ctx a.key a.step = false) → s.pendingOf a.ctx a.key a.off a.bytes.length = [] →
        ∃ t, exec (.memoryAccessArrival (.write i)) s = .next t ∧
          t.mem = (s.put 1 a.key a.off a.bytes a.hdr).mem ∧ t.accesses = s.accesses.eraseIdx i ∧
          t.side = s.side ∧ t.pkg = s.pkg ∧ t.cores = s.cores ∧
          t.xfer c q = some { u with
            moved := u.moved + a.count.getD a.bytes.length
            stalled := u.stalled + ((a.heldSince.map (fun h => s.now - h)).getD 0) }))

/-- For SEM_OP, WRITE, RESP, GATHER_REQ, GATHER_REPLY and PARTIAL that arrive for an I/O die of a running part: a
malformed one is dropped under BAD_MESSAGES; then, in DEEP, one that would cross between I/O dies under
DEEP_CROSSING_DROPS; then one whose entry is not VALID or reserved under EP_INVALID_DROPS; then one with another KEY
than the entry's under EP_KEY_DROPS; then, on an entry without HOST, one of another membership under
MEMBERSHIP_DROPS; then a stale one under STALE_REMOTE_DROPS; then a RESP to another generation's request under
LATE_REPLY_DROPS. A dropped message leaves its receive buffer and nothing else changes. One that every check admits
acts on the state that is left when it has been taken. (No gather waits in these states; what a command brings of
faults to the engines' copies stands before it.) After spec/13_ryuryn_links.md R423, spec/13_ryuryn_links.md R406. -/
def Obligations.MessagesAreCheckedBeforeTheyAct : Prop :=
  ∀ (m : List (BitVec 128)) (faults : List CopyFault) (s0 : State) (r : Instr × Nat × List CopyFault × Landing) (io : Nat),
    r ∈ arrivalRows m faults → s0.ioOf m = some io → s0.live = true → (Msg.common m).mtype = r.2.1 →
    (∀ p, (s0.plan p).held = []) →
    let s := s0.withFaults r.2.2.1
    let w := s.ep io (Msg.common m).dep
    let formed := Msg.wellFormed m = true ∧ crossesInDeep s io m = false
    let admitted := formed ∧ ¬ admitsNothing s io (Msg.common m).dep
    let keyed := admitted ∧ (Msg.common m).key = bits w 85 70
    let joined := keyed ∧ (bit w 40 = true ∨ (Msg.common m).membership = s.par K.JOB_MEMBERSHIP)
    (Msg.wellFormed m = false → droppedAs s m K.BAD_MESSAGES (exec r.1 s0)) ∧
    (Msg.wellFormed m = true → crossesInDeep s io m = true → droppedAs s m K.DEEP_CROSSING_DROPS (exec r.1 s0)) ∧
    (formed → admitsNothing s io (Msg.common m).dep → droppedAs s m K.EP_INVALID_DROPS (exec r.1 s0)) ∧
    (admitted → (Msg.common m).key ≠ bits w 85 70 → droppedAs s m K.EP_KEY_DROPS (exec r.1 s0)) ∧
    (keyed → bit w 40 = false → (Msg.common m).membership ≠ s.par K.JOB_MEMBERSHIP →
      droppedAs s m K.MEMBERSHIP_DROPS (exec r.1 s0)) ∧
    (joined → staleRemote s io m → droppedAs s m K.STALE_REMOTE_DROPS (exec r.1 s0)) ∧
    (joined → ¬ staleRemote s io m → (Msg.common m).mtype = 6 →
      bits (Msg.slot m 1) 102 91 ≠ (s.cx (bits w 60 57)).gen → droppedAs s m K.LATE_REPLY_DROPS (exec r.1 s0)) ∧
    (formed → (∀ t, s.judge io m = .ended t →
        exec r.1 s0 = .next { t with pending := s.pending, part := s.part }) ∧
      ∀ t io' e' x step, s.judge io m = .lands t io' e' x step →
        exec r.1 s0 = .next { r.2.2.2 t io' e' x step with pending := s.pending, part := s.part })

/-- For a message that lands with a tag not seen before: a WRITE to memory through a key that allows it, at a 2,048-byte
offset and within its region, puts one write of 2,048 bytes per block on its way, at rising offsets. A WRITE to a
configured queue or the null queue of an enabled core of the context puts its blocks, judged, behind the QMOVEs on
their way there, and that cluster goes on. A SEM_OP whose index lies in the context's package range and whose I/O
die exists sends one post to it; any other sends none and counts 1 in SEM_RANGE_DROPS. A RESP with no outstanding
request changes nothing more; with one, it takes the request away, tells its owner and lets requests that wait go
on. No semaphore changes yet. After spec/13_ryuryn_links.md R408, spec/13_ryuryn_links.md R411,
spec/07_synchronisation.md R203, spec/13_ryuryn_links.md R425. -/
def Obligations.RemoteRequestsTakeEffect : Prop :=
  ∀ (m : List (BitVec 128)) (s t : State) (io i e x : Nat) (step : Option (Nat × Nat)), s.ioOf m = some io →
    s.live = true → Msg.wellFormed m = true → crossesInDeep s io m = false → s.judge io m = .lands t i e x step →
    ((Msg.common m).mtype = 5 → bit (Msg.slot m 1) 106 = false → (t.tags i e).seen (Msg.common m).tag = false →
      (t.drawerDie x (bits (Msg.slot m 1) 105 90)).isSome = false →
      t.isSpillKey x (bits (Msg.slot m 1) 105 90) = false →
      t.keyOk x (bits (Msg.slot m 1) 105 90) false true = true → bits (Msg.slot m 1) 89 50 % 2048 = 0 →
      bits (Msg.slot m 1) 89 50 + 2048 * writeBlocks (m.headD 0) ≤ (t.key (bits (Msg.slot m 1) 105 90)).length →
      ∃ u, exec (.write m) s = .next u ∧ u.side = t.side ∧ u.pkg = t.pkg ∧
        u.accesses.length = t.accesses.length + (Msg.blocks m 2).length ∧
        (∀ j, j < (Msg.blocks m 2).length → ∃ a, u.accesses[t.accesses.length + j]? = some a ∧ a.ctx = x ∧
          a.key = bits (Msg.slot m 1) 105 90 ∧ a.off = bits (Msg.slot m 1) 89 50 + 2048 * j ∧ a.bytes.length = 2048)) ∧
    ((Msg.common m).mtype = 5 → bit (Msg.slot m 1) 106 = true → (t.tags i e).seen (Msg.common m).tag = false →
      let k := bits (Msg.slot m 1) 89 82
      let q := bits (Msg.slot m 1) 81 76
      t.holds x (k / 8) = true → t.part.isFused k = false → (q = 63 ∨ ((t.co k).queue q).size ≠ 0) →
      ∃ (u : State) (f : MoveFlight),
        exec (.write m) s = .next { ({ u with moves := u.moves ++ [f] } : State).settle (k / 8) with
          pending := s.pending, part := s.part } ∧
        u.moves = t.moves ∧ u.cores = t.cores ∧ u.side = t.side ∧ u.pkg = t.pkg ∧ f.ctx = x ∧ f.dst = k ∧ f.dq = q ∧
        f.judged = some false ∧ f.blocks.length = (Msg.blocks m 2).length ∧
        f.remote = some (i, e, m.headD 0)) ∧
    ((Msg.common m).mtype = 4 → (t.tags i e).seen (Msg.common m).tag = false →
      let n := bits (Msg.slot m 1) 105 104
      let k := bits (Msg.slot m 1) 103 90
      (n < t.part.ioDies → t.inPkgRange x k = true →
        ∃ u, exec (.semOp m) s = .next u ∧ u.side = t.side ∧ u.pkg = t.pkg ∧ u.posts = t.posts ++
          [⟨.pkg n k, bit (Msg.slot m 1) 106, bits (Msg.slot m 1) 89 66, x, (t.cx x).gen, 4 + i⟩]) ∧
      ((t.part.ioDies ≤ n ∨ t.inPkgRange x k = false) →
        ∃ u, exec (.semOp m) s = .next u ∧ u.side = t.side ∧ u.pkg = t.pkg ∧ u.posts = t.posts ∧
          u.par K.SEM_RANGE_DROPS = (t.par K.SEM_RANGE_DROPS + 1) % 2 ^ 64)) ∧
    ((Msg.common m).mtype = 6 →
      (t.req i e (Msg.common m).tag = none →
        exec (.resp m) s = .next { t with pending := s.pending, part := s.part }) ∧
      (∀ r, t.req i e (Msg.common m).tag = some r →
        let u : State := { t with links := { t.links with reqs := t.links.reqs.erase r } }
        let v : State := (u.reqAnswered r (bits (Msg.slot m 1) 106 103) (bits (Msg.slot m 1) 90 88)).pumpEntry i e
        exec (.resp m) s = .next { v with pending := s.pending, part := s.part }))

/-- For an outstanding request of an entry: while its last copy has not been transmitted, nothing changes. With
retransmissions left, REQUEST_RETRANSMIT happens LINK_REQ_RETRY after it was sent last, or later, counts 1 in
REQ_RETRANSMITS and leaves the request outstanding with its tag, one retransmission more and the header that its
entry now gives; REQUEST_EXHAUSTED does nothing. With none left, the first does nothing, and REQUEST_EXHAUSTED
happens LINK_REQ_RETRY after it was sent last, or later; a semaphore operation of an I/O die other than IO0 with no
request waiting for a tag is counted in REQ_EXHAUSTED and exactly that request is no longer outstanding. A tag that
no request holds changes nothing. After spec/13_ryuryn_links.md R428, spec/13_ryuryn_links.md R427. -/
def Obligations.RequestsAreRepeatedThenGivenUp : Prop :=
  ∀ (io : Fin 3) (e : BitVec 18) (tag : BitVec 16) (s : State), s.live = true →
    (s.req io e.toNat tag.toNat = none →
      exec (.requestRetransmit io e tag) s = .next s ∧ exec (.requestExhausted io e tag) s = .next s) ∧
    (∀ r, s.req io e.toNat tag.toNat = some r → s.unsent r = true →
      exec (.requestRetransmit io e tag) s = .next s ∧ exec (.requestExhausted io e tag) s = .next s) ∧
    (∀ r, s.req io e.toNat tag.toNat = some r → s.unsent r = false → r.retries < r.limit →
      exec (.requestExhausted io e tag) s = .next s ∧
      ∃ t, exec (.requestRetransmit io e tag) s = .next t ∧ t.now = max s.now (r.sent + r.wait) ∧
        t.par K.REQ_RETRANSMITS = (s.par K.REQ_RETRANSMITS + 1) % 2 ^ 64 ∧
        t.links.reqs.map timeless = s.links.reqs.map (fun q =>
          timeless (if q = r then { r with msg := s.restamp io e.toNat r.msg, retries := r.retries + 1 } else q)) ∧
        (∃ q ∈ t.links.reqs, timeless q = timeless { r with msg := s.restamp io e.toNat r.msg, retries := r.retries + 1 } ∧
          q.sent = max s.now (r.sent + r.wait)) ∧
        t.side = s.side ∧ t.pkg = s.pkg ∧ t.cores = s.cores ∧ t.clusters = s.clusters ∧ t.mem = s.mem) ∧
    (∀ r, s.req io e.toNat tag.toNat = some r → s.unsent r = false → r.limit ≤ r.retries →
      exec (.requestRetransmit io e tag) s = .next s ∧
      ∃ t, exec (.requestExhausted io e tag) s = .next t ∧ t.now = max s.now (r.sent + r.wait) ∧
        (∀ x, r.owner = .sem x → io.val ≠ 0 → s.links.waiting = [] →
          t.links.reqs.map timeless = (s.links.reqs.erase r).map timeless ∧
          t.par K.REQ_EXHAUSTED = (s.par K.REQ_EXHAUSTED + 1) % 2 ^ 64))

/-- For a VALID plan of an OPEN context with an open step and a next unit: a GATHER plan with GOSEM reached and fewer
than 64 units in flight takes the unit; when another rank owns it, it is added to those in flight and nothing of
memory changes. A REDUCE plan with GOSEM reached takes and completes one submission more. GATHER_UNIT_TIMEOUT of a
plan with units in flight happens at the first deadline of these or later and counts 1 in GATHER_STALE_UNITS; with
none it does nothing. COLLECTIVE_TIMEOUT of a unit and round ends the waiting reduction of theirs whose deadline
comes first, then or later, and counts 1 in COLLECTIVE_TIMEOUTS; with none it does nothing. No semaphore changes by
a fetch. Of a plan that is not VALID, a fetch and the timeouts change nothing. After spec/10_sharding_and_update.md
R295, spec/10_sharding_and_update.md R301, spec/10_sharding_and_update.md R304, spec/10_sharding_and_update.md R311. -/
def Obligations.GathersAndReductionsAdvance : Prop :=
  ∀ (p : Fin 128) (s : State),
    (s.planF p = none → ∀ (v : BitVec 8) (u : BitVec 24),
      exec (.gatherFetch p) s = .next s ∧
      exec (.gatherUnitTimeout p) s = .next s ∧ exec (.collectiveTimeout p u v) s = .next s) ∧
    (∀ (f : PlanF) (st : Step) (i u : Nat), s.planF p = some f → s.live = true → (s.cx f.ctx).st = .opened →
      (s.cx f.ctx).curStep = some st →
      let q := s.plan p
      waitGe (s.sem (.pkg f.io f.go)) (q.count.taken + 1) = true →
      findUnit s f f.lcount 0 (q.count.taken % max 1 (s.listUnits f)) = some (i, u) →
      (f.reduce = false → (q.units.filter (fun u => !u.done)).length < 64 →
        ∃ t, exec (.gatherFetch p) s = .next t ∧ (t.plan p).count.taken = q.count.taken + 1 ∧
          t.side = s.side ∧ t.pkg = s.pkg ∧
          (f.owner u (s.listEntry f i).tensor ≠ f.rank → t.mem = s.mem ∧ t.plan p = { q with
            count := { q.count with taken := q.count.taken + 1 }
            units := q.units ++ [⟨q.count.taken, (s.listEntry f i).tensor, u, s.now, s.parMs K.COLLECTIVE_TIMEOUT,
              st.num, (st.num + 2 ^ 16 - 1) % 2 ^ 16, [], false⟩] })) ∧
      (f.reduce = true → (∀ r, (s.plan r).held = []) → ∀ fs : List CopyFault,
        ∃ t, exec (.reduceSubmission p fs) s = .next t ∧ (t.plan p).count.taken = q.count.taken + 1 ∧
          (t.plan p).count.done = q.count.taken + 1 ∧ t.side = s.side ∧ t.pkg = s.pkg)) ∧
    ((s.plan p).units.all (fun u => u.done) = true → exec (.gatherUnitTimeout p) s = .next s) ∧
    (∀ (f : PlanF) (u : GatherUnit), s.planF p = some f → f.reduce = false →
      firstDue ((s.plan p).units.filter (fun u => !u.done)) (fun u => u.start + u.limit) = some u →
      ∃ t, exec (.gatherUnitTimeout p) s = .next t ∧ t.now = max s.now (u.start + u.limit) ∧
        t.par K.GATHER_STALE_UNITS = (s.par K.GATHER_STALE_UNITS + 1) % 2 ^ 64) ∧
    (∀ (u : BitVec 24) (v : BitVec 8), (s.plan p).reds.all (fun r => r.unit ≠ u.toNat || r.round ≠ v.toNat) = true →
      exec (.collectiveTimeout p u v) s = .next s) ∧
    (∀ (f : PlanF) (r : Reduction) (u : BitVec 24) (v : BitVec 8), s.planF p = some f →
      firstDue ((s.plan p).reds.filter (fun r => r.unit = u.toNat && r.round = v.toNat)) (fun r => r.start + r.limit) = some r →
      ∃ t, exec (.collectiveTimeout p u v) s = .next t ∧ t.now = max s.now (r.start + r.limit) ∧
        (t.plan p).reds = (s.plan p).reds.erase r ∧
        t.par K.COLLECTIVE_TIMEOUTS = (s.par K.COLLECTIVE_TIMEOUTS + 1) % 2 ^ 64)

/-- A STEP.OPEN waits, changing nothing, while a step is OPEN or ROLLING_BACK or two are uncommitted. With a number that
is not the expected one it completes with STEP_ORDER, with a configuration that R327 refuses or a barred mirror with
STEP_CONFIG, and opens no step. Otherwise, with nothing held for the context, it completes with OK and opens one
OPEN step of that number at the end of the context's steps, latches the round seed, clears the trap record and
shadows the package semaphores of the context's range; no semaphore changes. With REPLAY set it waits beside an open
step, is refused for its configuration, or makes the replay step of its SUSPECT and JOBCTX and leaves the steps as
they are. After spec/11_step_transactions.md R322, spec/11_step_transactions.md R323, spec/11_step_transactions.md
R326, spec/11_step_transactions.md R350. -/
def Obligations.StepsOpenInOrder : Prop :=
  ∀ (x : Fin 16) (s : State) (c : Cmd), s.curCmd x 0x10 = some c →
    (c.replay = false → (s.cx x).openWaits = true → exec (.stepOpen x) s = .next s) ∧
    (c.replay = false → (s.cx x).openWaits = false →
      ((s.mir x).barred = true ∨ (s.cx x).expects c.step = false ∨ s.stepConfigBad x = true) →
      ∃ t, exec (.stepOpen x) s = .next t ∧ (t.cx x).steps = (s.cx x).steps ∧
        Completes s t x c (if (s.mir x).barred = false ∧ (s.cx x).expects c.step = false then 8 else 0xA) 0 0 0 ∧
        t.side = s.side ∧ t.pkg = s.pkg ∧ t.clusters = s.clusters ∧ t.cores = s.cores) ∧
    (c.replay = false → (s.cx x).openWaits = false → (s.mir x).barred = false → (s.cx x).expects c.step = true →
      s.stepConfigBad x = false → s.links.held.all (fun h => h.ctx ≠ x.val) = true →
      (∀ p, (s.plan p).sums = [] ∧ (s.plan p).held = []) →
      ∃ t u, exec (.stepOpen x) s = .next t ∧ (t.cx x).steps = (s.cx x).steps ++ [u] ∧ u.num = c.step ∧ u.st = .opened ∧
        u.attempt = (s.cx x).attemptOf c.step ∧ u.failed = false ∧ u.checks = 0 ∧ u.blocks = 0 ∧
        u.seed = BitVec.ofNat 64 (s.par (K.ROUND_SEED_CTX0 + x)) ∧ (t.cx x).trap = 0 ∧
        Completes s t x c 1 0 0 0 ∧ (∀ n i, i < 16384 → s.inPkgRange x i = true →
          Tbl.get u.shadowPkg 0 (n * 16384 + i) = s.sem (.pkg n i)) ∧ t.side = s.side ∧ t.pkg = s.pkg) ∧
    (c.replay = true → (s.cx x).replayWaits = true → exec (.replayStepOpen x) s = .next s) ∧
    (c.replay = true → (s.cx x).replayWaits = false → ((s.mir x).barred = true ∨ s.stepConfigBad x = true) →
      ∃ t, exec (.replayStepOpen x) s = .next t ∧ Completes s t x c 0xA 0 0 0 ∧ (t.cx x).steps = (s.cx x).steps ∧
        (t.cx x).replay = (s.cx x).replay ∧ t.side = s.side ∧ t.pkg = s.pkg) ∧
    (c.replay = true → (s.cx x).replayWaits = false → (s.mir x).barred = false → s.stepConfigBad x = false →
      ∃ t u, exec (.replayStepOpen x) s = .next t ∧ (t.cx x).steps = (s.cx x).steps ∧ (t.cx x).replay = some u ∧
        u.num = c.step ∧ u.replay = some (c.suspect, c.jobctx) ∧ u.verify = false ∧ u.st = .opened ∧
        Completes s t x c 1 0 0 0 ∧ t.side = s.side ∧ t.pkg = s.pkg)

/-- STEP.SEAL of the open step waits while anything issued under it is in progress and otherwise leaves it SEALED.
STEP.FAIL of the context's OPEN step leaves it SEALED and failed, with cause 5 unless it had failed before. Of an
open replay step, either ends it. Either, of a number that is no open step, changes no step, and completes with OK
(a sealed step, for SEAL) or STEP_ORDER. STEP.AWAIT waits while the step is uncommitted, then completes with OK if
it committed, ABORTED if it was rolled back, and STEP_ORDER if the context never opened it. After
spec/11_step_transactions.md R320, spec/11_step_transactions.md R332, spec/11_step_transactions.md R333. -/
def Obligations.StepsAreSealedFailedAndAwaited : Prop :=
  ∀ (x : Fin 16) (s : State) (c : Cmd),
    (s.curCmd x 0x11 = some c →
      ((s.cx x).openNumbered c.step = none → exec (.stepSeal x) s =
        .next { s.finish x c (if (s.cx x).sealedNumbered c.step then 1 else 8) 0 0 0 with
          pending := s.pending, part := s.part }) ∧
      (∀ u, (s.cx x).openNumbered c.step = some u →
        (s.sealReady x u = false → exec (.stepSeal x) s = .next s) ∧
        (s.sealReady x u = true → u.replay = none →
          ∃ t, exec (.stepSeal x) s = .next t ∧ (t.cx x).cur = none ∧
            ∀ v ∈ stepsNamed t x u.num u.attempt, v.st = .sealed) ∧
        (s.sealReady x u = true → u.replay.isSome = true →
          ∃ t, exec (.stepSeal x) s = .next t ∧ (t.cx x).cur = none ∧ (t.cx x).replay = none))) ∧
    (s.curCmd x 0x12 = some c →
      ((s.cx x).steps.any (fun t => t.num = c.step) = true → exec (.stepAwait x) s = .next s) ∧
      ((s.cx x).steps.any (fun t => t.num = c.step) = false →
        let status := match (s.cx x).closedNumbered c.step with | some true => 1 | some false => 9 | none => 8
        exec (.stepAwait x) s = .next { s.finish x c status 0 0 0 with pending := s.pending, part := s.part })) ∧
    (s.curCmd x 0x13 = some c →
      ((s.cx x).openNumbered c.step = none → exec (.stepFail x) s =
        .next { s.finish x c 8 0 0 0 with pending := s.pending, part := s.part }) ∧
      (∀ u, (s.cx x).openStep = none → (s.cx x).replay = some u → u.st = .opened → u.num = c.step →
        ∃ t, exec (.stepFail x) s = .next t ∧ (t.cx x).cur = none ∧ (t.cx x).replay = none) ∧
      (∀ u, (s.cx x).openStep = some u → u.num = c.step →
        ∃ t, exec (.stepFail x) s = .next t ∧ (t.cx x).cur = none ∧
          ∀ v ∈ stepsNamed t x u.num u.attempt, v.st = .sealed ∧ v.failed = true ∧ (u.failed = false → v.cause = 5)))

/-- For a HEALTH, REPLAY_RESULT, VERDICT or PARTNER_HEALTH message that lands for a context: an ORPHANED context drops
it under LATE_VERDICT_DROPS; one that names no SEALED or REPLAYING step by number and attempt, or carries another
membership, is dropped under VERDICT_MESSAGE_DROPS; nothing else changes by that. Otherwise it acts on that step:
HEALTH and REPLAY_RESULT of a child are kept under the child's number, and a PARTNER_HEALTH's health word without
its reserved bits as the partner's. A message of another of the four TYPEs is left to its own command. After
spec/11_step_transactions.md R342, spec/11_step_transactions.md R354, spec/11_step_transactions.md R339. -/
def Obligations.VerdictMessagesFindTheirStep : Prop :=
  ∀ (m : List (BitVec 128)) (s t : State) (r : Instr × Nat × VerdictAct) (io i e x : Nat) (q : Option (Nat × Nat)),
    r ∈ verdictRows m → s.ioOf m = some io → s.live = true → (Msg.common m).mtype = 2 → Msg.wellFormed m = true →
    crossesInDeep s io m = false → s.judge io m = .lands t i e x q →
    let v := Msg.verdict m
    (v.known = true → v.typ ≠ r.2.1 → exec r.1 s = .next s) ∧
    ((v.typ = r.2.1 ∨ v.known = false) → (t.cx x).orphaned = true → ∃ u, exec r.1 s = .next u ∧
      u = { t with od := u.od, pending := s.pending, part := s.part } ∧
      u.par K.LATE_VERDICT_DROPS = (t.par K.LATE_VERDICT_DROPS + 1) % 2 ^ 64) ∧
    ((v.typ = r.2.1 ∨ v.known = false) → (t.cx x).orphaned = false →
      (awaited t x v = none ∨ v.membership ≠ t.par K.JOB_MEMBERSHIP ∨ v.known = false) →
      ∃ u, exec r.1 s = .next u ∧ u = { t with od := u.od, pending := s.pending, part := s.part } ∧
        u.par K.VERDICT_MESSAGE_DROPS = (t.par K.VERDICT_MESSAGE_DROPS + 1) % 2 ^ 64) ∧
    (v.typ = r.2.1 → v.known = true → (t.cx x).orphaned = false → v.membership = t.par K.JOB_MEMBERSHIP →
      ∀ st, awaited t x v = some st →
      exec r.1 s = .next { r.2.2 t e x v st with pending := s.pending, part := s.part } ∧
      (∀ n, t.childOf x e = some n →
        (∀ w ∈ stepsNamed (t.takeHealth e x v st) x st.num st.attempt, Tbl.get w.childHealth none n = some v) ∧
        (∀ w ∈ stepsNamed (t.takeResult e x v st) x st.num st.attempt, Tbl.get w.childReplay none n = some v)) ∧
      (∀ w ∈ stepsNamed (t.takePartner x v st) x st.num st.attempt, w.partner = some (cleanHealth v.word)))

/-- VERDICT_APPLY in a running part: without a verdict for the oldest step, or with a COMMIT while a copy runs, nothing
changes; a COMMIT for the only step, with no copy running, leaves LAST_COMMITTED at its number and no uncommitted
step; a REPLAY for a sealed oldest step leaves it REPLAYING; an ABORT leaves no step. VERDICT_TIMEOUT happens at the
first deadline of the steps that are SEALED or REPLAYING without a final verdict, or later, rolls every step back
and leaves the context ORPHANED; with no such step nothing changes. A write of JOB_MEMBERSHIP to a part that answers
takes the value; one that changes it leaves every context of a job that is OPEN or STOPPED with no step and not
ORPHANED; one that does not ends the fence wait and changes nothing else. After spec/11_step_transactions.md R341,
spec/11_step_transactions.md R343, spec/11_step_transactions.md R344, spec/11_step_transactions.md R353,
spec/11_step_transactions.md R355. -/
def Obligations.VerdictsCommitAbortAndTimeOut : Prop :=
  (∀ (x : Fin 16) (s : State), s.live = true →
    ((∀ u r, (s.cx x).steps = u :: r → u.verdict = none) → exec (.verdictApply x) s = .next s) ∧
    (∀ u v r, (s.cx x).steps = u :: r → u.verdict = some v → v.code = 1 →
      ((s.mir x).copy.isSome = true ∨ (s.mir x).ckpt.isSome = true) → exec (.verdictApply x) s = .next s) ∧
    (∀ u v, (s.cx x).steps = [u] → u.verdict = some v → v.code = 1 → (s.mir x).copy = none → (s.mir x).ckpt = none →
      ∃ t, exec (.verdictApply x) s = .next t ∧ (t.cx x).steps = [] ∧ (t.cx x).lastCommitted = u.num) ∧
    (∀ u v r, (s.cx x).steps = u :: r → u.verdict = some v → v.code = 3 →
      ∃ t, exec (.verdictApply x) s = .next t ∧ (t.cx x).steps = [] ∧ (t.cx x).lastCommitted = (s.cx x).lastCommitted ∧
        (t.cx x).rolled = some (u.num, u.attempt)) ∧
    (∀ u v r, (s.cx x).steps = u :: r → u.verdict = some v → v.code = 2 → u.st = .sealed →
      ∃ t, exec (.verdictApply x) s = .next t ∧ (t.cx x).steps.map (fun w => (w.num, w.attempt)) =
          (s.cx x).steps.map (fun w => (w.num, w.attempt)) ∧ ∀ w ∈ stepsNamed t x u.num u.attempt, w.st = .replaying) ∧
    let waits := (s.cx x).steps.filter (fun u => (u.st = .sealed || u.st = .replaying) && !u.final)
    (waits = [] → exec (.verdictTimeout x) s = .next s) ∧
    (∀ u, firstDue waits (fun u => u.sealedAt + u.limit) = some u →
      ∃ t, exec (.verdictTimeout x) s = .next t ∧ (t.cx x).steps = [] ∧ (t.cx x).orphaned = true ∧
        t.now = max s.now (u.sealedAt + u.limit))) ∧
  (∀ (v : BitVec 16) (s : State), s.answering = false → exec (.jobMembershipWrite v) s = .next s) ∧
  (∀ (v : BitVec 16) (s : State), s.answering = true →
    ∃ t, exec (.jobMembershipWrite v) s = .next t ∧ t.par K.JOB_MEMBERSHIP = v.toNat ∧
      t.service.spare.wait = none ∧
      (s.par K.JOB_MEMBERSHIP = v.toNat → t = { s with od := t.od, service := t.service }) ∧
      (s.par K.JOB_MEMBERSHIP ≠ v.toNat → ∀ x, x < 16 → s.jobSize x ≠ 0 →
        ((s.cx x).st = .opened ∨ (s.cx x).st = .stopped) → (t.cx x).steps = [] ∧ (t.cx x).orphaned = false))

/-- HBM_REPAIR_CMD: where the part refuses it nothing changes; otherwise the site is in REPAIR and a reset of its die is
in progress that carries the site and the mode. HBM_TG_START of a generator that does not run: REFUSED (3) where
R379 refuses it, in a part that does not run or has no power for its site too, otherwise RUNNING (1) with HBM_TG_CFG
latched as its setup, and nothing else changes. HBM_TG_STOP of a running generator: STOPPED (4). HBM_TG_DONE of a
running generator with a finite LOOPS: DONE (2); a run that writes its pattern leaves it in every burst of an
aligned range. Stop and end leave every byte of memory outside the range as it was. After spec/12_external_memory.md
R377, spec/12_external_memory.md R379, spec/19_power_and_clocks.md R570. -/
def Obligations.RepairsAndTrafficGenerators : Prop :=
  (∀ (v : BitVec 16) (s : State),
    (s.repairRefused v.toNat = true → exec (.hbmRepairCmd v) s = .next s) ∧
    (s.repairRefused v.toNat = false → ∃ t r d, exec (.hbmRepairCmd v) s = .next t ∧
      (t.stack (v.toNat % 16)).mode = .repair ∧ t.service.resets.cur = some r ∧ r.domain = .die ∧ r.unit = 64 * d ∧
      d < 4 ∧ v.toNat % 16 ∈ dieSites d ∧ r.repair = some (v.toNat % 16, bit v.toNat 4))) ∧
  (∀ (s : State), let i := s.tgSelect; let g := s.gen i
    (g.st ≠ 1 →
      ((s.live = false ∨ s.powered = false ∨ s.tgRefused = true) → ∃ t, exec .hbmTgStart s = .next t ∧ (t.gen i).st = 3 ∧ (t.gen i).cfg = g.cfg ∧
        t = { s with hbm := { s.hbm with gens := t.hbm.gens } } ∧ ∀ j, j ≠ i → t.gen j = s.gen j) ∧
      (s.live = true → s.powered = true → s.tgRefused = false → ∃ t, exec .hbmTgStart s = .next t ∧ (t.gen i).st = 1 ∧ (t.gen i).cfg = g.cfg ∧
        (t.gen i).setup = g.cfg ∧ t = { s with hbm := { s.hbm with gens := t.hbm.gens } } ∧
        ∀ j, j ≠ i → t.gen j = s.gen j)) ∧
    (g.st = 1 → exec .hbmTgStart s = .next s) ∧
    ((s.live = false ∨ g.st ≠ 1) → exec .hbmTgStop s = .next s) ∧
    (s.live = true → g.st = 1 → ∃ t, exec .hbmTgStop s = .next t ∧ (t.gen i).st = 4 ∧ (∀ j, j ≠ i → t.gen j = s.gen j) ∧
      t.mem.shelf = s.mem.shelf ∧ t.mem.service = s.mem.service ∧
      ∀ a, ¬ tgCovers (tgCfg g.setup) (i / 32) (i % 32) a → t.mem.hbm.byte a = s.mem.hbm.byte a)) ∧
  (∀ (h : Fin 12) (ch : BitVec 5) (found : Option (BitVec 256)) (s : State),
    let i := h.val * 32 + ch.toNat; let g := s.gen i; let c := tgCfg g.setup
    ((g.st ≠ 1 ∨ c.loops = 0) → exec (.hbmTgDone h ch found) s = .next s) ∧
    (g.st = 1 → c.loops ≠ 0 → ∃ t, exec (.hbmTgDone h ch found) s = .next t ∧ (t.gen i).st = 2 ∧
      (∀ j, j ≠ i → t.gen j = s.gen j) ∧ t.mem.shelf = s.mem.shelf ∧ t.mem.service = s.mem.service ∧
      (∀ a, ¬ tgCovers c h.val ch.toNat a → t.mem.hbm.byte a = s.mem.hbm.byte a) ∧
      (c.pattern < 7 → c.mode ≤ 1 → c.start % 32 = 0 → ∀ pc ∈ c.pcs, ∀ n < c.bursts,
        t.mem.hbm.read (c.addr h.val ch.toNat pc n) 32 = toBytes 32 (c.data n))))

/-- FLIT_RETRY_LIMIT, PORT_UNCORR_LIMIT_EXCEEDED and PORT_ALIGNMENT_LOSS send an ACTIVE port for which their condition
holds into RETRAINING, counted in the port and in PORT_RETRAINS, behind a RETRAIN_REQ, with its retry buffer,
numbering and credits kept; nothing else changes, and nothing at all otherwise. PORT_CTRL_RETRAIN does so to an
ACTIVE port, sends a FAILED one to TRAINING, and sets the failure count of any other port to 0. PORT_SIGNAL_DETECT
sends an enabled port in DETECT to TRAINING. PORT_TRAINING_END: a failure is counted with its cause; a success makes
the port ACTIVE in the width that its lanes allow and resends its retry buffer. PORT_FAILED after three failures:
FAILED, the retry buffer lost and counted, report 0x10. After spec/13_ryuryn_links.md R394, spec/13_ryuryn_links.md
R395, spec/13_ryuryn_links.md R396, spec/13_ryuryn_links.md R397, spec/13_ryuryn_links.md R398,
spec/13_ryuryn_links.md R399, spec/13_ryuryn_links.md R400. -/
def Obligations.PortsTrainRetrainAndFail : Prop :=
  ∀ (q : Fin 27) (s : State), let p := s.port q
    (∀ r ∈ retrainRows s q,
      (p.mode ≠ .active ∨ ¬ r.2 → exec r.1 s = .next s) ∧
      (p.mode = .active → r.2 → ∃ t, exec r.1 s = .next t ∧ t.port q = retrained p ∧ (∀ j, j ≠ q.val → t.port j = s.port j) ∧
        counted s t K.PORT_RETRAINS 1 ∧ t = { s with od := t.od, links := { s.links with ports := t.links.ports } })) ∧
    (∀ on, on = (s.answering && s.portOn q) →
      (on = false → exec (.portCtrlRetrain q) s = .next s ∧ exec (.portSignalDetect q) s = .next s) ∧
      (on = true → ∃ t, exec (.portCtrlRetrain q) s = .next t ∧ (∀ j, j ≠ q.val → t.port j = s.port j) ∧
        t = { s with od := t.od, links := { s.links with ports := t.links.ports } } ∧
        (p.mode = .active → t.port q = retrained p ∧ counted s t K.PORT_RETRAINS 1) ∧
        (p.mode = .failed → t.port q = { p with mode := .training, fails := 0 } ∧ t.od = s.od) ∧
        (p.mode ≠ .active → p.mode ≠ .failed → t.port q = { p with fails := 0 } ∧ t.od = s.od)) ∧
      (on = true → p.mode ≠ .detect → exec (.portSignalDetect q) s = .next s) ∧
      (on = true → p.mode = .detect → ∃ t, exec (.portSignalDetect q) s = .next t ∧
        t.port q = { p with mode := .training } ∧ (∀ j, j ≠ q.val → t.port j = s.port j) ∧
        t = { s with links := { s.links with ports := t.links.ports } }) ∧
      (∀ lanes cause rtt host,
        (on = false ∨ (p.mode ≠ .training ∧ p.mode ≠ .retraining) ∨ 3 ≤ p.fails →
          exec (.portTrainingEnd q lanes cause rtt host) s = .next s) ∧
        (on = true → (p.mode = .training ∨ p.mode = .retraining) → p.fails < 3 →
          (∀ c, c = s.trainCause q lanes.toNat cause.val rtt.toNat host → c ≠ 0 → ∃ t,
            exec (.portTrainingEnd q lanes cause rtt host) s = .next t ∧
            t.port q = { p with fails := p.fails + 1, cause := c } ∧ (∀ j, j ≠ q.val → t.port j = s.port j) ∧
            t = { s with links := { s.links with ports := t.links.ports } }) ∧
          (∀ w, s.trainedWidth q lanes.toNat = some w → cause.val = 0 → rtt.toNat ≤ 2300 →
            host = bit (s.par K.PORT_HOST) q → ∃ t,
            exec (.portTrainingEnd q lanes cause rtt host) s = .next t ∧ (t.port q).mode = .active ∧
            (t.port q).width = w ∧ (t.port q).host = host ∧ (t.port q).rtt = rtt.toNat ∧ (t.port q).fails = 0 ∧
            (t.port q).resentFlits = p.resentFlits + p.retry.length ∧ counted s t K.FLIT_RETRIES p.retry.length ∧
            (∀ j, j ≠ q.val → (t.port j).mode = (s.port j).mode) ∧
            t = { s with od := t.od, links := { s.links with
              ports := t.links.ports, parked := t.links.parked, reqs := t.links.reqs } }))) ) ∧
    ((p.mode = .training ∨ p.mode = .retraining) → 3 ≤ p.fails → p.cause < 7 → ∃ t, exec (.portFailed q) s = .next t ∧
      (t.port q).mode = .failed ∧ (t.port q).retry = [] ∧ counted s t K.PORT_FLITS_LOST p.retry.length ∧
      reported s t 0x10 (q.val + p.cause * 32)) ∧
    ((p.mode ≠ .training ∧ p.mode ≠ .retraining) ∨ p.fails < 3 → exec (.portFailed q) s = .next s)

/-- CODEWORD_RECEIVE on a port that trains or is ACTIVE adds the corrected symbols and the uncorrectable codewords to
their counters. A flit that is due and undamaged moves an ACTIVE port's expected sequence number on by one, any
other leaves it; so a pair whose codewords begin with the flit that is due moves it on by the four flits that it
completes, and an uncorrectable pair leaves it. A port that stays ACTIVE sends a pair in turn. MESSAGE_FORWARD of a
message for another part: it waits while its path is stopped; at 15 hops it is dropped under HOP_LIMIT_DROPS,
without a port under NO_ROUTE_DROPS, in DEEP between I/O dies under DEEP_CROSSING_DROPS, otherwise it joins a port
with HOPS one more, under PASS_THROUGH_MESSAGES; a message for this part or one that never passes is left alone.
DIE_LINK_RETRY is counted. PACKAGE_FAULT drives FAULT_L, and a package warm reset runs or waits. After
spec/13_ryuryn_links.md R390, spec/13_ryuryn_links.md R392, spec/13_ryuryn_links.md R415, spec/13_ryuryn_links.md
R417, spec/01_swipin_package.md R16, spec/01_swipin_package.md R17. -/
def Obligations.LinksCarryCodewordsAndMessages : Prop :=
  (∀ (q : Fin 27) (c : CodePair) (s : State), let p := s.port q
    ((s.answering = false ∨ s.part.hasPort q = false ∨ (p.mode ≠ .active ∧ p.mode ≠ .training ∧ p.mode ≠ .retraining)) →
      exec (.codewordReceive q c) s = .next s) ∧
    (s.answering = true → s.part.hasPort q = true → (p.mode = .active ∨ p.mode = .training ∨ p.mode = .retraining) →
      s.par K.FEC_CORRECTED_SYMBOLS < 2 ^ 64 → s.par K.FEC_UNCORRECTED_CODEWORDS < 2 ^ 64 →
      ∃ t, exec (.codewordReceive q c) s = .next t ∧
        counted s t K.FEC_CORRECTED_SYMBOLS (((c.errA.map (·.val)).getD 0) + ((c.errB.map (·.val)).getD 0)) ∧
        counted s t K.FEC_UNCORRECTED_CODEWORDS ((if c.errA = none then 1 else 0) + (if c.errB = none then 1 else 0)) ∧
        (p.mode ≠ .active → (t.port q).rxSeq = p.rxSeq ∧ t.links.inbox = s.links.inbox ∧ t.service = s.service) ∧
        (p.mode = .active → (t.port q).mode = .active → (t.port q).ctl.length = 2) ∧
        (p.mode = .active → c.errA = none → c.errB = none → (t.port q).rxSeq = p.rxSeq ∧ t.links.inbox = s.links.inbox) ∧
        (p.mode = .active → c.errA ≠ none → c.errB ≠ none → p.rxBits = 0 → p.rxBad = false →
          bits c.ctlA.toNat 12 1 = p.rxSeq → bits c.ctlB.toNat 12 1 = (p.rxSeq + 2) % 4096 →
          (t.port q).rxSeq = (p.rxSeq + 4) % 4096)) ∧
    (∀ n bad slots, ((s.takeFlit q n bad slots).port q).rxSeq =
      if n = p.rxSeq ∧ bad = false then (p.rxSeq + 1) % 4096 else p.rxSeq)) ∧
  (∀ (q : Fin 27) (m : List (BitVec 128)) (s : State), let o := s.takeMsg m
    ((s.answering = false ∨ s.ioOf m ≠ none ∨ Msg.stays m = true) → exec (.messageForward q m) s = .next s) ∧
    (forwardWaits s m → exec (.messageForward q m) s = .next s) ∧
    (s.answering = true → s.ioOf m = none → Msg.stays m = false → ¬ forwardWaits s m →
      ((Msg.common m).hops = 15 → ∃ t, exec (.messageForward q m) s = .next t ∧ counted s t K.HOP_LIMIT_DROPS 1 ∧
        t = { o with od := t.od, pending := s.pending, part := s.part }) ∧
      ((Msg.common m).hops < 15 → leavesBy s m = none → ∃ t, exec (.messageForward q m) s = .next t ∧
        counted s t K.NO_ROUTE_DROPS 1 ∧ t = { o with od := t.od, pending := s.pending, part := s.part }) ∧
      (∀ out i, (Msg.common m).hops < 15 → leavesBy s m = some out → s.power.state = .deep → standsAt s m = some i →
        i / 9 ≠ out / 9 → ∃ t, exec (.messageForward q m) s = .next t ∧ counted s t K.DEEP_CROSSING_DROPS 1 ∧
        t = { o with od := t.od, pending := s.pending, part := s.part }) ∧
      (∀ out h r, m = h :: r → (Msg.common m).hops < 15 → leavesBy s m = some out →
        (s.power.state = .deep → ∀ i, standsAt s m = some i → i / 9 = out / 9) →
        ∃ t n hop, exec (.messageForward q m) s = .next t ∧ counted s t K.PASS_THROUGH_MESSAGES 1 ∧
          Msg.common (hop :: r) = { Msg.common m with hops := (Msg.common m).hops + 1 } ∧
          t.port out = Port.pump s.vcWeights n { o.port out with out := (o.port out).out ++ [hop :: r] }))) ∧
  (∀ s : State, (s.answering = false → exec .dieLinkRetry s = .next s) ∧
    (s.answering = true → ∃ t, exec .dieLinkRetry s = .next t ∧ counted s t K.DIE_LINK_RETRIES 1 ∧ t = { s with od := t.od })) ∧
  (∀ (link : BitVec 4) (s : State), (s.live = false → exec (.packageFault link) s = .next s) ∧
    (s.live = true → ∃ t, exec (.packageFault link) s = .next t ∧ t.boot.fault = true ∧
      (∃ r ∈ t.service.resets.cur.toList ++ t.service.resets.waiting, r.domain = .warm) ∧
      (bit (s.par K.DUMP_TRIGGERS) 5 = false → bit (s.par K.DUMP_TRIGGERS) 3 = false → s.service.dump = none →
        s.service.resets.cur = none → (∃ r, t.service.resets.cur = some r ∧ r.domain = .warm ∧ r.phase = 1) ∧
        warmCleared s t)))

/-- SELFTEST_START in a running part: on a cluster that runs a program the test becomes due and waits; on an idle
cluster, which wakes, the test runs; not before the interval has passed since the last test. SELFTEST_END of a
running test: the test is over at the present time, SELFTEST_RUNS grows by the number of enabled tests and
SELFTEST_FAILS by that of failure records, the last of them stands with its time stamp and VALID in
SELFTEST_LAST_FAIL, and the queues of the cluster's enabled cores are empty and unconfigured. Otherwise nothing
changes. After spec/14_silent_error_defence.md R438, spec/14_silent_error_defence.md R440,
spec/14_silent_error_defence.md R441, spec/19_power_and_clocks.md R565. -/
def Obligations.SelftestsRunAndFailuresAreCounted : Prop :=
  ∀ (cl : Fin 32) (s : State), let l := s.cl cl
    ((s.live = false ∨ l.testing = true ∨ s.power.state ≠ .active) → exec (.selftestStart cl) s = .next s) ∧
    (s.live = true → l.testing = false → s.power.state = .active → ∃ t, exec (.selftestStart cl) s = .next t ∧
      (l.testDue = true → t.now = s.now) ∧
      (l.testDue = false → t.now = max s.now (l.tested + (if s.defence.observing then s.parMs K.OBSERVE_SELFTEST_INTERVAL
        else s.parMs K.SELFTEST_INTERVAL))) ∧
      (l.running = true → t.cl cl = { l with testDue := true }) ∧
      (l.running = false → (t.cl cl).testing = true ∧ (t.cl cl).testDue = false ∧ (t.cl cl).asleep = false ∧
        (l.asleep = true → counted s t K.CLUSTER_WAKES 1)) ∧
      (∀ c, c ≠ cl.val → t.cl c = s.cl c) ∧ t = { s with od := t.od, now := t.now, clusters := t.clusters }) ∧
    (∀ fails : List (BitVec 128),
      (s.live = false ∨ l.testing = false → exec (.selftestEnd cl fails) s = .next s) ∧
      (s.live = true → l.testing = true → s.par K.SELFTEST_FAILS < 2 ^ 64 → ∃ t, exec (.selftestEnd cl fails) s = .next t ∧
        (t.cl cl).testing = false ∧ (t.cl cl).tested = s.now ∧ t.now = s.now ∧ counted s t K.SELFTEST_FAILS fails.length ∧
        (∀ k ∈ s.coresOf cl, (t.co k).queues = [] ∧ (t.co k).half = []) ∧
        (fails = [] → t.defence = s.defence) ∧
        (∀ r, fails.getLast? = some r → bits t.defence.lastFail.toNat 127 64 = s.now % 2 ^ 64 ∧
          bits t.defence.lastFail.toNat 63 52 = bits r.toNat 63 52 ∧ bits t.defence.lastFail.toNat 51 48 = 0 ∧
          bits t.defence.lastFail.toNat 47 16 = bits r.toNat 47 16 ∧ bits t.defence.lastFail.toNat 15 0 = 1) ∧
        counted s t K.SELFTEST_RUNS ((List.range 4).filter (fun i => bit (s.par K.SELFTEST_ENABLE) i)).length ∧
        (∀ c, c ≠ cl.val → t.cl c = s.cl c)))

/-- HEALTH_DECAY takes a sixteenth of the score, rounded up, at a multiple of its interval; charges of the same cycle
are added after it. EXPEL_HOLDOFF_END at the end of a hold-off: with the score below the threshold, a request
PENDING or requests barred, only the hold-off ends; otherwise a request with the next number is PENDING, counted and
reported, and the event counts are cleared. An answer that names the PENDING request: ACCEPTED bars requests;
DEFERRED starts the hold-off anew, as the end of the wait for an answer does; any other answer is counted in
EXPEL_ANSWER_DROPS. The OBSERVATION rows set and clear observation; a clear does not undo a rise of the score
through the threshold in the same cycle. Each changes only the defence state, counters, reports and, at a deadline,
the time. After spec/14_silent_error_defence.md R446, spec/14_silent_error_defence.md R449,
spec/14_silent_error_defence.md R450, spec/14_silent_error_defence.md R451, spec/14_silent_error_defence.md R452,
spec/14_silent_error_defence.md R453, spec/14_silent_error_defence.md R454. -/
def Obligations.ScoreExpulsionAndObservation : Prop :=
  ∀ (s : State), s.live = true → let d := s.defence
    (∃ t, exec .healthDecay s = .next t ∧
      (let was := if d.cycle.1 = t.now then d.cycle.2.1 else d.score
       t.defence.score = min 0xFFFF (was - (was + 15) / 16 + (d.score - was))) ∧
      (max 1 (s.parMs K.HEALTH_DECAY_INTERVAL)) ∣ t.defence.decayed ∧ d.decayed < t.defence.decayed ∧
      t.now = max s.now t.defence.decayed ∧ t = { s with now := t.now, defence := t.defence }) ∧
    (d.holdoff = none → exec .expelHoldoffEnd s = .next s) ∧
    (∀ u, d.holdoff = some u →
      (d.score < s.par K.EXPEL_THRESHOLD ∨ d.requestState = 1 ∨ d.barred = true →
        exec .expelHoldoffEnd s = .next { s with now := max s.now u, defence := { d with holdoff := none } }) ∧
      (s.par K.EXPEL_THRESHOLD ≤ d.score → d.requestState ≠ 1 → d.barred = false → d.score < 2 ^ 16 →
        (∀ n ∈ d.counts, n < 2 ^ 16) → ∃ t, exec .expelHoldoffEnd s = .next t ∧
        t.defence.requestState = 1 ∧ t.defence.seq = (d.seq + 1) % 2 ^ 16 ∧ t.defence.holdoff = none ∧
        bits t.defence.request.toNat 191 176 = (d.seq + 1) % 2 ^ 16 ∧ bits t.defence.request.toNat 175 160 = d.score ∧
        t.defence.counts = List.replicate 8 0 ∧ t.defence.asked = max s.now u ∧ counted s t K.EXPEL_REQUESTS 1 ∧
        reported s t 0x0A ((d.seq + 1) % 2 ^ 16 + d.score * 2 ^ 16))) ∧
    (∀ n : BitVec 16,
      (d.requestState = 1 → d.seq = n.toNat →
        (∃ t, exec (.expelAccepted n) s = .next t ∧ t.defence.requestState = 2 ∧ t.defence.barred = true ∧
          t = { s with defence := { d with request := t.defence.request, barred := true } }) ∧
        (∃ t, exec (.expelDeferred n) s = .next t ∧ t.defence.requestState = 3 ∧ counted s t K.EXPEL_DEFERRALS 1 ∧
          t.defence.holdoff = some (s.now + s.parMs K.EXPEL_HOLDOFF) ∧
          t = { s with od := t.od, defence := { d with request := t.defence.request, holdoff := t.defence.holdoff } })) ∧
      (d.requestState ≠ 1 ∨ d.seq ≠ n.toNat → ∀ c, c = .expelAccepted n ∨ c = .expelDeferred n →
        ∃ t, exec c s = .next t ∧ counted s t K.EXPEL_ANSWER_DROPS 1 ∧ t = { s with od := t.od })) ∧
    (d.requestState ≠ 1 → exec .expelAnswerTimeout s = .next s) ∧
    (d.requestState = 1 → ∃ t, exec .expelAnswerTimeout s = .next t ∧ t.now = max s.now (d.asked + d.wait) ∧
      t.defence.requestState = 3 ∧ t.defence.holdoff = some (t.now + s.parMs K.EXPEL_HOLDOFF) ∧
      counted s t K.EXPEL_DEFERRALS 1) ∧
    (∀ on c, ((on = false ∧ c = .observationExitWrite) ∨ (on = true ∧ c = .observationEnterWrite)) →
      ∃ t, exec c s = .next t ∧
        t = { s with defence := { d with observing := t.defence.observing, cycle := t.defence.cycle } } ∧
        (t.defence.observing = true ↔ on = true ∨
          (d.cycle.1 = s.now ∧ d.cycle.2.1 < s.par K.EXPEL_THRESHOLD ∧ s.par K.EXPEL_THRESHOLD ≤ d.score)) ∧
        (d.cycle.1 ≠ s.now → t.defence.cycle = d.cycle))

/-- MIRROR_CTRL_FULL and, at its time, MIRROR_RETRY request a full copy: in an OPEN context without a step, with the
mirror enabled and no copy running, a copy of LAST_COMMITTED over the whole image runs; otherwise the request only
waits. WARDROBE_SEND and CKPT_CTRL that are refused change only their status (3 and 4). A WARDROBE_SEND of an image
of kind 0 starts the copy of its blocks. A CKPT_CTRL that is accepted while the context holds a step waits with its
endpoint and key, and without one its copy starts. RESTORE_CTRL of a context that is not OPEN, holds a step or
replay step, or is checked or sent already is refused at once with reason 1; any other is CHECKING, and one whose
manifest has no magic is found wrong for reason 2. RESTORE_COMPLETE of a check that found nothing wrong:
LAST_COMMITTED takes the step and the restore is ACCEPTED; otherwise it is REFUSED with the reason, counted, and the
context barred. After spec/15_mirror_spares_checkpoint.md R465, spec/15_mirror_spares_checkpoint.md R466,
spec/15_mirror_spares_checkpoint.md R470, spec/15_mirror_spares_checkpoint.md R471,
spec/15_mirror_spares_checkpoint.md R472, spec/15_mirror_spares_checkpoint.md R473,
spec/15_mirror_spares_checkpoint.md R474. -/
def Obligations.CopiesCheckpointsAndRestores : Prop :=
  ∀ (x : Fin 16) (s : State), s.live = true →
    let m := s.mir x; let c := s.cx x
    (∀ cmd, (cmd = .mirrorCtrlFull x ∨ (cmd = .mirrorRetry x ∧ m.retryAt ≠ none)) → ∃ t, exec cmd s = .next t ∧
      (cmd = .mirrorRetry x → (t.mir x).retryAt = none) ∧
      (cmd = .mirrorCtrlFull x → (t.mir x).retryAt =
        if m.failed ∧ m.retryAt = some (s.now + s.parMs K.MIRROR_RETRY_WAIT) then none else m.retryAt) ∧
      (cmd = .mirrorCtrlFull x → t.now = s.now) ∧ (∀ u, cmd = .mirrorRetry x → m.retryAt = some u → t.now = max s.now u) ∧
      (c.st ≠ .opened ∨ c.hasStep = true ∨ ((s.mirrorOn x = false ∨ m.copy ≠ none) ∧ m.ckptWait = none) →
        (t.mir x).full = true ∧ (∀ y, y ≠ x.val → t.mir y = s.mir y) ∧
        t = { s with now := t.now, mirrors := t.mirrors }) ∧
      (c.st = .opened → c.hasStep = false → s.mirrorOn x = true → m.copy = none → m.ckptWait = none →
        (t.mir x).full = false ∧ ∃ k, (t.mir x).copy = some k ∧ k.kind = .mirror ∧ k.step = c.lastCommitted ∧
          k.total = s.imageBlocks x)) ∧
    (m.retryAt = none → exec (.mirrorRetry x) s = .next s) ∧
    (∀ v : BitVec 64,
      (s.send.copy ≠ none ∨ s.entryServes (bits v.toNat 21 4) (bits v.toNat 3 0) = false →
        exec (.wardrobeSend v) s = .next { s with send := { s.send with state := 3 } }) ∧
      (let w := bits (s.imageWord (bits v.toNat 3 0) 0).data.toNat 1023 0
       s.send.copy = none → s.entryServes (bits v.toNat 21 4) (bits v.toNat 3 0) = true → bits w 1023 992 = 0x5357534D →
        bits w 991 984 = 0 → ∃ t k, exec (.wardrobeSend v) s = .next t ∧ t.send.state = 1 ∧
          t.send.ctx = bits v.toNat 3 0 ∧ t.send.manifest = w ∧ t.send.copy = some k ∧ k.kind = .takeover ∧
          k.step = bits w 983 952 ∧ k.ep = bits v.toNat 21 4 ∧ k.key = bits v.toNat 37 22 ∧ k.total = bits w 847 816) ∧
      (m.ckpt ≠ none ∨ m.ckptWait ≠ none ∨ s.entryServes (bits v.toNat 17 0) x = false → ∃ t, exec (.ckptCtrl x v) s = .next t ∧
        t.mir x = { m with ckptState := 4 } ∧ (∀ y, y ≠ x.val → t.mir y = s.mir y) ∧ t = { s with mirrors := t.mirrors }) ∧
      (m.ckpt = none → m.ckptWait = none → s.entryServes (bits v.toNat 17 0) x = true → c.st ≠ .opened ∨ c.hasStep = true →
        ∃ t, exec (.ckptCtrl x v) s = .next t ∧
        t.mir x = { m with ckptWait := some (bits v.toNat 17 0, bits v.toNat 33 18), ckptState := 1 } ∧
        (∀ y, y ≠ x.val → t.mir y = s.mir y) ∧ t = { s with mirrors := t.mirrors }) ∧
      (m.ckpt = none → m.ckptWait = none → s.entryServes (bits v.toNat 17 0) x = true → c.st = .opened → c.hasStep = false →
        m.full = false → ∃ t k, exec (.ckptCtrl x v) s = .next t ∧ (t.mir x).ckptState = 2 ∧
          (t.mir x).ckptStep = c.lastCommitted ∧ (t.mir x).ckptWait = none ∧ (t.mir x).ckpt = some k ∧
          k.kind = .checkpoint ∧ k.step = c.lastCommitted ∧ k.ep = bits v.toNat 17 0 ∧ k.key = bits v.toNat 33 18 ∧
          k.total = s.imageBlocks x)) ∧
    (∀ v : BitVec 32,
      (c.st ≠ .opened ∨ c.steps ≠ [] ∨ c.replay ≠ none ∨ m.check ≠ none ∨ (s.send.copy ≠ none ∧ s.send.ctx = x.val) →
        ∃ t, exec (.restoreCtrl x v) s = .next t ∧ (t.mir x).restore = .refused ∧
        (t.mir x).reason = 1 ∧ (t.mir x).barred = true ∧ counted s t K.RESTORE_REFUSALS 1) ∧
      (c.st = .opened → c.steps = [] → c.replay = none → m.check = none → (s.send.copy = none ∨ s.send.ctx ≠ x.val) →
        ∃ t r, exec (.restoreCtrl x v) s = .next t ∧
          t.mir x = { m with restore := .checking, reason := 0, check := some (v.toNat, r) } ∧ t.mem.hbm = s.mem.hbm) ∧
      (c.st = .opened → c.steps = [] → c.replay = none → m.check = none → (s.send.copy = none ∨ s.send.ctx ≠ x.val) →
        bits (s.imageWord x 0).data.toNat 1023 992 ≠ 0x5357534D → ∃ t, exec (.restoreCtrl x v) s = .next t ∧
        t.mir x = { m with restore := .checking, reason := 0, check := some (v.toNat, 2) } ∧
        (∀ y, y ≠ x.val → t.mir y = s.mir y) ∧ t = { s with mirrors := t.mirrors })) ∧
    (m.check = none → exec (.restoreComplete x) s = .next s) ∧
    (∀ v r, m.check = some (v, r) → ∃ t, exec (.restoreComplete x) s = .next t ∧ (t.mir x).check = none ∧
      (r = 0 → (t.cx x).lastCommitted = v ∧ (t.mir x).restore = .accepted ∧ (t.mir x).barred = false) ∧
      (r ≠ 0 → (t.cx x) = c ∧ (t.mir x).restore = .refused ∧ (t.mir x).reason = r ∧ (t.mir x).barred = true ∧
        counted s t K.RESTORE_REFUSALS 1 ∧ t.mem.hbm = s.mem.hbm))

/-- CORE_RESET, CLUSTER_RESET, DIE_RESET and PACKAGE_WARM_RESET in a running part: refused without effect where the part
may not reset now. While a dump runs, or with the domain's bit in DUMP_TRIGGERS and a slot free, the reset waits and
no context is touched. Otherwise it is in progress, every OPEN or STOPPED context that holds a cluster of the domain
is CLOSED, and the domain is cleared as R482 and R483 say. LINK_PORT_RESET retrains its port. A die's reset leaves
the recovery area of service memory unpredictable (the model's choice, log entry 55). RESET_DONE of a reset that
waits for a dump, or of none, changes nothing; of a reset in progress it takes the time given, and ends it:
RESET_STATUS has its domain and duration, a die reset leaves its stacks IN_SERVICE or FAILED, a package reset
FAULT_L released; then the first reset that waits is the one in progress. After spec/16_hang_reset_recovery.md R481,
spec/16_hang_reset_recovery.md R482, spec/16_hang_reset_recovery.md R483, spec/16_hang_reset_recovery.md R485,
spec/16_hang_reset_recovery.md R487. -/
def Obligations.ResetsTakeDownTheirDomain : Prop :=
  (∀ (core : Fin 256) (cl : Fin 32) (die : Fin 4) (s : State), s.live = true → ∀ r ∈ resetRows core cl die,
    (s.resetAllowed r.domain = false → exec r.cmd s = .next s) ∧
    (s.resetAllowed r.domain = true →
      ((s.service.dump ≠ none ∨ (bit (s.par K.DUMP_TRIGGERS) r.trigger = true ∧ s.dumpSlot ≠ none)) →
        ∃ t, exec r.cmd s = .next t ∧
          t.service.resets.cur = some ⟨r.domain, r.unit, s.now, 0, s.now, 0, false, none⟩ ∧
          t.service.dump ≠ none ∧ t = { s with od := t.od, clusters := t.clusters, service := t.service }) ∧
      (s.service.dump = none → (bit (s.par K.DUMP_TRIGGERS) r.trigger = false ∨ s.dumpSlot = none) →
        ∃ t, exec r.cmd s = .next t ∧ t.service.resets.cur =
            some ⟨r.domain, r.unit, s.now, 1, s.now, s.parMs K.AO_STALL_TIMEOUT, false, none⟩ ∧
          r.done s t ∧ t.now = s.now ∧
          (∀ x < 16, ((s.cx x).st = .opened ∨ (s.cx x).st = .stopped) → (∃ c ∈ r.clusters, s.holds x c = true) →
            (t.cx x).st = .closed) ∧
          (s.allClosed = true → t.mem.hbm = s.mem.hbm ∧
            t.mem.service = if r.domain = .die then s.mem.service.lose 4 else s.mem.service)))) ∧
  (∀ (q : Fin 27) (s : State), s.live = true →
    (q.val < 9 * s.part.ioDies → s.service.resets.cur = none → ∃ t, exec (.linkPortReset q) s = .next t ∧
      t.service.resets.cur = some ⟨.port, q, s.now, 1, s.now, s.parMs K.AO_STALL_TIMEOUT, false, none⟩ ∧
      t.port q = (if (s.port q).mode = .active then retrained (s.port q) else s.port q) ∧
      t.ctxs = s.ctxs ∧ t.mem = s.mem ∧ t.cores = s.cores) ∧
    ((9 * s.part.ioDies ≤ q.val ∨ s.service.resets.cur ≠ none) → exec (.linkPortReset q) s = .next s)) ∧
  (∀ (b : BootIn) (s : State),
    (s.service.resets.cur = none → s.service.resets.waiting = [] → exec (.resetDone b) s = .next s) ∧
    (∀ r, s.service.resets.cur = some r →
      (r.phase = 0 → exec (.resetDone b) s = .next s) ∧
      (r.phase ≠ 0 → ∃ t, exec (.resetDone b) s = .next t ∧ t.now = s.now + 4000 * b.took.toNat ∧
        (r.domain ≠ .mgmt → t.service.resets.last = r.domain.code ∧ t.service.resets.lasted = t.now - r.began ∧
          (∀ q l, s.service.resets.waiting = q :: l → ∃ q', t.service.resets.cur = some q' ∧ q'.domain = q.domain)) ∧
        (r.domain = .warm → t.boot.fault = false) ∧
        (s.service.resets.waiting = [] →
          (r.domain ≠ .mgmt → t.service.resets.cur = none) ∧
          (r.domain = .core ∨ r.domain = .cluster → t.cores = s.cores ∧ t.ctxs = s.ctxs ∧
            t.reports.next = (s.reports.next + 1) % 2 ^ 32) ∧
          (r.domain = .port → t = { s with now := t.now, service := t.service }) ∧
          (∀ d, r.domain = .die → r.repair = none → r.unit / 64 = d → ∀ h ∈ dieSites d, h ∈ s.part.hbmSites →
            (t.stack h).mode = .inService ∨ (t.stack h).mode = .failed) ∧
          (r.domain = .mgmt → s.stagedHash = s.boot.fwHash → t.service.resets.cur = none ∧
            t.service.mgmt.coreUp = true ∧ t.service.mgmt.beat = t.now ∧
            t.service.mgmt.watch = s.parMs K.MGMT_WATCHDOG)))))

/-- MGMT_HEARTBEAT of a running core only records its time and the watchdog in force. MGMT_CORE_RESET while no reset
runs, and MGMT_WATCHDOG_EXPIRY of a running core at the end of the watchdog, with no reset of it or of the package
to come: below MGMT_FAIL_LIMIT within MGMT_FAIL_WINDOW the failure is recorded, and a reset of the management core
is in progress, or waits behind the one that is; where none is and no dump comes first, the core is down,
MGMT_RESETS counts the reset and it is reported with its cause. At the limit a package warm reset is in progress or
waits instead. MGMT_FAIL_LIMIT_REACHED is that case of the watchdog, and without effect below the limit.
AO_STALL_TIMEOUT, without effect while the reset waits for its dump: a stalled package reset leads to ROM recovery
with FAULT_L driven, a stalled reset of anything else to a package reset. After spec/16_hang_reset_recovery.md R488,
spec/16_hang_reset_recovery.md R489, spec/16_hang_reset_recovery.md R490. -/
def Obligations.ManagementCoreIsWatched : Prop :=
  ∀ (s : State),
    (s.live = true → s.service.mgmt.coreUp = true → exec .mgmtHeartbeat s = .next { s with service := { s.service with
      mgmt := { s.service.mgmt with beat := s.now, watch := s.parMs K.MGMT_WATCHDOG, beats := s.service.mgmt.beats + 1 } } }) ∧
    (s.live = true → s.service.mgmt.coreUp = false → exec .mgmtHeartbeat s = .next s) ∧
    (s.live = true → ∀ r ∈ mgmtRows s,
      (r.2.2.1 = false → exec r.1 s = .next s) ∧
      (r.2.2.1 = true →
        ((countedFails s r.2.1).length < s.par K.MGMT_FAIL_LIMIT → ∃ t q, exec r.1 s = .next t ∧
          q.domain = .mgmt ∧ t.now = r.2.1 ∧ t.service.mgmt.fails = countedFails s r.2.1 ∧ t.cores = s.cores ∧
          (s.service.resets.cur = none → t.service.resets.cur = some q) ∧
          (s.service.resets.cur ≠ none → t.service.resets.cur = s.service.resets.cur ∧
            t.service.resets.waiting = s.service.resets.waiting ++ [q] ∧ t.ctxs = s.ctxs ∧ t.reports = s.reports) ∧
          ((∀ x < 16, s.curCmd x 1 = none) → t.ctxs = s.ctxs) ∧
          (s.service.resets.cur = none → s.service.dump = none → bit (s.par K.DUMP_TRIGGERS) 4 = false →
            t.service.mgmt.coreUp = false ∧ counted s t K.MGMT_RESETS 1 ∧ q.phase = 1 ∧
            reported s t 0x0C (r.2.2.2 + 4 * min (countedFails s r.2.1).length 15))) ∧
        (s.par K.MGMT_FAIL_LIMIT ≤ (countedFails s r.2.1).length → ∃ t, exec r.1 s = .next t ∧
          warmComes s t ∧ t.now = r.2.1))) ∧
    (s.live = true →
      let at' := max s.now (s.service.mgmt.beat + s.service.mgmt.watch)
      ((countedFails s at').length < s.par K.MGMT_FAIL_LIMIT → exec .mgmtFailLimitReached s = .next s) ∧
      (s.par K.MGMT_FAIL_LIMIT ≤ (countedFails s at').length → s.service.mgmt.coreUp = true →
        s.coreResetDue = false → ∃ t, exec .mgmtFailLimitReached s = .next t ∧ warmComes s t ∧ t.now = at')) ∧
    (s.service.resets.cur = none → exec .aoStallTimeout s = .next s) ∧
    (∀ r, s.service.resets.cur = some r →
      (r.phase = 0 → exec .aoStallTimeout s = .next s) ∧
      (r.phase ≠ 0 → ∃ t, exec .aoStallTimeout s = .next t ∧ t.now = max s.now (r.mark + r.limit) ∧
        (r.domain = .warm → t.service.resets.cur = none ∧ t.boot.mode = .rom ∧ t.boot.cause = 7 ∧ t.boot.fault = true) ∧
        (r.domain ≠ .warm → ∃ q, t.service.resets.cur = some q ∧ q.domain = .warm)))

/-- DUMP_CTRL in a running part starts a dump in the next unlocked slot, joins the dump that runs, or counts a dump that
finds no slot. DUMP_END: no dump runs, it is counted and the slot pointer moves on; a reset that waited for it goes
on, any other stays as it is. DUMP_TRUNCATION at 50 ms lets the reset that waits go on. REPORT_RESEND gives every
record that is due a new time, REPORT_RESEND later. REPORT_ACK removes the records at or before its number, modulo
2^32, and nothing else. FENCE_NOTICE, and the end of FENCE_NOTICE_WAIT, bring the spare state: membership 0, every
job context CLOSED, cause and membership given recorded. After spec/16_hang_reset_recovery.md R484,
spec/16_hang_reset_recovery.md R485, spec/16_hang_reset_recovery.md R487, spec/16_hang_reset_recovery.md R491,
spec/16_hang_reset_recovery.md R492, spec/16_hang_reset_recovery.md R495. -/
def Obligations.DumpsReportsAndFences : Prop :=
  (∀ s : State, s.live = true →
    (∀ d, s.service.dump = some d → exec .dumpCtrl s = .next { s with service := { s.service with
      dump := some { d with also := d.also ++ [0xFF] } } }) ∧
    (s.service.dump = none → (∃ n < 4, bit (s.par K.DUMP_SLOT_LOCKS) n = false) → ∃ t n, exec .dumpCtrl s = .next t ∧
      t.service.dump = some ⟨0xFF, n, s.now, false, []⟩ ∧ n < 4 ∧ bit (s.par K.DUMP_SLOT_LOCKS) n = false ∧
      t = { s with od := t.od, clusters := t.clusters, service := { s.service with dump := t.service.dump } }) ∧
    (s.service.dump = none → (∀ n < 4, bit (s.par K.DUMP_SLOT_LOCKS) n = true) → ∃ t, exec .dumpCtrl s = .next t ∧
      counted s t K.DUMPS_DROPPED 1 ∧ t = { s with od := t.od })) ∧
  (∀ s : State,
    (s.service.dump = none → s.service.resets.cur = none → exec .dumpEnd s = .next s) ∧
    (∀ d r, s.service.dump = some d → s.service.resets.cur = some r → r.phase = 0 → ∃ t q, exec .dumpEnd s = .next t ∧
      t.service.dump = none ∧ t.hbm.dumpSlot = (d.slot + 1) % 4 ∧ counted s t K.DUMPS_WRITTEN 1 ∧ t.now = s.now ∧
      t.service.resets.cur = some q ∧ q.domain = r.domain ∧ q.phase = 1) ∧
    (∀ d, s.service.dump = some d → (∀ r, s.service.resets.cur = some r → r.phase ≠ 0) → ∃ t, exec .dumpEnd s = .next t ∧
      t.service.resets = s.service.resets ∧ t.service.dump = none ∧ t.hbm.dumpSlot = (d.slot + 1) % 4 ∧ counted s t K.DUMPS_WRITTEN 1 ∧
      t.reports.next = (s.reports.next + 1) % 2 ^ 32 ∧ t.mem.hbm = s.mem.hbm ∧ t.mem.shelf = s.mem.shelf ∧
      t.cores = s.cores ∧ t.ctxs = s.ctxs ∧ t.now = s.now) ∧
    ((s.service.dump = none ∨ s.service.resets.cur = none) → exec .dumpTruncation s = .next s) ∧
    (∀ d r, s.service.dump = some d → s.service.resets.cur = some r →
      (r.phase ≠ 0 → exec .dumpTruncation s = .next s) ∧
      (r.phase = 0 → ∃ t q, exec .dumpTruncation s = .next t ∧ t.service.dump = none ∧
        t.now = max s.now (max d.start r.began + 50 * 4000000) ∧ t.service.resets.cur = some q ∧ q.domain = r.domain ∧
        q.phase = 1))) ∧
  (∀ s : State, s.answering = true →
    (s.reports.unacked = [] → exec .reportResend s = .next s) ∧
    (∀ p l, s.reports.unacked = p :: l → ∃ t, exec .reportResend s = .next t ∧
      t.now = max s.now p.2 ∧ t.reports.next = s.reports.next ∧
      t.reports.ring = s.reports.ring ∧ t.reports.unacked = s.reports.unacked.map (fun u =>
        if u.2 ≤ t.now then (u.1, t.now + s.parMs K.REPORT_RESEND) else u)) ∧
    (∀ n : BitVec 32, ∃ t, exec (.reportAck n) s = .next t ∧
      (∀ u, u ∈ t.reports.unacked ↔ u ∈ s.reports.unacked ∧ 2 ^ 31 ≤ (n.toNat + 2 ^ 32 - u.1) % 2 ^ 32) ∧
      t.reports.unacked.Sublist s.reports.unacked ∧
      t = { s with reports := { s.reports with unacked := t.reports.unacked } })) ∧
  (∀ (v : BitVec 16) (s : State), s.live = true →
    (s.service.spare.wait = none → exec .fenceNoticeWaitExpiry s = .next s) ∧
    (∀ cmd cause given at', (cmd = .fenceNotice v ∧ cause = 1 ∧ given = v.toNat ∧ at' = s.now) ∨
        (∃ u w, cmd = .fenceNoticeWaitExpiry ∧ s.service.spare.wait = some (u, w) ∧ cause = 2 ∧ given = 0 ∧
          at' = max s.now (u + w)) →
      ∃ t, exec cmd s = .next t ∧ t.service.spare = ⟨true, cause, given, none⟩ ∧ t.par K.JOB_MEMBERSHIP = 0 ∧
        t.now = at' ∧ counted s t K.SPARE_DROPS 1 ∧
        ∀ x < 16, s.jobSize x ≠ 0 → (s.cx x).st ≠ .teardown → (t.cx x).st = .closed))

/-- TIME_SYNC_INTERVAL_EXPIRY with a source port: the next tag, T1 at that moment, the next due time, one miss more
where the last request has no reply, and the request joins the source port when it is ACTIVE. TIME_SYNC_REQUEST on
an ACTIVE port: the reply with T2 and TURN leaves by that port TURN later. TIME_SYNC_REPLY of the last request on
the source port: the offset is half the difference of R501, rounded to either side where it is odd (a free value);
while LOCKED is clear, no context OPEN and the offset not negative, it is added in one step and LOCKED is set, and
otherwise it is slewed; any other reply is only taken. TIME_HOLDOVER at 100 intervals without a reply sets HOLDOVER
once, and counts it. After spec/17_observability.md R500, spec/17_observability.md R501, spec/17_observability.md
R502, spec/17_observability.md R503. -/
def Obligations.TimeBaseIsAligned : Prop :=
  (∀ s : State, let p := s.par K.TIME_SOURCE_PORT; let u := s.service.time
    (s.answering = false ∨ p = 0x1F → exec .timeSyncIntervalExpiry s = .next s) ∧
    (s.answering = true → p ≠ 0x1F → ∃ t, exec .timeSyncIntervalExpiry s = .next t ∧ t.now = max s.now u.due ∧
      t.service.time = { u with tag := (u.tag + 1) % 2 ^ 16, t1 := some t.now, due := t.now + s.parMs K.TIME_SYNC_INTERVAL,
                                misses := if u.t1 = none then u.misses else u.misses + 1 } ∧
      t = { s with now := t.now, links := t.links, service := { s.service with time := t.service.time } } ∧
      (s.part.hasPort p = true → (s.port p).mode = .active → ∃ n m r, m :: r = timeMsg ((u.tag + 1) % 2 ^ 16) t.now 0 0 ∧
        Msg.common (m :: r) = ⟨3, 1, 2, 0, 0, 0, 0, 0, 0, 0, (u.tag + 1) % 2 ^ 16⟩ ∧
        t.port p = Port.pump s.vcWeights n { s.port p with out := (s.port p).out ++ [m :: r] })) ∧
    ((s.answering = false ∨ u.misses < 100 ∨ u.holdover = true) → exec .timeHoldover s = .next s) ∧
    (s.answering = true → 100 ≤ u.misses → u.holdover = false → ∃ t, exec .timeHoldover s = .next t ∧
      counted s t K.TIME_HOLDOVERS 1 ∧
      t = { s with od := t.od, service := { s.service with time := { u with holdover := true } } })) ∧
  (∀ (q : Fin 27) (m : List (BitVec 128)) (turn : BitVec 32) (s : State), s.answering = true →
    s.part.hasPort q = true → (s.port q).mode = .active → (Msg.common m).mtype = 3 → Msg.wellFormed m = true →
    let o := s.takeMsg m
    (bits (Msg.slot m 1) 0 0 = 0 → ∃ t n, exec (.timeSyncRequest q m turn) s = .next t ∧ t.now = s.now + turn.toNat ∧
      t.port q = Port.pump o.vcWeights n { o.port q with out := (o.port q).out ++ [timeMsg (Msg.common m).tag s.now turn.toNat 1] } ∧
      t = { o with now := t.now, links := t.links }) ∧
    (bits (Msg.slot m 1) 0 0 = 1 → ∀ t1, s.service.time.t1 = some t1 →
      ((q.val ≠ s.par K.TIME_SOURCE_PORT ∨ (Msg.common m).tag ≠ s.service.time.tag) →
        exec (.timeSyncReply q m) s = .next o) ∧
      (q.val = s.par K.TIME_SOURCE_PORT → (Msg.common m).tag = s.service.time.tag → ∃ (t : State) (th : Int),
        exec (.timeSyncReply q m) s = .next t ∧
        (let d : Int := ((bits (Msg.slot m 1) 127 64 : Int) - ((t1 % 2 ^ 64 : Nat) : Int))
            - (((s.now % 2 ^ 64 : Nat) : Int) - ((bits (Msg.slot m 1) 127 64 : Int) + (bits (Msg.slot m 1) 63 32 : Int)))
         d - 1 ≤ 2 * th ∧ 2 * th ≤ d + 1) ∧
        t.service.time.theta = th ∧ t.service.time.t1 = none ∧ t.service.time.misses = 0 ∧
        t.service.time.holdover = false ∧ t = { o with now := t.now, free := t.free, service := { s.service with time := t.service.time } } ∧
        (s.service.time.locked = false → s.anyOpen = false → 0 ≤ th →
          t.now = s.now + th.toNat ∧ t.service.time.locked = true ∧ t.service.time.slew = 0) ∧
        (s.service.time.locked = true ∨ s.anyOpen = true ∨ th < 0 →
          t.now = s.now ∧ t.service.time.slew = th ∧
          (t.service.time.locked = true ↔ s.service.time.locked = true ∨ (-8 ≤ th ∧ th ≤ 8))))))

/-- COUNTER_SAMPLE_INTERVAL for a cluster that runs a program with an interval other than 0: the time is the next
multiple of the interval after the program's start, or the present if later; where the context's counter key cannot
take the sample, COUNTER_SAMPLE_FAULTS counts it and no memory changes. TRACE_DRAIN of a die that drains, whose cap
is a block or more, with a whole block of 128 records to drain through a VALID entry: once the cap of a window of
1,024 cycles allows it, the block counts as drained and against the window, 64 bursts are counted, and memory stays
as it is. Otherwise nothing changes. After spec/17_observability.md R511, spec/17_observability.md R521. -/
def Obligations.SamplesAndTracesAreWritten : Prop :=
  (∀ (cl : Fin 32) (s : State), let l := s.cl cl; let i := s.parMs (K.COUNTER_SAMPLE_INTERVAL + l.ctx)
    let k := s.par (K.COUNTER_KEY + l.ctx)
    ((s.live = false ∨ l.running = false ∨ i = 0) → exec (.counterSampleInterval cl) s = .next s) ∧
    (s.live = true → l.running = true → i ≠ 0 → ∃ t n, exec (.counterSampleInterval cl) s = .next t ∧
      t.now = max s.now (l.started + n * i) ∧ s.now - l.started < n * i ∧ n * i ≤ s.now - l.started + i ∧
      t.clusters = s.clusters ∧ t.cores = s.cores ∧ t.ctxs = s.ctxs ∧
      (s.keyOk l.ctx k false true = false ∨ s.keyBlocks k < 32 → counted s t K.COUNTER_SAMPLE_FAULTS 1 ∧
        t = { s with now := t.now, free := t.free, od := t.od }) ∧
      (s.keyOk l.ctx k false true = true → 32 ≤ s.keyBlocks k →
        t.par K.COUNTER_SAMPLE_FAULTS = s.par K.COUNTER_SAMPLE_FAULTS))) ∧
  (∀ (d : Fin 4) (s : State), let u := Tbl.get s.traces {} d; let e := s.traceCfg d 209 192
    let b := u.drained / 128
    let full := u.window = s.now / 4096 ∧ s.traceCap d < u.used + 128
    let due := s.live && decide (128 ≤ s.traceCap d) && bit (s.traceCfg d 5 0) 5 && decide (s.traceCfg d 191 128 ≠ 0) && decide (128 * (b + 1) ≤ u.written)
      && bit (s.ep 0 e) 0
    (due = false → exec (.traceDrain d) s = .next s) ∧
    (due = true → ∃ t, exec (.traceDrain d) s = .next t ∧
      t.now = (if full then (s.now / 4096 + 1) * 4096 else s.now) ∧
      Tbl.get t.traces {} d = { u with
        window := t.now / 4096
        used := (if u.window = t.now / 4096 then u.used else 0) + 128
        drained := 128 * (b + 1) } ∧ (∀ j, j ≠ d.val → Tbl.get t.traces {} j = Tbl.get s.traces {} j) ∧
      counted s t (K.HBM_BURSTS_P0 + 3) 64 ∧
      t = { s with now := t.now, od := t.od, free := t.free, traces := t.traces, links := t.links }))

/-- For every row that serves requests: another operation, or what is no request for this part, is left alone; a request
of the wrong form is counted in BAD_MESSAGES; one that finds others before it joins the queue of 64, or is counted
in MGMT_QUEUE_DROPS; one whose path crosses a die in reset waits at its I/O die, and one that would cross a die in
DEEP is counted in DEEP_CROSSING_DROPS. In its turn, a READ, WRITE or DESCRIBE that a check of R533 refuses is
counted and answered with that status, and nothing else changes. A READ of a scalar entry is answered with its
value, a DESCRIBE with its descriptor. A WRITE of an entry that only holds its value leaves the value, its reserved
bits at 0, in the entry. After spec/18_object_dictionary.md R529, spec/18_object_dictionary.md R532,
spec/18_object_dictionary.md R533, spec/18_object_dictionary.md R534, spec/18_object_dictionary.md R535,
spec/18_object_dictionary.md R538, spec/18_object_dictionary.md R541. -/
def Obligations.ManagementRequestsAreAnswered : Prop :=
  (∀ (q : Fin 27) (m : List (BitVec 128)) (b : BootIn) (s : State), ∀ r ∈ requestRows q m b,
    let op := (MReq.read q m).op
    ((¬ isRequest s q m ∨ r.2 op = false) → exec r.1 s = .next s) ∧
    (isRequest s q m → r.2 op = true → rightForm q m = false → ∃ t, exec r.1 s = .next t ∧ counted s t K.BAD_MESSAGES 1 ∧
      t = { s with od := t.od }) ∧
    (∀ a l, isRequest s q m → r.2 op = true → rightForm q m = true → s.service.mgmt.queue = a :: l → a ≠ (q.val, m) →
      ((q.val, m) ∈ l → exec r.1 s = .next s) ∧
      ((q.val, m) ∉ l → (s.power.state ≠ .deep ∨ q.val < 9) → s.pathWaits (4 + q / 9) 4 = false →
        (l.length < 63 → exec r.1 s = .next { s with service := { s.service with
          mgmt := { s.service.mgmt with queue := a :: l ++ [(q.val, m)] } } }) ∧
        (63 ≤ l.length → ∃ t, exec r.1 s = .next t ∧ counted s t K.MGMT_QUEUE_DROPS 1 ∧ t = { s with od := t.od }))) ∧
    (isRequest s q m → r.2 op = true → rightForm q m = true → (q.val, m) ∉ s.service.mgmt.queue →
      (s.pathWaits (4 + q / 9) 4 = true → exec r.1 s =
        .next { s with links := { s.links with inbox := s.links.inbox ++ [(q.val, m)] } }) ∧
      (s.pathWaits (4 + q / 9) 4 = false → s.power.state = .deep → 9 ≤ q.val → ∃ t, exec r.1 s = .next t ∧
        counted s t K.DEEP_CROSSING_DROPS 1 ∧ t = { s with od := t.od }))) ∧
  (∀ (q : Fin 27) (m : List (BitVec 128)) (s o : State), itsTurn s q m o → let r := MReq.read q m
    let st := s.mgmtCheck r
    let served := o.bump K.MGMT_REQUESTS 1
    (∀ cmd, (cmd = .mgmtRead q m ∧ readOp r.op = true) ∨ (cmd = .mgmtWrite q m ∧ r.op = 2) ∨ (cmd = .mgmtDescribe q m ∧ r.op = 3) →
      st ≠ 0 → ∃ t, exec cmd s = .next t ∧ counted s t K.MGMT_REQUESTS 1 ∧ counted s t K.MGMT_ERROR_REPLIES 1 ∧
        (st = 7 → counted s t K.MGMT_BUSY_REPLIES 1) ∧ replied o t r st 0 [] ∧
        t = { o with od := t.od, links := { o.links with ports := t.links.ports, reqs := t.links.reqs } }) ∧
    (∀ e, st = 0 → entryRow r.key = some e → r.selv = false →
      (r.op = 1 → e.ty ≠ .string → e.ty ≠ .blob → ∃ t, exec (.mgmtRead q m) s = .next t ∧
        replied o t r 0 e.size (served.readEntry r.key).2 ∧
        t = { o with od := t.od, free := t.free, links := { o.links with ports := t.links.ports, reqs := t.links.reqs } }) ∧
      (r.op = 3 → ∃ t, exec (.mgmtDescribe q m) s = .next t ∧ replied o t r 0 e.size (toBytes 32 (e.descriptor r.key)) ∧
        t = { o with od := t.od, links := { o.links with ports := t.links.ports, reqs := t.links.reqs } }) ∧
      (r.op = 2 → r.key ∈ plainEntries → ∃ t, exec (.mgmtWrite q m) s = .next t ∧
        t.par r.key = Nat.land (ofBytes r.data) e.mask ∧ t.ctxs = s.ctxs ∧ t.clusters = s.clusters ∧ t.cores = s.cores ∧
        t.mem = s.mem ∧ t.now = s.now)))

/-- NV_COMMIT_END: with no commit in progress nothing changes. Otherwise the first commit is no longer in progress, and
NV_COMMITS counts it. One that succeeds stores its value under its key, leaves every other key, and makes the other
copy valid with the next SEQ; one that fails leaves the stored values, the copy and the flash as they were and marks
the failure. No entry changes its value by it. NV_RESTORE_DEFAULTS and NV_RESTORE_CANCEL set and clear the pending
restore while the management core runs, and change nothing else. After spec/18_object_dictionary.md R547,
spec/18_object_dictionary.md R548, spec/18_object_dictionary.md R549, spec/20_boot_security_board.md R588. -/
def Obligations.NonVolatileValuesAreCommitted : Prop :=
  (∀ (ok : Bool) (s : State),
    (s.answering = false ∨ s.service.mgmt.commits = [] → exec (.nvCommitEnd ok) s = .next s) ∧
    (∀ c l, s.answering = true → s.service.mgmt.commits = c :: l → ∃ t, exec (.nvCommitEnd ok) s = .next t ∧
      t.service.mgmt.commits = l ∧ counted s t K.NV_COMMITS 1 ∧
      (ok = true → Tbl.get t.service.mgmt.nv [] c.key = c.value ∧
        (∀ k, k ≠ c.key → Tbl.get t.service.mgmt.nv [] k = Tbl.get s.service.mgmt.nv [] k) ∧
        t.service.mgmt.nvSeq = (s.service.mgmt.nvSeq + 1) % 2 ^ 32 ∧
        t.service.mgmt.nvCopy = (s.service.mgmt.nvCopy + 1) % 2 ∧ t.service.mgmt.nvFailed = s.service.mgmt.nvFailed) ∧
      (ok = false → t.service.mgmt.nv = s.service.mgmt.nv ∧ t.service.mgmt.nvSeq = s.service.mgmt.nvSeq ∧
        t.service.mgmt.nvCopy = s.service.mgmt.nvCopy ∧ t.boot = s.boot ∧ t.service.mgmt.nvFailed = true) ∧
      (∀ k, k ≠ K.NV_COMMITS → k ≠ K.MGMT_ERROR_REPLIES → k ≠ K.MGMT_SEND_DROPS → t.par k = s.par k) ∧
      t = { s with od := t.od, links := t.links, boot := t.boot, service := { s.service with mgmt := t.service.mgmt } })) ∧
  (∀ s : State,
    (s.live = true → s.service.mgmt.coreUp = true →
      exec .nvRestoreDefaults s = .next { s with service := { s.service with mgmt := { s.service.mgmt with nvRestore := true } } } ∧
      exec .nvRestoreCancel s = .next { s with service := { s.service with mgmt := { s.service.mgmt with nvRestore := false } } }) ∧
    (s.live = false ∨ s.service.mgmt.coreUp = false →
      exec .nvRestoreDefaults s = .next s ∧ exec .nvRestoreCancel s = .next s))

/-- In its turn: IMAGE_BEGIN of 4,097 to 67,108,864 bytes begins a staging of that length. IMAGE_DATA inside the image
writes its bytes to the staging area, leaves every other byte, and voids an earlier check. IMAGE_CHECK of a whole
image records its result. IMAGE_FLASH of an image that has passed erases the first 64 KiB of the flash, leaves the
rest, and a write runs; IMAGE_FLASH_END: after a success the first 64 KiB hold the image, after a failure they are
as they were and the failure shows in FLASH_STATUS. IMAGE_START of an image that has passed boots it, or ends in ROM
recovery with the cause that its verification then finds. ANNOUNCE in ROM recovery sends on every ACTIVE port and
sets the next time. After spec/20_boot_security_board.md R582, spec/20_boot_security_board.md R583,
spec/20_boot_security_board.md R584, spec/20_boot_security_board.md R586. -/
def Obligations.ImagesAreStagedCheckedAndWritten : Prop :=
  (∀ (q : Fin 27) (m : List (BitVec 128)) (b : BootIn) (s o : State), itsTurn s q m o → let r := MReq.read q m
    (r.op = 0x11 → r.length = 0 → r.segment = 0 → 4097 ≤ r.sel → r.sel ≤ 67108864 → s.boot.writing = false →
      s.noStaging = false → ∃ t, exec (.imageBegin q m) s = .next t ∧ replied o t r 0 0 [] ∧
      t.boot = { s.boot with staged := some ⟨r.sel, [], none⟩ } ∧ t.mem = s.mem) ∧
    (∀ g, s.boot.staged = some g → s.noStaging = false → g.chunks.length ≤ 65536 →
      (r.op = 0x12 → r.data.length = r.length → 1 ≤ r.length → r.length ≤ 1024 → r.segment = 0 →
        1024 * r.sel + r.length ≤ g.length → ∃ t ch, exec (.imageData q m) s = .next t ∧ replied o t r 0 ch.length [] ∧
        t.boot = { s.boot with staged := some ⟨g.length, ch, none⟩ } ∧ (∀ n, n ∈ ch ↔ n ∈ g.chunks ∨ n = r.sel) ∧
        (∀ n < r.length, (t.mem.service.byte (1024 * r.sel + n)).toNat = r.data.getD n 0 % 256) ∧
        (∀ a, (a < 1024 * r.sel ∨ 1024 * r.sel + r.length ≤ a) → t.mem.service.byte a = s.mem.service.byte a) ∧
        t.mem.hbm = s.mem.hbm ∧ t.mem.shelf = s.mem.shelf) ∧
      (r.op = 0x13 → r.length = 0 → r.segment = 0 → (g.length + 1023) / 1024 ≤ g.chunks.length → ∃ t,
        exec (.imageCheck q m) s = .next t ∧ t.boot = { s.boot with staged := some { g with verdict := some s.checkImage } } ∧
        t.mem = s.mem) ∧
      (r.op = 0x14 → r.length = 0 → r.segment = 0 → g.verdict = some 0 → bit s.boot.flashStatus 9 = true →
        s.boot.writing = false → ∃ t, exec (.imageFlash q m) s = .next t ∧ t.boot.writing = true ∧ t.boot.progress = 0 ∧
        (∀ a < 0x10000, Tbl.get t.boot.flash 0xFF a = 0xFF) ∧
        (∀ a, 0x10000 ≤ a → Tbl.get t.boot.flash 0xFF a = Tbl.get s.boot.flash 0xFF a) ∧ t.mem = s.mem) ∧
      (r.op = 0x15 → r.length = 0 → r.segment = 0 → g.verdict = some 0 → ∃ t, exec (.imageStart q m b) s = .next t ∧
        t.now = s.now + 4000 * b.took.toNat ∧ t.service.mgmt.queue = [] ∧ (s.boot.writing = false → t.boot.staged = none) ∧
        (s.verifyImage = 0 → t.boot.mode = .running ∧ t.boot.ready = true ∧ t.boot.last = 11) ∧
        (s.verifyImage ≠ 0 → t.boot.mode = .rom ∧ t.boot.cause = s.verifyImage)))) ∧
  (∀ (ok : Bool) (s : State),
    (s.answering = false ∨ s.boot.writing = false ∨ s.boot.staged = none → exec (.imageFlashEnd ok) s = .next s) ∧
    (∀ g, s.answering = true → s.boot.writing = true → s.boot.staged = some g → ∃ t, exec (.imageFlashEnd ok) s = .next t ∧
      t.boot.writing = false ∧ bit t.boot.flashStatus 10 = !ok ∧ t = { s with free := t.free, boot := t.boot } ∧
      (ok = true → t.boot.progress = 100 ∧
        ∀ a < min 0x10000 g.length, Tbl.get t.boot.flash 0xFF a = (s.mem.service.byte a).toNat) ∧
      (ok = false → ∀ a < 0x10000, Tbl.get t.boot.flash 0xFF a = Tbl.get s.boot.flash 0xFF a))) ∧
  (∀ s : State, (s.boot.mode ≠ .rom → exec .announce s = .next s) ∧
    (s.boot.mode = .rom → ∃ t, exec .announce s = .next t ∧ t.now = max s.now s.boot.announce ∧
      t.boot = { s.boot with announce := t.now + 4000000000 } ∧
      (bits (s.par K.REPORT_ADDRESS) 23 0 = 0 → ∀ p < 27, s.part.hasPort p = true → (s.port p).mode = .active → ∃ n,
        t.port p = Port.pump s.vcWeights n { s.port p with out := (s.port p).out ++ [s.announcement 0xFFFFFF] })))

/-- In a running part DROOP_DETECT stretches its cluster's clock and DROOP_RECOVERY ends that; no other cluster changes.
CLUSTER_SLEEP of an idle cluster, once its delay has passed: it is asleep, its enabled arrays at level 0.
POWER_STATE_RETAIN and POWER_STATE_DEEP, where R567 does not refuse them: a transition to that state is in progress,
every cluster sleeps and no stack stays IN_SERVICE. POWER_STATE_ACTIVE: a transition to ACTIVE begins, or waits for
the end of an entry. POWER_TRANSITION_END: the target is the state, its duration is kept and counted; DEEP has lost
the key entries; a wake that waited begins. After spec/19_power_and_clocks.md R559, spec/19_power_and_clocks.md
R564, spec/19_power_and_clocks.md R567, spec/19_power_and_clocks.md R569, spec/19_power_and_clocks.md R572. -/
def Obligations.ClustersSleepAndPackageStatesChange : Prop :=
  (∀ (cl : Fin 32) (s : State), s.live = true → let l := s.cl cl
    (l.stretched = true → exec (.droopDetect cl) s = .next s ∧
      ∃ t, exec (.droopRecovery cl) s = .next t ∧ t.cl cl = { l with stretched := false } ∧
        (∀ c, c ≠ cl.val → t.cl c = s.cl c) ∧ t = { s with clusters := t.clusters }) ∧
    (l.stretched = false → exec (.droopRecovery cl) s = .next s ∧
      ∃ t, exec (.droopDetect cl) s = .next t ∧ t.cl cl = { l with stretched := true } ∧ (∀ c, c ≠ cl.val → t.cl c = s.cl c) ∧
        (∀ k, k ≠ K.DROOP_STRETCH_CYCLES → t.par k = s.par k) ∧
        t = { s with od := t.od, free := t.free, clusters := t.clusters }) ∧
    ((l.running = true ∨ l.asleep = true ∨ l.testing = true ∨ l.testDue = true ∨ s.power.state ≠ .active) →
      exec (.clusterSleep cl) s = .next s) ∧
    (l.running = false → l.asleep = false → l.testing = false → l.testDue = false → s.power.state = .active →
      ∃ t, exec (.clusterSleep cl) s = .next t ∧
        t.now = max s.now (l.idleSince + 4000 * l.delay.getD (s.par K.CLUSTER_SLEEP_DELAY)) ∧
        t.cl cl = { l with asleep := true, stretched := false } ∧ (∀ c, c ≠ cl.val → t.cl c = s.cl c) ∧
        (∀ k ∈ s.coresOf cl, (t.co k).level = 0) ∧ (∀ k, k ∉ s.coresOf cl → t.co k = s.co k) ∧
        t = { s with now := t.now, clusters := t.clusters, cores := t.cores })) ∧
  (∀ s : State,
    (s.powerRefused = true → exec .powerStateRetain s = .next s ∧ exec .powerStateDeep s = .next s) ∧
    (s.powerRefused = false → ∀ r ∈ [(Instr.powerStateRetain, PkgState.retain), (.powerStateDeep, .deep)],
      ∃ t, exec r.1 s = .next t ∧ t.power = { s.power with target := some r.2, began := s.now, wake := false } ∧
        (∀ c < 32, (t.cl c).asleep = true) ∧ (∀ h ∈ s.part.hbmSites, (t.stack h).mode ≠ .inService) ∧ t.mem = s.mem ∧
        t.od = s.od ∧ t.now = s.now) ∧
    (s.live = true →
      (s.power.target = some .active → exec .powerStateActive s = .next s) ∧
      (∀ g, s.power.target = some g → g ≠ .active →
        exec .powerStateActive s = .next { s with power := { s.power with wake := true } }) ∧
      (s.power.target = none → s.power.state = .active → exec .powerStateActive s = .next s) ∧
      (s.power.target = none → s.power.state ≠ .active →
        exec .powerStateActive s = .next { s with power := { s.power with target := some .active, began := s.now } }))) ∧
  (∀ (b : BootIn) (s : State), s.live = true →
    (s.power.target = none → exec (.powerTransitionEnd b) s = .next s) ∧
    (∀ g, s.power.target = some g → ∃ t, exec (.powerTransitionEnd b) s = .next t ∧ t.power.state = g ∧
      t.now = s.now + 4000 * b.took.toNat ∧ t.power.lasted = t.now - s.power.began ∧ t.power.wake = false ∧
      counted s t K.POWER_STATE_CHANGES 1 ∧
      t.power.target = (if s.power.wake = true ∧ g ≠ .active then some .active else none) ∧
      (g = .deep → t.keys = []) ∧
      (g = .retain → t.mem = s.mem ∧ t.keys = s.keys ∧ t.hbm = s.hbm) ∧
      (g = .active → s.power.state = .retain → ∀ h ∈ s.part.hbmSites, (s.stack h).mode = .selfRefresh →
        (t.stack h).mode = .inService)))

/-- THERMAL_THROTTLE_CHANGE caps or frees one die; POWER_WINDOW_END lowers the power cap by one level above POWER_LIMIT,
down to 2, and raises it by one at 95 % or less, up to 5. THERMTRIP: the rails go and a trip record waits;
TRIP_RECORD_WRITTEN stores it. MAIN_INPUT_LOSS, RESET_L_ASSERT and AO_INPUT_REMOVAL leave the part dark, in reset or
unpowered, with every cluster, core and key at its reset state; the last loses the generations and reports as well.
POWER_ON and REFCLK_STABLE bring input and clock, from count 0. COLD_BOOT acts with RESET_L low, always-on input and
clock standing: without the main input the part stays dark (log 159), else it boots, as MAIN_INPUT_RESTORE does
after a loss without a trip: by BOOTSEL the part runs, waits in the test hold or in ROM recovery. After
spec/19_power_and_clocks.md R555, spec/19_power_and_clocks.md R556, spec/19_power_and_clocks.md R557,
spec/19_power_and_clocks.md R562, spec/19_power_and_clocks.md R574, spec/19_power_and_clocks.md R575,
spec/19_power_and_clocks.md R576, spec/20_boot_security_board.md R578, spec/20_boot_security_board.md R581. -/
def Obligations.CapsTripsInputsAndBoots : Prop :=
  (∀ (d : Fin 4) (hot : Bool) (s : State), s.live = true → s.power.hot.length = 4 →
    (s.power.hot.getD d false = hot → exec (.thermalThrottleChange d hot) s = .next s) ∧
    (s.power.hot.getD d false ≠ hot → ∃ t, exec (.thermalThrottleChange d hot) s = .next t ∧
      t.power.hot.getD d false = hot ∧ (∀ e, e ≠ d.val → t.power.hot.getD e false = s.power.hot.getD e false) ∧
      (hot = true → bit t.power.flags.toNat d = true) ∧ t = { s with od := t.od, power := t.power })) ∧
  (∀ (w : BitVec 16) (s : State), s.live = true → ∃ t, exec (.powerWindowEnd w) s = .next t ∧
    t.now = max s.now s.power.window ∧ t.power.mean = w.toNat ∧ t.now < t.power.window ∧ 4000000 ∣ t.power.window ∧
    t.power.cap = (if s.par K.POWER_LIMIT < w.toNat then max 2 (s.power.cap - 1)
      else if 20 * w.toNat ≤ 19 * s.par K.POWER_LIMIT then min 5 (s.power.cap + 1) else s.power.cap) ∧
    t = { s with od := t.od, now := t.now, power := t.power }) ∧
  (∀ s : State, let bare (t : State) : Prop := t.clusters = [] ∧ t.cores = [] ∧ t.keys = [] ∧ t.od = [] ∧
      t.links = {} ∧ t.boot.ready = false ∧ t.now = s.now
    (∀ n r, (s.answering = false → exec (.thermtrip n r) s = .next s) ∧
      (s.answering = true → ∃ t w, exec (.thermtrip n r) s = .next t ∧ bare t ∧ t.boot.mode = .dark ∧
        t.power.tripped = true ∧ t.power.tripWait = some w ∧ bits w.toNat 63 56 = n.toNat ∧ bits w.toNat 55 40 = r.toNat ∧
        bits w.toNat 127 64 = s.now % 2 ^ 64)) ∧
    (s.power.tripWait = none → exec .tripRecordWritten s = .next s) ∧
    (∀ w, s.power.tripWait = some w → ∃ t, exec .tripRecordWritten s = .next t ∧ t.power.trip = w ∧ t.power.tripWait = none ∧
      Tbl.get t.service.mgmt.nv [] K.TRIP_RECORD = toBytes 16 w.toNat) ∧
    (∃ t, exec .mainInputLoss s = .next t ∧ (s.power.aoOn = true → t.power.mainLost = true) ∧
      (s.answering = true → bare t ∧ t.boot.mode = .dark ∧ t.boot.fault = true ∧ t.power.next = 2) ∧
      (s.answering = false → t = { s with power := t.power })) ∧
    (s.boot.mode = .resetLow ∨ s.power.aoOn = false → exec .resetLAssert s = .next s) ∧
    (s.boot.mode ≠ .resetLow → s.power.aoOn = true → ∃ t, exec .resetLAssert s = .next t ∧ bare t ∧
      t.boot.mode = .resetLow ∧ ∀ x, (t.cx x).gen = (s.cx x).gen) ∧
    (s.power.aoOn = false → exec .aoInputRemoval s = .next s) ∧
    (s.power.aoOn = true → ∃ t, exec .aoInputRemoval s = .next t ∧ bare t ∧ t.boot.mode = .unpowered ∧ t.power.aoOn = false ∧
      t.power.refclk = false ∧ t.ctxs = [] ∧ t.reports = {} ∧ t.defence = {}) ∧
    (s.power.aoOn = true → exec .powerOn s = .next s ∧ exec .refclkStable s = .next { s with power := { s.power with refclk := true } }) ∧
    (s.power.aoOn = false → exec .refclkStable s = .next s ∧ ∃ t, exec .powerOn s = .next t ∧ t.now = 0 ∧
      t.power.aoOn = true ∧ t.power.refclk = false ∧ t.boot.mode = .resetLow)) ∧
  (∀ (b : BootIn) (s : State),
    (s.boot.mode ≠ .resetLow ∨ s.power.aoOn = false ∨ s.power.refclk = false → exec (.coldBoot b) s = .next s) ∧
    (s.boot.mode = .resetLow → s.power.aoOn = true → s.power.refclk = true → s.power.mainLost = true →
      ∃ t, exec (.coldBoot b) s = .next t ∧ t.boot.mode = .dark ∧ t.boot.fault = true ∧ t.power.mainLost = true ∧
        t.power.next = (if s.power.tripped then 3 else 2) ∧ t = { s with boot := t.boot, power := t.power }) ∧
    (s.power.mainLost = false → exec (.mainInputRestore b) s = .next s) ∧
    (∀ cmd, (cmd = .coldBoot b ∧ s.boot.mode = .resetLow ∧ s.power.mainLost = false) ∨
        (cmd = .mainInputRestore b ∧ s.boot.mode = .dark ∧ s.power.tripped = false ∧ s.power.mainLost = true) →
      s.power.aoOn = true → s.power.refclk = true → ∃ t, exec cmd s = .next t ∧ t.now = s.now + 4000 * b.took.toNat ∧
        t.power.mainLost = false ∧ t.keys = [] ∧ t.ctxs = [] ∧ t.boot.straps = b.bootsel.toNat + 4 * b.slot.toNat ∧
        ((b.lpddr0 = false ∧ b.lpddr1 = false) → t.boot.mode = .rom ∧ t.boot.cause = 8) ∧
        ((b.lpddr0 = true ∨ b.lpddr1 = true) →
          (b.bootsel = 2 → t.boot.mode = .hold) ∧
          (b.bootsel = 1 ∨ b.bootsel = 3 → t.boot.mode = .rom ∧ t.boot.cause = 1) ∧
          (b.bootsel = 0 → bit b.flash.toNat 9 = false → t.boot.mode = .rom ∧ t.boot.cause = 2) ∧
          (b.bootsel = 0 → (t.boot.mode = .running ∧ t.boot.ready = true) ∨ (t.boot.mode = .rom ∧ t.boot.ready = false)))))

/-- ATTEST_REQUEST: refused without effect; while the node cache is built the nonce waits, and nothing else changes;
otherwise a quote of it stands whose nonce and leaf are those of the request and of the next leaf. ATTEST_BUILD_END:
the cache is no longer being built, and a nonce that waited is quoted. SMBUS_SELECT only records the entry;
SMBUS_READ answers the count and bytes of an entry that the SMBus may read, and a count of 0 for any other or one
longer than 32 bytes. Each TAP instruction is taken while the 3.3 V input is present and changes the TAP alone;
outside the test hold and reset the boundary scan instructions act as BYPASS; IDCODE gives the grade in bits 27:12
and 1 in bit 0. After spec/20_boot_security_board.md R592, spec/20_boot_security_board.md R595,
spec/20_boot_security_board.md R596. -/
def Obligations.QuotesSmbusAndTap : Prop :=
  (∀ (nonce : BitVec 256) (s : State),
    let quoted (n : BitVec 256) (t : State) : Prop :=
      s.boot.fwHash < 2 ^ 256 → s.boot.attest.leaf < 2 ^ 32 → s.boot.attest.fuse < 2 ^ 16 → s.part.grade < 2 ^ 16 →
      s.power.cause < 2 ^ 8 → s.defence.score < 2 ^ 16 →
      bits (ofBytes (t.boot.attest.quote.take 128)) 1023 768 = n.toNat ∧
      bits (ofBytes (t.boot.attest.quote.take 128)) 319 288 = s.boot.attest.leaf
    (s.attestRefused = true → exec (.attestRequest nonce) s = .next s) ∧
    (s.attestRefused = false → s.boot.attest.building = true → exec (.attestRequest nonce) s =
      .next { s with boot := { s.boot with attest := { s.boot.attest with want := some nonce } } }) ∧
    (s.attestRefused = false → s.boot.attest.building = false → ∃ t, exec (.attestRequest nonce) s = .next t ∧
      quoted nonce t ∧ t.boot.attest.quote.length = 2948 ∧ t = { s with boot := t.boot }) ∧
    (s.live = false ∨ s.boot.attest.building = false → exec .attestBuildEnd s = .next s) ∧
    (s.live = true → s.boot.attest.building = true →
      (s.boot.attest.want = none → exec .attestBuildEnd s =
        .next { s with boot := { s.boot with attest := { s.boot.attest with building := false } } }) ∧
      (∀ n, s.boot.attest.want = some n → ∃ t, exec .attestBuildEnd s = .next t ∧ quoted n t ∧
        t.boot.attest.want = none ∧ t = { s with boot := t.boot }))) ∧
  (∀ (n : BitVec 16) (sub : BitVec 8) (s : State), s.answering = true → let k := s.boot.smbus.entry
    exec (.smbusSelect n sub) s = .next { s with boot := { s.boot with
      smbus := { s.boot.smbus with entry := n.toNat * 256 + sub.toNat } } } ∧
    (smbusOk k = false → exec .smbusRead s = .next { s with boot := { s.boot with smbus := { s.boot.smbus with out := [0] } } }) ∧
    (smbusOk k = true → ∃ t, exec .smbusRead s = .next t ∧ t.boot.smbus.entry = k ∧ t = { s with free := t.free, boot := t.boot } ∧
      ((s.readEntry k).2.length ≤ 32 → t.boot.smbus.out = (s.readEntry k).2.length :: (s.readEntry k).2) ∧
      (32 < (s.readEntry k).2.length → t.boot.smbus.out = [0]))) ∧
  (∀ s : State, ∀ r ∈ [(Instr.bypass, TapIns.bypass), (.idcode, .idcode), (.samplePreload, .samplePreload),
      (.extest, .extest), (.clamp, .clamp), (.highz, .highz), (.extestPulse, .extestPulse), (.extestTrain, .extestTrain)],
    (s.power.aoOn = false → exec r.1 s = .next s) ∧
    (s.power.aoOn = true → ∃ t, exec r.1 s = .next t ∧ t.boot.tap.taken = r.2 ∧
      t = { s with boot := { s.boot with tap := t.boot.tap } } ∧
      (r.2 = .idcode → s.part.grade < 2 ^ 16 → bits t.boot.tap.dr.toNat 27 12 = s.part.grade ∧ bit t.boot.tap.dr.toNat 0 = true) ∧
      (s.boot.mode = .running → t.tapActing = (if r.2 ∈ [.idcode, .samplePreload] then r.2 else .bypass)) ∧
      (s.boot.mode = .hold → t.tapActing = r.2)))

/-- For every UL8 code c from 1 to 254 with c - 224 = 4k + q and q from 0 to 3, the decoded value is the value of the
FP32 constant 0x3F800000, 0x3F9837F0, 0x3FB504F3 or 0x3FD744FD for q = 0, 1, 2 or 3, times 2^k. Code 0 decodes to 0
and code 255 to NaN. Formalises R45. -/
def Obligations.Ul8CodesDecodeAsTheConstants : Prop :=
  (∀ (c : Nat) (k : Int) (q : Fin 4), 1 ≤ c → c ≤ 254 → (c : Int) - 224 = 4 * k + (q.val : Int) →
    ∃ m e, decodeElem .fp32 (if q = 0 then 0x3F800000 else if q = 1 then 0x3F9837F0 else if q = 2 then 0x3FB504F3
        else 0x3FD744FD) = .fin false m e ∧ decodeElem .ul8 c = .fin false m (e + k)) ∧
  Stands (decodeElem .ul8 0) 0 ∧ decodeElem .ul8 255 = .nan

/-- For two finite elements as signed dyadics a and b and an anchor A, the bench value of their product is the floor of
a x b / 2^(A - 110), and the product is marked as changed exactly when it does not lie on the grid. A row's sum adds
these floors, and its count the changed products, whatever their order. Formalises R79. -/
def Obligations.ProductsEnterTheBenchAsFloors : Prop :=
  (∀ (A : Int) (a b : Int × Int),
    let p : ℚ := (a.1 : ℚ) * 2 ^ a.2 * ((b.1 : ℚ) * 2 ^ b.2)
    (alignProduct A a b).1 = ⌊p / (2 : ℚ) ^ (A - 110)⌋ ∧
    ((alignProduct A a b).2 = false ↔ ((alignProduct A a b).1 : ℚ) * 2 ^ (A - 110) = p)) ∧
  (∀ (A : Int) (l : List ((Int × Int) × (Int × Int))),
    (dotAligned A l).1 = (l.map (fun p => (alignProduct A p.1 p.2).1)).sum ∧
    (dotAligned A l).2 = (l.filter (fun p => (alignProduct A p.1 p.2).2)).length ∧
    ∀ l', l.Perm l' → dotAligned A l' = dotAligned A l)

/-- Rounding a number onto a grid takes a multiple within half a step, the even one where two are as near; stochastic
rounding takes the floor, or one more exactly when the first 32 fraction bits plus the noise reach 2^32. For BF16,
FP16 and FP32: the code of a result decodes to the result's value; by nearest-even a finite result other than 0 is
within half a unit in the last place of the number; the result is an infinity of the number's sign exactly when its
magnitude is at least the largest finite value plus half its unit in the last place; a result that flushes is a zero
of the same sign of a number below the smallest normal. After R49, R53. -/
def Obligations.ResultsAreRoundedOnceToTheNearest : Prop :=
  (∀ (v e q : Int), let x : ℚ := (v : ℚ) * (2 : ℚ) ^ (e - q)
    (let k := gridRound .nearest v e q
     |x - k| ≤ 1 / 2 ∧ (|x - k| = 1 / 2 → k % 2 = 0)) ∧
    ∀ n < 2 ^ 32, (gridRound (.stochastic n) v e q = ⌊x⌋ ∨ gridRound (.stochastic n) v e q = ⌊x⌋ + 1) ∧
      (gridRound (.stochastic n) v e q = ⌊x⌋ + 1 ↔ (2 : Int) ^ 32 ≤ ⌊Int.fract x * 2 ^ 32⌋ + n)) ∧
  (∀ (f : Fmt) (rnd : Rnd) (n : Bool) (m : Nat) (e : Int), f.isIeee = true → m ≠ 0 →
    let s := f.shape; let r := roundIeee f rnd (.fin n m e)
    r.code < 2 ^ f.width ∧
    (∀ n' a q, r.val = .fin n' a q → n' = n ∧ Stands (decodeElem f r.code) (ratOf n a q) ∧
      (a ≠ 0 → rnd = .nearest → q = max (expo m e) s.emin - s.mb ∧ 2 * |ratOf n m e - ratOf n a q| ≤ 2 ^ q)) ∧
    (∀ i, r.val = .inf i → i = n ∧ decodeElem f r.code = .inf n ∧ r.ovf = true) ∧ r.val ≠ .nan ∧
    (rnd = .nearest → ((∃ i, r.val = .inf i) ↔
      ((2 : ℚ) ^ (s.mb + 2) - 1) * 2 ^ ((s.bias : Int) - s.mb - 1) ≤ |ratOf n m e|)) ∧
    (r.flush = true → r.val = .fin n 0 0 ∧ |ratOf n m e| < 2 ^ s.emin)) ∧
  (∀ (f : Fmt) (rnd : Rnd), f.isIeee = true → (roundIeee f rnd .nan).code = f.canonNan ∧
    decodeElem f f.canonNan = .nan ∧ ∀ i, decodeElem f (roundIeee f rnd (.inf i)).code = .inf i)

/-- For finite sources: the result of VADD, VSUB, VMUL and VFMA is the single rounding to FP32, nearest-even, of the
exact sum, difference, product or product plus addend, where that is not 0; an exact zero from sources that are not
all zero, VMUL apart, is +0. VMAX and VMIN give a source that is at least, or at most, each of the two; VSEL gives b
for a at or above 0, including -0, and c below. A NaN source of any of them but the unused side of VSEL gives NaN.
After R57, R155. -/
def Obligations.VectorArithmeticRoundsOnce : Prop :=
  (∀ (a b c : Val) (x y z : ℚ), Stands a x → Stands b y → Stands c z →
    (∀ o r, (o, r) ∈ [(Op.vadd, x + y), (.vsub, x - y), (.vmul, x * y), (.vfma, x * y + z)] →
      (r ≠ 0 → ∃ v, Stands v r ∧ vecOp o a b c = toF32 v) ∧
      (r = 0 → ∃ n, (vecOp o a b c).val = .fin n 0 0 ∧ (vecOp o a b c).cause = .none ∧
        (o ≠ .vmul → (x ≠ 0 ∧ y ≠ 0) → n = false))) ∧
    (Stands (vecOp .vmax a b c).val (max x y)) ∧ (Stands (vecOp .vmin a b c).val (min x y)) ∧
    (0 ≤ x → (vecOp .vsel a b c).val = b) ∧ (x < 0 → (vecOp .vsel a b c).val = c)) ∧
  (∀ a b c : Val, ∀ o ∈ [Op.vadd, .vsub, .vmul, .vmax, .vmin], a = .nan ∨ b = .nan → (vecOp o a b c).val = .nan) ∧
  (∀ a b c : Val, (a = .nan ∨ b = .nan ∨ c = .nan → (vecOp .vfma a b c).val = .nan) ∧
    (a = .nan → (vecOp .vsel a b c).val = .nan))

/-- For a core and a queue with a ring of slots: a push into a free slot makes the block the last of the queue, keeps
every block before it in place, and leaves every slot outside the ring's next one; a pop removes the oldest block
and moves the others up by one; neither changes another queue's registers, and a pop changes no slot. A peek reads
from the head and, being no change, removes nothing. After R126, R128, R130. -/
def Obligations.QueuesAreFirstInFirstOut : Prop :=
  ∀ (c : Machine.Core) (q : Nat) (b : Block), let x := c.queue q
    x.head < x.size →
    (x.count < x.size →
      (c.put q b).peek q x.count = b ∧ (∀ n < x.count, (c.put q b).peek q n = c.peek q n) ∧
      (c.put q b).queue q = { x with count := x.count + 1 } ∧ (∀ p, p ≠ q → (c.put q b).queue p = c.queue p) ∧
      (∀ a, a ≠ x.slot x.count → Tbl.get (c.put q b).slots Block.null a = Tbl.get c.slots Block.null a) ∧
      (c.put q b).jobs = c.jobs) ∧
    (0 < x.count →
      (∀ n, (c.pop q).peek q n = c.peek q (n + 1)) ∧ ((c.pop q).queue q).count = x.count - 1 ∧
      ((c.pop q).queue q).base = x.base ∧ ((c.pop q).queue q).size = x.size ∧ ((c.pop q).queue q).head < x.size ∧
      (∀ p, p ≠ q → (c.pop q).queue p = c.queue p) ∧ (c.pop q).slots = c.slots ∧ (c.pop q).jobs = c.jobs)
end

