-- ==== Sys2Proof/Laws/Tables.lean ====
section
/-!
SUPPORT. The laws of sparse tables: a read after a write, and the canonical form that every write keeps.
-/

namespace Sys2Proof

variable {α : Type}

theorem Tbl.get_drop (t : Tbl α) (d : α) (k j : Nat) :
    Tbl.get (Tbl.drop t k) d j = if j = k then d else Tbl.get t d j := by
  induction t with
  | nil => simp [Tbl.drop, Tbl.get]
  | cons p r ih =>
    have hd : Tbl.drop (p :: r) k = if p.1 = k then Tbl.drop r k else p :: Tbl.drop r k := by
      simp only [Tbl.drop, List.filter_cons]; by_cases h : p.1 = k <;> simp [h]
    rw [hd]
    by_cases h : p.1 = k
    · rw [if_pos h, ih]
      by_cases hj : j = k
      · simp [hj]
      · have : p.1 ≠ j := fun e => hj (e ▸ h)
        simp [hj, Tbl.get, this]
    · rw [if_neg h]
      simp only [Tbl.get]
      rw [ih]
      by_cases hj : j = k
      · have : p.1 ≠ j := fun e => h (e.trans hj)
        simp [hj, h]
      · simp [hj]

theorem Tbl.get_insert (t : Tbl α) (d : α) (k : Nat) (v : α) (j : Nat) (h : k ∉ t.map (·.1)) :
    Tbl.get (Tbl.insert t k v) d j = if j = k then v else Tbl.get t d j := by
  induction t with
  | nil =>
    by_cases hj : j = k
    · simp [Tbl.insert, Tbl.get, hj]
    · simp [Tbl.insert, Tbl.get, hj, Ne.symm hj]
  | cons p r ih =>
    simp only [List.map_cons, List.mem_cons, not_or] at h
    by_cases hk : k < p.1
    · by_cases hj : j = k
      · simp [Tbl.insert, hk, Tbl.get, hj]
      · simp [Tbl.insert, hk, Tbl.get, hj, Ne.symm hj]
    · simp only [Tbl.insert, hk, if_false, Tbl.get, ih h.2]
      by_cases hj : j = k
      · have : p.1 ≠ j := fun e => h.1 (hj ▸ e.symm)
        simp [hj, Ne.symm h.1]
      · simp [hj]

theorem Tbl.drop_not_mem (t : Tbl α) (k : Nat) : k ∉ (Tbl.drop t k).map (·.1) := by
  simp [Tbl.drop]

/-- Reading a table after a write: the value written at its index, every other entry as before. -/
theorem Tbl.get_put [DecidableEq α] (t : Tbl α) (d : α) (k : Nat) (v : α) (j : Nat) :
    Tbl.get (Tbl.put t d k v) d j = if j = k then v else Tbl.get t d j := by
  unfold Tbl.put
  by_cases h : v = d
  · rw [if_pos h, Tbl.get_drop, h]
  · rw [if_neg h, Tbl.get_insert _ _ _ _ _ (Tbl.drop_not_mem t k), Tbl.get_drop]
    by_cases hj : j = k <;> simp [hj]

@[simp] theorem Tbl.get_put_same [DecidableEq α] (t : Tbl α) (d : α) (k : Nat) (v : α) :
    Tbl.get (Tbl.put t d k v) d k = v := by simp [Tbl.get_put]

theorem Tbl.get_put_ne [DecidableEq α] (t : Tbl α) (d : α) {k j : Nat} (v : α) (h : j ≠ k) :
    Tbl.get (Tbl.put t d k v) d j = Tbl.get t d j := by simp [Tbl.get_put, h]

/-- The canonical form, said of the list: indices rise strictly, and no entry is the default. -/
theorem Tbl.wf_iff [DecidableEq α] (t : Tbl α) (d : α) :
    Tbl.wf t d = true ↔ (t.map (·.1)).Pairwise (· < ·) ∧ ∀ p ∈ t, p.2 ≠ d := by
  induction t with
  | nil => simp [Tbl.wf]
  | cons p r ih =>
    obtain ⟨i, x⟩ := p
    cases r with
    | nil => simp [Tbl.wf]
    | cons q r =>
      obtain ⟨j, y⟩ := q
      simp only [Tbl.wf, Bool.and_eq_true, decide_eq_true_eq, ne_eq] at ih ⊢
      rw [ih]
      simp only [List.map_cons, List.pairwise_cons, List.mem_cons, List.mem_map, Prod.exists,
        exists_eq_right, forall_eq_or_imp, Prod.forall]
      constructor
      · rintro ⟨⟨hx, hij⟩, ⟨hj, hp⟩, hy, hr⟩
        exact ⟨⟨⟨hij, fun a h => lt_trans hij (hj a h)⟩, hj, hp⟩, hx, hy, hr⟩
      · rintro ⟨⟨⟨hij, _⟩, hj, hp⟩, hx, hy, hr⟩
        exact ⟨⟨hx, hij⟩, ⟨hj, hp⟩, hy, hr⟩

theorem Tbl.wf_drop [DecidableEq α] {t : Tbl α} {d : α} (k : Nat) (h : Tbl.wf t d = true) :
    Tbl.wf (Tbl.drop t k) d = true := by
  rw [Tbl.wf_iff] at h ⊢
  refine ⟨h.1.sublist ((List.filter_sublist).map _), fun p hp => h.2 p (List.mem_of_mem_filter hp)⟩

theorem Tbl.mem_insert {t : Tbl α} {k : Nat} {v : α} {p : Nat × α} :
    p ∈ Tbl.insert t k v ↔ p = (k, v) ∨ p ∈ t := by
  induction t with
  | nil => simp [Tbl.insert]
  | cons q r ih =>
    obtain ⟨i, x⟩ := q
    by_cases hk : k < i
    · simp [Tbl.insert, hk]
    · simp only [Tbl.insert, hk, if_false, List.mem_cons, ih]; tauto

theorem Tbl.pairwise_insert {t : Tbl α} {k : Nat} (v : α) (hp : (t.map (·.1)).Pairwise (· < ·))
    (hk : k ∉ t.map (·.1)) : ((Tbl.insert t k v).map (·.1)).Pairwise (· < ·) := by
  induction t with
  | nil => simp [Tbl.insert]
  | cons q r ih =>
    obtain ⟨i, x⟩ := q
    simp only [List.map_cons, List.mem_cons, not_or, List.pairwise_cons] at hp hk
    by_cases h : k < i
    · simp only [Tbl.insert, h, if_true, List.map_cons, List.pairwise_cons, List.mem_cons, forall_eq_or_imp]
      exact ⟨⟨trivial, fun a ha => lt_trans h (hp.1 a ha)⟩, hp.1, hp.2⟩
    · simp only [Tbl.insert, h, if_false, List.map_cons, List.pairwise_cons]
      refine ⟨fun a ha => ?_, ih hp.2 hk.2⟩
      obtain ⟨p, hp', rfl⟩ := List.mem_map.1 ha
      rcases Tbl.mem_insert.1 hp' with rfl | hm
      · exact lt_of_le_of_ne (not_lt.1 h) (Ne.symm hk.1)
      · exact hp.1 _ (List.mem_map_of_mem hm)

/-- Every write keeps the canonical form. -/
theorem Tbl.wf_put [DecidableEq α] {t : Tbl α} {d : α} (k : Nat) (v : α) (h : Tbl.wf t d = true) :
    Tbl.wf (Tbl.put t d k v) d = true := by
  unfold Tbl.put
  by_cases hv : v = d
  · rw [if_pos hv]; exact Tbl.wf_drop k h
  · rw [if_neg hv]
    have h' := (Tbl.wf_iff _ _).1 (Tbl.wf_drop k h)
    rw [Tbl.wf_iff]
    refine ⟨Tbl.pairwise_insert v h'.1 (Tbl.drop_not_mem t k), fun p hp => ?_⟩
    rcases Tbl.mem_insert.1 hp with rfl | hm
    · exact hv
    · exact h'.2 p hm

end Sys2Proof
end

