-- ==== Sys2Proof/Laws/State.lean ====
section
/-!
SUPPORT. What each small update of the state does to each field, and what the accessors read after it. No later proof
unfolds a record update.
-/

namespace Sys2Proof.Machine

variable (s : State)

/-! ### setPar -/

@[simp] theorem State.setPar_pending (k v : Nat) : (s.setPar k v).pending = s.pending := rfl
@[simp] theorem State.setPar_now (k v : Nat) : (s.setPar k v).now = s.now := rfl
@[simp] theorem State.setPar_free (k v : Nat) : (s.setPar k v).free = s.free := rfl
@[simp] theorem State.setPar_part (k v : Nat) : (s.setPar k v).part = s.part := rfl
@[simp] theorem State.setPar_od (k v : Nat) : (s.setPar k v).od = Tbl.put s.od (s.odDflt k) k v := rfl
@[simp] theorem State.setPar_ctxs (k v : Nat) : (s.setPar k v).ctxs = s.ctxs := rfl
@[simp] theorem State.setPar_clusters (k v : Nat) : (s.setPar k v).clusters = s.clusters := rfl
@[simp] theorem State.setPar_cores (k v : Nat) : (s.setPar k v).cores = s.cores := rfl
@[simp] theorem State.setPar_side (k v : Nat) : (s.setPar k v).side = s.side := rfl
@[simp] theorem State.setPar_pkg (k v : Nat) : (s.setPar k v).pkg = s.pkg := rfl
@[simp] theorem State.setPar_posts (k v : Nat) : (s.setPar k v).posts = s.posts := rfl
@[simp] theorem State.setPar_moves (k v : Nat) : (s.setPar k v).moves = s.moves := rfl
@[simp] theorem State.setPar_accesses (k v : Nat) : (s.setPar k v).accesses = s.accesses := rfl
@[simp] theorem State.setPar_mem (k v : Nat) : (s.setPar k v).mem = s.mem := rfl
@[simp] theorem State.setPar_hbm (k v : Nat) : (s.setPar k v).hbm = s.hbm := rfl
@[simp] theorem State.setPar_keys (k v : Nat) : (s.setPar k v).keys = s.keys := rfl
@[simp] theorem State.setPar_groups (k v : Nat) : (s.setPar k v).groups = s.groups := rfl
@[simp] theorem State.setPar_plans (k v : Nat) : (s.setPar k v).plans = s.plans := rfl
@[simp] theorem State.setPar_planSt (k v : Nat) : (s.setPar k v).planSt = s.planSt := rfl
@[simp] theorem State.setPar_drawers (k v : Nat) : (s.setPar k v).drawers = s.drawers := rfl
@[simp] theorem State.setPar_rings (k v : Nat) : (s.setPar k v).rings = s.rings := rfl
@[simp] theorem State.setPar_traces (k v : Nat) : (s.setPar k v).traces = s.traces := rfl
@[simp] theorem State.setPar_links (k v : Nat) : (s.setPar k v).links = s.links := rfl
@[simp] theorem State.setPar_mirrors (k v : Nat) : (s.setPar k v).mirrors = s.mirrors := rfl
@[simp] theorem State.setPar_send (k v : Nat) : (s.setPar k v).send = s.send := rfl
@[simp] theorem State.setPar_power (k v : Nat) : (s.setPar k v).power = s.power := rfl
@[simp] theorem State.setPar_reports (k v : Nat) : (s.setPar k v).reports = s.reports := rfl
@[simp] theorem State.setPar_defence (k v : Nat) : (s.setPar k v).defence = s.defence := rfl
@[simp] theorem State.setPar_boot (k v : Nat) : (s.setPar k v).boot = s.boot := rfl
@[simp] theorem State.setPar_service (k v : Nat) : (s.setPar k v).service = s.service := rfl

/-! ### bump -/

@[simp] theorem State.bump_pending (k n : Nat) : (s.bump k n).pending = s.pending := rfl
@[simp] theorem State.bump_now (k n : Nat) : (s.bump k n).now = s.now := rfl
@[simp] theorem State.bump_free (k n : Nat) : (s.bump k n).free = s.free := rfl
@[simp] theorem State.bump_part (k n : Nat) : (s.bump k n).part = s.part := rfl
@[simp] theorem State.bump_od (k n : Nat) : (s.bump k n).od = Tbl.put s.od (s.odDflt k) k ((s.par k + n) % 2 ^ 64) := rfl
@[simp] theorem State.bump_ctxs (k n : Nat) : (s.bump k n).ctxs = s.ctxs := rfl
@[simp] theorem State.bump_clusters (k n : Nat) : (s.bump k n).clusters = s.clusters := rfl
@[simp] theorem State.bump_cores (k n : Nat) : (s.bump k n).cores = s.cores := rfl
@[simp] theorem State.bump_side (k n : Nat) : (s.bump k n).side = s.side := rfl
@[simp] theorem State.bump_pkg (k n : Nat) : (s.bump k n).pkg = s.pkg := rfl
@[simp] theorem State.bump_posts (k n : Nat) : (s.bump k n).posts = s.posts := rfl
@[simp] theorem State.bump_moves (k n : Nat) : (s.bump k n).moves = s.moves := rfl
@[simp] theorem State.bump_accesses (k n : Nat) : (s.bump k n).accesses = s.accesses := rfl
@[simp] theorem State.bump_mem (k n : Nat) : (s.bump k n).mem = s.mem := rfl
@[simp] theorem State.bump_hbm (k n : Nat) : (s.bump k n).hbm = s.hbm := rfl
@[simp] theorem State.bump_keys (k n : Nat) : (s.bump k n).keys = s.keys := rfl
@[simp] theorem State.bump_groups (k n : Nat) : (s.bump k n).groups = s.groups := rfl
@[simp] theorem State.bump_plans (k n : Nat) : (s.bump k n).plans = s.plans := rfl
@[simp] theorem State.bump_planSt (k n : Nat) : (s.bump k n).planSt = s.planSt := rfl
@[simp] theorem State.bump_drawers (k n : Nat) : (s.bump k n).drawers = s.drawers := rfl
@[simp] theorem State.bump_rings (k n : Nat) : (s.bump k n).rings = s.rings := rfl
@[simp] theorem State.bump_traces (k n : Nat) : (s.bump k n).traces = s.traces := rfl
@[simp] theorem State.bump_links (k n : Nat) : (s.bump k n).links = s.links := rfl
@[simp] theorem State.bump_mirrors (k n : Nat) : (s.bump k n).mirrors = s.mirrors := rfl
@[simp] theorem State.bump_send (k n : Nat) : (s.bump k n).send = s.send := rfl
@[simp] theorem State.bump_power (k n : Nat) : (s.bump k n).power = s.power := rfl
@[simp] theorem State.bump_reports (k n : Nat) : (s.bump k n).reports = s.reports := rfl
@[simp] theorem State.bump_defence (k n : Nat) : (s.bump k n).defence = s.defence := rfl
@[simp] theorem State.bump_boot (k n : Nat) : (s.bump k n).boot = s.boot := rfl
@[simp] theorem State.bump_service (k n : Nat) : (s.bump k n).service = s.service := rfl

/-! ### reach -/

@[simp] theorem State.reach_pending (t : Nat) : (s.reach t).pending = s.pending := rfl
@[simp] theorem State.reach_now (t : Nat) : (s.reach t).now = max s.now t := rfl
@[simp] theorem State.reach_free (t : Nat) : (s.reach t).free = s.free := rfl
@[simp] theorem State.reach_part (t : Nat) : (s.reach t).part = s.part := rfl
@[simp] theorem State.reach_od (t : Nat) : (s.reach t).od = s.od := rfl
@[simp] theorem State.reach_ctxs (t : Nat) : (s.reach t).ctxs = s.ctxs := rfl
@[simp] theorem State.reach_clusters (t : Nat) : (s.reach t).clusters = s.clusters := rfl
@[simp] theorem State.reach_cores (t : Nat) : (s.reach t).cores = s.cores := rfl
@[simp] theorem State.reach_side (t : Nat) : (s.reach t).side = s.side := rfl
@[simp] theorem State.reach_pkg (t : Nat) : (s.reach t).pkg = s.pkg := rfl
@[simp] theorem State.reach_posts (t : Nat) : (s.reach t).posts = s.posts := rfl
@[simp] theorem State.reach_moves (t : Nat) : (s.reach t).moves = s.moves := rfl
@[simp] theorem State.reach_accesses (t : Nat) : (s.reach t).accesses = s.accesses := rfl
@[simp] theorem State.reach_mem (t : Nat) : (s.reach t).mem = s.mem := rfl
@[simp] theorem State.reach_hbm (t : Nat) : (s.reach t).hbm = s.hbm := rfl
@[simp] theorem State.reach_keys (t : Nat) : (s.reach t).keys = s.keys := rfl
@[simp] theorem State.reach_groups (t : Nat) : (s.reach t).groups = s.groups := rfl
@[simp] theorem State.reach_plans (t : Nat) : (s.reach t).plans = s.plans := rfl
@[simp] theorem State.reach_planSt (t : Nat) : (s.reach t).planSt = s.planSt := rfl
@[simp] theorem State.reach_drawers (t : Nat) : (s.reach t).drawers = s.drawers := rfl
@[simp] theorem State.reach_rings (t : Nat) : (s.reach t).rings = s.rings := rfl
@[simp] theorem State.reach_traces (t : Nat) : (s.reach t).traces = s.traces := rfl
@[simp] theorem State.reach_links (t : Nat) : (s.reach t).links = s.links := rfl
@[simp] theorem State.reach_mirrors (t : Nat) : (s.reach t).mirrors = s.mirrors := rfl
@[simp] theorem State.reach_send (t : Nat) : (s.reach t).send = s.send := rfl
@[simp] theorem State.reach_power (t : Nat) : (s.reach t).power = s.power := rfl
@[simp] theorem State.reach_reports (t : Nat) : (s.reach t).reports = s.reports := rfl
@[simp] theorem State.reach_defence (t : Nat) : (s.reach t).defence = s.defence := rfl
@[simp] theorem State.reach_boot (t : Nat) : (s.reach t).boot = s.boot := rfl
@[simp] theorem State.reach_service (t : Nat) : (s.reach t).service = s.service := rfl

/-! ### draw -/

@[simp] theorem State.draw_pending : (s.draw.2).pending = s.pending := rfl
@[simp] theorem State.draw_now : (s.draw.2).now = s.now := rfl
@[simp] theorem State.draw_free : (s.draw.2).free = s.free + 1 := rfl
@[simp] theorem State.draw_part : (s.draw.2).part = s.part := rfl
@[simp] theorem State.draw_od : (s.draw.2).od = s.od := rfl
@[simp] theorem State.draw_ctxs : (s.draw.2).ctxs = s.ctxs := rfl
@[simp] theorem State.draw_clusters : (s.draw.2).clusters = s.clusters := rfl
@[simp] theorem State.draw_cores : (s.draw.2).cores = s.cores := rfl
@[simp] theorem State.draw_side : (s.draw.2).side = s.side := rfl
@[simp] theorem State.draw_pkg : (s.draw.2).pkg = s.pkg := rfl
@[simp] theorem State.draw_posts : (s.draw.2).posts = s.posts := rfl
@[simp] theorem State.draw_moves : (s.draw.2).moves = s.moves := rfl
@[simp] theorem State.draw_accesses : (s.draw.2).accesses = s.accesses := rfl
@[simp] theorem State.draw_mem : (s.draw.2).mem = s.mem := rfl
@[simp] theorem State.draw_hbm : (s.draw.2).hbm = s.hbm := rfl
@[simp] theorem State.draw_keys : (s.draw.2).keys = s.keys := rfl
@[simp] theorem State.draw_groups : (s.draw.2).groups = s.groups := rfl
@[simp] theorem State.draw_plans : (s.draw.2).plans = s.plans := rfl
@[simp] theorem State.draw_planSt : (s.draw.2).planSt = s.planSt := rfl
@[simp] theorem State.draw_drawers : (s.draw.2).drawers = s.drawers := rfl
@[simp] theorem State.draw_rings : (s.draw.2).rings = s.rings := rfl
@[simp] theorem State.draw_traces : (s.draw.2).traces = s.traces := rfl
@[simp] theorem State.draw_links : (s.draw.2).links = s.links := rfl
@[simp] theorem State.draw_mirrors : (s.draw.2).mirrors = s.mirrors := rfl
@[simp] theorem State.draw_send : (s.draw.2).send = s.send := rfl
@[simp] theorem State.draw_power : (s.draw.2).power = s.power := rfl
@[simp] theorem State.draw_reports : (s.draw.2).reports = s.reports := rfl
@[simp] theorem State.draw_defence : (s.draw.2).defence = s.defence := rfl
@[simp] theorem State.draw_boot : (s.draw.2).boot = s.boot := rfl
@[simp] theorem State.draw_service : (s.draw.2).service = s.service := rfl

/-! ### setCl -/

@[simp] theorem State.setCl_pending (c : Nat) (x : Cluster) : (s.setCl c x).pending = s.pending := rfl
@[simp] theorem State.setCl_now (c : Nat) (x : Cluster) : (s.setCl c x).now = s.now := rfl
@[simp] theorem State.setCl_free (c : Nat) (x : Cluster) : (s.setCl c x).free = s.free := rfl
@[simp] theorem State.setCl_part (c : Nat) (x : Cluster) : (s.setCl c x).part = s.part := rfl
@[simp] theorem State.setCl_od (c : Nat) (x : Cluster) : (s.setCl c x).od = s.od := rfl
@[simp] theorem State.setCl_ctxs (c : Nat) (x : Cluster) : (s.setCl c x).ctxs = s.ctxs := rfl
@[simp] theorem State.setCl_clusters (c : Nat) (x : Cluster) : (s.setCl c x).clusters = Tbl.put s.clusters {} c x := rfl
@[simp] theorem State.setCl_cores (c : Nat) (x : Cluster) : (s.setCl c x).cores = s.cores := rfl
@[simp] theorem State.setCl_side (c : Nat) (x : Cluster) : (s.setCl c x).side = s.side := rfl
@[simp] theorem State.setCl_pkg (c : Nat) (x : Cluster) : (s.setCl c x).pkg = s.pkg := rfl
@[simp] theorem State.setCl_posts (c : Nat) (x : Cluster) : (s.setCl c x).posts = s.posts := rfl
@[simp] theorem State.setCl_moves (c : Nat) (x : Cluster) : (s.setCl c x).moves = s.moves := rfl
@[simp] theorem State.setCl_accesses (c : Nat) (x : Cluster) : (s.setCl c x).accesses = s.accesses := rfl
@[simp] theorem State.setCl_mem (c : Nat) (x : Cluster) : (s.setCl c x).mem = s.mem := rfl
@[simp] theorem State.setCl_hbm (c : Nat) (x : Cluster) : (s.setCl c x).hbm = s.hbm := rfl
@[simp] theorem State.setCl_keys (c : Nat) (x : Cluster) : (s.setCl c x).keys = s.keys := rfl
@[simp] theorem State.setCl_groups (c : Nat) (x : Cluster) : (s.setCl c x).groups = s.groups := rfl
@[simp] theorem State.setCl_plans (c : Nat) (x : Cluster) : (s.setCl c x).plans = s.plans := rfl
@[simp] theorem State.setCl_planSt (c : Nat) (x : Cluster) : (s.setCl c x).planSt = s.planSt := rfl
@[simp] theorem State.setCl_drawers (c : Nat) (x : Cluster) : (s.setCl c x).drawers = s.drawers := rfl
@[simp] theorem State.setCl_rings (c : Nat) (x : Cluster) : (s.setCl c x).rings = s.rings := rfl
@[simp] theorem State.setCl_traces (c : Nat) (x : Cluster) : (s.setCl c x).traces = s.traces := rfl
@[simp] theorem State.setCl_links (c : Nat) (x : Cluster) : (s.setCl c x).links = s.links := rfl
@[simp] theorem State.setCl_mirrors (c : Nat) (x : Cluster) : (s.setCl c x).mirrors = s.mirrors := rfl
@[simp] theorem State.setCl_send (c : Nat) (x : Cluster) : (s.setCl c x).send = s.send := rfl
@[simp] theorem State.setCl_power (c : Nat) (x : Cluster) : (s.setCl c x).power = s.power := rfl
@[simp] theorem State.setCl_reports (c : Nat) (x : Cluster) : (s.setCl c x).reports = s.reports := rfl
@[simp] theorem State.setCl_defence (c : Nat) (x : Cluster) : (s.setCl c x).defence = s.defence := rfl
@[simp] theorem State.setCl_boot (c : Nat) (x : Cluster) : (s.setCl c x).boot = s.boot := rfl
@[simp] theorem State.setCl_service (c : Nat) (x : Cluster) : (s.setCl c x).service = s.service := rfl

/-! ### modCl -/

@[simp] theorem State.modCl_pending (c : Nat) (f : Cluster → Cluster) : (s.modCl c f).pending = s.pending := rfl
@[simp] theorem State.modCl_now (c : Nat) (f : Cluster → Cluster) : (s.modCl c f).now = s.now := rfl
@[simp] theorem State.modCl_free (c : Nat) (f : Cluster → Cluster) : (s.modCl c f).free = s.free := rfl
@[simp] theorem State.modCl_part (c : Nat) (f : Cluster → Cluster) : (s.modCl c f).part = s.part := rfl
@[simp] theorem State.modCl_od (c : Nat) (f : Cluster → Cluster) : (s.modCl c f).od = s.od := rfl
@[simp] theorem State.modCl_ctxs (c : Nat) (f : Cluster → Cluster) : (s.modCl c f).ctxs = s.ctxs := rfl
@[simp] theorem State.modCl_clusters (c : Nat) (f : Cluster → Cluster) : (s.modCl c f).clusters = Tbl.put s.clusters {} c (f (s.cl c)) := rfl
@[simp] theorem State.modCl_cores (c : Nat) (f : Cluster → Cluster) : (s.modCl c f).cores = s.cores := rfl
@[simp] theorem State.modCl_side (c : Nat) (f : Cluster → Cluster) : (s.modCl c f).side = s.side := rfl
@[simp] theorem State.modCl_pkg (c : Nat) (f : Cluster → Cluster) : (s.modCl c f).pkg = s.pkg := rfl
@[simp] theorem State.modCl_posts (c : Nat) (f : Cluster → Cluster) : (s.modCl c f).posts = s.posts := rfl
@[simp] theorem State.modCl_moves (c : Nat) (f : Cluster → Cluster) : (s.modCl c f).moves = s.moves := rfl
@[simp] theorem State.modCl_accesses (c : Nat) (f : Cluster → Cluster) : (s.modCl c f).accesses = s.accesses := rfl
@[simp] theorem State.modCl_mem (c : Nat) (f : Cluster → Cluster) : (s.modCl c f).mem = s.mem := rfl
@[simp] theorem State.modCl_hbm (c : Nat) (f : Cluster → Cluster) : (s.modCl c f).hbm = s.hbm := rfl
@[simp] theorem State.modCl_keys (c : Nat) (f : Cluster → Cluster) : (s.modCl c f).keys = s.keys := rfl
@[simp] theorem State.modCl_groups (c : Nat) (f : Cluster → Cluster) : (s.modCl c f).groups = s.groups := rfl
@[simp] theorem State.modCl_plans (c : Nat) (f : Cluster → Cluster) : (s.modCl c f).plans = s.plans := rfl
@[simp] theorem State.modCl_planSt (c : Nat) (f : Cluster → Cluster) : (s.modCl c f).planSt = s.planSt := rfl
@[simp] theorem State.modCl_drawers (c : Nat) (f : Cluster → Cluster) : (s.modCl c f).drawers = s.drawers := rfl
@[simp] theorem State.modCl_rings (c : Nat) (f : Cluster → Cluster) : (s.modCl c f).rings = s.rings := rfl
@[simp] theorem State.modCl_traces (c : Nat) (f : Cluster → Cluster) : (s.modCl c f).traces = s.traces := rfl
@[simp] theorem State.modCl_links (c : Nat) (f : Cluster → Cluster) : (s.modCl c f).links = s.links := rfl
@[simp] theorem State.modCl_mirrors (c : Nat) (f : Cluster → Cluster) : (s.modCl c f).mirrors = s.mirrors := rfl
@[simp] theorem State.modCl_send (c : Nat) (f : Cluster → Cluster) : (s.modCl c f).send = s.send := rfl
@[simp] theorem State.modCl_power (c : Nat) (f : Cluster → Cluster) : (s.modCl c f).power = s.power := rfl
@[simp] theorem State.modCl_reports (c : Nat) (f : Cluster → Cluster) : (s.modCl c f).reports = s.reports := rfl
@[simp] theorem State.modCl_defence (c : Nat) (f : Cluster → Cluster) : (s.modCl c f).defence = s.defence := rfl
@[simp] theorem State.modCl_boot (c : Nat) (f : Cluster → Cluster) : (s.modCl c f).boot = s.boot := rfl
@[simp] theorem State.modCl_service (c : Nat) (f : Cluster → Cluster) : (s.modCl c f).service = s.service := rfl

/-! ### setCo -/

@[simp] theorem State.setCo_pending (k : Nat) (x : Core) : (s.setCo k x).pending = s.pending := rfl
@[simp] theorem State.setCo_now (k : Nat) (x : Core) : (s.setCo k x).now = s.now := rfl
@[simp] theorem State.setCo_free (k : Nat) (x : Core) : (s.setCo k x).free = s.free := rfl
@[simp] theorem State.setCo_part (k : Nat) (x : Core) : (s.setCo k x).part = s.part := rfl
@[simp] theorem State.setCo_od (k : Nat) (x : Core) : (s.setCo k x).od = s.od := rfl
@[simp] theorem State.setCo_ctxs (k : Nat) (x : Core) : (s.setCo k x).ctxs = s.ctxs := rfl
@[simp] theorem State.setCo_clusters (k : Nat) (x : Core) : (s.setCo k x).clusters = s.clusters := rfl
@[simp] theorem State.setCo_cores (k : Nat) (x : Core) : (s.setCo k x).cores = Tbl.put s.cores {} k x := rfl
@[simp] theorem State.setCo_side (k : Nat) (x : Core) : (s.setCo k x).side = s.side := rfl
@[simp] theorem State.setCo_pkg (k : Nat) (x : Core) : (s.setCo k x).pkg = s.pkg := rfl
@[simp] theorem State.setCo_posts (k : Nat) (x : Core) : (s.setCo k x).posts = s.posts := rfl
@[simp] theorem State.setCo_moves (k : Nat) (x : Core) : (s.setCo k x).moves = s.moves := rfl
@[simp] theorem State.setCo_accesses (k : Nat) (x : Core) : (s.setCo k x).accesses = s.accesses := rfl
@[simp] theorem State.setCo_mem (k : Nat) (x : Core) : (s.setCo k x).mem = s.mem := rfl
@[simp] theorem State.setCo_hbm (k : Nat) (x : Core) : (s.setCo k x).hbm = s.hbm := rfl
@[simp] theorem State.setCo_keys (k : Nat) (x : Core) : (s.setCo k x).keys = s.keys := rfl
@[simp] theorem State.setCo_groups (k : Nat) (x : Core) : (s.setCo k x).groups = s.groups := rfl
@[simp] theorem State.setCo_plans (k : Nat) (x : Core) : (s.setCo k x).plans = s.plans := rfl
@[simp] theorem State.setCo_planSt (k : Nat) (x : Core) : (s.setCo k x).planSt = s.planSt := rfl
@[simp] theorem State.setCo_drawers (k : Nat) (x : Core) : (s.setCo k x).drawers = s.drawers := rfl
@[simp] theorem State.setCo_rings (k : Nat) (x : Core) : (s.setCo k x).rings = s.rings := rfl
@[simp] theorem State.setCo_traces (k : Nat) (x : Core) : (s.setCo k x).traces = s.traces := rfl
@[simp] theorem State.setCo_links (k : Nat) (x : Core) : (s.setCo k x).links = s.links := rfl
@[simp] theorem State.setCo_mirrors (k : Nat) (x : Core) : (s.setCo k x).mirrors = s.mirrors := rfl
@[simp] theorem State.setCo_send (k : Nat) (x : Core) : (s.setCo k x).send = s.send := rfl
@[simp] theorem State.setCo_power (k : Nat) (x : Core) : (s.setCo k x).power = s.power := rfl
@[simp] theorem State.setCo_reports (k : Nat) (x : Core) : (s.setCo k x).reports = s.reports := rfl
@[simp] theorem State.setCo_defence (k : Nat) (x : Core) : (s.setCo k x).defence = s.defence := rfl
@[simp] theorem State.setCo_boot (k : Nat) (x : Core) : (s.setCo k x).boot = s.boot := rfl
@[simp] theorem State.setCo_service (k : Nat) (x : Core) : (s.setCo k x).service = s.service := rfl

/-! ### modCo -/

@[simp] theorem State.modCo_pending (k : Nat) (f : Core → Core) : (s.modCo k f).pending = s.pending := rfl
@[simp] theorem State.modCo_now (k : Nat) (f : Core → Core) : (s.modCo k f).now = s.now := rfl
@[simp] theorem State.modCo_free (k : Nat) (f : Core → Core) : (s.modCo k f).free = s.free := rfl
@[simp] theorem State.modCo_part (k : Nat) (f : Core → Core) : (s.modCo k f).part = s.part := rfl
@[simp] theorem State.modCo_od (k : Nat) (f : Core → Core) : (s.modCo k f).od = s.od := rfl
@[simp] theorem State.modCo_ctxs (k : Nat) (f : Core → Core) : (s.modCo k f).ctxs = s.ctxs := rfl
@[simp] theorem State.modCo_clusters (k : Nat) (f : Core → Core) : (s.modCo k f).clusters = s.clusters := rfl
@[simp] theorem State.modCo_cores (k : Nat) (f : Core → Core) : (s.modCo k f).cores = Tbl.put s.cores {} k (f (s.co k)) := rfl
@[simp] theorem State.modCo_side (k : Nat) (f : Core → Core) : (s.modCo k f).side = s.side := rfl
@[simp] theorem State.modCo_pkg (k : Nat) (f : Core → Core) : (s.modCo k f).pkg = s.pkg := rfl
@[simp] theorem State.modCo_posts (k : Nat) (f : Core → Core) : (s.modCo k f).posts = s.posts := rfl
@[simp] theorem State.modCo_moves (k : Nat) (f : Core → Core) : (s.modCo k f).moves = s.moves := rfl
@[simp] theorem State.modCo_accesses (k : Nat) (f : Core → Core) : (s.modCo k f).accesses = s.accesses := rfl
@[simp] theorem State.modCo_mem (k : Nat) (f : Core → Core) : (s.modCo k f).mem = s.mem := rfl
@[simp] theorem State.modCo_hbm (k : Nat) (f : Core → Core) : (s.modCo k f).hbm = s.hbm := rfl
@[simp] theorem State.modCo_keys (k : Nat) (f : Core → Core) : (s.modCo k f).keys = s.keys := rfl
@[simp] theorem State.modCo_groups (k : Nat) (f : Core → Core) : (s.modCo k f).groups = s.groups := rfl
@[simp] theorem State.modCo_plans (k : Nat) (f : Core → Core) : (s.modCo k f).plans = s.plans := rfl
@[simp] theorem State.modCo_planSt (k : Nat) (f : Core → Core) : (s.modCo k f).planSt = s.planSt := rfl
@[simp] theorem State.modCo_drawers (k : Nat) (f : Core → Core) : (s.modCo k f).drawers = s.drawers := rfl
@[simp] theorem State.modCo_rings (k : Nat) (f : Core → Core) : (s.modCo k f).rings = s.rings := rfl
@[simp] theorem State.modCo_traces (k : Nat) (f : Core → Core) : (s.modCo k f).traces = s.traces := rfl
@[simp] theorem State.modCo_links (k : Nat) (f : Core → Core) : (s.modCo k f).links = s.links := rfl
@[simp] theorem State.modCo_mirrors (k : Nat) (f : Core → Core) : (s.modCo k f).mirrors = s.mirrors := rfl
@[simp] theorem State.modCo_send (k : Nat) (f : Core → Core) : (s.modCo k f).send = s.send := rfl
@[simp] theorem State.modCo_power (k : Nat) (f : Core → Core) : (s.modCo k f).power = s.power := rfl
@[simp] theorem State.modCo_reports (k : Nat) (f : Core → Core) : (s.modCo k f).reports = s.reports := rfl
@[simp] theorem State.modCo_defence (k : Nat) (f : Core → Core) : (s.modCo k f).defence = s.defence := rfl
@[simp] theorem State.modCo_boot (k : Nat) (f : Core → Core) : (s.modCo k f).boot = s.boot := rfl
@[simp] theorem State.modCo_service (k : Nat) (f : Core → Core) : (s.modCo k f).service = s.service := rfl

/-! ### setCx -/

@[simp] theorem State.setCx_pending (x : Nat) (c : Ctx) : (s.setCx x c).pending = s.pending := rfl
@[simp] theorem State.setCx_now (x : Nat) (c : Ctx) : (s.setCx x c).now = s.now := rfl
@[simp] theorem State.setCx_free (x : Nat) (c : Ctx) : (s.setCx x c).free = s.free := rfl
@[simp] theorem State.setCx_part (x : Nat) (c : Ctx) : (s.setCx x c).part = s.part := rfl
@[simp] theorem State.setCx_od (x : Nat) (c : Ctx) : (s.setCx x c).od = s.od := rfl
@[simp] theorem State.setCx_ctxs (x : Nat) (c : Ctx) : (s.setCx x c).ctxs = Tbl.put s.ctxs {} x c := rfl
@[simp] theorem State.setCx_clusters (x : Nat) (c : Ctx) : (s.setCx x c).clusters = s.clusters := rfl
@[simp] theorem State.setCx_cores (x : Nat) (c : Ctx) : (s.setCx x c).cores = s.cores := rfl
@[simp] theorem State.setCx_side (x : Nat) (c : Ctx) : (s.setCx x c).side = s.side := rfl
@[simp] theorem State.setCx_pkg (x : Nat) (c : Ctx) : (s.setCx x c).pkg = s.pkg := rfl
@[simp] theorem State.setCx_posts (x : Nat) (c : Ctx) : (s.setCx x c).posts = s.posts := rfl
@[simp] theorem State.setCx_moves (x : Nat) (c : Ctx) : (s.setCx x c).moves = s.moves := rfl
@[simp] theorem State.setCx_accesses (x : Nat) (c : Ctx) : (s.setCx x c).accesses = s.accesses := rfl
@[simp] theorem State.setCx_mem (x : Nat) (c : Ctx) : (s.setCx x c).mem = s.mem := rfl
@[simp] theorem State.setCx_hbm (x : Nat) (c : Ctx) : (s.setCx x c).hbm = s.hbm := rfl
@[simp] theorem State.setCx_keys (x : Nat) (c : Ctx) : (s.setCx x c).keys = s.keys := rfl
@[simp] theorem State.setCx_groups (x : Nat) (c : Ctx) : (s.setCx x c).groups = s.groups := rfl
@[simp] theorem State.setCx_plans (x : Nat) (c : Ctx) : (s.setCx x c).plans = s.plans := rfl
@[simp] theorem State.setCx_planSt (x : Nat) (c : Ctx) : (s.setCx x c).planSt = s.planSt := rfl
@[simp] theorem State.setCx_drawers (x : Nat) (c : Ctx) : (s.setCx x c).drawers = s.drawers := rfl
@[simp] theorem State.setCx_rings (x : Nat) (c : Ctx) : (s.setCx x c).rings = s.rings := rfl
@[simp] theorem State.setCx_traces (x : Nat) (c : Ctx) : (s.setCx x c).traces = s.traces := rfl
@[simp] theorem State.setCx_links (x : Nat) (c : Ctx) : (s.setCx x c).links = s.links := rfl
@[simp] theorem State.setCx_mirrors (x : Nat) (c : Ctx) : (s.setCx x c).mirrors = s.mirrors := rfl
@[simp] theorem State.setCx_send (x : Nat) (c : Ctx) : (s.setCx x c).send = s.send := rfl
@[simp] theorem State.setCx_power (x : Nat) (c : Ctx) : (s.setCx x c).power = s.power := rfl
@[simp] theorem State.setCx_reports (x : Nat) (c : Ctx) : (s.setCx x c).reports = s.reports := rfl
@[simp] theorem State.setCx_defence (x : Nat) (c : Ctx) : (s.setCx x c).defence = s.defence := rfl
@[simp] theorem State.setCx_boot (x : Nat) (c : Ctx) : (s.setCx x c).boot = s.boot := rfl
@[simp] theorem State.setCx_service (x : Nat) (c : Ctx) : (s.setCx x c).service = s.service := rfl

/-! ### modCx -/

@[simp] theorem State.modCx_pending (x : Nat) (f : Ctx → Ctx) : (s.modCx x f).pending = s.pending := rfl
@[simp] theorem State.modCx_now (x : Nat) (f : Ctx → Ctx) : (s.modCx x f).now = s.now := rfl
@[simp] theorem State.modCx_free (x : Nat) (f : Ctx → Ctx) : (s.modCx x f).free = s.free := rfl
@[simp] theorem State.modCx_part (x : Nat) (f : Ctx → Ctx) : (s.modCx x f).part = s.part := rfl
@[simp] theorem State.modCx_od (x : Nat) (f : Ctx → Ctx) : (s.modCx x f).od = s.od := rfl
@[simp] theorem State.modCx_ctxs (x : Nat) (f : Ctx → Ctx) : (s.modCx x f).ctxs = Tbl.put s.ctxs {} x (f (s.cx x)) := rfl
@[simp] theorem State.modCx_clusters (x : Nat) (f : Ctx → Ctx) : (s.modCx x f).clusters = s.clusters := rfl
@[simp] theorem State.modCx_cores (x : Nat) (f : Ctx → Ctx) : (s.modCx x f).cores = s.cores := rfl
@[simp] theorem State.modCx_side (x : Nat) (f : Ctx → Ctx) : (s.modCx x f).side = s.side := rfl
@[simp] theorem State.modCx_pkg (x : Nat) (f : Ctx → Ctx) : (s.modCx x f).pkg = s.pkg := rfl
@[simp] theorem State.modCx_posts (x : Nat) (f : Ctx → Ctx) : (s.modCx x f).posts = s.posts := rfl
@[simp] theorem State.modCx_moves (x : Nat) (f : Ctx → Ctx) : (s.modCx x f).moves = s.moves := rfl
@[simp] theorem State.modCx_accesses (x : Nat) (f : Ctx → Ctx) : (s.modCx x f).accesses = s.accesses := rfl
@[simp] theorem State.modCx_mem (x : Nat) (f : Ctx → Ctx) : (s.modCx x f).mem = s.mem := rfl
@[simp] theorem State.modCx_hbm (x : Nat) (f : Ctx → Ctx) : (s.modCx x f).hbm = s.hbm := rfl
@[simp] theorem State.modCx_keys (x : Nat) (f : Ctx → Ctx) : (s.modCx x f).keys = s.keys := rfl
@[simp] theorem State.modCx_groups (x : Nat) (f : Ctx → Ctx) : (s.modCx x f).groups = s.groups := rfl
@[simp] theorem State.modCx_plans (x : Nat) (f : Ctx → Ctx) : (s.modCx x f).plans = s.plans := rfl
@[simp] theorem State.modCx_planSt (x : Nat) (f : Ctx → Ctx) : (s.modCx x f).planSt = s.planSt := rfl
@[simp] theorem State.modCx_drawers (x : Nat) (f : Ctx → Ctx) : (s.modCx x f).drawers = s.drawers := rfl
@[simp] theorem State.modCx_rings (x : Nat) (f : Ctx → Ctx) : (s.modCx x f).rings = s.rings := rfl
@[simp] theorem State.modCx_traces (x : Nat) (f : Ctx → Ctx) : (s.modCx x f).traces = s.traces := rfl
@[simp] theorem State.modCx_links (x : Nat) (f : Ctx → Ctx) : (s.modCx x f).links = s.links := rfl
@[simp] theorem State.modCx_mirrors (x : Nat) (f : Ctx → Ctx) : (s.modCx x f).mirrors = s.mirrors := rfl
@[simp] theorem State.modCx_send (x : Nat) (f : Ctx → Ctx) : (s.modCx x f).send = s.send := rfl
@[simp] theorem State.modCx_power (x : Nat) (f : Ctx → Ctx) : (s.modCx x f).power = s.power := rfl
@[simp] theorem State.modCx_reports (x : Nat) (f : Ctx → Ctx) : (s.modCx x f).reports = s.reports := rfl
@[simp] theorem State.modCx_defence (x : Nat) (f : Ctx → Ctx) : (s.modCx x f).defence = s.defence := rfl
@[simp] theorem State.modCx_boot (x : Nat) (f : Ctx → Ctx) : (s.modCx x f).boot = s.boot := rfl
@[simp] theorem State.modCx_service (x : Nat) (f : Ctx → Ctx) : (s.modCx x f).service = s.service := rfl

/-! ### setPort -/

@[simp] theorem State.setPort_pending (q : Nat) (x : Port) : (s.setPort q x).pending = s.pending := rfl
@[simp] theorem State.setPort_now (q : Nat) (x : Port) : (s.setPort q x).now = s.now := rfl
@[simp] theorem State.setPort_free (q : Nat) (x : Port) : (s.setPort q x).free = s.free := rfl
@[simp] theorem State.setPort_part (q : Nat) (x : Port) : (s.setPort q x).part = s.part := rfl
@[simp] theorem State.setPort_od (q : Nat) (x : Port) : (s.setPort q x).od = s.od := rfl
@[simp] theorem State.setPort_ctxs (q : Nat) (x : Port) : (s.setPort q x).ctxs = s.ctxs := rfl
@[simp] theorem State.setPort_clusters (q : Nat) (x : Port) : (s.setPort q x).clusters = s.clusters := rfl
@[simp] theorem State.setPort_cores (q : Nat) (x : Port) : (s.setPort q x).cores = s.cores := rfl
@[simp] theorem State.setPort_side (q : Nat) (x : Port) : (s.setPort q x).side = s.side := rfl
@[simp] theorem State.setPort_pkg (q : Nat) (x : Port) : (s.setPort q x).pkg = s.pkg := rfl
@[simp] theorem State.setPort_posts (q : Nat) (x : Port) : (s.setPort q x).posts = s.posts := rfl
@[simp] theorem State.setPort_moves (q : Nat) (x : Port) : (s.setPort q x).moves = s.moves := rfl
@[simp] theorem State.setPort_accesses (q : Nat) (x : Port) : (s.setPort q x).accesses = s.accesses := rfl
@[simp] theorem State.setPort_mem (q : Nat) (x : Port) : (s.setPort q x).mem = s.mem := rfl
@[simp] theorem State.setPort_hbm (q : Nat) (x : Port) : (s.setPort q x).hbm = s.hbm := rfl
@[simp] theorem State.setPort_keys (q : Nat) (x : Port) : (s.setPort q x).keys = s.keys := rfl
@[simp] theorem State.setPort_groups (q : Nat) (x : Port) : (s.setPort q x).groups = s.groups := rfl
@[simp] theorem State.setPort_plans (q : Nat) (x : Port) : (s.setPort q x).plans = s.plans := rfl
@[simp] theorem State.setPort_planSt (q : Nat) (x : Port) : (s.setPort q x).planSt = s.planSt := rfl
@[simp] theorem State.setPort_drawers (q : Nat) (x : Port) : (s.setPort q x).drawers = s.drawers := rfl
@[simp] theorem State.setPort_rings (q : Nat) (x : Port) : (s.setPort q x).rings = s.rings := rfl
@[simp] theorem State.setPort_traces (q : Nat) (x : Port) : (s.setPort q x).traces = s.traces := rfl
@[simp] theorem State.setPort_links (q : Nat) (x : Port) : (s.setPort q x).links = { s.links with ports := Tbl.put s.links.ports {} q x } := rfl
@[simp] theorem State.setPort_mirrors (q : Nat) (x : Port) : (s.setPort q x).mirrors = s.mirrors := rfl
@[simp] theorem State.setPort_send (q : Nat) (x : Port) : (s.setPort q x).send = s.send := rfl
@[simp] theorem State.setPort_power (q : Nat) (x : Port) : (s.setPort q x).power = s.power := rfl
@[simp] theorem State.setPort_reports (q : Nat) (x : Port) : (s.setPort q x).reports = s.reports := rfl
@[simp] theorem State.setPort_defence (q : Nat) (x : Port) : (s.setPort q x).defence = s.defence := rfl
@[simp] theorem State.setPort_boot (q : Nat) (x : Port) : (s.setPort q x).boot = s.boot := rfl
@[simp] theorem State.setPort_service (q : Nat) (x : Port) : (s.setPort q x).service = s.service := rfl

/-! ### post -/

@[simp] theorem State.post_pending (p : Post) : (s.post p).pending = s.pending := rfl
@[simp] theorem State.post_now (p : Post) : (s.post p).now = s.now := rfl
@[simp] theorem State.post_free (p : Post) : (s.post p).free = s.free := rfl
@[simp] theorem State.post_part (p : Post) : (s.post p).part = s.part := rfl
@[simp] theorem State.post_od (p : Post) : (s.post p).od = s.od := rfl
@[simp] theorem State.post_ctxs (p : Post) : (s.post p).ctxs = s.ctxs := rfl
@[simp] theorem State.post_clusters (p : Post) : (s.post p).clusters = s.clusters := rfl
@[simp] theorem State.post_cores (p : Post) : (s.post p).cores = s.cores := rfl
@[simp] theorem State.post_side (p : Post) : (s.post p).side = s.side := rfl
@[simp] theorem State.post_pkg (p : Post) : (s.post p).pkg = s.pkg := rfl
@[simp] theorem State.post_posts (p : Post) : (s.post p).posts = s.posts ++ [p] := rfl
@[simp] theorem State.post_moves (p : Post) : (s.post p).moves = s.moves := rfl
@[simp] theorem State.post_accesses (p : Post) : (s.post p).accesses = s.accesses := rfl
@[simp] theorem State.post_mem (p : Post) : (s.post p).mem = s.mem := rfl
@[simp] theorem State.post_hbm (p : Post) : (s.post p).hbm = s.hbm := rfl
@[simp] theorem State.post_keys (p : Post) : (s.post p).keys = s.keys := rfl
@[simp] theorem State.post_groups (p : Post) : (s.post p).groups = s.groups := rfl
@[simp] theorem State.post_plans (p : Post) : (s.post p).plans = s.plans := rfl
@[simp] theorem State.post_planSt (p : Post) : (s.post p).planSt = s.planSt := rfl
@[simp] theorem State.post_drawers (p : Post) : (s.post p).drawers = s.drawers := rfl
@[simp] theorem State.post_rings (p : Post) : (s.post p).rings = s.rings := rfl
@[simp] theorem State.post_traces (p : Post) : (s.post p).traces = s.traces := rfl
@[simp] theorem State.post_links (p : Post) : (s.post p).links = s.links := rfl
@[simp] theorem State.post_mirrors (p : Post) : (s.post p).mirrors = s.mirrors := rfl
@[simp] theorem State.post_send (p : Post) : (s.post p).send = s.send := rfl
@[simp] theorem State.post_power (p : Post) : (s.post p).power = s.power := rfl
@[simp] theorem State.post_reports (p : Post) : (s.post p).reports = s.reports := rfl
@[simp] theorem State.post_defence (p : Post) : (s.post p).defence = s.defence := rfl
@[simp] theorem State.post_boot (p : Post) : (s.post p).boot = s.boot := rfl
@[simp] theorem State.post_service (p : Post) : (s.post p).service = s.service := rfl

/-! ### Accessors -/

@[simp] theorem State.setPar_cl (k v : Nat) (i : Nat) : (s.setPar k v).cl i = s.cl i := rfl
@[simp] theorem State.setPar_co (k v : Nat) (i : Nat) : (s.setPar k v).co i = s.co i := rfl
@[simp] theorem State.setPar_cx (k v : Nat) (i : Nat) : (s.setPar k v).cx i = s.cx i := rfl
@[simp] theorem State.setPar_port (k v : Nat) (i : Nat) : (s.setPar k v).port i = s.port i := rfl
@[simp] theorem State.setPar_sem (k v : Nat) (r : SemRef) : (s.setPar k v).sem r = s.sem r := by cases r <;> rfl
@[simp] theorem State.setPar_key (k v : Nat) (i : Nat) : (s.setPar k v).key i = s.key i := rfl
@[simp] theorem State.setPar_frozen (k v : Nat) (i : Nat) : (s.setPar k v).frozen i = s.frozen i := rfl
@[simp] theorem State.setPar_coresOf (k v : Nat) (i : Nat) : (s.setPar k v).coresOf i = s.coresOf i := rfl
@[simp] theorem State.setPar_masked (k v : Nat) (i m : Nat) : (s.setPar k v).masked i m = s.masked i m := rfl
@[simp] theorem State.setPar_odDflt (k v : Nat) (i : Nat) : (s.setPar k v).odDflt i = s.odDflt i := rfl
@[simp] theorem State.setPar_stale (k v : Nat) (i g : Nat) : (s.setPar k v).stale i g = s.stale i g := rfl
@[simp] theorem State.setPar_readSpace (k v : Nat) (a b n : Nat) : (s.setPar k v).readSpace a b n = s.readSpace a b n := rfl
@[simp] theorem State.setPar_stack (k v : Nat) (h : Nat) : (s.setPar k v).stack h = s.stack h := rfl
@[simp] theorem State.setPar_traceCap (k v : Nat) (d : Nat) : (s.setPar k v).traceCap d = s.traceCap d := rfl
@[simp] theorem State.setPar_eventWord (k v : Nat) (a b : Nat) : (s.setPar k v).eventWord a b = s.eventWord a b := rfl
@[simp] theorem State.bump_cl (k n : Nat) (i : Nat) : (s.bump k n).cl i = s.cl i := rfl
@[simp] theorem State.bump_co (k n : Nat) (i : Nat) : (s.bump k n).co i = s.co i := rfl
@[simp] theorem State.bump_cx (k n : Nat) (i : Nat) : (s.bump k n).cx i = s.cx i := rfl
@[simp] theorem State.bump_port (k n : Nat) (i : Nat) : (s.bump k n).port i = s.port i := rfl
@[simp] theorem State.bump_sem (k n : Nat) (r : SemRef) : (s.bump k n).sem r = s.sem r := by cases r <;> rfl
@[simp] theorem State.bump_key (k n : Nat) (i : Nat) : (s.bump k n).key i = s.key i := rfl
@[simp] theorem State.bump_frozen (k n : Nat) (i : Nat) : (s.bump k n).frozen i = s.frozen i := rfl
@[simp] theorem State.bump_coresOf (k n : Nat) (i : Nat) : (s.bump k n).coresOf i = s.coresOf i := rfl
@[simp] theorem State.bump_masked (k n : Nat) (i m : Nat) : (s.bump k n).masked i m = s.masked i m := rfl
@[simp] theorem State.bump_odDflt (k n : Nat) (i : Nat) : (s.bump k n).odDflt i = s.odDflt i := rfl
@[simp] theorem State.bump_stale (k n : Nat) (i g : Nat) : (s.bump k n).stale i g = s.stale i g := rfl
@[simp] theorem State.bump_readSpace (k n : Nat) (a b n : Nat) : (s.bump k n).readSpace a b n = s.readSpace a b n := rfl
@[simp] theorem State.bump_stack (k n : Nat) (h : Nat) : (s.bump k n).stack h = s.stack h := rfl
@[simp] theorem State.bump_traceCap (k n : Nat) (d : Nat) : (s.bump k n).traceCap d = s.traceCap d := rfl
@[simp] theorem State.bump_eventWord (k n : Nat) (a b : Nat) : (s.bump k n).eventWord a b = s.eventWord a b := rfl
@[simp] theorem State.reach_cl (t : Nat) (i : Nat) : (s.reach t).cl i = s.cl i := rfl
@[simp] theorem State.reach_co (t : Nat) (i : Nat) : (s.reach t).co i = s.co i := rfl
@[simp] theorem State.reach_cx (t : Nat) (i : Nat) : (s.reach t).cx i = s.cx i := rfl
@[simp] theorem State.reach_par (t : Nat) (i : Nat) : (s.reach t).par i = s.par i := rfl
@[simp] theorem State.reach_port (t : Nat) (i : Nat) : (s.reach t).port i = s.port i := rfl
@[simp] theorem State.reach_sem (t : Nat) (r : SemRef) : (s.reach t).sem r = s.sem r := by cases r <;> rfl
@[simp] theorem State.reach_key (t : Nat) (i : Nat) : (s.reach t).key i = s.key i := rfl
@[simp] theorem State.reach_frozen (t : Nat) (i : Nat) : (s.reach t).frozen i = s.frozen i := rfl
@[simp] theorem State.reach_coresOf (t : Nat) (i : Nat) : (s.reach t).coresOf i = s.coresOf i := rfl
@[simp] theorem State.reach_masked (t : Nat) (i m : Nat) : (s.reach t).masked i m = s.masked i m := rfl
@[simp] theorem State.reach_odDflt (t : Nat) (i : Nat) : (s.reach t).odDflt i = s.odDflt i := rfl
@[simp] theorem State.reach_traceCfg (t : Nat) (d hi lo : Nat) : (s.reach t).traceCfg d hi lo = s.traceCfg d hi lo := rfl
@[simp] theorem State.reach_stale (t : Nat) (i g : Nat) : (s.reach t).stale i g = s.stale i g := rfl
@[simp] theorem State.reach_keyOk (t : Nat) (y i : Nat) (a b : Bool) : (s.reach t).keyOk y i a b = s.keyOk y i a b := rfl
@[simp] theorem State.reach_readSpace (t : Nat) (a b n : Nat) : (s.reach t).readSpace a b n = s.readSpace a b n := rfl
@[simp] theorem State.reach_stack (t : Nat) (h : Nat) : (s.reach t).stack h = s.stack h := rfl
@[simp] theorem State.reach_traceCap (t : Nat) (d : Nat) : (s.reach t).traceCap d = s.traceCap d := rfl
@[simp] theorem State.draw_cl  (i : Nat) : (s.draw.2).cl i = s.cl i := rfl
@[simp] theorem State.draw_co  (i : Nat) : (s.draw.2).co i = s.co i := rfl
@[simp] theorem State.draw_cx  (i : Nat) : (s.draw.2).cx i = s.cx i := rfl
@[simp] theorem State.draw_par  (i : Nat) : (s.draw.2).par i = s.par i := rfl
@[simp] theorem State.draw_port  (i : Nat) : (s.draw.2).port i = s.port i := rfl
@[simp] theorem State.draw_sem  (r : SemRef) : (s.draw.2).sem r = s.sem r := by cases r <;> rfl
@[simp] theorem State.draw_key  (i : Nat) : (s.draw.2).key i = s.key i := rfl
@[simp] theorem State.draw_frozen  (i : Nat) : (s.draw.2).frozen i = s.frozen i := rfl
@[simp] theorem State.draw_coresOf  (i : Nat) : (s.draw.2).coresOf i = s.coresOf i := rfl
@[simp] theorem State.draw_masked  (i m : Nat) : (s.draw.2).masked i m = s.masked i m := rfl
@[simp] theorem State.draw_odDflt  (i : Nat) : (s.draw.2).odDflt i = s.odDflt i := rfl
@[simp] theorem State.draw_traceCfg  (d hi lo : Nat) : (s.draw.2).traceCfg d hi lo = s.traceCfg d hi lo := rfl
@[simp] theorem State.draw_stale  (i g : Nat) : (s.draw.2).stale i g = s.stale i g := rfl
@[simp] theorem State.draw_keyOk  (y i : Nat) (a b : Bool) : (s.draw.2).keyOk y i a b = s.keyOk y i a b := rfl
@[simp] theorem State.draw_readSpace  (a b n : Nat) : (s.draw.2).readSpace a b n = s.readSpace a b n := rfl
@[simp] theorem State.draw_stack  (h : Nat) : (s.draw.2).stack h = s.stack h := rfl
@[simp] theorem State.draw_traceCap  (d : Nat) : (s.draw.2).traceCap d = s.traceCap d := rfl
@[simp] theorem State.draw_eventWord  (a b : Nat) : (s.draw.2).eventWord a b = s.eventWord a b := rfl
@[simp] theorem State.setCl_co (c : Nat) (x : Cluster) (i : Nat) : (s.setCl c x).co i = s.co i := rfl
@[simp] theorem State.setCl_cx (c : Nat) (x : Cluster) (i : Nat) : (s.setCl c x).cx i = s.cx i := rfl
@[simp] theorem State.setCl_par (c : Nat) (x : Cluster) (i : Nat) : (s.setCl c x).par i = s.par i := rfl
@[simp] theorem State.setCl_port (c : Nat) (x : Cluster) (i : Nat) : (s.setCl c x).port i = s.port i := rfl
@[simp] theorem State.setCl_sem (c : Nat) (x : Cluster) (r : SemRef) : (s.setCl c x).sem r = s.sem r := by cases r <;> rfl
@[simp] theorem State.setCl_key (c : Nat) (x : Cluster) (i : Nat) : (s.setCl c x).key i = s.key i := rfl
@[simp] theorem State.setCl_frozen (c : Nat) (x : Cluster) (i : Nat) : (s.setCl c x).frozen i = s.frozen i := rfl
@[simp] theorem State.setCl_coresOf (c : Nat) (x : Cluster) (i : Nat) : (s.setCl c x).coresOf i = s.coresOf i := rfl
@[simp] theorem State.setCl_masked (c : Nat) (x : Cluster) (i m : Nat) : (s.setCl c x).masked i m = s.masked i m := rfl
@[simp] theorem State.setCl_odDflt (c : Nat) (x : Cluster) (i : Nat) : (s.setCl c x).odDflt i = s.odDflt i := rfl
@[simp] theorem State.setCl_traceCfg (c : Nat) (x : Cluster) (d hi lo : Nat) : (s.setCl c x).traceCfg d hi lo = s.traceCfg d hi lo := rfl
@[simp] theorem State.setCl_stale (c : Nat) (x : Cluster) (i g : Nat) : (s.setCl c x).stale i g = s.stale i g := rfl
@[simp] theorem State.setCl_keyOk (c : Nat) (x : Cluster) (y i : Nat) (a b : Bool) : (s.setCl c x).keyOk y i a b = s.keyOk y i a b := rfl
@[simp] theorem State.setCl_readSpace (c : Nat) (x : Cluster) (a b n : Nat) : (s.setCl c x).readSpace a b n = s.readSpace a b n := rfl
@[simp] theorem State.setCl_stack (c : Nat) (x : Cluster) (h : Nat) : (s.setCl c x).stack h = s.stack h := rfl
@[simp] theorem State.setCl_traceCap (c : Nat) (x : Cluster) (d : Nat) : (s.setCl c x).traceCap d = s.traceCap d := rfl
@[simp] theorem State.setCl_eventWord (c : Nat) (x : Cluster) (a b : Nat) : (s.setCl c x).eventWord a b = s.eventWord a b := rfl
@[simp] theorem State.modCl_co (c : Nat) (f : Cluster → Cluster) (i : Nat) : (s.modCl c f).co i = s.co i := rfl
@[simp] theorem State.modCl_cx (c : Nat) (f : Cluster → Cluster) (i : Nat) : (s.modCl c f).cx i = s.cx i := rfl
@[simp] theorem State.modCl_par (c : Nat) (f : Cluster → Cluster) (i : Nat) : (s.modCl c f).par i = s.par i := rfl
@[simp] theorem State.modCl_port (c : Nat) (f : Cluster → Cluster) (i : Nat) : (s.modCl c f).port i = s.port i := rfl
@[simp] theorem State.modCl_sem (c : Nat) (f : Cluster → Cluster) (r : SemRef) : (s.modCl c f).sem r = s.sem r := by cases r <;> rfl
@[simp] theorem State.modCl_key (c : Nat) (f : Cluster → Cluster) (i : Nat) : (s.modCl c f).key i = s.key i := rfl
@[simp] theorem State.modCl_frozen (c : Nat) (f : Cluster → Cluster) (i : Nat) : (s.modCl c f).frozen i = s.frozen i := rfl
@[simp] theorem State.modCl_coresOf (c : Nat) (f : Cluster → Cluster) (i : Nat) : (s.modCl c f).coresOf i = s.coresOf i := rfl
@[simp] theorem State.modCl_masked (c : Nat) (f : Cluster → Cluster) (i m : Nat) : (s.modCl c f).masked i m = s.masked i m := rfl
@[simp] theorem State.modCl_odDflt (c : Nat) (f : Cluster → Cluster) (i : Nat) : (s.modCl c f).odDflt i = s.odDflt i := rfl
@[simp] theorem State.modCl_traceCfg (c : Nat) (f : Cluster → Cluster) (d hi lo : Nat) : (s.modCl c f).traceCfg d hi lo = s.traceCfg d hi lo := rfl
@[simp] theorem State.modCl_stale (c : Nat) (f : Cluster → Cluster) (i g : Nat) : (s.modCl c f).stale i g = s.stale i g := rfl
@[simp] theorem State.modCl_keyOk (c : Nat) (f : Cluster → Cluster) (y i : Nat) (a b : Bool) : (s.modCl c f).keyOk y i a b = s.keyOk y i a b := rfl
@[simp] theorem State.modCl_readSpace (c : Nat) (f : Cluster → Cluster) (a b n : Nat) : (s.modCl c f).readSpace a b n = s.readSpace a b n := rfl
@[simp] theorem State.modCl_stack (c : Nat) (f : Cluster → Cluster) (h : Nat) : (s.modCl c f).stack h = s.stack h := rfl
@[simp] theorem State.modCl_traceCap (c : Nat) (f : Cluster → Cluster) (d : Nat) : (s.modCl c f).traceCap d = s.traceCap d := rfl
@[simp] theorem State.modCl_eventWord (c : Nat) (f : Cluster → Cluster) (a b : Nat) : (s.modCl c f).eventWord a b = s.eventWord a b := rfl
@[simp] theorem State.setCo_cl (k : Nat) (x : Core) (i : Nat) : (s.setCo k x).cl i = s.cl i := rfl
@[simp] theorem State.setCo_cx (k : Nat) (x : Core) (i : Nat) : (s.setCo k x).cx i = s.cx i := rfl
@[simp] theorem State.setCo_par (k : Nat) (x : Core) (i : Nat) : (s.setCo k x).par i = s.par i := rfl
@[simp] theorem State.setCo_port (k : Nat) (x : Core) (i : Nat) : (s.setCo k x).port i = s.port i := rfl
@[simp] theorem State.setCo_sem (k : Nat) (x : Core) (r : SemRef) : (s.setCo k x).sem r = s.sem r := by cases r <;> rfl
@[simp] theorem State.setCo_key (k : Nat) (x : Core) (i : Nat) : (s.setCo k x).key i = s.key i := rfl
@[simp] theorem State.setCo_frozen (k : Nat) (x : Core) (i : Nat) : (s.setCo k x).frozen i = s.frozen i := rfl
@[simp] theorem State.setCo_coresOf (k : Nat) (x : Core) (i : Nat) : (s.setCo k x).coresOf i = s.coresOf i := rfl
@[simp] theorem State.setCo_masked (k : Nat) (x : Core) (i m : Nat) : (s.setCo k x).masked i m = s.masked i m := rfl
@[simp] theorem State.setCo_odDflt (k : Nat) (x : Core) (i : Nat) : (s.setCo k x).odDflt i = s.odDflt i := rfl
@[simp] theorem State.setCo_traceCfg (k : Nat) (x : Core) (d hi lo : Nat) : (s.setCo k x).traceCfg d hi lo = s.traceCfg d hi lo := rfl
@[simp] theorem State.setCo_stale (k : Nat) (x : Core) (i g : Nat) : (s.setCo k x).stale i g = s.stale i g := rfl
@[simp] theorem State.setCo_keyOk (k : Nat) (x : Core) (y i : Nat) (a b : Bool) : (s.setCo k x).keyOk y i a b = s.keyOk y i a b := rfl
@[simp] theorem State.setCo_readSpace (k : Nat) (x : Core) (a b n : Nat) : (s.setCo k x).readSpace a b n = s.readSpace a b n := rfl
@[simp] theorem State.setCo_stack (k : Nat) (x : Core) (h : Nat) : (s.setCo k x).stack h = s.stack h := rfl
@[simp] theorem State.setCo_traceCap (k : Nat) (x : Core) (d : Nat) : (s.setCo k x).traceCap d = s.traceCap d := rfl
@[simp] theorem State.setCo_eventWord (k : Nat) (x : Core) (a b : Nat) : (s.setCo k x).eventWord a b = s.eventWord a b := rfl
@[simp] theorem State.modCo_cl (k : Nat) (f : Core → Core) (i : Nat) : (s.modCo k f).cl i = s.cl i := rfl
@[simp] theorem State.modCo_cx (k : Nat) (f : Core → Core) (i : Nat) : (s.modCo k f).cx i = s.cx i := rfl
@[simp] theorem State.modCo_par (k : Nat) (f : Core → Core) (i : Nat) : (s.modCo k f).par i = s.par i := rfl
@[simp] theorem State.modCo_port (k : Nat) (f : Core → Core) (i : Nat) : (s.modCo k f).port i = s.port i := rfl
@[simp] theorem State.modCo_sem (k : Nat) (f : Core → Core) (r : SemRef) : (s.modCo k f).sem r = s.sem r := by cases r <;> rfl
@[simp] theorem State.modCo_key (k : Nat) (f : Core → Core) (i : Nat) : (s.modCo k f).key i = s.key i := rfl
@[simp] theorem State.modCo_frozen (k : Nat) (f : Core → Core) (i : Nat) : (s.modCo k f).frozen i = s.frozen i := rfl
@[simp] theorem State.modCo_coresOf (k : Nat) (f : Core → Core) (i : Nat) : (s.modCo k f).coresOf i = s.coresOf i := rfl
@[simp] theorem State.modCo_masked (k : Nat) (f : Core → Core) (i m : Nat) : (s.modCo k f).masked i m = s.masked i m := rfl
@[simp] theorem State.modCo_odDflt (k : Nat) (f : Core → Core) (i : Nat) : (s.modCo k f).odDflt i = s.odDflt i := rfl
@[simp] theorem State.modCo_traceCfg (k : Nat) (f : Core → Core) (d hi lo : Nat) : (s.modCo k f).traceCfg d hi lo = s.traceCfg d hi lo := rfl
@[simp] theorem State.modCo_stale (k : Nat) (f : Core → Core) (i g : Nat) : (s.modCo k f).stale i g = s.stale i g := rfl
@[simp] theorem State.modCo_keyOk (k : Nat) (f : Core → Core) (y i : Nat) (a b : Bool) : (s.modCo k f).keyOk y i a b = s.keyOk y i a b := rfl
@[simp] theorem State.modCo_readSpace (k : Nat) (f : Core → Core) (a b n : Nat) : (s.modCo k f).readSpace a b n = s.readSpace a b n := rfl
@[simp] theorem State.modCo_stack (k : Nat) (f : Core → Core) (h : Nat) : (s.modCo k f).stack h = s.stack h := rfl
@[simp] theorem State.modCo_traceCap (k : Nat) (f : Core → Core) (d : Nat) : (s.modCo k f).traceCap d = s.traceCap d := rfl
@[simp] theorem State.modCo_eventWord (k : Nat) (f : Core → Core) (a b : Nat) : (s.modCo k f).eventWord a b = s.eventWord a b := rfl
@[simp] theorem State.setCx_cl (x : Nat) (c : Ctx) (i : Nat) : (s.setCx x c).cl i = s.cl i := rfl
@[simp] theorem State.setCx_co (x : Nat) (c : Ctx) (i : Nat) : (s.setCx x c).co i = s.co i := rfl
@[simp] theorem State.setCx_par (x : Nat) (c : Ctx) (i : Nat) : (s.setCx x c).par i = s.par i := rfl
@[simp] theorem State.setCx_port (x : Nat) (c : Ctx) (i : Nat) : (s.setCx x c).port i = s.port i := rfl
@[simp] theorem State.setCx_sem (x : Nat) (c : Ctx) (r : SemRef) : (s.setCx x c).sem r = s.sem r := by cases r <;> rfl
@[simp] theorem State.setCx_key (x : Nat) (c : Ctx) (i : Nat) : (s.setCx x c).key i = s.key i := rfl
@[simp] theorem State.setCx_frozen (x : Nat) (c : Ctx) (i : Nat) : (s.setCx x c).frozen i = s.frozen i := rfl
@[simp] theorem State.setCx_coresOf (x : Nat) (c : Ctx) (i : Nat) : (s.setCx x c).coresOf i = s.coresOf i := rfl
@[simp] theorem State.setCx_masked (x : Nat) (c : Ctx) (i m : Nat) : (s.setCx x c).masked i m = s.masked i m := rfl
@[simp] theorem State.setCx_odDflt (x : Nat) (c : Ctx) (i : Nat) : (s.setCx x c).odDflt i = s.odDflt i := rfl
@[simp] theorem State.setCx_traceCfg (x : Nat) (c : Ctx) (d hi lo : Nat) : (s.setCx x c).traceCfg d hi lo = s.traceCfg d hi lo := rfl
@[simp] theorem State.setCx_keyOk (x : Nat) (c : Ctx) (y i : Nat) (a b : Bool) : (s.setCx x c).keyOk y i a b = s.keyOk y i a b := rfl
@[simp] theorem State.setCx_readSpace (x : Nat) (c : Ctx) (a b n : Nat) : (s.setCx x c).readSpace a b n = s.readSpace a b n := rfl
@[simp] theorem State.setCx_stack (x : Nat) (c : Ctx) (h : Nat) : (s.setCx x c).stack h = s.stack h := rfl
@[simp] theorem State.setCx_traceCap (x : Nat) (c : Ctx) (d : Nat) : (s.setCx x c).traceCap d = s.traceCap d := rfl
@[simp] theorem State.setCx_eventWord (x : Nat) (c : Ctx) (a b : Nat) : (s.setCx x c).eventWord a b = s.eventWord a b := rfl
@[simp] theorem State.modCx_cl (x : Nat) (f : Ctx → Ctx) (i : Nat) : (s.modCx x f).cl i = s.cl i := rfl
@[simp] theorem State.modCx_co (x : Nat) (f : Ctx → Ctx) (i : Nat) : (s.modCx x f).co i = s.co i := rfl
@[simp] theorem State.modCx_par (x : Nat) (f : Ctx → Ctx) (i : Nat) : (s.modCx x f).par i = s.par i := rfl
@[simp] theorem State.modCx_port (x : Nat) (f : Ctx → Ctx) (i : Nat) : (s.modCx x f).port i = s.port i := rfl
@[simp] theorem State.modCx_sem (x : Nat) (f : Ctx → Ctx) (r : SemRef) : (s.modCx x f).sem r = s.sem r := by cases r <;> rfl
@[simp] theorem State.modCx_key (x : Nat) (f : Ctx → Ctx) (i : Nat) : (s.modCx x f).key i = s.key i := rfl
@[simp] theorem State.modCx_frozen (x : Nat) (f : Ctx → Ctx) (i : Nat) : (s.modCx x f).frozen i = s.frozen i := rfl
@[simp] theorem State.modCx_coresOf (x : Nat) (f : Ctx → Ctx) (i : Nat) : (s.modCx x f).coresOf i = s.coresOf i := rfl
@[simp] theorem State.modCx_masked (x : Nat) (f : Ctx → Ctx) (i m : Nat) : (s.modCx x f).masked i m = s.masked i m := rfl
@[simp] theorem State.modCx_odDflt (x : Nat) (f : Ctx → Ctx) (i : Nat) : (s.modCx x f).odDflt i = s.odDflt i := rfl
@[simp] theorem State.modCx_traceCfg (x : Nat) (f : Ctx → Ctx) (d hi lo : Nat) : (s.modCx x f).traceCfg d hi lo = s.traceCfg d hi lo := rfl
@[simp] theorem State.modCx_keyOk (x : Nat) (f : Ctx → Ctx) (y i : Nat) (a b : Bool) : (s.modCx x f).keyOk y i a b = s.keyOk y i a b := rfl
@[simp] theorem State.modCx_readSpace (x : Nat) (f : Ctx → Ctx) (a b n : Nat) : (s.modCx x f).readSpace a b n = s.readSpace a b n := rfl
@[simp] theorem State.modCx_stack (x : Nat) (f : Ctx → Ctx) (h : Nat) : (s.modCx x f).stack h = s.stack h := rfl
@[simp] theorem State.modCx_traceCap (x : Nat) (f : Ctx → Ctx) (d : Nat) : (s.modCx x f).traceCap d = s.traceCap d := rfl
@[simp] theorem State.modCx_eventWord (x : Nat) (f : Ctx → Ctx) (a b : Nat) : (s.modCx x f).eventWord a b = s.eventWord a b := rfl
@[simp] theorem State.setPort_cl (q : Nat) (x : Port) (i : Nat) : (s.setPort q x).cl i = s.cl i := rfl
@[simp] theorem State.setPort_co (q : Nat) (x : Port) (i : Nat) : (s.setPort q x).co i = s.co i := rfl
@[simp] theorem State.setPort_cx (q : Nat) (x : Port) (i : Nat) : (s.setPort q x).cx i = s.cx i := rfl
@[simp] theorem State.setPort_par (q : Nat) (x : Port) (i : Nat) : (s.setPort q x).par i = s.par i := rfl
@[simp] theorem State.setPort_sem (q : Nat) (x : Port) (r : SemRef) : (s.setPort q x).sem r = s.sem r := by cases r <;> rfl
@[simp] theorem State.setPort_key (q : Nat) (x : Port) (i : Nat) : (s.setPort q x).key i = s.key i := rfl
@[simp] theorem State.setPort_frozen (q : Nat) (x : Port) (i : Nat) : (s.setPort q x).frozen i = s.frozen i := rfl
@[simp] theorem State.setPort_coresOf (q : Nat) (x : Port) (i : Nat) : (s.setPort q x).coresOf i = s.coresOf i := rfl
@[simp] theorem State.setPort_masked (q : Nat) (x : Port) (i m : Nat) : (s.setPort q x).masked i m = s.masked i m := rfl
@[simp] theorem State.setPort_odDflt (q : Nat) (x : Port) (i : Nat) : (s.setPort q x).odDflt i = s.odDflt i := rfl
@[simp] theorem State.setPort_traceCfg (q : Nat) (x : Port) (d hi lo : Nat) : (s.setPort q x).traceCfg d hi lo = s.traceCfg d hi lo := rfl
@[simp] theorem State.setPort_stale (q : Nat) (x : Port) (i g : Nat) : (s.setPort q x).stale i g = s.stale i g := rfl
@[simp] theorem State.setPort_keyOk (q : Nat) (x : Port) (y i : Nat) (a b : Bool) : (s.setPort q x).keyOk y i a b = s.keyOk y i a b := rfl
@[simp] theorem State.setPort_readSpace (q : Nat) (x : Port) (a b n : Nat) : (s.setPort q x).readSpace a b n = s.readSpace a b n := rfl
@[simp] theorem State.setPort_stack (q : Nat) (x : Port) (h : Nat) : (s.setPort q x).stack h = s.stack h := rfl
@[simp] theorem State.setPort_traceCap (q : Nat) (x : Port) (d : Nat) : (s.setPort q x).traceCap d = s.traceCap d := rfl
@[simp] theorem State.setPort_eventWord (q : Nat) (x : Port) (a b : Nat) : (s.setPort q x).eventWord a b = s.eventWord a b := rfl
@[simp] theorem State.post_cl (p : Post) (i : Nat) : (s.post p).cl i = s.cl i := rfl
@[simp] theorem State.post_co (p : Post) (i : Nat) : (s.post p).co i = s.co i := rfl
@[simp] theorem State.post_cx (p : Post) (i : Nat) : (s.post p).cx i = s.cx i := rfl
@[simp] theorem State.post_par (p : Post) (i : Nat) : (s.post p).par i = s.par i := rfl
@[simp] theorem State.post_port (p : Post) (i : Nat) : (s.post p).port i = s.port i := rfl
@[simp] theorem State.post_sem (p : Post) (r : SemRef) : (s.post p).sem r = s.sem r := by cases r <;> rfl
@[simp] theorem State.post_key (p : Post) (i : Nat) : (s.post p).key i = s.key i := rfl
@[simp] theorem State.post_frozen (p : Post) (i : Nat) : (s.post p).frozen i = s.frozen i := rfl
@[simp] theorem State.post_coresOf (p : Post) (i : Nat) : (s.post p).coresOf i = s.coresOf i := rfl
@[simp] theorem State.post_masked (p : Post) (i m : Nat) : (s.post p).masked i m = s.masked i m := rfl
@[simp] theorem State.post_odDflt (p : Post) (i : Nat) : (s.post p).odDflt i = s.odDflt i := rfl
@[simp] theorem State.post_traceCfg (p : Post) (d hi lo : Nat) : (s.post p).traceCfg d hi lo = s.traceCfg d hi lo := rfl
@[simp] theorem State.post_stale (p : Post) (i g : Nat) : (s.post p).stale i g = s.stale i g := rfl
@[simp] theorem State.post_keyOk (p : Post) (y i : Nat) (a b : Bool) : (s.post p).keyOk y i a b = s.keyOk y i a b := rfl
@[simp] theorem State.post_readSpace (p : Post) (a b n : Nat) : (s.post p).readSpace a b n = s.readSpace a b n := rfl
@[simp] theorem State.post_stack (p : Post) (h : Nat) : (s.post p).stack h = s.stack h := rfl
@[simp] theorem State.post_traceCap (p : Post) (d : Nat) : (s.post p).traceCap d = s.traceCap d := rfl
@[simp] theorem State.post_eventWord (p : Post) (a b : Nat) : (s.post p).eventWord a b = s.eventWord a b := rfl

/-! ### What is read after it is written -/

theorem State.setCl_cl (c : Nat) (x : Cluster) (i : Nat) : (s.setCl c x).cl i = if i = c then x else s.cl i := by
  simp [State.cl, State.setCl, Tbl.get_put]
@[simp] theorem State.setCl_cl_same (c : Nat) (x : Cluster) : (s.setCl c x).cl c = x := by simp [State.setCl_cl]
theorem State.modCl_cl (c : Nat) (f : Cluster → Cluster) (i : Nat) : (s.modCl c f).cl i = if i = c then f (s.cl c) else s.cl i := by
  simp [State.cl, State.modCl, State.setCl, Tbl.get_put]
@[simp] theorem State.modCl_cl_same (c : Nat) (f : Cluster → Cluster) : (s.modCl c f).cl c = f (s.cl c) := by simp [State.modCl_cl]
theorem State.setCo_co (k : Nat) (x : Core) (i : Nat) : (s.setCo k x).co i = if i = k then x else s.co i := by
  simp [State.co, State.setCo, Tbl.get_put]
@[simp] theorem State.setCo_co_same (k : Nat) (x : Core) : (s.setCo k x).co k = x := by simp [State.setCo_co]
theorem State.modCo_co (k : Nat) (f : Core → Core) (i : Nat) : (s.modCo k f).co i = if i = k then f (s.co k) else s.co i := by
  simp [State.co, State.modCo, State.setCo, Tbl.get_put]
@[simp] theorem State.modCo_co_same (k : Nat) (f : Core → Core) : (s.modCo k f).co k = f (s.co k) := by simp [State.modCo_co]
theorem State.setCx_cx (x : Nat) (c : Ctx) (i : Nat) : (s.setCx x c).cx i = if i = x then c else s.cx i := by
  simp [State.cx, State.setCx, Tbl.get_put]
@[simp] theorem State.setCx_cx_same (x : Nat) (c : Ctx) : (s.setCx x c).cx x = c := by simp [State.setCx_cx]
theorem State.modCx_cx (x : Nat) (f : Ctx → Ctx) (i : Nat) : (s.modCx x f).cx i = if i = x then f (s.cx x) else s.cx i := by
  simp [State.cx, State.modCx, State.setCx, Tbl.get_put]
@[simp] theorem State.modCx_cx_same (x : Nat) (f : Ctx → Ctx) : (s.modCx x f).cx x = f (s.cx x) := by simp [State.modCx_cx]
theorem State.setPort_port (q : Nat) (x : Port) (i : Nat) : (s.setPort q x).port i = if i = q then x else s.port i := by
  simp [State.port, State.setPort, Tbl.get_put]
@[simp] theorem State.setPort_port_same (q : Nat) (x : Port) : (s.setPort q x).port q = x := by simp [State.setPort_port]
theorem State.setPar_par (k v i : Nat) : (s.setPar k v).par i = if i = k then v else s.par i := by
  by_cases h : i = k
  · subst h; simp [State.par, State.setPar, State.odDflt]
  · simp only [h, if_false]
    show Tbl.get (Tbl.put s.od (s.odDflt k) k v) (s.odDflt i) i = _
    unfold State.par Tbl.put
    split
    · rw [Tbl.get_drop, if_neg h]
    · rw [Tbl.get_insert _ _ _ _ _ (Tbl.drop_not_mem _ _), if_neg h, Tbl.get_drop, if_neg h]
@[simp] theorem State.setPar_par_same (k v : Nat) : (s.setPar k v).par k = v := by simp [State.setPar_par]
theorem State.bump_par (k n i : Nat) :
    (s.bump k n).par i = if i = k then (s.par k + n) % 2 ^ 64 else s.par i := State.setPar_par _ _ _ _
@[simp] theorem State.bump_par_same (k n : Nat) : (s.bump k n).par k = (s.par k + n) % 2 ^ 64 := by
  simp [State.bump_par]

end Sys2Proof.Machine
end

