-- ==== Sys2Proof/Laws/Ops.lean ====
section
/-!
SUPPORT. What shared operations can do at all, said once, so that no proof unfolds them to learn what they leave alone: a
command's end, the sending of messages, semaphore updates, the service memory's places.
-/

namespace Sys2Proof.Machine

variable (s : State)

/-! ### How a command ends -/

/-- A command always answers a next state when it ends by `ends`; the queue and the part's fixed facts stay. -/
theorem State.ends_next (t : State) :
    ∃ u, s.ends t = .next u ∧ u.pending = s.pending ∧ u.part = s.part := ⟨_, rfl, rfl, rfl⟩

/-! ### Sending changes nothing but the links -/

theorem State.sendOn_links (q : Nat) (p : Port) : ∃ l, s.sendOn q p = { s with links := l } := by
  unfold State.sendOn
  dsimp only
  split
  · exact ⟨_, rfl⟩
  · exact ⟨_, rfl⟩

theorem State.toPort_links (q : Nat) (m : Msg) : ∃ l, s.toPort q m = { s with links := l } :=
  s.sendOn_links q _

theorem State.pumpPort_links (q : Nat) : ∃ l, s.pumpPort q = { s with links := l } := s.sendOn_links q _

theorem State.sendMask_links (mask : Nat) (m : Msg) : ∃ l, s.sendMask mask m = { s with links := l } := by
  unfold State.sendMask
  split
  · exact s.toPort_links _ _
  · exact ⟨_, rfl⟩

/-- The links are all that two updates of them change. -/
theorem State.links_links {s t u : State} (h : ∃ l, t = { s with links := l }) (k : ∃ l, u = { t with links := l }) :
    ∃ l, u = { s with links := l } := by
  obtain ⟨l, rfl⟩ := h
  obtain ⟨m, rfl⟩ := k
  exact ⟨m, rfl⟩

theorem State.foldl_links {α : Type} (f : State → α → State) (h : ∀ s a, ∃ l, f s a = { s with links := l })
    (as : List α) (t : State) (ht : ∃ l, t = { s with links := l }) : ∃ l, as.foldl f t = { s with links := l } := by
  induction as generalizing t with
  | nil => exact ht
  | cons a as ih => exact ih _ (State.links_links ht (h t a))

theorem State.unpark_links : ∃ l, s.unpark = { s with links := l } :=
  State.foldl_links s (fun (t : State) (p : Nat × Msg) => t.sendMask p.1 p.2) (fun t p => t.sendMask_links p.1 p.2)
    s.links.parked { s with links := { s.links with parked := [] } } ⟨{ s.links with parked := [] }, rfl⟩

/-! ### Semaphore updates -/

/-- A semaphore's new value is read back, and every other keeps its value. -/
theorem State.putSem_side (c i d j : Nat) (v : BitVec 24) :
    (s.putSem (.side c i) v).sem (.side d j) = if d * 4096 + j = c * 4096 + i then v else s.sem (.side d j) := by
  simp [State.putSem, State.sem, Tbl.get_put]

theorem State.putSem_pkg (n i m j : Nat) (v : BitVec 24) :
    (s.putSem (.pkg n i) v).sem (.pkg m j) = if m * 16384 + j = n * 16384 + i then v else s.sem (.pkg m j) := by
  simp [State.putSem, State.sem, Tbl.get_put]

/-- A grant changes no semaphore: it only tests the waits of the streams (R200). -/
@[simp] theorem State.grant_sem (r q : SemRef) : (s.grant r).sem q = s.sem q := by cases q <;> rfl

/-- An ADD or SUB gives its semaphore the sum or the difference, modulo 2^24 (R197). -/
theorem State.applySem_sem (r : SemRef) (sub : Bool) (v : Nat) :
    (s.applySem r sub v).sem r = if sub then s.sem r - BitVec.ofNat 24 v else s.sem r + BitVec.ofNat 24 v := by
  cases r <;> simp [State.applySem, State.putSem_side, State.putSem_pkg]

/-! ### Service memory -/

/-- On `n` packages, with 4n channels, no two bytes of service memory lie in one place (R382, R383). -/
theorem lpddr_place_inj (l : Nat) (x y : Nat)
    (hc : x / 64 % l = y / 64 % l) (hb : 64 * (x / (64 * l)) + x % 64 = 64 * (y / (64 * l)) + y % 64) : x = y := by
  have h1 := Nat.div_div_eq_div_mul x 64 l
  have h2 := Nat.div_div_eq_div_mul y 64 l
  have h3 := Nat.div_add_mod (x / 64) l
  have h4 := Nat.div_add_mod (y / 64) l
  have e : x / (64 * l) = y / (64 * l) := by omega
  rw [h1, e] at h3
  rw [h2] at h4
  have : x / 64 = y / 64 := by omega
  omega

end Sys2Proof.Machine
end

