-- ==== Sys2Proof/Laws/Store.lean ====
section
/-!
SUPPORT. The laws of byte stores: a read after a write, what a write leaves alone, and the canonical form, which every
operation on a store keeps.
-/

namespace Sys2Proof.Machine

theorem cellsWf_iff (blank : Nat → BitVec 8) (lo : Nat) (l : List (Nat × BitVec 8)) :
    cellsWf blank lo l = true ↔
      (l.map (·.1)).Pairwise (· < ·) ∧ (∀ c ∈ l, lo ≤ c.1) ∧ ∀ c ∈ l, c.2 ≠ blank c.1 := by
  induction l generalizing lo with
  | nil => simp [cellsWf]
  | cons p r ih =>
    obtain ⟨a, b⟩ := p
    simp only [cellsWf, Bool.and_eq_true, decide_eq_true_eq, ih, List.map_cons, List.pairwise_cons,
      List.mem_cons, forall_eq_or_imp, List.mem_map, forall_exists_index, and_imp]
    constructor
    · rintro ⟨⟨h1, h2⟩, h3, h4, h5⟩
      refine ⟨⟨fun x p hp e => by have := h4 p hp; omega, h3⟩, ⟨h1, fun p hp => by have := h4 p hp; omega⟩, h2, h5⟩
    · rintro ⟨⟨h1, h3⟩, ⟨h4, _⟩, h2, h5⟩
      exact ⟨⟨h4, h2⟩, h3, fun p hp => h1 p.1 p hp rfl, h5⟩

/-- The canonical form of a store, said of its list of cells. -/
theorem Store.wf_iff (m : Store) :
    m.wf = true ↔ (m.cells.map (·.1)).Pairwise (· < ·) ∧ ∀ c ∈ m.cells, c.2 ≠ m.blank c.1 := by
  simp [Store.wf, cellsWf_iff]

theorem Tbl.get_append {α : Type} (l r : Tbl α) (d : α) (a : Nat) :
    Tbl.get (l ++ r) d a = if a ∈ l.map (·.1) then Tbl.get l d a else Tbl.get r d a := by
  induction l with
  | nil => simp [Tbl.get]
  | cons p l ih =>
    simp only [List.cons_append, Tbl.get, ih, List.map_cons, List.mem_cons]
    by_cases h : p.1 = a
    · simp [h]
    · have h' : ¬a = p.1 := fun e => h e.symm
      simp only [h, h', if_false, false_or]

theorem Tbl.get_none {α : Type} (l : Tbl α) (d : α) (a : Nat) (h : a ∉ l.map (·.1)) : Tbl.get l d a = d := by
  induction l with
  | nil => rfl
  | cons p l ih =>
    simp only [List.map_cons, List.mem_cons, not_or] at h
    simp only [Tbl.get, if_neg (Ne.symm h.1), ih h.2]

theorem Tbl.get_filter {α : Type} (l : Tbl α) (d : α) (a : Nat) (g : Nat → Bool) :
    Tbl.get (l.filter (fun c => g c.1)) d a = if g a = true then Tbl.get l d a else d := by
  induction l with
  | nil => simp [Tbl.get]
  | cons p l ih =>
    by_cases hp : g p.1 = true
    · rw [List.filter_cons_of_pos (by simpa using hp)]
      simp only [Tbl.get, ih]
      by_cases ha : p.1 = a
      · subst ha; simp [hp]
      · simp [ha]
    · rw [List.filter_cons_of_neg (by simpa using hp), ih]
      simp only [Tbl.get]
      by_cases ha : p.1 = a
      · subst ha; simp [hp]
      · simp [ha]

/-- The bytes that a write lists, as a function of the address. -/
theorem Store.get_listed (m : Store) (bs : List Nat) (a n x : Nat) :
    Tbl.get ((bs.zipIdx n).filterMap (fun p =>
      let b := BitVec.ofNat 8 p.1
      if b = m.blank (a + p.2) then none else some (a + p.2, b))) (m.blank x) x
      = if a + n ≤ x ∧ x < a + n + bs.length then BitVec.ofNat 8 (bs.getD (x - (a + n)) 0) else m.blank x := by
  induction bs generalizing n with
  | nil => simp [Tbl.get]
  | cons b bs ih =>
    simp only [List.zipIdx_cons, List.filterMap_cons]
    by_cases hb : BitVec.ofNat 8 b = m.blank (a + n)
    · simp only [hb, if_true]
      rw [ih (n + 1)]
      by_cases hx : x = a + n
      · subst hx
        rw [if_neg (by omega), if_pos (by simp)]
        simp [hb]
      · by_cases h1 : a + (n + 1) ≤ x ∧ x < a + (n + 1) + bs.length
        · rw [if_pos h1, if_pos (by simp only [List.length_cons]; omega)]
          have : x - (a + n) = (x - (a + (n + 1))) + 1 := by omega
          rw [this, List.getD_cons_succ]
        · rw [if_neg h1, if_neg (by simp only [List.length_cons]; omega)]
    · simp only [hb, if_false, Tbl.get]
      rw [ih (n + 1)]
      by_cases hx : a + n = x
      · rw [if_pos hx, if_pos (by simp only [List.length_cons]; omega)]
        subst hx; simp
      · rw [if_neg hx]
        by_cases h1 : a + (n + 1) ≤ x ∧ x < a + (n + 1) + bs.length
        · rw [if_pos h1, if_pos (by simp only [List.length_cons]; omega)]
          have : x - (a + n) = (x - (a + (n + 1))) + 1 := by omega
          rw [this, List.getD_cons_succ]
        · rw [if_neg h1, if_neg (by simp only [List.length_cons]; omega)]

theorem Store.listed_addr (m : Store) (bs : List Nat) (a n : Nat) (c : Nat × BitVec 8)
    (h : c ∈ (bs.zipIdx n).filterMap (fun p =>
      let b := BitVec.ofNat 8 p.1
      if b = m.blank (a + p.2) then none else some (a + p.2, b))) :
    a + n ≤ c.1 ∧ c.1 < a + n + bs.length ∧ c.2 ≠ m.blank c.1 := by
  simp only [List.mem_filterMap, Prod.exists, Option.ite_none_left_eq_some, Option.some.injEq] at h
  obtain ⟨b, i, hm, hne, rfl⟩ := h
  have := List.mem_zipIdx hm
  refine ⟨by dsimp; omega, by dsimp; omega, hne⟩

@[simp] theorem Store.blank_write (m : Store) (a : Nat) (bs : List Nat) (x : Nat) :
    (m.write a bs).blank x = m.blank x := rfl

theorem Tbl.get_append_left {α : Type} (l r : Tbl α) (d : α) (a : Nat) (h : a ∉ r.map (·.1)) :
    Tbl.get (l ++ r) d a = Tbl.get l d a := by
  rw [Tbl.get_append]
  split
  · rfl
  · rename_i hl
    rw [Tbl.get_none r d a h, Tbl.get_none l d a hl]

theorem Tbl.get_append_right {α : Type} (l r : Tbl α) (d : α) (a : Nat) (h : a ∉ l.map (·.1)) :
    Tbl.get (l ++ r) d a = Tbl.get r d a := by rw [Tbl.get_append, if_neg h]

/-- A read after a write: the bytes written read as written, every other byte as before. -/
theorem Store.byte_write (m : Store) (a : Nat) (bs : List Nat) (x : Nat) :
    (m.write a bs).byte x
      = if a ≤ x ∧ x < a + bs.length then BitVec.ofNat 8 (bs.getD (x - a) 0) else m.byte x := by
  unfold Store.byte cellGet
  rw [Store.blank_write]
  have hl := Store.get_listed m bs a 0 x
  simp only [Nat.add_zero] at hl
  have f1 := Tbl.get_filter m.cells (m.blank x) x (fun i => decide (i < a))
  have f2 := Tbl.get_filter m.cells (m.blank x) x (fun i => decide (a + bs.length ≤ i))
  simp only [decide_eq_true_eq] at f1 f2
  have hA : ¬ x < a → x ∉ List.map (·.1) (m.cells.filter (fun c => decide (c.1 < a))) := by
    intro hx h
    obtain ⟨c, hc, rfl⟩ := List.mem_map.1 h
    simp at hc; omega
  have hC : ¬ a + bs.length ≤ x → x ∉ List.map (·.1) (m.cells.filter (fun c => decide (a + bs.length ≤ c.1))) := by
    intro hx h
    obtain ⟨c, hc, rfl⟩ := List.mem_map.1 h
    simp at hc; omega
  have hB : ¬ (a ≤ x ∧ x < a + bs.length) → x ∉ List.map (·.1) (m.listed a bs) := by
    intro hx h
    obtain ⟨c, hc, rfl⟩ := List.mem_map.1 h
    have := Store.listed_addr m bs a 0 c hc; omega
  show Tbl.get ((m.cells.filter (fun c => decide (c.1 < a)) ++ m.listed a bs)
      ++ m.cells.filter (fun c => decide (a + bs.length ≤ c.1))) (m.blank x) x = _
  by_cases hx : x < a
  · rw [Tbl.get_append_left _ _ _ _ (hC (by omega)), Tbl.get_append_left _ _ _ _ (hB (by omega)), f1, if_pos hx,
      if_neg (by omega)]
  · by_cases hin : a ≤ x ∧ x < a + bs.length
    · rw [Tbl.get_append_left _ _ _ _ (hC (by omega)), Tbl.get_append_right _ _ _ _ (hA hx)]
      rw [if_pos hin] at hl ⊢
      exact hl
    · rw [Tbl.get_append_right, f2, if_pos (by omega), if_neg hin]
      rw [List.map_append, List.mem_append]
      exact fun h => h.elim (hA hx) (hB hin)

theorem Store.byte_write_out (m : Store) (a : Nat) (bs : List Nat) (x : Nat) (h : x < a ∨ a + bs.length ≤ x) :
    (m.write a bs).byte x = m.byte x := by rw [Store.byte_write, if_neg (by omega)]

/-- A write keeps the canonical form. -/
theorem Store.wf_write (m : Store) (a : Nat) (bs : List Nat) (h : m.wf = true) : (m.write a bs).wf = true := by
  rw [Store.wf_iff] at h ⊢
  obtain ⟨hp, hb⟩ := h
  have hs (f : Nat × BitVec 8 → Bool) : ((m.cells.filter f).map (·.1)).Pairwise (· < ·) :=
    hp.sublist (List.filter_sublist.map _)
  have key : ∀ n, ((((bs.zipIdx n).filterMap (fun p =>
      let b := BitVec.ofNat 8 p.1
      if b = m.blank (a + p.2) then none else some (a + p.2, b))) : List (Nat × BitVec 8)).map (·.1)).Pairwise (· < ·) := by
    induction bs with
    | nil => simp
    | cons b bs ih =>
      intro n
      simp only [List.zipIdx_cons, List.filterMap_cons]
      by_cases hb : BitVec.ofNat 8 b = m.blank (a + n)
      · simp only [hb, if_true]; exact ih (n + 1)
      · simp only [hb, if_false, List.map_cons, List.pairwise_cons]
        refine ⟨fun x hx => ?_, ih (n + 1)⟩
        obtain ⟨c, hc, rfl⟩ := List.mem_map.1 hx
        have := (Store.listed_addr m bs a (n + 1) c hc).1; omega
  constructor
  · simp only [Store.write, List.map_append, List.pairwise_append]
    refine ⟨⟨hs _, key 0, ?_⟩, hs _, ?_⟩
    · intro x hx y hy
      obtain ⟨c, hc, rfl⟩ := List.mem_map.1 hx
      obtain ⟨e, he, rfl⟩ := List.mem_map.1 hy
      have := (Store.listed_addr m bs a 0 e he).1
      simp at hc; omega
    · intro x hx y hy
      obtain ⟨e, he, rfl⟩ := List.mem_map.1 hy
      simp only [List.mem_filter, decide_eq_true_eq] at he
      rcases List.mem_append.1 hx with hx | hx
      · obtain ⟨c, hc, rfl⟩ := List.mem_map.1 hx
        simp at hc; omega
      · obtain ⟨c, hc, rfl⟩ := List.mem_map.1 hx
        have := (Store.listed_addr m bs a 0 c hc).2.1; omega
  · intro c hc
    simp only [Store.write, List.mem_append, List.mem_filter] at hc
    rcases hc with (hc | hc) | hc
    · exact hb c hc.1
    · exact (Store.listed_addr m bs a 0 c hc).2.2
    · exact hb c hc.1

/-- Losing the contents of a region keeps the canonical form. -/
theorem Store.wf_lose (m : Store) (r : Nat) (h : m.wf = true) : (m.lose r).wf = true := by
  rw [Store.wf_iff] at h ⊢
  refine ⟨h.1.sublist (List.filter_sublist.map _), fun c hc => ?_⟩
  simp only [Store.lose, List.mem_filter, decide_eq_true_eq] at hc
  have := h.2 c hc.1
  simpa [Store.blank, Store.lose, Tbl.get_put, hc.2] using this

/-- Losing all contents keeps the canonical form. -/
theorem Store.wf_wipe (m : Store) : m.wipe.wf = true := rfl

theorem Store.wf_loseAll (m : Store) (l : List Nat) (h : m.wf = true) : (l.foldl Store.lose m).wf = true := by
  induction l generalizing m with
  | nil => exact h
  | cons r l ih => exact ih _ (m.wf_lose r h)

/-- A sequence of writes keeps the canonical form. -/
theorem Store.wf_writes {α : Type} (l : List α) (a : α → Nat) (b : α → List Nat) (m : Store) (h : m.wf = true) :
    (l.foldl (fun m p => m.write (a p) (b p)) m).wf = true := by
  induction l generalizing m with
  | nil => exact h
  | cons p l ih => exact ih _ (m.wf_write _ _ h)

theorem Memory.wf_iff (m : Memory) :
    m.wf = true ↔ m.hbm.wf = true ∧ m.shelf.wf = true ∧ m.service.wf = true := by
  simp [Memory.wf, and_assoc]

end Sys2Proof.Machine
end

