-- ==== Sys2Proof/Tests/Slice0.lean ====
section
/-!
SUPPORT. Tests of the model: the well-formedness checks on ill-formed commands, the spec's worked examples, single steps
on small states, and for every statement with hypotheses a state and operands that meet them.
-/

open Sys2Proof Sys2Proof.Machine Sys2Proof.Claims

namespace Sys2Proof.Tests

set_option Elab.async false

/-! ### Well-formedness: each check refuses an ill-formed command -/

/-- Port 18 lies on IO2, which an SW-680 does not have (R2, R12). -/
theorem test_wf_port : (Instr.linkPortReset 18).wellFormed {} = false ∧ (Instr.linkPortReset 17).wellFormed {} = true := by
  decide
/-- An SW-680 has IO0 and IO1 alone (R12). -/
theorem test_wf_io : (Instr.epEntryWrite 2 0 0).wellFormed {} = false ∧ (Instr.epEntryWrite 1 0 0).wellFormed {} = true := by
  decide
/-- Core 3 of die 0 is fused in the map 0x4000000100200008 (R21). -/
theorem test_wf_core : (Instr.coreReset 3).wellFormed {} = false ∧ (Instr.coreReset 4).wellFormed {} = true := by decide
/-- Site H4 of an SW-680 holds no stack (R12). -/
theorem test_wf_site : (Instr.hbmTgDone 4 0 none).wellFormed {} = false ∧ (Instr.hbmTgDone 3 0 none).wellFormed {} = true := by
  decide
/-- A message has at least its common slot and at most 519 slots (R406). -/
theorem test_wf_message : (Instr.write []).wellFormed {} = false ∧ (Instr.write (List.replicate 519 0)).wellFormed {} = true ∧
    (Instr.write (List.replicate 520 0)).wellFormed {} = false := by decide +kernel
/-- A management request has its two header slots and at most 64 slots of data (R528). -/
theorem test_wf_request : (Instr.mgmtRead 0 [0]).wellFormed {} = false ∧
    (Instr.mgmtRead 0 (List.replicate 66 0)).wellFormed {} = true ∧
    (Instr.mgmtRead 0 (List.replicate 67 0)).wellFormed {} = false := by decide +kernel
/-- JOB_MEMBERSHIP holds no flags that a written 1 clears. -/
theorem test_wf_flags : (Instr.statusFlagClear K.JOB_MEMBERSHIP 1).wellFormed {} = false ∧
    (Instr.statusFlagClear K.SYNC_STATUS 1).wellFormed {} = true := by decide
/-- The trip record numbers sensors up to 46. -/
theorem test_wf_sensor : (Instr.thermtrip 47 0).wellFormed {} = false ∧ (Instr.thermtrip 46 0).wellFormed {} = true := by decide
/-- A pair of codewords comes by a port that the part has. -/
theorem test_wf_pair : (Instr.codewordReceive 18 ⟨none, none, 0, 0, 0, 0⟩).wellFormed {} = false ∧
    (Instr.codewordReceive 17 ⟨none, none, 0, 0, 0, 0⟩).wellFormed {} = true := by decide
/-- A memory error names a site with a stack and an enabled core. -/
theorem test_wf_access : (Instr.memoryAccessArrival (.hbm 5 true 0 0)).wellFormed {} = false ∧
    (Instr.memoryAccessArrival (.qstore 3 0 false 0 true 0)).wellFormed {} = false ∧
    (Instr.memoryAccessArrival (.hbm 6 true 0xBFFFFFFFF 0)).wellFormed {} = true := by decide
/-- A boot counts failed trainings for at most twelve sites. -/
theorem test_wf_boot : (Instr.coldBoot { failed := List.replicate 13 0 }).wellFormed {} = false ∧
    (Instr.coldBoot { spares := List.replicate 65 true }).wellFormed {} = false ∧
    (Instr.coldBoot {}).wellFormed {} = true := by decide +kernel

/-! ### Numbers: the worked examples of chapters 02 and 07 -/

/-- R46's example: 3 × 2^-13 encodes into UL8 as 178. -/
theorem test_ul8_example : (encodeUL8 (.fin false 3 (-13))).code = 178 := by decide +kernel
/-- R46: a negative value and a NaN give 0xFF, a value above code 254 gives 254, -0 gives 0. -/
theorem test_ul8_corners : (encodeUL8 (.fin true 1 0)).code = 255 ∧ (encodeUL8 .nan).code = 255 ∧
    (encodeUL8 (.fin false 1 60)).code = 254 ∧ (encodeUL8 (.fin true 0 0)).code = 0 := by decide +kernel
/-- R54's example: a group bound for E4M3 with largest magnitude 1,000.3 takes t = 2; its elements 1,000.3 and 3.3 get
the codes 0x78 and 0x35. -/
theorem test_fp8_example : groupScale .e4m3 8194458 (-13) = 2 ∧ (roundMX .e4m3 .nearest 2 (.fin false 8194458 (-13))).code = 0x78 ∧
    (roundMX .e4m3 .nearest 2 (.fin false 13841203 (-22))).code = 0x35 := by decide +kernel
/-- R53: BF16 rounds the largest finite FP32 value to infinity. -/
theorem test_bf16_overflow : (roundIeee .bf16 .nearest (.fin false 0xFFFFFF 104)).code = 0x7F80 := by decide +kernel
/-- R49: half the smallest normal FP32 value flushes to a zero of its sign. -/
theorem test_fp32_flush : (roundIeee .fp32 .nearest (.fin true 1 (-127))).code = 0x80000000 ∧
    (roundIeee .fp32 .nearest (.fin true 1 (-127))).flush = true := by decide +kernel
/-- A tie goes to the even code: 1 + 2^-8 lies between the BF16 codes 0x3F80 and 0x3F81. -/
theorem test_bf16_tie : (roundIeee .bf16 .nearest (.fin false 257 (-8))).code = 0x3F80 ∧
    (roundIeee .bf16 .nearest (.fin false 259 (-8))).code = 0x3F82 := by decide +kernel
/-- R198's example: 0xFFFFF0 does not satisfy 0x000010, 0x000010 does, and 0x000004 satisfies 0xFFFFF8. -/
theorem test_wait_ge : waitGe 0xFFFFF0 0x10 = false ∧ waitGe 0x10 0x10 = true ∧ waitGe 4 0xFFFFF8 = true := by decide
/-- CRC-32C of the nine digits (R9: the Castagnoli polynomial). -/
theorem test_crc : crc32c [0x31, 0x32, 0x33, 0x34, 0x35, 0x36, 0x37, 0x38, 0x39] = 0xE3069283 := by decide +kernel
/-- The first example of chapter 03: column 0 of an FP8 product at anchor 16 holds 2^76, column 1 holds −7 × 2^98, the
check bench the value −112 + 2^-18, and no product is changed. -/
theorem test_bench_exact :
    dotAligned 16 [((448, 0), (448, 0)), ((1, -9), (1, -9)), ((-448, 0), (448, 0))] = (2 ^ 76, 0) ∧
    dotAligned 16 [((448, 0), (1, -1)), ((1, -9), (0, 0)), ((-448, 0), (3, -2))] = (-7 * 2 ^ 98, 0) ∧
    dotAligned 16 [((448, 0), (897, -1)), ((1, -9), (1, -9)), ((-448, 0), (1795, -2))] = (2 ^ 76 - 7 * 2 ^ 98, 0) := by
  decide +kernel
/-- The second example: a product below the window enters as −1, so column 0 holds 2^110 − 1 and OUT counts it. -/
theorem test_bench_floor :
    dotAligned 5 [((8, 0), (4, 0)), ((-3, -62), (1, -50))] = (2 ^ 110 - 1, 1) ∧
    dotAligned 5 [((8, 0), (5, 0)), ((-3, -62), (1, -49))] = (5 * 2 ^ 108 - 1, 1) := by decide +kernel
/-- Its check: D_0 = −1 lies within the bound for OUT = 2 and CHK = 1, −3 does not (R90). -/
theorem test_check_bound : checkPasses 2 1 0 (-1) = true ∧ checkPasses 2 1 0 (-3) = false := by decide +kernel
/-- Its tile status word (R95). -/
theorem test_status_word : statusWord (some 5) 3 0 0xFF 0 false false false false false = 0x0140_0030_0FF0_0001 := by
  decide +kernel
/-- The example of chapter 02: x = 1.0048828125 rounds to BF16 with the noise 0x7C15_03A2 up to 0x3F81, and with
0x5FFF_FFFF down to 0x3F80. -/
theorem test_stochastic : (roundIeee .bf16 (.stochastic 0x7C1503A2) (.fin false 1029 (-10))).code = 0x3F81 ∧
    (roundIeee .bf16 (.stochastic 0x5FFFFFFF) (.fin false 1029 (-10))).code = 0x3F80 := by decide +kernel
/-- The example of chapter 10: 0.28125 as the largest of its group takes t = −10 and the code 0x79; v = 0.25 is UL8 216. -/
theorem test_moments : groupScale .e4m3 9 (-5) = -10 ∧ (roundMX .e4m3 .nearest (-10) (.fin false 9 (-5))).code = 0x79 ∧
    (encodeUL8 (.fin false 1 (-2))).code = 216 := by decide +kernel
/-- The example of chapter 12: on an SW-682 offset 1,000,000,000 of the package view lies in H1, block 48,828, byte 512. -/
theorem test_view_cell : ({ grade := 682 } : Part).hbmCell 1000000000 = 2 ^ 36 + 2048 * 48828 + 512 := by decide +kernel
/-- R154: element operations on decoded values; a = −1.5, b = 1.5. -/
theorem test_vector_choice : (vecOp .vmax (.fin true 3 (-1)) (.fin false 3 (-1)) .nan).val = .fin false 3 (-1) ∧
    (vecOp .vmin (.fin true 3 (-1)) (.fin false 3 (-1)) .nan).val = .fin true 3 (-1) ∧
    (vecOp .vsel (.fin true 3 (-1)) (.fin false 3 (-1)) .one).val = .one ∧
    (vecOp .vsel (.fin true 0 0) (.fin false 3 (-1)) .one).val = .fin false 3 (-1) ∧
    (vecOp .vmax (.fin true 0 0) .zero .nan).val = .zero := by decide +kernel
/-- R58: 2^1.5, log2 1.5, 1 / 1.5 and 1 / √1.5 rounded once to FP32. -/
theorem test_functions : (roundIeee .fp32 .nearest (exp2F32 (.fin false 3 (-1))).val).code = 0x403504F3 ∧
    (roundIeee .fp32 .nearest (log2F32 (.fin false 3 (-1))).val).code = 0x3F15C01A ∧
    (roundIeee .fp32 .nearest (rcpF32 (.fin false 3 (-1))).val).code = 0x3F2AAAAB ∧
    (roundIeee .fp32 .nearest (rsqrtF32 (.fin false 3 (-1))).val).code = 0x3F5105EC := by decide +kernel
/-- The special results of R58. -/
theorem test_functions_special : rcpF32 (.fin true 0 0) = ⟨.inf true, false, .divide⟩ ∧
    log2F32 (.fin true 1 0) = ⟨.nan, false, .invalid⟩ ∧ exp2F32 (.fin false 128 0) = ⟨.inf false, false, .overflow⟩ ∧
    rsqrtF32 .zero = ⟨.inf false, false, .divide⟩ := by decide +kernel

/-! ### Small states -/

/-- An instruction word: opcode, core mask and class fields (R142). -/
def ins (op mask rest : Nat) : BitVec 128 := BitVec.ofNat 128 (op <<< 120 + mask <<< 96 + rest)
/-- An instruction at the head of a unit's buffer: word and unit, and whether the unit has begun it. -/
def job (w : BitVec 128) (u : CoreUnit) (b : Bool) : Job :=
  { word := w, no := 0, unit := u, pc := 0, ctx := 1, gen := 1, iter := 0, begun := b }
/-- Die `d` is in reset. -/
def dieDown (d : Nat) (s : State) : State :=
  { s with service := { s.service with resets := { cur := some { domain := .die, unit := 64 * d, began := 0, phase := 1, mark := 0 } } } }
/-- The state after a command. -/
def after (c : Instr) (s : State) : State :=
  match exec c s with
  | .next t => t
  | _ => s
/-- Context 1 is OPEN in generation 1, and cluster 0 runs its program `ws` from slot 0 of page 0. -/
def prog (ws : List (BitVec 128)) : State := { State.reset with
  ctxs := [(1, { st := .opened, gen := 1 })]
  clusters := [(0, { page0 := ws.zipIdx.map (fun p => (p.2, p.1)), valid0 := true, running := true, ctx := 1, gen := 1 })] }
/-- The state with queues 0 to 3 of core 0 configured with one slot each, empty. -/
def withQueues (s : State) : State :=
  { s with cores := [(0, { queues := [(0, ⟨0, 1, 0, 0⟩), (1, ⟨1, 1, 0, 0⟩), (2, ⟨2, 1, 0, 0⟩), (3, ⟨3, 2, 0, 0⟩)] })] }
/-- Element `j` of the block at the head of a queue of core 0, as a 32-bit code. -/
def head32 (s : State) (q j : Nat) : Nat := elemCode .fp32 ((s.co 0).peek q 0).data.toNat j
/-- A vector instruction of core 0 with destination Q0, every used source the immediate, and COUNT 4. -/
def vec (op kinds neg imm : Nat) : State := withQueues (prog [ins op 1 (kinds <<< 63 + neg <<< 60 + imm <<< 28 + 4 <<< 4)])
/-- What a vector instruction on the immediate 1.5 leaves in element 3 of its destination block. -/
def vecOut (c : Instr) (op kinds neg : Nat) : Nat := head32 (after c (vec op kinds neg 0x3FC00000)) 0 3

set_option maxRecDepth 1000000

/-! ### Core instructions -/

/-- R154, R155: 1.5 + 1.5 = 3. -/
theorem test_vadd : vecOut (.vadd 0) 0x30 0b101011 0 = 0x40400000 := by decide +kernel
/-- R156: the sum of four products 2.25 is 9, in element 0; the other elements are 0. -/
theorem test_vdot : head32 (after (.vdot 0) (vec 0x3B 0b101011 0 0x3FC00000)) 0 0 = 0x41100000 ∧
    vecOut (.vdot 0) 0x3B 0b101011 0 = 0 := by decide +kernel

/-! ### Sequencer and cores: single steps -/

/-- NOP moves past its slot (R167). -/
theorem test_nop : ((after (.nop 0) (prog [ins 0 0 0])).cl 0).pc = 1 := by decide +kernel
/-- LOOP with COUNT 2 and BODY 1 enters its body; with COUNT 0 it goes past it (R167). -/
theorem test_loop : ((after (.loop 0) (prog [ins 0x70 0 (2 <<< 72 + 1 <<< 61)])).cl 0).frames = [⟨1, 1, 0, 2⟩] ∧
    ((after (.loop 0) (prog [ins 0x70 0 (1 <<< 61)])).cl 0).pc = 2 := by decide +kernel
/-- A slot past the program's end holds END (R185). -/
theorem test_end : ((after (.endProg 0) (prog [])).cl 0).ended = true := by decide +kernel
/-- A wait on a semaphore that is 0 for the value 1 comes into force; for the value 0 it passes (R205). -/
theorem test_sem_wait : ((after (.semWait 0) (prog [ins 0x50 0 (1 <<< 33)])).cl 0).wait =
      some ⟨.side 0 0, 1, 0, 50 * 4000000, false, false⟩ ∧
    ((after (.semWait 0) (prog [ins 0x50 0 0])).cl 0).pc = 1 := by decide +kernel
/-- SEM.ADD of 3 to semaphore 5 of cluster 2 of the die leaves as a post (R161); its arrival adds 3 (R196). -/
theorem test_sem_add : (after (.semAdd 0) (prog [ins 0x51 0 (2 <<< 89 + 5 <<< 75 + 3 <<< 33)])).posts =
      [⟨.side 2 5, false, 3, 1, 1, 0⟩] ∧
    (after (.semaphorePostArrival 0) (after (.semAdd 0)
      (prog [ins 0x51 0 (2 <<< 89 + 5 <<< 75 + 3 <<< 33)]))).sem (.side 2 5) = 3 := by decide +kernel
/-- SEM.SUB of 1 from a semaphore at 0 leaves 0xFFFFFF (R196). -/
theorem test_sem_sub : (after (.semaphorePostArrival 0) (after (.semSub 0)
    (prog [ins 0x52 0 (5 <<< 75 + 1 <<< 33)]))).sem (.side 0 5) = 0xFFFFFF := by decide +kernel
/-- An EPI.SCALE sets S and B of the array (R149). -/
theorem test_epi_scale : ((after (.epiScale 0) (prog [ins 0x21 1 (0x40000000 <<< 64 + 0x3F800000 <<< 32)])).co 0).epi.s =
    0x40000000 ∧ ((after (.epiScale 0) (prog [ins 0x21 1 (0x40000000 <<< 64 + 0x3F800000 <<< 32)])).co 0).epi.b =
    0x3F800000 := by decide +kernel
/-- An EPI.CLIP sets LO and HI (R149). -/
theorem test_epi_clip : ((after (.epiClip 0) (prog [ins 0x22 1 (0x3F800000 <<< 64 + 0x40000000 <<< 32)])).co 0).epi.hi =
    0x40000000 := by decide +kernel
/-- EPI.KEYS with TARGET 1 sets the keys of the vector and the convert unit and not those of the array (R139). -/
theorem test_epi_keys : ((after (.epiKeys 0) (prog [ins 0x23 1 (1 <<< 95 + 7 <<< 71 + 9 <<< 31)])).co 0).vkeys = ⟨7, 9, 0⟩ ∧
    ((after (.epiKeys 0) (prog [ins 0x23 1 (1 <<< 95 + 7 <<< 71 + 9 <<< 31)])).co 0).ckeys = ⟨7, 9, 0⟩ ∧
    ((after (.epiKeys 0) (prog [ins 0x23 1 (1 <<< 95 + 7 <<< 71 + 9 <<< 31)])).co 0).epi.tensor = 0 := by decide +kernel
/-- EPI.STRIDE with TARGET 0 sets the array's strides. -/
theorem test_epi_stride : ((after (.epiStride 0) (prog [ins 0x24 1 (5 <<< 64 + 6 <<< 33 + 7 <<< 2)])).co 0).epi.rstride = 5 ∧
    ((after (.epiStride 0) (prog [ins 0x24 1 (5 <<< 64 + 6 <<< 33 + 7 <<< 2)])).co 0).epi.cstride = 6 ∧
    ((after (.epiStride 0) (prog [ins 0x24 1 (5 <<< 64 + 6 <<< 33 + 7 <<< 2)])).co 0).epi.advance = 7 := by decide +kernel
/-- EPI.FMT sets OFMT and OQ (R149). -/
theorem test_epi_fmt : ((after (.epiFmt 0) (prog [ins 0x20 1 (0 <<< 92 + 4 <<< 86)])).co 0).epi.fmt.oq = 4 ∧
    ((after (.epiFmt 0) (prog [ins 0x20 1 (0 <<< 92 + 4 <<< 86)])).co 0).epi.fmt.ofmt = 0 := by decide +kernel
/-- A broadcast to cores 2 and 3 reaches core 2 alone, since core 3 is fused (R22). -/
theorem test_broadcast : ((after (.epiScale 0) (prog [ins 0x21 0b1100 (1 <<< 64)])).co 2).epi.s = 1 ∧
    (after (.epiScale 0) (prog [ins 0x21 0b1100 (1 <<< 64)])).co 3 = {} ∧
    (after (.epiScale 0) (prog [ins 0x21 0b1100 (1 <<< 64)])).co 0 = {} := by decide +kernel
/-- QCFG of Q5 with BASE 8 and SIZE 4 (R170). -/
theorem test_qcfg : ((after (.qcfg 0) (prog [ins 0x80 1 (5 <<< 90 + 8 <<< 79 + 4 <<< 68)])).co 0).queue 5 = ⟨8, 4, 0, 0⟩ := by
  decide +kernel
/-- QRESET empties Q1 and leaves its layout (R137). -/
theorem test_qreset :
    let s := prog [ins 0x81 1 (2 <<< 32)]
    ((after (.qreset 0) { s with cores := [(0, { queues := [(1, ⟨8, 4, 2, 3⟩)] })] }).co 0).queue 1 = ⟨8, 4, 0, 0⟩ := by
  decide +kernel
/-- QDROP takes the oldest of two blocks (R172); of an empty queue it waits (R129). -/
theorem test_qdrop :
    let s := prog [ins 0x83 1 (1 <<< 90 + 1 <<< 74)]
    ((after (.qdrop 0) { s with cores := [(0, { queues := [(1, ⟨8, 4, 3, 2⟩)] })] }).co 0).queue 1 = ⟨8, 4, 0, 1⟩ ∧
    ((after (.qdrop 0) { s with cores := [(0, { queues := [(1, ⟨8, 4, 3, 0⟩)] })] }).co 0).jobs.length = 1 := by
  decide +kernel
/-- A push to Q63 is discarded: the instruction completes and no slot is written (R127). -/
theorem test_null_push : ((after (.vadd 0) (prog [ins 0x30 1 (63 <<< 90 + 0b101011 <<< 63 + 4 <<< 4)])).co 0).jobs = [] ∧
    ((after (.vadd 0) (prog [ins 0x30 1 (63 <<< 90 + 0b101011 <<< 63 + 4 <<< 4)])).co 0).slots = [] := by
  decide +kernel
/-- A QMOVE of one block to Q2 of core 1 of the cluster leaves with the block and pops its source (R171); it lands at its
arrival. -/
theorem test_qmove :
    let s := prog [ins 0x82 1 (1 <<< 90 + 1 <<< 82 + 2 <<< 76 + 1 <<< 60)]
    let s := { s with cores := [(0, { queues := [(1, ⟨8, 4, 0, 1⟩)], slots := [(8, ⟨7, 9⟩)] }), (1, { queues := [(2, ⟨0, 1, 0, 0⟩)] })] }
    ((after (.qmove 0) s).moves.map (fun m => (m.dst, m.dq, m.blocks)) = [(1, 2, [⟨7, 9⟩])]) ∧
    ((after (.qmove 0) s).co 0).queue 1 = ⟨8, 4, 1, 0⟩ ∧
    ((after (.qmoveArrival 0) (after (.qmove 0) s)).co 1).peek 2 0 = ⟨7, 9⟩ := by decide +kernel
/-- CVT of eight FP32 elements to BF16 (R159): 1.0 becomes 0x3F80. -/
theorem test_cvt :
    let s := prog [ins 0x40 1 (0 <<< 90 + 1 <<< 78 + 2 <<< 68 + 0 <<< 64 + 8 <<< 38)]
    let b := Block.build ⟨0, 0, 127, 2, false, false, false, false, 0⟩ (packCodes 32 (List.replicate 8 0x3F800000))
    let s := { s with cores := [(0, { queues := [(0, ⟨0, 1, 0, 0⟩), (1, ⟨1, 1, 0, 1⟩)], slots := [(1, b)] })] }
    elemCode .bf16 (((after (.cvt 0) s).co 0).peek 0 0).data.toNat 7 = 0x3F80 := by decide +kernel
/-- ARRAY.WARM sets an array below level 0x05 climbing (R122); a step of the ramp raises the level (R119). -/
theorem test_array_warm : ((after (.arrayWarm 0) (prog [ins 0x18 1 (64 <<< 80)])).co 0).ramp = .warm ∧
    ((after (.arrayRampUp 0) (after (.arrayWarm 0) (prog [ins 0x18 1 (64 <<< 80)]))).co 0).level = 1 := by decide +kernel
/-- The gap of a core at level 5 lowers it by one and counts (R117). -/
theorem test_ramp_down : ((after (.arrayRampDown 0) { State.reset with cores := [(0, { level := 5 })] }).co 0).level = 4 ∧
    (after (.arrayRampDown 0) { State.reset with cores := [(0, { level := 5 })] }).par K.DUMMY_ROW_SLOTS = 64 := by decide +kernel
/-- A program whose END has been executed with nothing left comes to its boundary (R169, R135). -/
theorem test_boundary :
    let s := after (.endProg 0) (prog [])
    let s := { s with cores := [(0, { queues := [(1, ⟨8, 4, 2, 3⟩)] })] }
    ((after (.programBoundary 0) s).cl 0).running = false ∧ ((after (.programBoundary 0) s).co 0).queue 1 = {} := by
  decide +kernel

/-! ### Witnesses: sequencers and cores

For each clause of a statement, a state and operands that meet its hypotheses together. -/

/-- StepRunsTheFrontCommand; WaitingCommandsStayWellFormed; MemoryStaysCanonical. -/
theorem wit_step : ∃ (s t : State) (c : Instr) (rest : List Instr), s.pending = c :: rest ∧ s.queueOk = true ∧
    s.mem.wf = true ∧ step s = .next t :=
  ⟨{ State.reset with pending := [.nop 0, .hangScan] }, _, .nop 0, [.hangScan], rfl, by decide, by decide, rfl⟩
/-- IdleStepCountsTheTimeBase: the clock runs with nothing to slew, and the clock is missing. -/
theorem wit_idle : State.reset.pending = [] ∧ State.reset.power.aoOn = true ∧ State.reset.power.refclk = true ∧
    State.reset.service.time.slew = 0 ∧ ({ State.reset with power := { refclk := false } } : State).power.refclk = false := by
  decide
/-- BroadcastReachesTheSelectedCores: room in every buffer; a full buffer; nothing to fetch. -/
theorem wit_broadcast : (Instr.vadd 31, Op.vadd) ∈ broadcastRows 31 ∧
    (prog [ins 0x30 0xFF 0]).fetchOp 0 .vadd = some (ins 0x30 0xFF 0) ∧
    (prog [ins 0x30 0xFF 0]).buffersFree 0 (ins 0x30 0xFF 0).toNat = true ∧
    (let s := prog [ins 0x30 0xFF 0]
     let s : State := { s with cores := [(7, { jobs := List.replicate 8 (job (ins 0x30 0xFF 0) .vector false) })] }
     s.fetchOp 0 .vadd = some (ins 0x30 0xFF 0) ∧ s.buffersFree 0 (ins 0x30 0xFF 0).toNat = false) ∧
    State.reset.fetchOp 0 .vadd = none := by decide +kernel
/-- SequencerNopLoopAndEnd and LoopBodyRunsCountTimes: each instruction fetched; a COUNT of 0 and of the greatest value. -/
theorem wit_sequencer : (prog [ins 0 0 0]).fetchOp 0 .nop = some (ins 0 0 0) ∧
    (prog [ins 0x70 0 (1 <<< 61)]).fetchOp 0 .loop = some (ins 0x70 0 (1 <<< 61)) ∧ loopCount (ins 0x70 0 (1 <<< 61)).toNat = 0 ∧
    (prog [ins 0x70 0 ((2 ^ 24 - 1) <<< 72 + 1 <<< 61)]).fetchOp 0 .loop = some (ins 0x70 0 ((2 ^ 24 - 1) <<< 72 + 1 <<< 61)) ∧
    loopCount (ins 0x70 0 ((2 ^ 24 - 1) <<< 72 + 1 <<< 61)).toNat ≠ 0 ∧
    (prog []).fetchOp 0 .endProg = some endWord := by decide +kernel
/-- LoopBodyRunsCountTimes: the first and the last pass of a body of three. -/
theorem wit_loop : ∃ n count : Nat, 0 < count ∧ n < count ∧ n + 1 < count := ⟨1, 3, by decide⟩
/-- SemWaitHoldsUntilItsWakeNotice: trace off; a wait that passes and one that holds; a wait in force, granted or not. -/
theorem wit_wait : (prog [ins 0x50 0 0]).fetchOp 0 .semWait = some (ins 0x50 0 0) ∧
    traceOff (prog [ins 0x50 0 0]) (0 / 8) 3 ∧
    waitGe ((prog [ins 0x50 0 0]).sem (semTarget 0 (semF (ins 0x50 0 0).toNat))) (semF (ins 0x50 0 0).toNat).value = true ∧
    (prog [ins 0x50 0 (1 <<< 33)]).fetchOp 0 .semWait = some (ins 0x50 0 (1 <<< 33)) ∧
    waitGe ((prog [ins 0x50 0 (1 <<< 33)]).sem (semTarget 0 (semF (ins 0x50 0 (1 <<< 33)).toNat)))
      (semF (ins 0x50 0 (1 <<< 33)).toNat).value = false ∧
    (∀ g : Bool, (State.cl { State.reset with clusters := [(0, { wait := some ⟨.side 0 0, 0, 0, 0, g, false⟩ })] } 0).wait =
      some ⟨.side 0 0, 0, 0, 0, g, false⟩) :=
  ⟨by decide +kernel, .inl (by decide +kernel), by decide +kernel, by decide +kernel, by decide +kernel, fun _ => rfl⟩
/-- SemAddAndSubLeaveOrWaitForTheFence, posting: no post waits and the fence is open; the fence is shut behind an earlier
product; four posts wait. -/
theorem wit_post :
    let w := ins 0x51 1 (1 <<< 29)
    let s := prog [w]
    let busy : State := { s with
      clusters := [(0, { (s.cl 0) with issue := 1 })]
      cores := [(0, { jobs := [job (ins 0x10 1 0) .array true] })] }
    let full : State := { s with clusters := [(0, { (s.cl 0) with posts := List.replicate 4 ⟨w, 0, 0⟩ })] }
    (Instr.semAdd 0, Op.semAdd) ∈ [(Instr.semAdd 0, Op.semAdd), (Instr.semSub 0, Op.semSub)] ∧
    (semF w.toNat).scope ≠ 3 ∧ s.fetchOp 0 .semAdd = some w ∧ (s.cl 0).posts = [] ∧ s.fenceOpen 0 ⟨w, 0, 0⟩ = true ∧
    busy.fetchOp 0 .semAdd = some w ∧ busy.fenceOpen 0 ⟨w, 1, 0⟩ = false ∧ (busy.cl 0).posts.length < 4 ∧
    full.fetchOp 0 .semAdd = some w ∧ 4 ≤ (full.cl 0).posts.length := by decide +kernel
/-- The same statement: an operation of scope 3 through an entry that does not serve the context, trace off. -/
theorem wit_post_remote :
    let w := ins 0x51 1 (3 <<< 94 + 5 <<< 57)
    let s := prog [w]
    s.fetchOp 0 .semAdd = some w ∧ (semF w.toNat).scope = 3 ∧ (s.cl 0).posts = [] ∧ s.fenceOpen 0 ⟨w, 0, 0⟩ = true ∧
    s.epOk (s.epDie 1 0) (semF w.toNat).endpoint 1 = false ∧ bit (s.traceCfg 0 5 0) 4 = false := by decide +kernel
/-- SemAddAndSubLeaveOrWaitForTheFence, waiting posts: one whose fence is shut, and one whose fence is open. -/
theorem wit_fence :
    let w := ins 0x51 1 (1 <<< 29)
    let s : State := { State.reset with
      clusters := [(0, { posts := [⟨w, 1, 0⟩] })]
      cores := [(0, { jobs := [job (ins 0x10 1 0) .array true] })] }
    (s.cl 0).posts = ⟨w, 1, 0⟩ :: [] ∧ s.fenceOpen 0 ⟨w, 1, 0⟩ = false ∧
    ({ s with cores := [] } : State).fenceOpen 0 ⟨w, 1, 0⟩ = true ∧ (semF w.toNat).scope ≠ 3 := by decide +kernel
/-- PostArrivesAtItsSemaphore; QmovesAndStaleItems: a post of the current and one of an old generation. -/
theorem wit_arrival :
    let s (g : Nat) : State := { prog [] with posts := [⟨.pkg 1 16383, true, 2 ^ 24 - 1, 1, g, 6⟩] }
    (s 1).posts[0]? = some ⟨.pkg 1 16383, true, 2 ^ 24 - 1, 1, 1, 6⟩ ∧ (s 1).stale 1 1 = false ∧
    (s 0).posts[0]? = some ⟨.pkg 1 16383, true, 2 ^ 24 - 1, 1, 0, 6⟩ ∧ (s 0).stale 1 0 = true ∧
    semKey (.pkg 1 16382) ≠ semKey (.pkg 1 16383) := by decide +kernel
/-- The same statements: paths to a semaphore and to a core, open and stopped by a die in reset. -/
theorem wit_paths : (dieDown 0 State.reset).pathWaits 0 (SemRef.node (.pkg 1 0)) = true ∧
    (dieDown 0 State.reset).pathWaits 0 (SemRef.node (.side 0 0)) = false ∧ (dieDown 1 State.reset).pathWaits 0 1 = true ∧
    State.reset.pathWaits 6 (SemRef.node (.pkg 1 0)) = false := by decide +kernel
/-- ProgramBoundaryClearsTheCluster: at its END with nothing left, and before. -/
theorem wit_boundary : (after (.endProg 0) (prog [])).atEnd 0 = true ∧ (prog []).atEnd 0 = false := by decide +kernel
/-- ArrayLevelClimbsAndFalls: a fused core; a steady gap at the cap; a level above the cap; a product below the cap. -/
theorem wit_array :
    let s (c : Nat) (l : Nat) (j : List Job) : State := { State.reset with cores := [(c, { level := l, jobs := j })] }
    (s 3 0 []).part.isFused 3 = true ∧
    (s 0 5 []).part.isFused 0 = false ∧ ((s 0 5 []).co 0).level ≠ 0 ∧ ((s 0 5 []).co 0).level ≤ (s 0 5 []).levelCap (0 / 64) ∧
    ((s 0 5 []).co 0).ramp = .steady ∧
    (s 0 6 []).levelCap (0 / 64) < ((s 0 6 []).co 0).level ∧
    (let p : Job := job (ins 0x10 1 0) .array true
     ((s 0 4 [p]).co 0).level < (s 0 4 [p]).levelCap (0 / 64) ∧
       ((s 0 4 [p]).co 0).jobs.any (fun j => j.unit = .array && j.begun) = true) := by decide +kernel
/-- QmovesAndStaleItems, moves: to a fused core, to the null queue, to an unconfigured and to a configured queue; stale. -/
theorem wit_moves :
    let s (d q g : Nat) : State := { prog [] with
      moves := [{ src := 0, id := 0, no := 0, ctx := 1, gen := g, dst := d, dq := q, blocks := [] }], cores := [(1, { queues := [(5, ⟨0, 1, 0, 0⟩)] })] }
    (∀ d q g, (s d q g).moves[0]? = some { src := 0, id := 0, no := 0, ctx := 1, gen := g, dst := d, dq := q, blocks := [] }) ∧
    (s 3 0 1).stale 1 1 = false ∧ (s 3 0 1).part.isFused 3 = true ∧ (s 1 63 1).part.isFused 1 = false ∧
    (((s 1 4 1).co 1).queue 4).size = 0 ∧ (((s 1 5 1).co 1).queue 5).size ≠ 0 ∧ (s 1 5 0).stale 1 0 = true :=
  ⟨fun _ _ _ => rfl, by decide +kernel⟩
/-- QueuesAreFirstInFirstOut: a ring with a free slot and a block, its head at the last position. -/
theorem wit_queue :
    let c : Machine.Core := { queues := [(62, ⟨1533, 3, 2, 2⟩)] }
    (c.queue 62).head < (c.queue 62).size ∧ (c.queue 62).count < (c.queue 62).size ∧ 0 < (c.queue 62).count ∧
    1 < (c.queue 62).count := by decide
/-- WaitGeIsACircularComparison: the greatest target. -/
theorem wit_target : 2 ^ 24 - 1 < 2 ^ 24 := by decide
/-- Ul8CodesDecodeAsTheConstants: the lowest and the highest code. -/
theorem wit_ul8 : ((1 : Nat) : Int) - 224 = 4 * (-56) + ((1 : Fin 4).val : Int) ∧
    ((254 : Nat) : Int) - 224 = 4 * 7 + ((2 : Fin 4).val : Int) := by decide
/-- ResultsAreRoundedOnceToTheNearest: a result that stays finite, one that overflows, one that flushes. -/
theorem wit_round : Fmt.isIeee .bf16 = true ∧ (roundIeee .bf16 .nearest (.fin false 1 0)).val = .fin false 128 (-7) ∧
    (roundIeee .fp16 .nearest (.fin true 1 16)).val = .inf true ∧
    (roundIeee .fp32 .nearest (.fin true 1 (-127))).flush = true := by decide +kernel
/-- VectorArithmeticRoundsOnce: three values that stand for −1, 2 and 1. -/
theorem wit_vector : Stands (.fin true 1 0) (-1) ∧ Stands (.fin false 1 1) 2 ∧ Stands .one 1 :=
  ⟨⟨true, 1, 0, rfl, by norm_num [ratOf, sint]⟩, ⟨false, 1, 1, rfl, by norm_num [ratOf, sint]⟩,
    ⟨false, 1, 0, rfl, by norm_num [ratOf, sint]⟩⟩

/-! ### Commands, contexts and the loader -/

/-- A command word: opcode and the rest (R179). -/
def cmdWord (op rest : Nat) : BitVec 512 := BitVec.ofNat 512 (op <<< 504 + rest)
/-- Context 1 is OPEN in generation 1, holds clusters 0 and 8, keys 0 to 15 and package semaphores 0 to 99, and has the
command `w` to accept. -/
def cmd (w : BitVec 512) : State := { State.reset with
  ctxs := [(1, { st := .opened, gen := 1, read := 1, cur := some ⟨0, w, 1, 0⟩ })]
  od := [(K.CONTEXT_CLUSTERS + 1, 0x101), (K.CONTEXT_KEYS + 1, 16), (K.CONTEXT_SEMS + 1, 100), (K.CONTEXT_DESC_BASE + 1, 8192)] }
/-- An image with one program section for cluster 0 that holds END (R188, R189). -/
def image : List Nat :=
  let sect := toBytes 32 (1 <<< 248 + 1 <<< 208 + 96 <<< 176 + 16 <<< 144)
  let body := toBytes 16 (0x7F <<< 120)
  toBytes 64 (0x53575049 <<< 480 + 1 <<< 464 + 1 <<< 440 + 112 <<< 400 + crc32c (sect ++ body) <<< 368) ++ sect ++ body
/-- Key 5 of context 1: 4,096 bytes of H0 from 4,096 on, readable and writable. -/
def key5 : BitVec 256 := BitVec.ofNat 256 (0x200000001000 <<< 192 + 0x200000003000 <<< 128 + 4096 <<< 88 + 1 <<< 83 + 1 <<< 82
  + 1 <<< 76 + 1)
/-- A LOAD of the image, which stands in memory. -/
def loadState : State :=
  let s := cmd (cmdWord 1 (0x200000001000 <<< 320 + 5 <<< 304 + 112 <<< 272))
  { s with keys := [(5, key5)] }.writeKey 5 0 image

/-- COMMAND_READ takes the command of slot 0 and counts it (R177). -/
theorem test_command_read :
    let s : State := { State.reset with
      ctxs := [(1, { st := .opened, gen := 1 })]
      od := [(K.CONTEXT_STREAM_CFG + 1, 7 <<< 32 + 8)], pkg := [(7, 1)]
      mem := { hbm := { kind := 0, regionBits := 36, cells := [(63, 3)] } } }
    ((after (.commandRead 1) s).cx 1).read = 1 ∧
    ((after (.commandRead 1) s).cx 1).cur = some ⟨0, cmdWord 3 0, 1, 0⟩ := by decide +kernel
/-- A reserved opcode completes with status 7 and counts in BAD_COMMANDS (R181). -/
theorem test_bad_command :
    let s : State := { State.reset with
      ctxs := [(1, { st := .opened, gen := 1 })]
      od := [(K.CONTEXT_STREAM_CFG + 1, 7 <<< 32 + 8)], pkg := [(7, 1)]
      mem := { hbm := { kind := 0, regionBits := 36, cells := [(63, 5)] } } }
    (after (.commandRead 1) s).par K.BAD_COMMANDS = 1 ∧ ((after (.commandRead 1) s).mem.hbm.byte 62) = 7 := by decide +kernel
/-- LOAD writes page 0 of cluster 0 and completes (R184, R185). -/
theorem test_load : ((after (.load 1) loadState).cl 0).valid0 = true ∧ ((after (.load 1) loadState).cl 8).valid0 = false ∧
    ((after (.load 1) loadState).cx 1).cur = none := by decide +kernel
/-- An image whose CRC is wrong is refused (R190). -/
theorem test_load_refused :
    let s := loadState.writeKey 5 111 [0x70]
    ((after (.load 1) s).cl 0).valid0 = false ∧ (after (.load 1) s).par K.IMAGE_REJECTS = 1 := by decide +kernel
/-- RUN starts cluster 0 from slot 0 (R186). -/
theorem test_run :
    let s : State := { cmd (cmdWord 2 (1 <<< 384)) with clusters := [(0, { valid0 := true })] }
    ((after (.run 1) s).cl 0).running = true ∧ ((after (.run 1) s).cx 1).running.length = 1 := by decide +kernel
/-- SIGNAL of 3 to package semaphore 9 leaves as a post (R179, R180). -/
theorem test_signal : (after (.signal 1) (cmd (cmdWord 3 (2 <<< 268 + 9 <<< 249 + 3 <<< 225)))).posts =
    [⟨.pkg 0 9, false, 3, 1, 1, 4⟩] := by decide +kernel
/-- WAIT for 3 comes into force (R205). -/
theorem test_wait : ((after (.wait 1) (cmd (cmdWord 4 (2 <<< 268 + 9 <<< 249 + 3 <<< 225)))).cx 1).wait =
    some ⟨.pkg 0 9, 3, 0, 50 * 4000000, false, false⟩ := by decide +kernel
/-- OPEN of a context with a cluster and a stream semaphore in its range (R175); without a cluster it is refused. -/
theorem test_open :
    let s : State := { State.reset with od := [(K.CONTEXT_CLUSTERS + 2, 1), (K.CONTEXT_SEMS + 2, 1)] }
    ((after (.contextOpen 2) s).cx 2).st = .opened ∧ ((after (.contextOpen 2) s).cx 2).gen = 1 ∧
    ((after (.contextOpen 2) State.reset).cx 2).st = .closed := by decide +kernel
/-- A teardown closes the context and invalidates its keys (R480). -/
theorem test_teardown : ((after (.contextTeardown 1) loadState).cx 1).st = .closed ∧
    ((after (.contextTeardown 1) loadState).key 5).valid = false := by decide +kernel
/-- SYNC_STATUS flags are cleared by writing ones (R223). -/
theorem test_flag_clear : (after (.statusFlagClear K.SYNC_STATUS 2) { State.reset with od := [(K.SYNC_STATUS, 7)] }).par
    K.SYNC_STATUS = 5 := by decide +kernel
/-- A key entry whose region runs past the stacks of its view is refused (R361). -/
theorem test_key_write : ((after (.keyEntryWrite 5 key5) State.reset).key 5).valid = true ∧
    (after (.keyEntryWrite 5 (key5 + BitVec.ofNat 256 (48 <<< 222))) State.reset).keys = [] := by decide +kernel
/-- A scan counts a context whose only stream waits on a sideboard semaphore (R209 to R216), not one that waits on a
package semaphore. -/
theorem test_hang_scan :
    let s (r : SemRef) : State := { State.reset with
      od := [(K.CONTEXT_CLUSTERS + 1, 1), (K.CONTEXT_SEMS + 1, 1 <<< 29)]
      ctxs := [(1, { st := .opened, gen := 1 })]
      clusters := [(0, { running := true, ctx := 1, gen := 1, wait := some ⟨r, 1, 0, 1, false, false⟩ })] }
    ((after .hangScan (s (.side 0 0))).cx 1).scans = 1 ∧ (after .hangScan (s (.side 0 0))).now = 400000 ∧
    ((after .hangScan (s (.pkg 0 0))).cx 1).scans = 0 := by decide +kernel
/-- A wait that times out sets its context's flag and stays in force (R220). -/
theorem test_wait_timeout :
    let s : State := { State.reset with clusters := [(0, { running := true, ctx := 1, wait := some ⟨.side 0 0, 1, 5, 10, false, false⟩ })] }
    (after (.semWaitTimeout (.cluster 0)) s).par K.SYNC_STATUS = 2 ^ 17 ∧ (after (.semWaitTimeout (.cluster 0)) s).now = 15 ∧
    ((after (.semWaitTimeout (.cluster 0)) s).cl 0).wait = some ⟨.side 0 0, 1, 5, 10, false, true⟩ := by decide +kernel

/-! ### Witnesses: commands and contexts -/

/-- CommandsAreReadInOrder: a context that may read a good command and a bad one, and one that may not read. -/
theorem wit_command :
    let s (b : BitVec 8) : State := { State.reset with
      ctxs := [(1, { st := .opened, gen := 1 })]
      od := [(K.CONTEXT_STREAM_CFG + 1, 7 <<< 32 + 8)], pkg := [(7, 1)]
      mem := { hbm := { kind := 0, regionBits := 36, cells := [(63, b)] } } }
    mayRead (s 3) 1 ∧ (nextCmd (s 3) 1).bad (s 3).part = false ∧ ((s 3).cx 1).aborting = false ∧
    mayRead (s 5) 1 ∧ (nextCmd (s 5) 1).bad (s 5).part = true ∧ (State.reset.cx 1).st ≠ .opened := by
  refine ⟨⟨?_, ?_, ?_, ?_, ?_⟩, ?_, ?_, ⟨?_, ?_, ?_, ?_, ?_⟩, ?_, ?_⟩ <;> decide +kernel
/-- LoadWritesOrRefusesItsImage: a good image with one program section; a page that is fetched; the management core down. -/
theorem wit_load : loadState.curCmd 1 1 = some ⟨0, cmdWord 1 (0x200000001000 <<< 320 + 5 <<< 304 + 112 <<< 272), 1, 0⟩ ∧
    loadState.service.mgmt.coreUp = true ∧
    loadState.loadImage 1 (cmdWord 1 (0x200000001000 <<< 320 + 5 <<< 304 + 112 <<< 272)).toNat = some image ∧
    loadState.busyPages image 0 = [] ∧ loadState.verify 1 image 112 = none ∧ (imgSects image).map (·.typ) = [1] ∧
    ({ loadState with clusters := [(0, { running := true })] } : State).busyPages image 0 = [(0, 0)] ∧
    ({ loadState with keys := [] } : State).loadImage 1 (cmdWord 1 (0x200000001000 <<< 320 + 5 <<< 304 + 112 <<< 272)).toNat = none ∧
    (loadState.writeKey 5 111 [0x70]).loadImage 1 (cmdWord 1 (0x200000001000 <<< 320 + 5 <<< 304 + 112 <<< 272)).toNat =
      some (image.take 111 ++ [0x70]) ∧
    ((loadState.writeKey 5 111 [0x70]).verify 1 (image.take 111 ++ [0x70]) 112).isSome = true ∧
    ({ loadState with service := { mgmt := { coreUp := false } } } : State).service.mgmt.coreUp = false := by decide +kernel
/-- RunStartsEveryNamedCluster: a page that is valid, one that is not, a cluster outside the context, none. -/
theorem wit_run :
    let s (m : Nat) (v : Bool) : State := { cmd (cmdWord 2 (m <<< 384)) with clusters := [(0, { valid0 := v })] }
    (∀ m v, (s m v).cx 1 = { st := .opened, gen := 1, read := 1, cur := some ⟨0, cmdWord 2 (m <<< 384), 1, 0⟩ }) ∧
    ((s 1 true).curCmd 1 2).isSome = true ∧ mapBits (bits (cmdWord 2 (1 <<< 384)).toNat 415 384) = [0] ∧
    mapBits (bits (cmdWord 2 (1 <<< 415)).toNat 415 384) = [31] ∧
    mapBits (bits (cmdWord 2 0).toNat 415 384) = [] ∧ (s 1 true).holds 1 0 = true ∧ (s 1 true).holds 1 31 = false ∧
    (!((s 1 true).cl 0).testing && !((s 1 true).cl 0).running && !(s 1 true).frozen 0) = true ∧ (s 1 true).power.state = .active ∧
    ((s 1 true).cl 0).pageValid ((s 1 true).cl 0).runPage = true ∧ ((s 1 false).cl 0).pageValid ((s 1 false).cl 0).runPage = false :=
  ⟨fun _ _ => rfl, by decide +kernel⟩
/-- SignalAndWaitComplete: nothing in progress, a RUN in progress; a wait that is satisfied, one that is not, one granted. -/
theorem wit_signal :
    let c : Cmd := ⟨0, cmdWord 3 0, 1, 0⟩
    let d : Cmd := ⟨0, cmdWord 4 (2 <<< 268 + 1 <<< 225), 1, 0⟩
    let s := cmd (cmdWord 3 0)
    let t := cmd (cmdWord 4 (2 <<< 268 + 1 <<< 225))
    s.curCmd 1 3 = some c ∧ (s.cx 1).running = [] ∧ bits c.word.toNat 269 268 ≠ 1 ∧
    (({ s with ctxs := [(1, { (s.cx 1) with running := [d] })] } : State).cx 1).running ≠ [] ∧
    t.curCmd 1 4 = some d ∧ bits d.word.toNat 269 268 = 2 ∧ (t.cx 1).wait = none ∧ waitGe (t.sem (.pkg 0 0)) 1 = false ∧
    waitGe (({ t with pkg := [(0, 1)] } : State).sem (.pkg 0 0)) 1 = true ∧
    (({ t with ctxs := [(1, { (t.cx 1) with wait := some ⟨.pkg 0 0, 1, 0, 0, true, false⟩ })] } : State).cx 1).wait =
      some ⟨.pkg 0 0, 1, 0, 0, true, false⟩ := by decide +kernel
/-- OpeningAContext: an opening that is allowed, and one without a cluster. -/
theorem wit_open :
    ({ State.reset with od := [(K.CONTEXT_CLUSTERS + 2, 1), (K.CONTEXT_SEMS + 2, 1)] } : State).openAllowed 2 = true ∧
    State.reset.par (K.CONTEXT_CLUSTERS + 2) = 0 ∧ State.reset.openAllowed 2 = false ∧
    ({ State.reset with od := [(K.CONTEXT_CLUSTERS + 2, 1), (K.CONTEXT_SEMS + 2, 1)] } : State).holds 2 0 = true := by decide +kernel
/-- TearingAContextDown: an OPEN context with a key of its own and one of another; a CLOSED one. -/
theorem wit_teardown : loadState.live = true ∧ Tbl.wf loadState.keys 0 = true ∧ (loadState.cx 1).st = .opened ∧
    (loadState.key 5).ctx = 1 ∧ (loadState.key 6).ctx ≠ 1 ∧ (loadState.cx 2).st = .closed := by decide +kernel
/-- TableEntriesAreWrittenOrRefused: a good and a bad key; an endpoint entry that may be written, one that may not. -/
theorem wit_entries : State.reset.live = true ∧ State.reset.keyBad key5.toNat = false ∧
    State.reset.keyBad (key5 + BitVec.ofNat 256 (48 <<< 222)).toNat = true ∧ (keyF key5.toNat).space = 0 ∧
    (0x3FFFE : BitVec 18) ≠ 0x3FFFF ∧ (1 : Fin 3).val < State.reset.part.ioDies ∧ State.reset.part.ioDies ≤ (2 : Fin 3).val := by
  decide +kernel
/-- HangsAreScannedForAndDeclared: an OPEN and a CLOSED context; a declaration due and none; the bit set and clear, no dump
ordered. -/
theorem wit_hang :
    let s (h : Bool) (od : Tbl Nat) : State := { State.reset with ctxs := [(15, { st := .opened, scans := 3, hung := h })], od := od }
    ((s true []).cx 15).st = .opened ∧ ((s true []).cx 14).st ≠ .opened ∧ ((s true []).cx 14).st ≠ .stopped ∧
    ((s true []).cx 15).hung = true ∧ ((s false []).cx 15).hung = false ∧ ((s true []).cx 15).replay = none ∧
    bit ((s true [(K.SYNC_STATUS, 2 ^ 15)]).par K.SYNC_STATUS) 15 = true ∧
    bit ((s true [(K.DUMP_TRIGGERS, 0)]).par K.SYNC_STATUS) 15 = false ∧
    bit ((s true [(K.DUMP_TRIGGERS, 0)]).par K.DUMP_TRIGGERS) 6 = false := by decide +kernel
/-- TimedOutWaitStaysInForce: a wait that is not granted, and one that is. -/
theorem wit_timeout : ∀ g : Bool,
    (State.cl { State.reset with clusters := [(0, { wait := some ⟨.side 0 0, 1, 5, 10, g, false⟩ })] } 0).wait =
      some ⟨.side 0 0, 1, 5, 10, g, false⟩ := fun _ => rfl
/-- The same statement: a WAIT of a stream in force. -/
theorem wit_timeout_command : ∀ g : Bool,
    let w : WaitSt := ⟨.pkg 0 0, 1, 5, 10, g, false⟩
    let s : State := { State.reset with ctxs := [(1, { cur := some ⟨0, 0, 1, 0⟩, wait := some w })] }
    (s.cx 1).wait = some w ∧ (s.cx 1).cur = some ⟨0, 0, 1, 0⟩ := fun _ => ⟨rfl, rfl⟩
/-- StatusFlagsAreClearedByWritingOnes: a part that runs. -/
theorem wit_flags : State.reset.live = true := by decide

/-! ### Transfers, drawers, memory and messages -/

/-- A transfer of cluster 0 that has moved all, started at 5 with a limit of 10, and names an ADD of 1 to package semaphore 3. -/
def xfer0 : Xfer where
  seq := 2 ^ 32 - 1
  core := 0
  ctx := 1
  gen := 1
  pc := 0
  descIdx := 0
  start := 5
  limit := 10
  fin := true
  desc := descF (2 <<< 102 + 3 <<< 83 + 1 <<< 59)
/-- Cluster 0 with one transfer under way. -/
def xferState (u : Xfer) : State := { cmd 0 with clusters := [(0, { running := true, ctx := 1, gen := 1, xfers := [u] })] }
/-- The drawer of context 1 on die 0: two resident pages, held, and two spill pages. -/
def drawer0 : Drawer where
  key := 4
  pages := 2
  skey := 5
  spages := 2
  order := 2
  held := [⟨8, 0, false, 0, [], 0⟩, ⟨9, 1, false, 1, [], 0⟩]
  entries := [⟨8, 1, none⟩, ⟨9, 0, none⟩]
/-- Endpoint 7 of IO0 serves context 1 for the remote context 3 in generation 9 under key 0x1234 (R418). -/
def netState : State := { cmd 0 with
  keys := [(5, key5)]
  links := { eps := [(7, BitVec.ofNat 128 (0x1234 <<< 70 + 1 <<< 57 + 3 <<< 53 + 9 <<< 41 + 1))] } }
/-- A message to it: MTYPE, VC, tag, its second slot and what follows; outside any step. -/
def msg (mtype vc tag w : Nat) (r : List (BitVec 128)) : List (BitVec 128) :=
  Msg.make ⟨mtype, vc, 0, 0, 0, 7, 0x1234, 0, 3, 9, tag⟩ (BitVec.ofNat 128 (w + 1 <<< 107) :: r)

/-- A completed transfer leaves its engine and its ADD leaves (R239, R235). -/
theorem test_dma_completion : ((after (.dmaCompletion 0 0xFFFFFFFF) (xferState xfer0)).cl 0).xfers = [] ∧
    (after (.dmaCompletion 0 0xFFFFFFFF) (xferState xfer0)).posts = [⟨.pkg 0 3, false, 1, 1, 1, 0⟩] := by decide +kernel
/-- A transfer that is not done ends at its deadline (R240). -/
theorem test_dma_timeout : (after (.dmaTimeout 0 0xFFFFFFFF) (xferState { xfer0 with fin := false })).now = 15 ∧
    ((after (.dmaTimeout 0 0xFFFFFFFF) (xferState { xfer0 with fin := false })).cl 0).xfers = [] ∧
    ((after (.dmaTimeout 0 0xFFFFFFFF) (xferState xfer0)).cl 0).xfers = [xfer0] := by decide +kernel
/-- The oldest page goes to the first spill page (R275). -/
theorem test_spill :
    let s : State := { cmd 0 with drawers := [(4, drawer0)], keys := [(5, key5)] }
    ((after (.drawerSpillCopy 1 0) s).drawer 1 0).held = [⟨8, 0, false, 0, [], 0⟩, ⟨9, 1, true, 0, [], 0⟩] ∧
    (after (.drawerSpillCopy 1 0) s).par K.DRAWER_PAGES_SPILLED = 1 := by decide +kernel
/-- A SEM_OP posts to its semaphore (R411); one outside the range is counted (R203). -/
theorem test_sem_op : (after (.semOp (msg 4 2 0 (1 <<< 106 + 99 <<< 90 + 5 <<< 66) [])) netState).posts =
      [⟨.pkg 0 99, true, 5, 1, 1, 4⟩] ∧
    (after (.semOp (msg 4 2 0 (100 <<< 90) [])) netState).par K.SEM_RANGE_DROPS = 1 := by decide +kernel
/-- The checks of R423 in their order: the form, the entry, its key. -/
theorem test_message_drops : (after (.semOp (msg 4 3 0 0 [])) netState).par K.BAD_MESSAGES = 1 ∧
    (after (.semOp (msg 4 2 0 0 [])) { netState with links := {} }).par K.EP_INVALID_DROPS = 1 ∧
    (after (.semOp (msg 4 2 0 0 [])) { netState with links := { eps := [(7, BitVec.ofNat 128 1)] } }).par K.EP_KEY_DROPS = 1 := by
  decide +kernel
/-- A request is applied once (R429). -/
theorem test_duplicate :
    let m := msg 4 2 9 (1 <<< 66) []
    ((after (.semOp m) (after (.semOp m) netState)).posts.length, (after (.semOp m) (after (.semOp m) netState)).par
      K.DUPLICATE_REQUESTS) = (1, 1) := by decide +kernel
/-- A request without an answer is sent again at the end of its wait (R428). -/
theorem test_retransmit :
    let r : Req := ⟨0, 7, 0xFFFF, [], .sem 1, 100, 0, 50, 3, false, []⟩
    let s : State := { netState with links := { netState.links with reqs := [r] } }
    (after (.requestRetransmit 0 7 0xFFFF) s).now = 150 ∧ (after (.requestRetransmit 0 7 0xFFFF) s).par K.REQ_RETRANSMITS = 1 ∧
    (after (.requestExhausted 0 7 0xFFFF) s).links.reqs = [r] := by decide +kernel
/-- A key's write and read of two bytes across a 2,048-byte boundary of a view of one stack (R362). -/
theorem test_memory : ((loadState.writeKey 5 2047 [7, 9]).readKey 5 2046 4) = [0, 7, 9, 0] ∧
    (loadState.writeKey 5 2047 [7, 9]).mem.hbm.byte (4096 + 2047) = 7 := by decide +kernel

/-! ### Witnesses: transfers, memory and messages -/

/-- TransfersCompleteOrTimeOut: done, not done; no ADD record; neither stalled nor held; stalled; no such transfer. -/
theorem wit_transfer :
    let s := xferState xfer0
    let t := xferState { xfer0 with fin := false }
    s.xfer 0 (0xFFFFFFFF : BitVec 32).toNat = some xfer0 ∧ s.accesses.all (fun a => a.owner ≠ .xfer 0 (2 ^ 32 - 1)) = true ∧
    s.xferDone 0 xfer0 = true ∧ xfer0.desc.record = false ∧ bit (s.traceCfg (0 / 8) 5 0) 4 = false ∧
    t.xfer 0 (2 ^ 32 - 1) = some { xfer0 with fin := false } ∧ t.xferDone 0 { xfer0 with fin := false } = false ∧
    (t.cx 1).replay = none ∧ t.accesses.any (fun a => a.owner = .xfer 0 (2 ^ 32 - 1) && (a.heldUndo || a.heldCopy.isSome)) = false ∧
    (xferState { xfer0 with stall := some (0, 1) }).xfer 0 (2 ^ 32 - 1) = some { xfer0 with stall := some (0, 1) } ∧
    s.xfer 0 0 = none := by decide +kernel
/-- DrawersSpillGrantAndTimeOut: a page to spill with a bad block, its stacks awake and asleep; a page for a stalled write; a
stall with a page free and with none; none of them. -/
theorem wit_drawer :
    let u : Xfer := { xfer0 with fin := false, stall := some (3, 4), hold := [(2 ^ 40 - 2048, [], none)] }
    let q : List (Nat × Nat) := [(0, 2 ^ 32 - 1)]
    let page : DrawerPage := ⟨9, 1, false, 1, [(3, 0)], 0⟩
    let s : State := { xferState u with drawers := [(4, { drawer0 with
      held := [⟨8, 0, false, 0, [], 0⟩, page], stalled := q })] }.writeSpace 1 (16 * 35 + 4) [8]
    let t : State := { xferState u with drawers := [(4, { drawer0 with held := [], stalled := q })] }
    let z : State := { s with hbm := { sites := [(0, { mode := .selfRefresh })] } }
    (s.drawer 1 0).spillNext = some page ∧ (s.drawer 1 0).freePage true = some 0 ∧
    (s.drawer 1 0).free false < s.par K.DRAWER_SPILL_MARK ∧ (s.drawer 1 0).freePage false = none ∧
    s.asleepSites 0 0 65536 = false ∧ z.asleepSites 0 0 65536 = true ∧ (s.drawer 1 0).page 9 32 = some page ∧
    (s.drawerBlock 1 0 9 35).h.bad = true ∧
    (t.drawer 1 0).stalled = [] ++ (0, 2 ^ 32 - 1) :: [] ∧ (t.drawer 1 0).freePage false = some 0 ∧
    (t.drawer 1 0).stalled.find? (t.needsPage 1 0) = some (0, 2 ^ 32 - 1) ∧
    t.xfer 0 (2 ^ 32 - 1) = some u ∧ u.stall = some (3, 4) ∧ (t.drawer 1 0).spillNext = none ∧
    (State.reset.drawer 1 0).stalled = [] ∧ (State.reset.drawer 1 0).freePage true = none := by decide +kernel
/-- WritesReachTheirBytesAndNoOthers: the last view, its last byte, and the package view. -/
theorem wit_memory : (0x29 : Nat) < 256 ∧ State.reset.part.viewStacks 0x29 ≠ [] ∧
    (stackBytes - 1) + [7].length ≤ (State.reset.part.viewStacks 0x29).length * stackBytes ∧ stackBytes - 1 < 2 ^ 40 ∧
    State.reset.part.grade = 680 := by decide +kernel
/-- MemoryWriteArrives: a write of a transfer in flight through a valid key of its context; a stale one. -/
theorem wit_write :
    let a (g : Nat) : Access := { owner := .xfer 0 (2 ^ 32 - 1), ctx := 1, gen := g, key := 5, off := 2048, bytes := [1, 2] }
    let s (g : Nat) : State := { xferState xfer0 with keys := [(5, key5)], accesses := [a g] }
    (∀ g p, ((s g).plan p).held = []) ∧ (s 1).accesses[0]? = some (a 1) ∧ (s 1).stale 1 1 = false ∧ (s 0).stale 1 0 = true ∧
    (s 1).xfer 0 (2 ^ 32 - 1) = some xfer0 ∧ ((s 1).key 5).valid = true ∧ ((s 1).key 5).ctx = 1 ∧
    (s 1).accessWaits (a 1) = false ∧ (dieDown 1 (s 1)).accessWaits { a 1 with owner := .xfer 16 0 } = true ∧
    ((s 1).key 6).valid = false ∧ (a 1).drawer = none ∧ (a 1).replay = false ∧
    State.behind { s 1 with accesses := (s 1).accesses.eraseIdx 0 } (a 1) = false ∧
    (s 1).offlineAt 5 2048 2 false = 0 ∧ (s 1).asleepAt 5 2048 2 false = false ∧ (s 1).undoHeld 1 5 none = false ∧
    (s 1).pendingOf 1 5 2048 2 = [] := ⟨fun _ _ => rfl, by decide +kernel⟩
/-- MessagesAreCheckedBeforeTheyAct: one message for each outcome. -/
theorem wit_message :
    let m := msg 4 2 0 0 []
    (Instr.semOp m, 4, [], fun t => State.landSemOp t m) ∈ arrivalRows m [] ∧
    netState.ioOf m = some 0 ∧ netState.live = true ∧ (Msg.common m).mtype = 4 ∧ netState.power.state ≠ .deep ∧
    (∀ p, (netState.plan p).held = []) ∧ Msg.wellFormed (msg 4 3 0 0 []) = false ∧ Msg.wellFormed m = true ∧
    bit (State.reset.ep 0 7) 0 = false ∧ ¬ admitsNothing netState 0 7 ∧ (Msg.common m).key = bits (netState.ep 0 7) 85 70 ∧
    bit (netState.ep 0 7) 40 = false ∧
    (Msg.common m).membership ≠ (netState.setPar K.JOB_MEMBERSHIP 5).par K.JOB_MEMBERSHIP ∧
    ∃ t, netState.judge 0 m = .lands t 0 7 1 none := by
  refine ⟨by simp [arrivalRows], by decide +kernel, by decide +kernel, by decide +kernel, by decide +kernel, fun _ => rfl, by decide +kernel,
    by decide +kernel, by decide +kernel, ?_, by decide +kernel, by decide +kernel, by decide +kernel, netState.takeMsg (msg 4 2 0 0 []),
    by decide +kernel⟩
  intro h
  rcases h with h | h
  · exact absurd h (by decide +kernel)
  · exact absurd h (by decide)
/-- The same statement: a message that would cross in DEEP, one that names another context, a RESP of another generation. -/
theorem wit_message_more :
    let m := msg 4 2 0 0 []
    let deep : State := { netState with power := { state := .deep }, links := { netState.links with inbox := [(9, m)] } }
    let o := Msg.make ⟨4, 2, 0, 0, 0, 7, 0x1234, 0, 4, 9, 0⟩ [1 <<< 107]
    crossesInDeep deep 0 m = true ∧ crossesInDeep netState 0 m = false ∧ deep.ioOf m = some 0 ∧ deep.live = true ∧
    netState.ioOf o = some 0 ∧ Msg.wellFormed o = true ∧ (Msg.common o).ctx ≠ bits (netState.ep 0 7) 56 53 ∧
    (Msg.common (msg 6 3 0 (2 <<< 91) [])).mtype = 6 ∧
    bits (Msg.slot (msg 6 3 0 (2 <<< 91) []) 1) 102 91 ≠ (netState.cx (bits (netState.ep 0 7) 60 57)).gen := by decide +kernel
/-- RemoteRequestsTakeEffect: a WRITE through key 5, a SEM_OP inside and outside the range, a RESP with a request and
without. -/
theorem wit_remote :
    let w := msg 5 4 0 (5 <<< 90 + 2048 <<< 50 + 1 <<< 47) (Block.slots ⟨0, 0⟩)
    let r : Req := ⟨0, 7, 0, [], .sem 1, 100, 0, 50, 3, false, []⟩
    netState.ioOf w = some 0 ∧ Msg.wellFormed w = true ∧ (Msg.common w).mtype = 5 ∧ bit (Msg.slot w 1) 106 = false ∧
    netState.judge 0 w = .lands (netState.takeMsg w) 0 7 1 none ∧ (netState.tags 0 7).seen 0 = false ∧
    (netState.drawerDie 1 5).isSome = false ∧ netState.isSpillKey 1 5 = false ∧ netState.keyOk 1 5 false true = true ∧
    bits (Msg.slot w 1) 105 90 = 5 ∧ bits (Msg.slot w 1) 89 50 = 2048 ∧
    2048 + 2048 * writeBlocks (w.headD 0) ≤ (netState.key 5).length ∧
    netState.judge 0 (msg 4 2 0 (99 <<< 90) []) = .lands (netState.takeMsg (msg 4 2 0 (99 <<< 90) [])) 0 7 1 none ∧
    netState.inPkgRange 1 99 = true ∧ netState.inPkgRange 1 100 = false ∧
    Msg.wellFormed (msg 6 3 0 (1 <<< 91) []) = true ∧
    netState.judge 0 (msg 6 3 0 (1 <<< 91) []) = .lands (netState.takeMsg (msg 6 3 0 (1 <<< 91) [])) 0 7 1 none ∧
    netState.req 0 7 0 = none ∧ ({ netState with links := { netState.links with reqs := [r] } } : State).req 0 7 0 = some r := by
  decide +kernel
/-- The same statement: a WRITE to a configured queue of a core of the context, and a SEM_OP for an I/O die that is absent. -/
theorem wit_remote_queue :
    let w := msg 5 4 0 (1 <<< 106 + 1 <<< 82 + 5 <<< 76 + 1 <<< 47) (Block.slots ⟨0, 0⟩)
    let s : State := { netState with cores := [(1, { queues := [(5, ⟨0, 1, 0, 0⟩)] })] }
    s.ioOf w = some 0 ∧ Msg.wellFormed w = true ∧ (Msg.common w).mtype = 5 ∧ bit (Msg.slot w 1) 106 = true ∧
    s.judge 0 w = .lands (s.takeMsg w) 0 7 1 none ∧ s.holds 1 0 = true ∧ s.part.isFused 1 = false ∧
    bits (Msg.slot w 1) 89 82 = 1 ∧ bits (Msg.slot w 1) 81 76 = 5 ∧ ((s.co 1).queue 5).size ≠ 0 ∧
    s.part.ioDies ≤ bits (Msg.slot (msg 4 2 0 (3 <<< 104) []) 1) 105 104 := by decide +kernel
/-- RequestsAreRepeatedThenGivenUp: retransmissions left, none left, a semaphore operation of IO1, no request. -/
theorem wit_request :
    let r (n : Nat) : Req := ⟨1, 7, 0xFFFF, [], .sem 1, 100, n, 50, 3, false, []⟩
    let s (n : Nat) : State := { netState with links := { netState.links with reqs := [r n] } }
    (s 2).live = true ∧ (s 2).req 1 7 0xFFFF = some (r 2) ∧ (r 2).retries < (r 2).limit ∧ (s 3).req 1 7 0xFFFF = some (r 3) ∧
    (r 3).limit ≤ (r 3).retries ∧ (r 3).owner = .sem 1 ∧ (s 3).links.waiting = [] ∧ (s 3).req 1 7 0 = none := by decide +kernel
/-- The same statement: a request whose copy waits for a port, and one that was transmitted. -/
theorem wit_request_unsent :
    let r : Req := ⟨1, 7, 0xFFFF, [5], .sem 1, 100, 0, 50, 3, false, []⟩
    let s (l : List (Nat × Msg)) : State := { netState with links := { netState.links with reqs := [r], parked := l } }
    (s [(1, [5])]).unsent r = true ∧ (s []).unsent r = false := by decide +kernel

/-! ### Collectives, steps, HBM, ports, the defence and copies -/

/-- A step by number and state. -/
def mkStep (n : Nat) (st : StepSt) : Step := { num := n, attempt := 0, st := st, sealedAt := 7, limit := 5 }
/-- Key 6 of context 1: as key 5, with sidecar and CHECK. -/
def key6 : BitVec 256 := key5 + BitVec.ofNat 256 (2 ^ 81)
/-- Context 1 with a step configuration that R327 accepts, the command `w` to accept and the steps `l`. -/
def stepped (w : BitVec 512) (l : List Step) : State :=
  let s := cmd w
  { s with
    keys := [(6, key6)]
    ctxs := [(1, { (s.cx 1) with steps := l, stepped := decide (l ≠ []) })]
    od := (K.CHEST_LOG_KEY + 1, 6) :: (K.CHEST_HOLD_KEY + 1, 6) :: (K.REPLAY_IN_KEY + 1, 6) :: (K.JOB_POSITION + 1, 1 <<< 20) :: s.od }
/-- A plan of context 1 with a list of one entry in key 6: tensor 1, units 0 and 1; group of two ranks, this part rank 0. -/
def planned (red : Nat) (l : List Step) : State :=
  let s := stepped 0 l
  { s with
    groups := [(0, BitVec.ofNat 256 (2 <<< 159))]
    plans := [(127, BitVec.ofNat 512 (red <<< 511 + 1 <<< 501 + 6 <<< 469 + 1 <<< 409 + 6 <<< 321 + 50 <<< 291 + 1))]
    pkg := [(50, 1)] }.writeKey 6 0 (toBytes 16 (1 <<< 104 + 2 <<< 56))
/-- A part in another run mode. -/
def modeIs (m : RunMode) : State := { State.reset with boot := { State.reset.boot with mode := m } }
/-- A port of the part in a mode. -/
def portIn (q : Nat) (p : Port) : State := { State.reset with links := { ports := [(q, p)] } }

/-- A GATHER plan whose GOSEM is reached takes its first unit (R295): rank 1 owns it. -/
theorem test_gather : ((after (.gatherFetch 127) (planned 0 [mkStep 3 .opened])).plan 127).count.taken = 1 ∧
    ((after (.gatherFetch 127) (planned 0 [mkStep 3 .opened])).plan 127).units.length = 1 := by decide +kernel
/-- The first step may have any number (R322); it is OPEN, and the command completes. -/
theorem test_step_open :
    let t := after (.stepOpen 1) (stepped (cmdWord 0x10 (9 <<< 320)) [])
    (t.cx 1).steps.map (fun u => (u.num, u.attempt, u.st)) = [(9, 0, .opened)] ∧ (t.cx 1).cur = none := by decide +kernel
/-- The number after the newest step is expected (R322): another opens nothing. -/
theorem test_step_order :
    ((after (.stepOpen 1) (stepped (cmdWord 0x10 (9 <<< 320)) [mkStep 7 .sealed])).cx 1).steps.length = 1 ∧
    ((after (.stepOpen 1) (stepped (cmdWord 0x10 (8 <<< 320)) [mkStep 7 .sealed])).cx 1).steps.length = 2 := by decide +kernel
/-- STEP.FAIL seals the open step failed with cause 5 (R332). -/
theorem test_step_fail : ((after (.stepFail 1) (stepped (cmdWord 0x13 (9 <<< 320)) [mkStep 9 .opened])).cx 1).steps.map
    (fun u => (u.st, u.failed, u.cause)) = [(.sealed, true, 5)] := by decide +kernel
/-- STEP.AWAIT of a step that is uncommitted waits; of one that committed it completes (R333). -/
theorem test_step_await : (((after (.stepAwait 1) (stepped (cmdWord 0x12 (9 <<< 320)) [mkStep 9 .sealed])).cx 1).cur.isSome,
    ((after (.stepAwait 1) (stepped (cmdWord 0x12 (9 <<< 320)) [])).cx 1).cur.isSome) = (true, false) := by decide +kernel
/-- COMMIT of the only step makes it LAST_COMMITTED (R343); a verdict timeout orphans the context (R353). -/
theorem test_verdict :
    let u : Step := { mkStep 9 .sealed with verdict := some { typ := 3, code := 1, step := 9 } }
    ((after (.verdictApply 1) (stepped 0 [u])).cx 1).lastCommitted = 9 ∧
    ((after (.verdictTimeout 1) (stepped 0 [mkStep 9 .sealed])).cx 1).orphaned = true ∧
    (after (.verdictTimeout 1) (stepped 0 [mkStep 9 .sealed])).now = 12 := by decide +kernel
/-- A membership that changes rolls steps back (R355). -/
theorem test_membership : ((after (.jobMembershipWrite 5) (stepped 0 [mkStep 9 .opened])).cx 1).steps = [] ∧
    (after (.jobMembershipWrite 5) (stepped 0 [mkStep 9 .opened])).par K.JOB_MEMBERSHIP = 5 := by decide +kernel
/-- A generator whose setup is allowed starts; with a context OPEN it fails (R379). -/
theorem test_traffic : ((after .hbmTgStart State.reset).gen 0).st = 1 ∧ ((after .hbmTgStart (cmd 0)).gen 0).st = 3 := by
  decide +kernel
/-- A stopped run reports what a memory that errs has given it, its reserved bits 0 (R380). -/
theorem test_traffic_found :
    let t := after (.memoryAccessArrival (.generator 0 0 (BitVec.ofNat 256 (3 <<< 128 + 7 <<< 64 + 5)))) (after .hbmTgStart State.reset)
    ((after .hbmTgStop t).gen 0).status = BitVec.ofNat 256 (4 <<< 252 + 3 <<< 128 + 5) := by decide +kernel
/-- A port that has found a signal trains, and is ACTIVE after a training on four lanes (R395, R400). -/
theorem test_port : ((after (.portSignalDetect 0) State.reset).port 0).mode = .training ∧
    ((after (.portTrainingEnd 0 15 0 100 false) (after (.portSignalDetect 0) State.reset)).port 0).mode = .active ∧
    ((after (.portTrainingEnd 0 3 0 100 false) (after (.portSignalDetect 0) State.reset)).port 0).width = 1 := by decide +kernel
/-- Three failed trainings and the port is FAILED (R396). -/
theorem test_port_failed : ((after (.portFailed 0) (portIn 0 { mode := .training, fails := 3, cause := 6 })).port 0).mode = .failed := by
  decide +kernel
/-- A message for another part with 15 hops is dropped (R417); one without a route too (R415). -/
theorem test_forward : (after (.messageForward 0 [(Common.word ⟨4, 2, 2, 15, 9, 0, 0, 0, 0, 0, 0⟩), 0]) State.reset).par
      K.HOP_LIMIT_DROPS = 1 ∧
    (after (.messageForward 0 [(Common.word ⟨4, 2, 2, 14, 9, 0, 0, 0, 0, 0, 0⟩), 0]) State.reset).par K.NO_ROUTE_DROPS = 1 := by
  decide +kernel
/-- Codewords count corrected symbols and uncorrectable codewords (R390). -/
theorem test_codeword :
    let s := portIn 0 { mode := .active }
    (after (.codewordReceive 0 ⟨some 15, none, 0, 0, 0, 0⟩) s).par K.FEC_CORRECTED_SYMBOLS = 15 ∧
    (after (.codewordReceive 0 ⟨some 15, none, 0, 0, 0, 0⟩) s).par K.FEC_UNCORRECTED_CODEWORDS = 1 := by decide +kernel
/-- A self-test runs on an idle cluster from its interval on (R438). -/
theorem test_selftest : ((after (.selftestStart 31) State.reset).cl 31).testing = true ∧
    (after (.selftestStart 31) State.reset).now = 60000 * 4000000 := by decide +kernel
/-- The score loses a sixteenth, rounded up (R446). -/
theorem test_decay : (after .healthDecay { State.reset with defence := { score := 17 } }).defence.score = 15 ∧
    (after .healthDecay { State.reset with defence := { score := 0 } }).defence.score = 0 := by decide +kernel
/-- At the end of its hold-off a score at the threshold makes a request (R449 to R451). -/
theorem test_request : (after .expelHoldoffEnd { State.reset with defence := { score := 128, holdoff := some 7 } }).defence.seq = 1 ∧
    (after .expelHoldoffEnd { State.reset with defence := { score := 127, holdoff := some 7 } }).defence.seq = 0 := by decide +kernel
/-- A restore of a context that is not OPEN is refused for reason 1 (R473). -/
theorem test_restore : ((after (.restoreCtrl 1 5) State.reset).mir 1).reason = 1 ∧
    ((after (.restoreCtrl 1 5) State.reset).mir 1).restore = .refused := by decide +kernel

/-! ### Witnesses: collectives, steps, HBM, ports, the defence and copies -/

/-- GathersAndReductionsAdvance: a plan of either kind with a unit to take, another rank's; units in flight; a reduction;
a plan that is not VALID. -/
theorem wit_plan :
    let s := planned 0 [mkStep 3 .opened]
    let t := planned 1 [mkStep 3 .opened]
    let u : GatherUnit := ⟨0, 1, 0, 5, 6, 3, 2, [], false⟩
    let r : Reduction := ⟨2 ^ 24 - 1, 1, 0, 255, 3, 0, 0, [], 0, 5, 6⟩
    (s.planF 127).isSome = true ∧ (s.planF 127).map (·.reduce) = some false ∧ (t.planF 127).map (·.reduce) = some true ∧
    s.live = true ∧ (s.cx 1).st = .opened ∧ (s.cx 1).curStep = some (mkStep 3 .opened) ∧
    (s.planF 127).map (fun f => (waitGe (s.sem (.pkg f.io f.go)) ((s.plan 127).count.taken + 1), findUnit s f f.lcount 0 0,
      decide (f.owner 0 (s.listEntry f 0).tensor ≠ f.rank), s.listUnits f)) = some (true, some (0, 0), true, 2) ∧
    ((s.plan 127).units.filter (fun u => !u.done)).length < 64 ∧
    firstDue ((({ s with planSt := [(127, { units := [u] })] } : State).plan 127).units.filter (fun u => !u.done))
      (fun u => u.start + u.limit) = some u ∧
    firstDue ((({ t with planSt := [(127, { reds := [r] })] } : State).plan 127).reds.filter
      (fun q => q.unit = r.unit && q.round = 255)) (fun q => q.start + q.limit) = some r ∧ s.planF 0 = none := by decide +kernel
/-- The same statement's REDUCE clause: no gather is held. -/
theorem wit_plan_held : ∀ p, ((planned 1 [mkStep 3 .opened]).plan p).held = [] := fun _ => rfl
/-- StepsOpenInOrder: waiting; the wrong number; a barred context; the expected number; a replay step. -/
theorem wit_step_open :
    let o (w : Nat) (l : List Step) := stepped (cmdWord 0x10 w) l
    let c (w : Nat) : Cmd := ⟨0, cmdWord 0x10 w, 1, 0⟩
    (o (9 <<< 320) []).curCmd 1 0x10 = some (c (9 <<< 320)) ∧ (c (9 <<< 320)).replay = false ∧
    ((o (9 <<< 320) [mkStep 8 .opened]).cx 1).openWaits = true ∧ ((o (9 <<< 320) [mkStep 8 .sealed]).cx 1).openWaits = false ∧
    ((o (9 <<< 320) [mkStep 8 .sealed]).cx 1).expects 9 = true ∧ ((o (9 <<< 320) [mkStep 7 .sealed]).cx 1).expects 9 = false ∧
    ((o (9 <<< 320) []).mir 1).barred = false ∧ (o (9 <<< 320) []).stepConfigBad 1 = false ∧
    (({ o (9 <<< 320) [] with mirrors := [(1, { barred := true })] } : State).mir 1).barred = true ∧
    (o (9 <<< 320) []).links.held.all (fun h => h.ctx ≠ 1) = true ∧
    (c (1 <<< 383 + 9 <<< 320)).replay = true ∧ ((o (1 <<< 383 + 9 <<< 320) []).cx 1).replayWaits = false ∧
    (o (9 <<< 320) []).inPkgRange 1 99 = true := by decide +kernel
/-- The same statement: a replay step that waits for another, and one for a context that is barred. -/
theorem wit_replay_open :
    let s := stepped (cmdWord 0x10 (1 <<< 383 + 9 <<< 320)) []
    let two : State := { s with ctxs := [(1, { (s.cx 1) with replay := some { mkStep 9 .opened with replay := some (0, 0) } })] }
    (two.cx 1).replayWaits = true ∧ (s.cx 1).replayWaits = false ∧ s.stepConfigBad 1 = false ∧ (s.mir 1).barred = false ∧
    ({ s with mirrors := [(1, { barred := true })] } : State).curCmd 1 0x10 = s.curCmd 1 0x10 := by decide +kernel
/-- The same statement: no plan holds anything. -/
theorem wit_step_plans : ∀ p, ((stepped 0 []).plan p).sums = [] ∧ ((stepped 0 []).plan p).held = [] := fun _ => ⟨rfl, rfl⟩
/-- StepsAreSealedFailedAndAwaited: an open step ready and not ready; no open step; an uncommitted and a closed one. -/
theorem wit_step_seal :
    let s (op : Nat) (l : List Step) := stepped (cmdWord op (9 <<< 320)) l
    let c (op : Nat) : Cmd := ⟨0, cmdWord op (9 <<< 320), 1, 0⟩
    (s 0x11 []).curCmd 1 0x11 = some (c 0x11) ∧ ((s 0x11 []).cx 1).openNumbered 9 = none ∧
    ((s 0x11 [mkStep 9 .opened]).cx 1).openNumbered 9 = some (mkStep 9 .opened) ∧
    (s 0x11 [mkStep 9 .opened]).sealReady 1 (mkStep 9 .opened) = true ∧ (mkStep 9 .opened).replay = none ∧
    ({ s 0x11 [mkStep 9 .opened] with moves := [{ src := 0, id := 0, no := 0, ctx := 1, gen := 1, dst := 0, dq := 0, blocks := [], step := some 9 }] } : State).sealReady 1 (mkStep 9 .opened) =
      false ∧
    (s 0x12 []).curCmd 1 0x12 = some (c 0x12) ∧ ((s 0x12 [mkStep 9 .sealed]).cx 1).steps.any (fun t => t.num = 9) = true ∧
    ((s 0x12 []).cx 1).steps.any (fun t => t.num = 9) = false ∧
    (s 0x13 []).curCmd 1 0x13 = some (c 0x13) ∧ ((s 0x13 [mkStep 9 .opened]).cx 1).openStep = some (mkStep 9 .opened) ∧
    (mkStep 9 .opened).num = (c 0x13).step ∧ (mkStep 9 .opened).failed = false := by decide +kernel
/-- The same statement: an open replay step for SEAL and for FAIL. -/
theorem wit_replay_seal :
    let u : Step := { mkStep 9 .opened with replay := some (0, 0) }
    let s (op : Nat) : State := { stepped (cmdWord op (9 <<< 320)) [] with
      ctxs := [(1, { ((stepped (cmdWord op (9 <<< 320)) []).cx 1) with replay := some u })] }
    ((s 0x11).cx 1).openNumbered 9 = some u ∧ (s 0x11).sealReady 1 u = true ∧ u.replay.isSome = true ∧
    ((s 0x13).cx 1).openStep = none ∧ ((s 0x13).cx 1).replay = some u ∧ u.st = .opened ∧
    (s 0x13).curCmd 1 0x13 = some ⟨0, cmdWord 0x13 (9 <<< 320), 1, 0⟩ := by decide +kernel
/-- A verdict message of HEALTH for step 9 of membership `v`, on entry 7 of the context with steps `l`. -/
def health (v : Nat) : List (BitVec 128) :=
  let b := VMsg.bytes { typ := 1, membership := v, step := 9, code := 0 }
  Msg.make ⟨2, 1, 0, 0, 0, 7, 0x1234, 0, 3, 9, 0⟩ ((List.range 4).map (fun i => BitVec.ofNat 128 (b >>> (128 * i))))
/-- VerdictMessagesFindTheirStep: a message for a sealed step; another membership; no such step; an ORPHANED context. -/
theorem wit_verdict_message :
    let s (l : List Step) : State := { stepped 0 l with links := netState.links }
    let m := health 0
    (Instr.health m, 1, fun s e x v t => State.takeHealth s e x v t) ∈ verdictRows m ∧
    ((s []).ioOf m = some 0 ∧ (s []).live = true ∧ (Msg.common m).mtype = 2 ∧ Msg.wellFormed m = true ∧
      crossesInDeep (s []) 0 m = false ∧ (s []).judge 0 m = .lands ((s []).takeMsg m) 0 7 1 none ∧ (Msg.verdict m).typ = 1 ∧
      (Msg.verdict m).known = true ∧ (Msg.verdict (health 1)).membership ≠ (s []).par K.JOB_MEMBERSHIP ∧
      (Msg.verdict m).membership = (s []).par K.JOB_MEMBERSHIP ∧ awaited (s []) 1 (Msg.verdict m) = none ∧
      awaited (s [mkStep 9 .sealed]) 1 (Msg.verdict m) = some (mkStep 9 .sealed) ∧ ((s []).cx 1).orphaned = false ∧
      (({ s [] with ctxs := [(1, { ((s []).cx 1) with orphaned := true })] } : State).cx 1).orphaned = true) :=
  ⟨by simp [verdictRows], by decide +kernel⟩
/-- The same statement: another TYPE, a reserved TYPE, a child that answers by entry 7. -/
theorem wit_verdict_child :
    (Msg.verdict (health 0)).typ ≠ 2 ∧ (VMsg.known { typ := 5 }) = false ∧
    ({ stepped 0 [] with od := (K.VERDICT_CHILDREN + 1, 7 <<< 32 + 1) :: (stepped 0 []).od } : State).childOf 1 7 = some 0 := by
  decide +kernel
/-- VerdictsCommitAbortAndTimeOut: COMMIT of the only step, ABORT, no verdict, a sealed and an open step. -/
theorem wit_verdicts :
    let u (c : Nat) : Step := { mkStep 9 .sealed with verdict := some { typ := 3, code := c, step := 9 } }
    (stepped 0 [u 1]).live = true ∧ ((stepped 0 [u 1]).cx 1).steps = [u 1] ∧ (u 1).verdict = some { typ := 3, code := 1, step := 9 } ∧
    ((stepped 0 [u 1]).mir 1).copy = none ∧ ((stepped 0 [u 1]).mir 1).ckpt = none ∧ ((stepped 0 [u 3]).cx 1).steps = u 3 :: [] ∧
    (u 3).verdict.map (·.code) = some 3 ∧ (mkStep 9 .sealed).verdict = none ∧ (mkStep 9 .sealed).st = .sealed ∧
    (mkStep 9 .opened).st = .opened ∧ (stepped 0 []).jobSize 1 ≠ 0 ∧ ((stepped 0 []).cx 1).st = .opened ∧
    ((stepped 0 [u 2]).cx 1).steps = u 2 :: [] ∧ (u 2).verdict.map (·.code) = some 2 ∧ (u 2).st = .sealed ∧
    (({ stepped 0 [u 1] with mirrors := [(1, { ckpt := some { kind := .checkpoint, step := 0, ep := 0, key := 0 } })] } : State).mir 1).ckpt.isSome = true ∧
    ((stepped 0 [u 1]).cx 1).steps.filter (fun u => (u.st = .sealed || u.st = .replaying) && !u.final) = [] ∧
    firstDue (((stepped 0 [u 2, mkStep 10 .sealed]).cx 1).steps.filter (fun u =>
      (u.st = .sealed || u.st = .replaying) && !u.final)) (fun u => u.sealedAt + u.limit) = some (u 2) ∧
    (stepped 0 []).answering = true ∧ (modeIs .dark).answering = false ∧ (stepped 0 []).par K.JOB_MEMBERSHIP ≠ 5 := by
  decide +kernel
/-- RepairsAndTrafficGenerators: a repair that is refused and one that is not; a start that fails and one that does not; a run
that stops, and one that ends with a pattern. -/
theorem wit_generator :
    let run (w : Nat) : State := { State.reset with hbm := { gens := [(31, { cfg := w, setup := w, status := BitVec.ofNat 256 (1 <<< 252) })] } }
    let c := tgCfg (64 <<< 112 + 1 <<< 96)
    State.reset.repairRefused 9 = true ∧
    ({ State.reset with hbm := { repairs := [⟨0, 9, 0, 16, false, 0⟩] } } : State).repairRefused 9 = false ∧
    State.reset.powered = true ∧ (State.reset.gen State.reset.tgSelect).st ≠ 1 ∧ (cmd 0).tgRefused = true ∧
    ({ State.reset with od := [(K.HBM_TG_SELECT, 31 * 16)] } : State).tgSelect = 31 ∧ ((run 0).gen 31).st = 1 ∧
    ({ State.reset with hbm := { gens := [(0, { cfg := 64 <<< 112 })] } } : State).tgRefused = false ∧
    (run 0).live = true ∧ (modeIs .rom).live = false ∧ ({ State.reset with power := { state := .retain } } : State).powered = false ∧
    ((run (64 <<< 112 + 1 <<< 96)).gen (0 * 32 + 31)).st = 1 ∧ c.loops ≠ 0 ∧ c.pattern < 7 ∧ c.mode ≤ 1 ∧ c.start % 32 = 0 ∧
    c.pcs ≠ [] ∧ 1 < c.bursts := by decide +kernel
/-- PortsTrainRetrainAndFail: a port in each mode; conditions of the retraining commands; a training that fails and one that
does not. -/
theorem wit_port :
    let s (m : PortMode) (n : Nat) : State := portIn 17 { mode := m, fails := n, retry := [⟨0, [], 8⟩], recent := List.replicate 65 0 }
    (∀ m n, ((s m n).port 17).mode = m) ∧ (∃ f ∈ ((s .active 0).port 17).retry, 8 ≤ f.resent) ∧
    ((s .active 0).par K.PORT_UNCORR_LIMIT <
      (((s .active 0).port 17).recent.filter (fun t => decide ((s .active 0).now < t + 4000000))).length ∧
    ((s .active 0).answering && (s .active 0).portOn 17) = true ∧ (State.reset.answering && State.reset.portOn 18) = false ∧
    (s .training 2).trainCause 17 0 0 100 false ≠ 0 ∧ ((s .training 2).port 17).fails < 3 ∧
    (s .training 2).trainedWidth 17 15 = some 0 ∧ false = bit ((s .training 2).par K.PORT_HOST) 17 ∧
    3 ≤ ((s .retraining 3).port 17).fails ∧ ((s .retraining 3).port 17).cause < 7) :=
  ⟨fun _ _ => rfl, ⟨⟨0, [], 8⟩, by decide +kernel, by decide⟩, by decide +kernel⟩
/-- LinksCarryCodewordsAndMessages: an ACTIVE, a training and a detecting port; messages at 15 hops, without a route, and with
one; a link inside the package. -/
theorem wit_link :
    let m (h : Nat) : List (BitVec 128) := [Common.word ⟨4, 2, 2, h, 0x5000, 0, 0, 0, 0, 0, 0⟩, 0]
    let s : State := { portIn 3 { mode := .active } with links := { ports := [(3, { mode := .active })], routes := [(5, 2 ^ 31 + 8)] } }
    s.answering = true ∧ s.part.hasPort 3 = true ∧ (s.port 3).mode = .active ∧ (s.port 4).mode = .detect ∧
    s.par K.FEC_CORRECTED_SYMBOLS < 2 ^ 64 ∧ s.par K.FEC_UNCORRECTED_CODEWORDS < 2 ^ 64 ∧
    s.ioOf (m 15) = none ∧ Msg.stays (m 15) = false ∧ (Msg.common (m 15)).hops = 15 ∧ (Msg.common (m 14)).hops < 15 ∧
    State.reset.route (Msg.common (m 14)).daddr = none ∧ s.route (Msg.common (m 14)).daddr = some 8 ∧
    s.choosePort 8 (Msg.common (m 14)).vc = some 3 ∧ s.power.state ≠ .deep ∧ s.live = true ∧
    bit (({ s with od := [(K.DUMP_TRIGGERS, 0)] } : State).par K.DUMP_TRIGGERS) 5 = false ∧
    bit (({ s with od := [(K.DUMP_TRIGGERS, 0)] } : State).par K.DUMP_TRIGGERS) 3 = false := by decide +kernel
/-- The same statement: a path through the package that is stopped, one that would cross in DEEP; codewords in sequence. -/
theorem wit_link_more :
    let m : List (BitVec 128) := [Common.word ⟨4, 2, 2, 14, 0x5000, 0, 0, 0, 0, 0, 0⟩, 0]
    let s : State := { portIn 3 { mode := .active } with
      links := { ports := [(3, { mode := .active })], routes := [(5, 2 ^ 31 + 8)], inbox := [(9, m)] } }
    let deep : State := { s with power := { state := .deep } }
    (dieDown 2 s).ioOf m = none ∧ standsAt (dieDown 2 s) m = some 9 ∧ leavesBy (dieDown 2 s) m = some 3 ∧
    (dieDown 2 s).pathWaits (4 + 9 / 9) (4 + 3 / 9) = true ∧ s.pathWaits (4 + 9 / 9) (4 + 3 / 9) = false ∧
    leavesBy State.reset m = none ∧ deep.answering = true ∧ leavesBy deep m = some 3 ∧ standsAt deep m = some 9 ∧
    (s.port 3).rxBits = 0 ∧ (s.port 3).rxBad = false ∧ bits (0 : BitVec 40).toNat 12 1 = (s.port 3).rxSeq ∧
    bits (4 : BitVec 40).toNat 12 1 = ((s.port 3).rxSeq + 2) % 4096 ∧ s.service.dump = none ∧ s.service.resets.cur = none := by
  decide +kernel
/-- Its conclusion about the time of a codeword pair: a pair in sequence ends four flits and the port answers with a pair. -/
theorem test_codeword_flits :
    let s := portIn 3 { mode := .active }
    ((after (.codewordReceive 3 ⟨some 0, some 0, 0, 4, 0, 0⟩) s).port 3).rxSeq = 4 ∧
    ((after (.codewordReceive 3 ⟨some 0, some 0, 0, 4, 0, 0⟩) s).port 3).ctl.length = 2 ∧
    ((after (.codewordReceive 3 ⟨none, none, 0, 4, 0, 0⟩) s).port 3).rxSeq = 0 := by decide +kernel
/-- SelftestsRunAndFailuresAreCounted: an idle cluster, a running one, one asleep, one under test. -/
theorem wit_selftest :
    let s (l : Cluster) : State := { State.reset with clusters := [(31, l)] }
    (s {}).live = true ∧ ((s {}).cl 31).testing = false ∧ (s {}).power.state = .active ∧ ((s {}).cl 31).testDue = false ∧
    ((s { running := true, testDue := true }).cl 31).running = true ∧ ((s { asleep := true }).cl 31).asleep = true ∧
    ((s { testing := true }).cl 31).testing = true ∧ (s {}).par K.SELFTEST_FAILS < 2 ^ 64 := by decide
/-- The same statement: an idle cluster whose test is due, and the last of two failure records. -/
theorem wit_selftest_due :
    let s : State := { State.reset with clusters := [(31, { testDue := true })] }
    (s.cl 31).testing = false ∧ (s.cl 31).testDue = true ∧ (s.cl 31).running = false ∧
    ([1, 2] : List (BitVec 128)).getLast? = some 2 := by decide
/-- ScoreExpulsionAndObservation: a hold-off with the score at the threshold and below it; a PENDING request; none. -/
theorem wit_score :
    let s (d : Defence) : State := { State.reset with defence := d }
    (s { score := 127, holdoff := some 7 }).defence.score < (s {}).par K.EXPEL_THRESHOLD ∧
    (s {}).par K.EXPEL_THRESHOLD ≤ (s { score := 128, holdoff := some 7 }).defence.score ∧
    (s { score := 128, holdoff := some 7 }).defence.requestState ≠ 1 ∧ (128 : Nat) < 2 ^ 16 ∧
    (∀ n ∈ ({} : Defence).counts, n < 2 ^ 16) ∧
    (s { request := 1, seq := 0xFFFF }).defence.requestState = 1 ∧ (s { seq := 0xFFFF }).defence.seq = (0xFFFF : BitVec 16).toNat := by
  decide
/-- The same statement: a request that is barred, an observation entered in the cycle in which the score rose. -/
theorem wit_score_more :
    let s (d : Defence) : State := { State.reset with defence := d }
    (s { score := 128, holdoff := some 7, barred := true }).defence.barred = true ∧
    (s { score := 128, cycle := (0, 5, false, none) }).defence.cycle.1 = (s {}).now ∧ 5 < (s {}).par K.EXPEL_THRESHOLD ∧
    (s { cycle := (9, 0, false, none) }).defence.cycle.1 ≠ (s {}).now ∧ (s {}).defence.requestState ≠ 1 := by decide
/-- CopiesCheckpointsAndRestores: an OPEN context with its mirror enabled and nothing running; a retry that is due; an entry that
serves the context and one that does not; a manifest without its magic; a check in progress. -/
theorem wit_copy :
    let s : State := { stepped 0 [] with links := netState.links, od := (K.MIRROR_CFG + 1, 1 <<< 16) :: (stepped 0 []).od }
    s.live = true ∧ (s.cx 1).st = .opened ∧ (s.cx 1).hasStep = false ∧ s.mirrorOn 1 = true ∧ (s.mir 1).copy = none ∧
    (s.mir 1).ckptWait = none ∧ (s.mir 1).ckpt = none ∧ s.send.copy = none ∧ s.entryServes 7 1 = true ∧ s.entryServes 8 1 = false ∧
    (s.cx 1).steps = [] ∧ (s.cx 1).replay = none ∧ (s.mir 1).check = none ∧
    bits (s.imageWord 1 0).data.toNat 1023 992 ≠ 0x5357534D ∧
    (({ s with mirrors := [(1, { retryAt := some 9, check := some (5, 2) })] } : State).mir 1).retryAt = some 9 ∧
    (({ s with mirrors := [(1, { retryAt := some 9, check := some (5, 2) })] } : State).mir 1).check = some (5, 2) ∧
    (State.reset.cx 1).st ≠ .opened ∧ ((stepped 0 [mkStep 9 .opened]).cx 1).hasStep = true := by decide +kernel
/-- The same statement: a manifest of an image of kind 0, and one that a full copy waits for. -/
theorem wit_copy_image :
    let s : State := { stepped 0 [] with
      links := netState.links, od := (K.MIRROR_CFG + 1, 1 <<< 16) :: (K.WARDROBE_KEY + 1, 6) :: (stepped 0 []).od }
    let t := s.writeKey 6 0 (toBytes 128 (0x5357534D <<< 992 + 9 <<< 952 + 4 <<< 816))
    let w := bits (t.imageWord 1 0).data.toNat 1023 0
    bits w 1023 992 = 0x5357534D ∧ bits w 991 984 = 0 ∧ bits w 983 952 = 9 ∧ t.send.copy = none ∧ t.entryServes 7 1 = true ∧
    bits (1 + 7 <<< 4) 21 4 = 7 ∧ bits (1 + 7 <<< 4) 3 0 = 1 ∧ (t.mir 1).full = false ∧
    (({ t with mirrors := [(1, { copy := some { kind := .mirror, step := 0, ep := 0, key := 0 } })] } : State).mir 1).copy ≠ none := by decide +kernel

/-! ### Resets, management, power and boot -/

/-- A request by port 0: operation, entry, SEL, SELV and LENGTH, with its data slots (R530). -/
def request (op entry sel selv length : Nat) (r : List (BitVec 128)) : List (BitVec 128) :=
  Msg.make ⟨1, 0, 0, 0, 0xFFFFFF, 0, 0, 0, 0, 0, 7⟩
    (BitVec.ofNat 128 (op <<< 120 + entry <<< 88 + 0x123 <<< 64 + sel <<< 32 + selv <<< 31 + length <<< 20) :: r)
/-- The part with port 0 ACTIVE, where what leaves waits for credits. -/
def served : State := portIn 0 { mode := .active, credits := [0, 0, 0, 0, 0, 0, 0, 0] }
/-- The message at the end of port 0's queue as (OP, STATUS, SEL, first data slot). -/
def answer (s : State) : Nat × Nat × Nat × Nat :=
  let m := (s.port 0).out.getLastD []
  (bits (Msg.slot m 1) 127 120, bits (Msg.slot m 1) 119 112, bits (Msg.slot m 1) 63 32, bits (Msg.slot m 2) 127 0)
/-- A part with some entries of the dictionary. -/
def withOd (l : List (Nat × Nat)) : State := { State.reset with od := l }
/-- A part with a service state. -/
def withService (v : Service) : State := { State.reset with service := v }
/-- The part with a staged image of 5,000 bytes whose five chunks are held, and a check's result. -/
def staged (v : Option Nat) (w : Bool) : State :=
  { served with boot := { served.boot with staged := some ⟨5000, [0, 1, 2, 3, 4], v⟩, writing := w } }

/-- A core reset closes the contexts of its cluster and is in progress until RESET_DONE, which takes its time (R482). -/
theorem test_core_reset :
    let s : State := { cmd 0 with od := (K.DUMP_TRIGGERS, 0) :: (cmd 0).od }
    let t := after (.coreReset 3) s
    (t.cx 1).st = .closed ∧ t.service.resets.cur.isSome = true ∧ (after (.resetDone { took := 5 }) t).now = 20000 ∧
    (after (.resetDone { took := 5 }) t).service.resets.last = 1 ∧
    ((after (.coreReset 64) s).cx 1).st = .closed ∧ ((after (.coreReset 8) s).cx 1).st = .opened := by decide +kernel
/-- A watchdog that ends resets the management core and reports cause 1 (R488, R489). -/
theorem test_watchdog :
    let t := after .mgmtWatchdogExpiry { withService { mgmt := { watch := 40000000 } } with
      od := [(K.MGMT_FAIL_LIMIT, 3), (K.MGMT_FAIL_WINDOW, 5), (K.DUMP_TRIGGERS, 0)] }
    t.now = 40000000 ∧ t.service.mgmt.coreUp = false ∧
    bits (Tbl.get t.reports.ring 0 1).toNat 159 152 = 12 ∧ bits (Tbl.get t.reports.ring 0 1).toNat 63 0 = 5 := by decide +kernel
/-- REPORT_ACK of 2 removes the records up to it, across the wrap of the number too (R492). -/
theorem test_report_ack : (after (.reportAck 2) { State.reset with reports := { next := 4, unacked := [(2 ^ 32 - 1, 0), (2, 0), (3, 0)] } }
    ).reports.unacked = [(3, 0)] := by decide +kernel
/-- A fence notice closes the job contexts and clears the membership (R495). -/
theorem test_fence :
    let t := after (.fenceNotice 9) { stepped 0 [] with od := (K.JOB_MEMBERSHIP, 4) :: (stepped 0 []).od }
    (t.cx 1).st = .closed ∧ t.par K.JOB_MEMBERSHIP = 0 ∧ t.service.spare.given = 9 := by decide +kernel
/-- Before it is locked, the time base takes a positive offset in one step: half of 120 here (R501, R502). -/
theorem test_time_reply :
    let m := Msg.make ⟨3, 1, 0, 0, 0, 0, 0, 0, 0, 0, 1⟩ [BitVec.ofNat 128 (60 <<< 64 + 20 <<< 32 + 1)]
    let s : State := { served with now := 20, service := { served.service with time := { tag := 1, t1 := some 0 } } }
    let t := after (.timeSyncReply 0 m) { s with od := [(K.TIME_SOURCE_PORT, 0)] }
    t.now = 80 ∧ t.service.time.locked = true := by decide +kernel
/-- A READ of POWER_LIMIT is answered with status 0 and its value, one of an entry that does not exist with a status of
its own (R531 to R533). -/
theorem test_read : answer (after (.mgmtRead 0 (request 1 K.POWER_LIMIT 0 0 0 [])) { served with od := [(K.POWER_LIMIT, 0x1234)] }) =
    (0x81, 0, 2, 0x1234) ∧ (answer (after (.mgmtRead 0 (request 1 0xFFFF00 0 0 0 [])) served)).2.1 = 2 := by decide +kernel
/-- A WRITE of DUMP_TRIGGERS leaves its value there (R538). -/
theorem test_write : (after (.mgmtWrite 0 (request 2 K.DUMP_TRIGGERS 0 0 1 [0x21])) served).par K.DUMP_TRIGGERS = 0x21 := by
  decide +kernel
/-- A commit that succeeds stores its value (R547). -/
theorem test_nv_commit :
    let s := withService { mgmt := { commits := [⟨77, [5], none⟩] } }
    Tbl.get (after (.nvCommitEnd true) s).service.mgmt.nv [] 77 = [5] ∧
    (after (.nvCommitEnd false) s).service.mgmt.nvFailed = true := by decide +kernel
/-- IMAGE_DATA of a chunk outside the image is refused; inside it the chunk is held (R584). -/
theorem test_image_data :
    let s : State := { served with boot := { served.boot with staged := some ⟨5000, [], none⟩ } }
    ((after (.imageData 0 (request 0x12 0 4 0 1 [9])) s).boot.staged.map (·.chunks),
     (after (.imageData 0 (request 0x12 0 5 0 1 [9])) s).boot.staged.map (·.chunks)) = (some [4], some []) := by decide +kernel
/-- RETAIN: clusters sleep, stacks refresh themselves, and the transition ends in RETAIN (R567). -/
theorem test_retain :
    let t := after .powerStateRetain State.reset
    (t.cl 31).asleep = true ∧ (t.stack 0).mode = .selfRefresh ∧ (after (.powerTransitionEnd {}) t).power.state = .retain := by
  decide +kernel
/-- A window above POWER_LIMIT lowers the cap, one at 95 % of it does not raise it above 5 (R575). -/
theorem test_window : (after (.powerWindowEnd 101) (withOd [(K.POWER_LIMIT, 100)])).power.cap = 4 ∧
    (after (.powerWindowEnd 95) (withOd [(K.POWER_LIMIT, 100)])).power.cap = 5 := by decide +kernel
/-- R468: a log of step 5 has come and the wardrobe holds no manifest of step 4, so the owed replay is a miss and no ADD leaves;
where the replay is not owed yet, the log waits. -/
theorem test_miss :
    let c (st : StepSt) : Ctx := { steps := [{ num := 5, st := st, owed := 1 }], lastCommitted := 4, logArrived := some 5 }
    let s (st : StepSt) : State := (State.reset.modCx 0 (fun _ => c st)).announceReplay 0
    ((s .replaying).cx 0).logArrived = none ∧ (((s .replaying).cx 0).steps.map (·.missed)) = [1] ∧ (s .replaying).posts = [] ∧
    ((s .sealed).cx 0).logArrived = some 5 ∧ (((s .sealed).cx 0).steps.map (·.missed)) = [0] := by decide +kernel
/-- A thermal trip leaves the part dark; after RESET_L a cold boot brings it back (R576, R578). -/
theorem test_trip : (after (.thermtrip 3 0x1700) State.reset).boot.mode = .dark ∧
    (after .resetLAssert State.reset).boot.mode = .resetLow ∧
    (after (.coldBoot { bootsel := 2 }) (after .resetLAssert State.reset)).boot.mode = .hold := by decide +kernel
/-- The TAP acts outside the test hold as BYPASS on a boundary scan instruction (R596). -/
theorem test_tap : (after .extest State.reset).boot.tap.taken = .extest ∧ (after .extest State.reset).tapActing = .bypass := by
  decide +kernel
/-- An SMBus read of POWER_LIMIT gives two bytes, the low one first (R595). -/
theorem test_smbus : (after .smbusRead (after (.smbusSelect (BitVec.ofNat 16 (K.POWER_LIMIT / 256)) (BitVec.ofNat 8 K.POWER_LIMIT))
    (withOd [(K.POWER_LIMIT, 0x1234)]))).boot.smbus.out = (if smbusOk K.POWER_LIMIT then [2, 0x34, 0x12] else [0]) := by decide +kernel

/-! ### Witnesses: resets, management, power and boot -/

/-- ResetsTakeDownTheirDomain: every domain may reset, and none while another reset runs; a dump first and none; a held context;
a port that exists and one that does not; resets that wait, that run, of a die and of the package. -/
theorem wit_resets :
    let run (d : Domain) (ph : Nat) : State := withService { resets := { cur := some { domain := d, unit := 0, began := 0, phase := ph, mark := 0 } } }
    let off : State := { cmd 0 with od := (K.DUMP_TRIGGERS, 0) :: (cmd 0).od }
    (cmd 0).live = true ∧ (∀ d : Domain, (cmd 0).resetAllowed d = true ∧ (run d 0).resetAllowed d = false) ∧
    (bit ((cmd 0).par K.DUMP_TRIGGERS) 2 = true ∧ (cmd 0).service.dump = none ∧ (cmd 0).dumpSlot ≠ none) ∧
    (∀ n < 4, bit (off.par K.DUMP_TRIGGERS) n = false) ∧ (off.cx 1).st = .opened ∧ off.holds 1 0 = true ∧ off.holds 1 1 = false ∧
    State.reset.allClosed = true ∧ (17 : Fin 27).val < 9 * State.reset.part.ioDies ∧ 9 * State.reset.part.ioDies ≤ (18 : Fin 27).val ∧
    (run .port 1).service.resets.cur = some { domain := .port, unit := 0, began := 0, phase := 1, mark := 0 } ∧ (run .core 0).service.resets.cur.map (·.phase) = some 0 ∧
    0 ∈ dieSites 0 ∧ 0 ∈ State.reset.part.hbmSites := by
  refine ⟨by decide +kernel, fun d => by cases d <;> decide +kernel, by decide +kernel, by decide +kernel, by decide +kernel,
    by decide +kernel, by decide +kernel, by decide +kernel, by decide +kernel, by decide +kernel, by decide +kernel,
    by decide +kernel, by decide +kernel, by decide +kernel⟩
/-- The same statement: a dump that runs already, a reset that waits behind another, and one of a die without repair. -/
theorem wit_resets_more :
    let q : ResetRun := { domain := .warm, unit := 0, began := 0, mark := 0 }
    let r : ResetRun := { domain := .die, unit := 64, began := 0, phase := 1, mark := 0 }
    let s : State := withService { dump := some ⟨0xFF, 0, 0, false, []⟩ }
    let t : State := withService { resets := { cur := some r, waiting := [q] } }
    s.service.dump ≠ none ∧ s.live = true ∧ s.resetAllowed .core = true ∧ t.service.resets.waiting = q :: [] ∧
    r.domain ≠ .mgmt ∧ r.phase ≠ 0 ∧ r.repair = none ∧ r.unit / 64 = 1 ∧ ({ State.reset with od := [(K.DUMP_SLOT_LOCKS, 15)] } : State).dumpSlot = none ∧
    (withService {}).service.resets.waiting = [] := by decide +kernel
/-- The same statement's clause on the management core: the running image is the staged one. -/
theorem wit_resets_mgmt (s : State) : let t : State := { s with
      service := { resets := { cur := some { domain := .mgmt, unit := 0, began := 0, phase := 1, mark := 0 } } }
      boot := { fwHash := s.stagedHash } }
    t.service.resets.cur = some { domain := .mgmt, unit := 0, began := 0, phase := 1, mark := 0 } ∧ t.stagedHash = t.boot.fwHash := ⟨rfl, rfl⟩
/-- ManagementCoreIsWatched: both rows with their condition true and false; below the limit and at it; the core down; stalled resets. -/
theorem wit_mgmt_core :
    let s : State := withService { mgmt := { fails := [0, 0] } }
    let r : State := withService { resets := { cur := some { domain := .warm, unit := 0, began := 0, phase := 1, mark := 0 } } }
    s.live = true ∧ s.service.mgmt.coreUp = true ∧ (mgmtRows s).map (·.2.2.1) = [true, true] ∧
    (mgmtRows r).map (·.2.2.1) = [false, false] ∧ (withService { mgmt := { coreUp := false } }).service.mgmt.coreUp = false ∧
    (countedFails State.reset 5).length < State.reset.par K.MGMT_FAIL_LIMIT ∧ s.par K.MGMT_FAIL_LIMIT ≤ (countedFails s 5).length ∧
    bit ((withOd [(K.DUMP_TRIGGERS, 0)]).par K.DUMP_TRIGGERS) 4 = false ∧ s.service.resets.cur = none ∧
    r.service.resets.cur.map (·.domain) = some .warm ∧
    s.par K.MGMT_FAIL_LIMIT ≤ (countedFails s (max s.now (s.service.mgmt.beat + s.service.mgmt.watch))).length := by decide +kernel
/-- The same statement: a failure while another reset is in progress, and no LOAD under way. -/
theorem wit_mgmt_core_more :
    let s : State := withService { resets := { cur := some { domain := .core, unit := 0, began := 0, mark := 0 } } }
    s.coreResetDue = false ∧ s.service.resets.cur ≠ none ∧ (mgmtRows s).map (·.2.2.1) = [false, true] ∧
    (∀ x < 16, s.curCmd x 1 = none) ∧ (withService {}).service.dump = none ∧
    (s.service.resets.cur.map (·.phase)) = some 0 ∧ s.service.resets.cur.map (·.domain) ≠ some .warm := by decide +kernel
/-- DumpsReportsAndFences: a dump that runs, a free slot, no free slot; a reset that waits for its dump; a record to resend; a
wait for a fence notice; a job context that the notice closes. -/
theorem wit_dumps :
    let d : DumpRun := ⟨3, 1, 0, true, []⟩
    let w (ph : Nat) : State := withService { dump := some d, resets := { cur := some { domain := .core, unit := 0, began := 0, phase := ph, mark := 0 } } }
    (w 0).live = true ∧ (w 0).service.dump = some d ∧ (w 0).service.resets.cur = some { domain := .core, unit := 0, began := 0, phase := 0, mark := 0 } ∧
    State.reset.service.dump = none ∧ bit (State.reset.par K.DUMP_SLOT_LOCKS) 3 = false ∧
    (∀ n < 4, bit ((withOd [(K.DUMP_SLOT_LOCKS, 15)]).par K.DUMP_SLOT_LOCKS) n = true) ∧ State.reset.answering = true ∧
    State.reset.reports.unacked = [] ∧ ({ State.reset with reports := { unacked := [(1, 0)] } } : State).reports.unacked = (1, 0) :: [] ∧
    (withService { spare := { wait := some (3, 4) } }).service.spare.wait = some (3, 4) ∧ (stepped 0 []).jobSize 1 ≠ 0 ∧
    ((stepped 0 []).cx 1).st ≠ .teardown ∧ (withService { dump := some d }).service.resets.cur = none ∧
    (w 1).service.resets.cur.map (·.phase) = some 1 := by
  refine ⟨by decide, rfl, rfl, rfl, by decide, by decide, by decide, rfl, rfl, rfl, by decide, by decide, rfl, rfl⟩
/-- TimeBaseIsAligned: with and without a source port; a request and a reply, awaited and not; positive and negative offsets. -/
theorem wit_time :
    let m (k t : Nat) : List (BitVec 128) := timeMsg t 60 20 k
    let s (now : Nat) : State := { served with
      now := now, od := [(K.TIME_SOURCE_PORT, 0)], service := { served.service with time := { tag := 1, t1 := some 0 } } }
    State.reset.answering = true ∧ State.reset.par K.TIME_SOURCE_PORT = 0x1F ∧ (s 0).par K.TIME_SOURCE_PORT = 0 ∧
    (s 0).part.hasPort 0 = true ∧ ((s 0).port 0).mode = .active ∧ (withService { time := { misses := 100 } }).service.time.misses = 100 ∧
    (Msg.common (m 0 1)).mtype = 3 ∧ Msg.wellFormed (m 0 1) = true ∧ bits (Msg.slot (m 0 1) 1) 0 0 = 0 ∧
    bits (Msg.slot (m 1 1) 1) 0 0 = 1 ∧ (s 0).service.time.t1 = some 0 ∧ (Msg.common (m 1 1)).tag = (s 0).service.time.tag ∧
    (Msg.common (m 1 2)).tag ≠ (s 0).service.time.tag ∧ (s 0).service.time.locked = false ∧ (s 0).anyOpen = false ∧
    (after (.timeSyncReply 0 (m 1 1)) (s 20)).service.time.theta = 60 ∧
    (after (.timeSyncReply 0 (m 1 1)) (s 900)).service.time.theta = -380 := by decide +kernel
/-- SamplesAndTracesAreWritten: a cluster that runs with an interval; a key that cannot and one that can take the sample; a
block due and none. -/
theorem wit_samples :
    let s (k : Nat) : State := { prog [] with od := [(K.COUNTER_SAMPLE_INTERVAL + 1, 10), (K.COUNTER_KEY + 1, k), (K.CONTEXT_KEYS + 1, 16)]
                                              keys := [(5, key5), (6, key5 + BitVec.ofNat 256 (2 ^ 105))] }
    let t : State := { State.reset with
      od := [(K.TRACE_CFG, 5 <<< 192 + 2048 <<< 128 + 32)], traces := [(0, { written := 128 })]
      links := { eps := [(5, 1)] } }
    (s 0).live = true ∧ ((s 0).cl 0).running = true ∧ (s 0).parMs K.COUNTER_SAMPLE_INTERVAL = 0 ∧
    (s 0).parMs (K.COUNTER_SAMPLE_INTERVAL + 1) ≠ 0 ∧ (s 0).keyOk 1 0 false true = false ∧ (s 6).keyOk 1 6 false true = true ∧
    32 ≤ (s 6).keyBlocks 6 ∧ bit (t.traceCfg 0 5 0) 5 = true ∧ t.traceCfg 0 191 128 = 2048 ∧ bit (t.ep 0 (t.traceCfg 0 209 192)) 0 = true ∧
    bit (State.reset.traceCfg 0 5 0) 5 = false ∧ 128 ≤ t.traceCap 0 ∧ t.live = true ∧
    (let u : TraceSt := { written := 128, window := 0, used := 10000 }
     u.window = t.now / 4096 ∧ t.traceCap 0 < u.used + 128) := by decide +kernel
/-- A request whose turn has come where nothing waits. -/
theorem itsTurn_of (s : State) (q : Nat) (m : List (BitVec 128)) (h : (s.answering && decide ((Msg.common m).mtype = 1) && s.forMgmt m && s.part.hasPort q && rightForm q m
    && decide (s.service.mgmt.queue = []) && decide (s.power.state ≠ .deep) && decide (s.pathWaits (4 + q / 9) 4 = false)) = true) : itsTurn s q m s := by
  simp only [Bool.and_eq_true, decide_eq_true_eq] at h
  obtain ⟨⟨⟨⟨⟨⟨⟨a, b⟩, c⟩, d⟩, e⟩, f⟩, g⟩, k⟩ := h
  exact ⟨⟨a, b, c, d⟩, e, .inl ⟨f, rfl, .inl g, k⟩⟩
/-- ManagementRequestsAreAnswered: a request of each operation, of the wrong form, for another part; behind another and in
its turn; each kind of check; a plain entry. -/
theorem wit_requests :
    let r (op : Nat) := request op K.POWER_LIMIT 0 0 0 []
    let q (n : Nat) : State := { served with service := { served.service with mgmt := { queue := List.replicate n (1, []) } } }
    (∀ op < 5, isRequest served 0 (r op)) ∧ itsTurn served 0 (r 1) served ∧ ¬ isRequest served 0 (request 1 0 0 0 0 []).reverse ∧ rightForm 0 (r 1) = true ∧
    rightForm 0 (request 1 K.POWER_LIMIT 0 0 2 []) = false ∧ (q 63).service.mgmt.queue = (1, []) :: List.replicate 62 (1, []) ∧
    (1, []) ≠ ((0 : Fin 27).val, r 1) ∧ (0, r 1) ∉ (q 63).service.mgmt.queue ∧ served.power.state ≠ .deep ∧
    served.mgmtCheck (MReq.read 0 (request 1 0xFFFF00 0 0 0 [])) ≠ 0 ∧
    served.mgmtCheck (MReq.read 0 (r 1)) = 0 ∧ served.mgmtCheck (MReq.read 0 (r 3)) = 0 ∧
    served.mgmtCheck (MReq.read 0 (request 2 K.DUMP_TRIGGERS 0 0 1 [0x21])) = 0 ∧
    (entryRow (MReq.read 0 (r 1)).key).map (fun e => (decide (e.ty ≠ .string), decide (e.ty ≠ .blob))) = some (true, true) ∧
    (MReq.read 0 (r 1)).selv = false ∧ (MReq.read 0 (request 2 K.DUMP_TRIGGERS 0 0 1 [0x21])).key ∈ plainEntries := by
  refine ⟨?_, itsTurn_of _ _ _ (by decide +kernel), ?_⟩ <;> unfold isRequest <;> decide +kernel
/-- The same statement: a request whose path to the management core is stopped, and one that would cross in DEEP. -/
theorem wit_requests_path :
    let s : State := { portIn 9 { mode := .active } with power := { state := .deep } }
    isRequest s 9 (request 1 K.POWER_LIMIT 0 0 0 []) ∧ (dieDown 2 s).pathWaits (4 + 9 / 9) 4 = true ∧
    s.pathWaits (4 + 9 / 9) 4 = false ∧ (9, request 1 K.POWER_LIMIT 0 0 0 []) ∉ s.service.mgmt.queue ∧
    rightForm 9 (request 1 K.POWER_LIMIT 0 0 0 []) = true := by
  unfold isRequest; decide +kernel
/-- NonVolatileValuesAreCommitted: a commit in progress and none; the management core up and down. -/
theorem wit_commit :
    let s := withService { mgmt := { commits := [⟨77, [5], none⟩] } }
    s.answering = true ∧ s.service.mgmt.commits = ⟨77, [5], none⟩ :: [] ∧ State.reset.service.mgmt.commits = [] ∧ s.live = true ∧
    s.service.mgmt.coreUp = true ∧ (withService { mgmt := { coreUp := false } }).service.mgmt.coreUp = false := by decide
/-- ImagesAreStagedCheckedAndWritten: a request of each operation in its turn, with the staging that it needs. -/
theorem wit_image :
    let r (op sel len : Nat) (l : List (BitVec 128)) := request op 0 sel 0 len l
    (let s := staged (some 0) false; itsTurn s 0 (r 0x13 0 0 []) s ∧ itsTurn s 0 (r 0x14 0 0 []) s ∧ itsTurn s 0 (r 0x15 0 0 []) s) ∧
    itsTurn (staged none false) 0 (r 0x12 4 1 [9]) (staged none false) ∧ itsTurn served 0 (r 0x11 5000 0 []) served ∧
    (MReq.read 0 (r 0x11 5000 0 [])).sel = 5000 ∧ (MReq.read 0 (r 0x12 4 1 [9])).data = [9] ∧ (MReq.read 0 (r 0x12 4 1 [9])).segment = 0 ∧
    1024 * 4 + 1 ≤ 5000 ∧ (5000 + 1023) / 1024 ≤ [0, 1, 2, 3, 4].length ∧ served.noStaging = false ∧ served.boot.writing = false ∧
    bit (staged (some 0) false).boot.flashStatus 9 = true ∧ (staged (some 0) true).boot.writing = true ∧
    (staged (some 0) true).answering = true ∧ (staged none false).verifyImage ≠ 0 ∧ (modeIs .rom).boot.mode = .rom ∧
    bits ((modeIs .rom).par K.REPORT_ADDRESS) 23 0 = 0 := by
  refine ⟨⟨itsTurn_of _ _ _ (by decide +kernel), itsTurn_of _ _ _ (by decide +kernel), itsTurn_of _ _ _ (by decide +kernel)⟩,
    itsTurn_of _ _ _ (by decide +kernel), itsTurn_of _ _ _ (by decide +kernel), by decide +kernel⟩
/-- ClustersSleepAndPackageStatesChange: a stretched and an unstretched cluster, one idle, one asleep; states in which R567
refuses and does not; transitions to each state, and a wake that waits. -/
theorem wit_power :
    let s (p : Power) : State := { State.reset with power := p }
    let c (l : Cluster) : State := { State.reset with clusters := [(31, l)] }
    (c { stretched := true }).live = true ∧ ((c { stretched := true }).cl 31).stretched = true ∧ ((c {}).cl 31).stretched = false ∧
    ((c {}).cl 31).running = false ∧ ((c {}).cl 31).asleep = false ∧ ((c {}).cl 31).testing = false ∧ ((c {}).cl 31).testDue = false ∧
    (s {}).power.state = .active ∧ ((c { asleep := true }).cl 31).asleep = true ∧ (s {}).powerRefused = false ∧
    (cmd 0).powerRefused = true ∧ (s { target := some .active }).power.target = some .active ∧
    (s { target := some .deep, wake := true }).power.target = some .deep ∧ (s { state := .retain }).power.state ≠ .active ∧
    (s { state := .retain }).power.target = none ∧
    (({ s { state := .retain, target := some .active } with hbm := { sites := [(0, { mode := .selfRefresh })] } } : State).stack 0).mode =
      .selfRefresh := by decide
/-- CapsTripsInputsAndBoots: a cool die and a hot one; windows above the limit, at 95 % of it and between; a trip record that
waits; parts dark, in reset and unpowered; each way of booting. -/
theorem wit_boot :
    let s (p : Power) (m : RunMode) : State := { modeIs m with power := p }
    (s {} .running).live = true ∧ (s {} .running).power.hot.length = 4 ∧ (s {} .running).power.hot.getD 3 false = false ∧
    (s { hot := [false, false, false, true] } .running).power.hot.getD 3 false = true ∧
    (s { tripWait := some 5 } .dark).power.tripWait = some 5 ∧ (s {} .rom).answering = true ∧ (s {} .dark).answering = false ∧
    (s {} .dark).boot.mode ≠ .resetLow ∧ (s { aoOn := false } .unpowered).power.aoOn = false ∧ (s {} .resetLow).boot.mode = .resetLow ∧
    (s {} .resetLow).power.mainLost = false ∧ (s {} .resetLow).power.refclk = true ∧ (s {} .resetLow).power.aoOn = true ∧
    (s { mainLost := true } .dark).power.mainLost = true ∧ (s { mainLost := true } .dark).power.tripped = false ∧
    (s { mainLost := true } .resetLow).power.mainLost = true ∧ (s { mainLost := true } .resetLow).power.aoOn = true ∧
    ({ bootsel := 2 } : BootIn).lpddr0 = true ∧ bit ({ flash := 0x11B } : BootIn).flash.toNat 9 = false ∧
    ({ lpddr0 := false, lpddr1 := false } : BootIn).lpddr1 = false := by decide
/-- QuotesSmbusAndTap: requests refused, waiting and quoted, within the widths of the quote; readable and unreadable entries, short
and long; a part with and without its 3.3 V input. -/
theorem wit_quote :
    let s (a : Attest) : State := { State.reset with boot := { State.reset.boot with attest := a } }
    (s { ended := true }).attestRefused = true ∧ (s {}).attestRefused = false ∧ (s {}).boot.attest.building = false ∧
    (s { building := true, want := some 9 }).boot.attest.want = some 9 ∧ (s { building := true }).boot.attest.building = true ∧
    (s {}).boot.fwHash < 2 ^ 256 ∧ (s {}).boot.attest.leaf < 2 ^ 32 ∧ (s {}).boot.attest.fuse < 2 ^ 16 ∧ (s {}).part.grade < 2 ^ 16 ∧
    (s {}).power.cause < 2 ^ 8 ∧ (s {}).defence.score < 2 ^ 16 ∧ (s {}).answering = true ∧ smbusOk K.POWER_LIMIT = true ∧
    smbusOk 0x742003 = false ∧ (State.reset.readEntry K.POWER_LIMIT).2.length ≤ 32 ∧ 32 < (State.reset.readEntry K.TEMPERATURES).2.length ∧
    State.reset.power.aoOn = true ∧ (modeIs .hold).boot.mode = .hold := by decide +kernel
/-- ProductsEnterTheBenchAsFloors: two orders of unequal products. -/
theorem wit_products : [((3, 0), (5, -200)), (((1 : Int), (2 : Int)), ((1 : Int), (0 : Int)))].Perm
    [((1, 2), (1, 0)), ((3, 0), (5, -200))] := by decide

end Sys2Proof.Tests
end

section
/-!
PROOFS. What every command and every step leaves of the queue and of the part's fixed facts, and the statements of
spec/00_scope.md that rest on it.
-/

namespace Sys2Proof.Machine

/-! ### Commands -/

/-- Every arm of `exec` closes with `State.ends`, so no command reaches the queue or the part's fixed facts. -/
theorem exec_eq_ends (c : Instr) (s : State) : ∃ t, exec c s = s.ends t := by
  cases c <;> exact ⟨_, rfl⟩

theorem exec_next_frame {c : Instr} {s t : State} (h : exec c s = .next t) :
    t.pending = s.pending ∧ t.part = s.part := by
  obtain ⟨u, hexec⟩ := exec_eq_ends c s
  obtain ⟨v, hends, hpending, hpart⟩ := s.ends_next u
  have hvt : v = t := Host.Outcome.next.inj (hends.symm.trans (hexec.symm.trans h))
  exact hvt ▸ ⟨hpending, hpart⟩

/-! ### The tick of an idle queue -/

theorem State.tick_time (s : State) : ∃ n v, s.tick = { s with now := n, service := v } := by
  unfold State.tick
  dsimp only
  split_ifs <;> exact ⟨_, _, rfl⟩

@[simp] theorem State.tick_pending (s : State) : s.tick.pending = s.pending := by
  obtain ⟨n, v, h⟩ := s.tick_time
  rw [h]

@[simp] theorem State.tick_part (s : State) : s.tick.part = s.part := by
  obtain ⟨n, v, h⟩ := s.tick_time
  rw [h]

/-! ### Steps -/

/-- The two ways in which a step answers a next state: a tick of an idle queue, or the front command run with the rest
of the queue. -/
theorem step_next_cases {s t : State} (h : step s = .next t) :
    (s.pending = [] ∧ t = s.tick) ∨
      ∃ c rest, s.pending = c :: rest ∧ exec c { s with pending := rest } = .next t := by
  unfold step at h
  split at h
  next hidle => exact .inl ⟨hidle, (Host.Outcome.next.inj h).symm⟩
  next c rest hfront => exact .inr ⟨c, rest, hfront, h⟩

theorem step_next_frame {s t : State} (h : step s = .next t) :
    t.pending = s.pending.tail ∧ t.part = s.part := by
  obtain ⟨hidle, rfl⟩ | ⟨c, rest, hfront, hexec⟩ := step_next_cases h
  · simp [hidle]
  · simpa [hfront] using exec_next_frame hexec

/-! ### Waiting commands -/

/-- `queueOk` reads only the waiting commands and the part, and fewer commands of the same part meet it too. -/
theorem State.queueOk_of_tail {s t : State} (hok : s.queueOk = true) (hpending : t.pending = s.pending.tail)
    (hpart : t.part = s.part) : t.queueOk = true := by
  unfold State.queueOk at *
  rw [List.all_eq_true] at *
  intro c hc
  rw [hpart]
  exact hok c (List.mem_of_mem_tail (hpending ▸ hc))

/-- Settles O4: a step leaves the queue's tail and the part, which is all that `queueOk` reads (R2, R12). -/
theorem waitingCommandsStayWellFormed : Obligations.WaitingCommandsStayWellFormed := by
  intro s t hok hstep
  obtain ⟨hpending, hpart⟩ := step_next_frame hstep
  exact ⟨State.queueOk_of_tail hok hpending hpart, hpart, hpending⟩

end Sys2Proof.Machine
end

section
/-!
PROOFS. Broadcasts reach the enabled cores that the core mask selects, and no fused core; the statements of
spec/01_swipin_package.md.
-/

namespace Sys2Proof.Machine

open Sys2Proof.Claims

/-! ### The cores of a cluster that a core mask selects (R21, R22) -/

theorem State.mem_masked {s : State} {c mask k : Nat} :
    k ∈ s.masked c mask ↔ k / 8 = c ∧ s.part.isFused k = false ∧ bit mask (k % 8) = true := by
  have hrange : (∃ n < 8, 8 * c + n = k) ↔ k / 8 = c :=
    ⟨fun ⟨n, hn, hk⟩ => by omega, fun h => ⟨k % 8, by omega, by omega⟩⟩
  simp only [State.masked, State.coresOf, List.mem_filter, List.mem_map, List.mem_range, hrange,
    Bool.not_eq_true', and_assoc]

theorem State.nodup_masked (s : State) (c mask : Nat) : (s.masked c mask).Nodup :=
  ((List.nodup_range.map (add_right_injective (8 * c))).filter _).filter _

/-! ### One change made to each core of a list -/

theorem State.foldl_modCo_cores (f : Core → Core) (ks : List Nat) (s : State) :
    ∃ x, ks.foldl (fun s k => s.modCo k f) s = { s with cores := x } := by
  induction ks generalizing s with
  | nil => exact ⟨s.cores, rfl⟩
  | cons k ks ih =>
    obtain ⟨x, hx⟩ := ih (s.modCo k f)
    exact ⟨x, hx⟩

theorem State.foldl_modCo_co (f : Core → Core) {ks : List Nat} (hks : ks.Nodup) (s : State) (i : Nat) :
    (ks.foldl (fun s k => s.modCo k f) s).co i = if i ∈ ks then f (s.co i) else s.co i := by
  induction ks generalizing s with
  | nil => rfl
  | cons k ks ih =>
    obtain ⟨hk, hks⟩ := List.nodup_cons.1 hks
    rw [List.foldl_cons, ih hks, State.modCo_co]
    by_cases hi : i = k
    · subst hi; simp [hk]
    · simp [hi]

/-! ### A broadcast before the units run (R139, R194) -/

/-- The sequencer once it has broadcast the instruction at its slot. -/
def Cluster.issued (l : Cluster) : Cluster := { pastSlot l with issue := l.issue + 1 }

/-- The state in which the units have received the instruction and the sequencer has moved on; nothing has run yet. -/
def State.deliver (s : State) (c : Nat) (w : BitVec 128) : State :=
  ((s.masked c (insCmask w.toNat)).foldl (fun u k => u.modCo k (fun o =>
    { o with jobs := o.jobs ++ (insUnits w.toNat).map (receives s c w) })) s).modCl c Cluster.issued

section
variable {s : State} {c : Nat} {o : Op} {w : BitVec 128}

theorem State.broadcast_of_room (hw : s.fetchOp c o = some w) (hroom : s.buffersFree c w.toNat = true) :
    s.broadcast c o = (s.deliver c w).settle c := by
  simp only [State.broadcast, hw, hroom]
  rfl

/-- Log entry 8: without the instruction, or without room for it, the sequencer does nothing. -/
theorem State.broadcast_of_full (h : ∀ w, s.fetchOp c o = some w → s.buffersFree c w.toNat = false) :
    s.broadcast c o = s := by
  unfold State.broadcast
  split
  next => rfl
  next w hw => simp [h w hw]

end

section
variable (s : State) (c : Nat) (w : BitVec 128)

theorem State.deliver_co (k : Nat) :
    (s.deliver c w).co k = if k / 8 = c ∧ s.part.isFused k = false ∧ bit (insCmask w.toNat) (k % 8) = true
      then { s.co k with jobs := (s.co k).jobs ++ (insUnits w.toNat).map (receives s c w) } else s.co k := by
  rw [State.deliver, State.modCl_co, State.foldl_modCo_co _ (s.nodup_masked c _)]
  simp only [State.mem_masked]

theorem State.deliver_cores :
    ∃ x, s.deliver c w = { s.modCl c Cluster.issued with cores := x } := by
  obtain ⟨x, hx⟩ := State.foldl_modCo_cores _ (s.masked c (insCmask w.toNat)) s
  rw [State.deliver, hx]
  exact ⟨x, rfl⟩

theorem State.deliver_cl (d : Nat) :
    (s.deliver c w).cl d = if d = c then (s.cl c).issued else s.cl d := by
  obtain ⟨x, hx⟩ := s.deliver_cores c w
  rw [hx]
  exact s.modCl_cl c Cluster.issued d

theorem State.deliver_frame :
    s.deliver c w = { s with clusters := (s.deliver c w).clusters, cores := (s.deliver c w).cores } := by
  obtain ⟨x, hx⟩ := s.deliver_cores c w
  rw [hx]
  rfl

end

/-! ### The statements -/

/-- The 25 commands differ only in the opcode that they look for at the sequencer's slot (R143). -/
theorem exec_of_mem_broadcastRows {cl : Fin 32} {r : Instr × Op} (hr : r ∈ broadcastRows cl) (s : State) :
    exec r.1 s = s.ends (s.broadcast cl r.2) := by
  fin_cases hr <;> rfl

/-- Settles O3: every arm of `exec` closes with `State.ends` (R21). -/
theorem everyCommandAnswersANextState : Obligations.EveryCommandAnswersANextState := by
  intro c s
  obtain ⟨u, hexec⟩ := exec_eq_ends c s
  rw [hexec]
  exact s.ends_next u

/-- Settles O7: the state before the units run is `State.deliver`, whose cores are those of `State.masked` (R22). -/
theorem broadcastReachesTheSelectedCores : Obligations.BroadcastReachesTheSelectedCores := by
  constructor
  · intro cl s r w hr hw hroom
    refine ⟨s.deliver cl w, ?_, s.deliver_co cl w, ?_, fun c hc => ?_, s.deliver_frame cl w⟩
    · rw [exec_of_mem_broadcastRows hr, State.broadcast_of_room hw hroom, State.ends]
    · rw [State.deliver_cl, if_pos rfl, Cluster.issued]
    · rw [State.deliver_cl, if_neg hc]
  · intro cl s r hr hfull
    rw [exec_of_mem_broadcastRows hr, State.broadcast_of_full hfull, State.ends]

end Sys2Proof.Machine
end

section
/-!
PROOFS. Exact values as rational numbers, UL8 codes, and the arithmetic of the vector unit that rounds once; statements
of spec/02_number_formats.md.
-/

namespace Sys2Proof.Machine

open Sys2Proof.Claims

/-! ### Exact values as rational numbers -/

@[simp] theorem stands_fin_iff {n : Bool} {m : Nat} {e : Int} {x : ℚ} : Stands (.fin n m e) x ↔ ratOf n m e = x :=
  ⟨fun ⟨_, _, _, hv, hx⟩ => by cases hv; exact hx, fun h => ⟨n, m, e, rfl, h⟩⟩

@[simp] theorem ratOf_zero (n : Bool) (e : Int) : ratOf n 0 e = 0 := by simp [ratOf, sint]

theorem ratOf_not (n : Bool) (m : Nat) (e : Int) : ratOf (!n) m e = -ratOf n m e := by
  cases n <;> simp [ratOf, sint]

theorem ratOf_mul (n n' : Bool) (m m' : Nat) (e e' : Int) :
    ratOf (n != n') (m * m') (e + e') = ratOf n m e * ratOf n' m' e' := by
  cases n <;> cases n' <;> simp [ratOf, sint, zpow_add₀] <;> ring

theorem sint_decide_natAbs (v : Int) : sint (decide (v < 0)) v.natAbs = v := by
  unfold sint
  split_ifs with h <;> simp at h <;> omega

theorem stands_ofDy (v e : Int) : Stands (.ofDy v e) ((v : ℚ) * 2 ^ e) := by
  rw [Val.ofDy, stands_fin_iff, ratOf, sint_decide_natAbs]

theorem two_pow_toNat {a b : Int} (h : a ≤ b) : (2 : ℚ) ^ (b - a).toNat * 2 ^ a = 2 ^ b := by
  rw [← zpow_natCast, ← zpow_add₀ two_ne_zero]
  congr 1
  omega

theorem dyAdd_value (a ea b eb : Int) :
    ((dyAdd a ea b eb).1 : ℚ) * 2 ^ (dyAdd a ea b eb).2 = a * 2 ^ ea + b * 2 ^ eb := by
  unfold dyAdd
  split_ifs with h
  · push_cast
    rw [add_mul, mul_assoc, two_pow_toNat h]
  · push_cast
    rw [add_mul, mul_assoc, two_pow_toNat (by omega)]

theorem dyAdd_nonpos_iff {a ea b eb : Int} : (dyAdd a ea b eb).1 ≤ 0 ↔ (a : ℚ) * 2 ^ ea + b * 2 ^ eb ≤ 0 := by
  rw [← dyAdd_value, ← smul_eq_mul, smul_nonpos_iff_nonpos_of_pos_right (by positivity), Int.cast_nonpos]

theorem dyAdd_eq_zero_iff {a ea b eb : Int} : (dyAdd a ea b eb).1 = 0 ↔ (a : ℚ) * 2 ^ ea + b * 2 ^ eb = 0 := by
  simp [← dyAdd_value, zpow_ne_zero]

theorem Val.fin_le_iff {n n' : Bool} {m m' : Nat} {e e' : Int} :
    (Val.fin n m e).le (.fin n' m' e') = true ↔ ratOf n m e ≤ ratOf n' m' e' := by
  rw [Val.le, decide_eq_true_iff, dyAdd_nonpos_iff, Int.cast_neg, neg_mul, ← sub_eq_add_neg, sub_nonpos]
  rfl

theorem le_iff_of_stands {a b : Val} {x y : ℚ} (ha : Stands a x) (hb : Stands b y) : a.le b = true ↔ x ≤ y := by
  obtain ⟨na, ma, ea, rfl, rfl⟩ := ha
  obtain ⟨nb, mb, eb, rfl, rfl⟩ := hb
  exact Val.fin_le_iff

theorem stands_neg {a : Val} {x : ℚ} (ha : Stands a x) : Stands a.neg (-x) := by
  obtain ⟨n, m, e, rfl, rfl⟩ := ha
  exact ⟨!n, m, e, rfl, ratOf_not n m e⟩

theorem stands_zero (n : Bool) (e : Int) : Stands (.fin n 0 e) 0 := ⟨n, 0, e, rfl, ratOf_zero n e⟩

theorem stands_one : Stands .one 1 := ⟨false, 1, 0, rfl, by simp [ratOf, sint]⟩

/-! ### UL8 (R45) -/

/-- The four significands of UL8, those of 2^0, 2^(1/4), 2^(2/4) and 2^(3/4) with 24 bits (R45). -/
def ul8Significand (q : Fin 4) : Nat := ![0x800000, 0x9837F0, 0xB504F3, 0xD744FD] q

theorem decodeElem_ul8 {c : Nat} {k : Int} {q : Fin 4} (hlow : 1 ≤ c) (hhigh : c ≤ 254)
    (h : (c : Int) - 224 = 4 * k + (q.val : Int)) :
    decodeElem .ul8 c = .fin false (ul8Significand q) (k - 23) := by
  have hmod : c % 256 = c := by omega
  have hk : ((c : Int) - 224) / 4 = k := by omega
  have hq : (((c : Int) - 224) % 4).toNat = q.val := by omega
  simp only [decodeElem, hmod, hk, hq, if_neg (show c ≠ 0 by omega), if_neg (show c ≠ 255 by omega)]
  fin_cases q <;> rfl

/-- Settles O56: the constants of R45 decode to the significands of UL8, each times 2^-23. -/
theorem ul8CodesDecodeAsTheConstants : Obligations.Ul8CodesDecodeAsTheConstants := by
  refine ⟨fun c k q hlow hhigh h => ⟨ul8Significand q, -23, ?_, ?_⟩, ⟨false, 0, 0, rfl, by simp [ratOf, sint]⟩, rfl⟩
  · clear h
    revert q
    decide
  · rw [decodeElem_ul8 hlow hhigh h, neg_add_eq_sub]

/-! ### Sums and products of the vector unit (R57) -/

/-- What R57 asks of a result whose exact value is `r`: it is `r` rounded once, or an exact zero, which is +0 where
`pos` holds. -/
structure RoundsOnce (res : FpRes) (r : ℚ) (pos : Prop) : Prop where
  rounded : r ≠ 0 → ∃ v, Stands v r ∧ res = toF32 v
  zero : r = 0 → ∃ n, res.val = .fin n 0 0 ∧ res.cause = .none ∧ (pos → n = false)

theorem RoundsOnce.mono {res : FpRes} {r : ℚ} {pos pos' : Prop} (h : RoundsOnce res r pos) (hpos : pos' → pos) :
    RoundsOnce res r pos' :=
  ⟨h.rounded, fun hr => (h.zero hr).imp fun _ ⟨hval, hcause, hn⟩ => ⟨hval, hcause, hn ∘ hpos⟩⟩

/-- The three branches of the fused multiply-add of finite sources: product and addend both zero, any other sum that is
zero, and a sum that is rounded. -/
theorem fmaF32_roundsOnce {a b c : Val} {x y z : ℚ} (ha : Stands a x) (hb : Stands b y) (hc : Stands c z) :
    RoundsOnce (fmaF32 a b c) (x * y + z) (x * y ≠ 0) := by
  obtain ⟨na, ma, ea, rfl, rfl⟩ := ha
  obtain ⟨nb, mb, eb, rfl, rfl⟩ := hb
  obtain ⟨nc, mc, ec, rfl, rfl⟩ := hc
  rw [← ratOf_mul]
  simp only [fmaF32]
  split_ifs with hzero hsum
  · obtain ⟨hm, hmc⟩ : ma * mb = 0 ∧ mc = 0 := by simpa using hzero
    exact ⟨fun h => absurd (by simp [hm, hmc]) h, fun _ => ⟨_, rfl, rfl, fun h => absurd (by simp [hm]) h⟩⟩
  · exact ⟨absurd (dyAdd_eq_zero_iff.mp hsum), fun _ => ⟨false, rfl, rfl, fun _ => rfl⟩⟩
  · refine ⟨fun _ => ⟨_, ?_, rfl⟩, fun h => absurd (dyAdd_eq_zero_iff.mpr h) hsum⟩
    have h := stands_ofDy (dyAdd (sint (na != nb) (ma * mb)) (ea + eb) (sint nc mc) ec).1
      (dyAdd (sint (na != nb) (ma * mb)) (ea + eb) (sint nc mc) ec).2
    rwa [dyAdd_value] at h

theorem addF32_roundsOnce {a b : Val} {x y : ℚ} (ha : Stands a x) (hb : Stands b y) :
    RoundsOnce (addF32 a b) (x + y) (x ≠ 0) := by
  simpa only [addF32, mul_one] using fmaF32_roundsOnce ha stands_one hb

theorem mulF32_roundsOnce {a b : Val} {x y : ℚ} (ha : Stands a x) (hb : Stands b y) :
    RoundsOnce (mulF32 a b) (x * y) (x * y ≠ 0) := by
  simpa only [mulF32, add_zero] using fmaF32_roundsOnce ha hb (stands_zero true 0)

theorem vecOp_roundsOnce {a b c : Val} {x y z : ℚ} (ha : Stands a x) (hb : Stands b y) (hc : Stands c z) {o : Op}
    {r : ℚ} (hor : (o, r) ∈ [(Op.vadd, x + y), (.vsub, x - y), (.vmul, x * y), (.vfma, x * y + z)]) :
    RoundsOnce (vecOp o a b c) r (x ≠ 0 ∧ y ≠ 0) := by
  simp only [List.mem_cons, List.not_mem_nil, or_false, Prod.mk.injEq] at hor
  obtain ⟨rfl, rfl⟩ | ⟨rfl, rfl⟩ | ⟨rfl, rfl⟩ | ⟨rfl, rfl⟩ := hor
  · exact (addF32_roundsOnce ha hb).mono And.left
  · rw [sub_eq_add_neg]
    exact (addF32_roundsOnce ha (stands_neg hb)).mono And.left
  · exact (mulF32_roundsOnce ha hb).mono mul_ne_zero_iff.mpr
  · exact (fmaF32_roundsOnce ha hb hc).mono mul_ne_zero_iff.mpr

/-! ### Choices of the vector unit (R155) -/

theorem stands_ite_le {a b : Val} {x y : ℚ} (ha : Stands a x) (hb : Stands b y) :
    Stands (if a.le b then b else a) (max x y) ∧ Stands (if a.le b then a else b) (min x y) := by
  simp only [le_iff_of_stands ha hb]
  split_ifs with h
  · simpa [h] using ⟨hb, ha⟩
  · simpa [le_of_not_ge h] using ⟨ha, hb⟩

/-- Where both zeros meet, the one of the wanted sign is chosen; elsewhere the comparison decides. -/
theorem maxVal_stands {a b : Val} {x y : ℚ} (ha : Stands a x) (hb : Stands b y) : Stands (maxVal a b) (max x y) := by
  have hle := (stands_ite_le ha hb).1
  obtain ⟨na, ma, ea, rfl, rfl⟩ := ha
  obtain ⟨nb, mb, eb, rfl, rfl⟩ := hb
  unfold maxVal
  split
  next h => cases h
  next h _ => cases h
  next h h' => cases h; cases h'; simp
  next h h' => cases h; cases h'; simp
  next => exact hle

theorem minVal_stands {a b : Val} {x y : ℚ} (ha : Stands a x) (hb : Stands b y) : Stands (minVal a b) (min x y) := by
  have hle := (stands_ite_le ha hb).2
  obtain ⟨na, ma, ea, rfl, rfl⟩ := ha
  obtain ⟨nb, mb, eb, rfl, rfl⟩ := hb
  unfold minVal
  split
  next h => cases h
  next h _ => cases h
  next h h' => cases h; cases h'; simp
  next h h' => cases h; cases h'; simp
  next => exact hle

theorem vecOp_vsel_val {a : Val} {x : ℚ} (ha : Stands a x) (b c : Val) :
    (vecOp .vsel a b c).val = if 0 ≤ x then b else c := by
  have hle := le_iff_of_stands (stands_zero false 0) ha
  obtain ⟨n, m, e, rfl, rfl⟩ := ha
  simp only [vecOp, Val.isNan, Val.zero, Bool.false_eq_true, if_false, hle]
  split_ifs <;> rfl

/-! ### Sources that are NaN -/

theorem fmaF32_nan {a b c : Val} (h : a = .nan ∨ b = .nan ∨ c = .nan) : (fmaF32 a b c).val = .nan := by
  obtain rfl | rfl | rfl := h
  · rfl
  · cases a <;> rfl
  · cases a <;> cases b <;> rfl

theorem maxVal_nan {a b : Val} (h : a = .nan ∨ b = .nan) : maxVal a b = .nan := by
  obtain rfl | rfl := h
  · rfl
  · cases a <;> rfl

theorem minVal_nan {a b : Val} (h : a = .nan ∨ b = .nan) : minVal a b = .nan := by
  obtain rfl | rfl := h
  · rfl
  · cases a <;> rfl

theorem Val.neg_eq_nan {a : Val} (h : a = .nan) : a.neg = .nan := by
  rw [h, Val.neg]

theorem vecOp_nan {a b c : Val} {o : Op} (ho : o ∈ [Op.vadd, .vsub, .vmul, .vmax, .vmin]) (h : a = .nan ∨ b = .nan) :
    (vecOp o a b c).val = .nan := by
  simp only [List.mem_cons, List.not_mem_nil, or_false] at ho
  obtain rfl | rfl | rfl | rfl | rfl := ho
  · exact fmaF32_nan (h.imp_right .inr)
  · exact fmaF32_nan (h.imp_right fun hb => .inr (Val.neg_eq_nan hb))
  · exact fmaF32_nan (h.imp_right .inl)
  · exact maxVal_nan h
  · exact minVal_nan h

/-- Settles O59: additions and products are fused multiply-adds, whose exact sum `dyAdd` gives (R57); the choices
follow the order of the numbers (R155). -/
theorem vectorArithmeticRoundsOnce : Obligations.VectorArithmeticRoundsOnce := by
  refine ⟨fun a b c x y z ha hb hc => ⟨fun o r hor => ?_, maxVal_stands ha hb, minVal_stands ha hb, fun hx => ?_,
    fun hx => ?_⟩, fun a b c o ho h => vecOp_nan ho h, fun a b c => ⟨fmaF32_nan, fun h => ?_⟩⟩
  · have h := vecOp_roundsOnce ha hb hc hor
    exact ⟨h.rounded, fun hr => (h.zero hr).imp fun _ ⟨hval, hcause, hn⟩ => ⟨hval, hcause, fun _ => hn⟩⟩
  · rw [vecOp_vsel_val ha, if_pos hx]
  · rw [vecOp_vsel_val ha, if_neg hx.not_ge]
  · subst h
    rfl

end Sys2Proof.Machine
end

section
/-!
PROOFS. Rounding onto a grid and the codes of BF16, FP16 and FP32; statements of spec/02_number_formats.md.
-/

namespace Sys2Proof.Machine

open Sys2Proof.Claims

/-! ### Rounding onto a grid (R53, rounding and noise of chapter 02) -/

/-- The noise of a stochastic rounding has 32 bits, as R60 draws it. -/
def Rnd.InRange : Rnd → Prop
  | .nearest => True
  | .stochastic n => n < 2 ^ 32

/-- Does a mode round `x` to the integer above its floor? The modes of chapter 02, on exact numbers. -/
def Rnd.Up (x : ℚ) : Rnd → Prop
  | .nearest => 1 / 2 < Int.fract x ∨ (Int.fract x = 1 / 2 ∧ ⌊x⌋ % 2 = 1)
  | .stochastic n => (2 : Int) ^ 32 ≤ ⌊Int.fract x * 2 ^ 32⌋ + n

theorem rotl64_lt {v n : Nat} (hv : v < 2 ^ 64) : rotl64 v n < 2 ^ 64 :=
  Nat.or_lt_two_pow (Nat.mod_lt _ (by decide)) ((Nat.shiftRight_le v (64 - n)).trans_lt hv)

theorem noiseRound_lt {ab : Nat × Nat} (hb : ab.2 < 2 ^ 64) (i : Nat) :
    (noiseRound ab i).1 < 2 ^ 64 ∧ (noiseRound ab i).2 < 2 ^ 64 := by
  have hmod (x : Nat) : x % 2 ^ 64 < 2 ^ 64 := Nat.mod_lt x (by decide)
  exact ⟨Nat.xor_lt_two_pow (hmod _) ((Nat.shiftRight_le _ 29).trans_lt (hmod _)),
    Nat.xor_lt_two_pow (rotl64_lt hb) (hmod _)⟩

/-- The noise of R60 for a seed and a step of 64 bits is one of 32 bits. -/
theorem noise_inRange {seed step : Nat} (hseed : seed < 2 ^ 64) (hstep : step < 2 ^ 64) (tensor index : Nat) :
    (Rnd.stochastic (noise seed step tensor index)).InRange := by
  have hb := Nat.xor_lt_two_pow (Nat.or_lt_two_pow (Nat.mod_lt (step <<< 32) (by decide)) hstep)
    (rotl64_lt (n := 32) hseed)
  obtain ⟨ha, hb⟩ := noiseRound_lt (noiseRound_lt (noiseRound_lt (noiseRound_lt
    (ab := (Nat.xor (Nat.lor ((tensor <<< 40) % 2 ^ 64) index) seed, _)) hb 0).2 1).2 2).2 3
  simp only [Rnd.InRange, noise, Nat.shiftRight_eq_div_pow]
  exact Nat.div_lt_of_lt_mul (Nat.xor_lt_two_pow ha hb)

theorem Rnd.InRange.not_up_intCast {r : Rnd} (hr : r.InRange) (z : Int) : ¬ r.Up (z : ℚ) := by
  cases r with
  | nearest => norm_num [Rnd.Up]
  | stochastic n =>
    have hn : n < 2 ^ 32 := hr
    simp only [Rnd.Up, Int.fract_intCast, zero_mul, Int.floor_zero]
    omega

theorem mul_zpow_sub_eq_div {e q : Int} (h : e ≤ q) (v : Int) :
    (v : ℚ) * 2 ^ (e - q) = (v : ℚ) / ((2 ^ (q - e).toNat : ℕ) : ℚ) := by
  rw [div_eq_mul_inv, ← neg_sub q e, zpow_neg, Nat.cast_pow, Nat.cast_ofNat, ← zpow_natCast,
    Int.toNat_of_nonneg (by omega)]

theorem gridRound_of_le {q e : Int} (h : q ≤ e) (r : Rnd) (v : Int) :
    (gridRound r v e q : ℚ) = (v : ℚ) * 2 ^ (e - q) := by
  rw [gridRound, if_pos h]
  push_cast
  rw [← zpow_natCast, Int.toNat_of_nonneg (by omega)]

/-- Off the grid, the integer remainder that `gridRound` tests is the fraction of the exact number. -/
theorem gridRound_of_lt {q e : Int} (h : e < q) (r : Rnd) (v : Int) :
    (r.Up ((v : ℚ) * 2 ^ (e - q)) ∧ gridRound r v e q = ⌊(v : ℚ) * 2 ^ (e - q)⌋ + 1) ∨
      (¬ r.Up ((v : ℚ) * 2 ^ (e - q)) ∧ gridRound r v e q = ⌊(v : ℚ) * 2 ^ (e - q)⌋) := by
  rw [mul_zpow_sub_eq_div h.le]
  have hcast : (2 : Int) ^ (q - e).toNat = ((2 ^ (q - e).toNat : ℕ) : Int) := by push_cast; rfl
  have hpos : 0 < 2 ^ (q - e).toNat := by positivity
  simp only [gridRound, if_neg h.not_ge, hcast]
  generalize 2 ^ (q - e).toNat = d at hpos ⊢
  have hd : (0 : ℚ) < d := by exact_mod_cast hpos
  cases r with
  | nearest =>
    simp only [Rnd.Up, Int.fract_div_intCast_eq_div_intCast_mod, Rat.floor_intCast_div_natCast]
    have hlt : 1 / 2 < ((v % d : Int) : ℚ) / d ↔ (d : Int) < 2 * (v % d) := by
      rw [lt_div_iff₀ hd, div_mul_eq_mul_div, div_lt_iff₀ two_pos]
      norm_cast
      rw [one_mul, mul_comm]
    have heq : ((v % d : Int) : ℚ) / d = 1 / 2 ↔ 2 * (v % d) = (d : Int) := by
      rw [div_eq_div_iff hd.ne' two_ne_zero]
      norm_cast
      rw [one_mul, mul_comm]
    rw [hlt, heq]
    split_ifs with hup <;> simp only [Bool.or_eq_true, Bool.and_eq_true, decide_eq_true_eq] at hup
    · exact .inl ⟨hup, rfl⟩
    · exact .inr ⟨hup, rfl⟩
  | stochastic n =>
    have hfloor : ⌊((v % d : Int) : ℚ) / d * 2 ^ 32⌋ = v % d * 2 ^ 32 / d := by
      rw [← Rat.floor_intCast_div_natCast, div_mul_eq_mul_div]
      push_cast
      rfl
    simp only [Rnd.Up, Int.fract_div_intCast_eq_div_intCast_mod, Rat.floor_intCast_div_natCast, hfloor]
    split_ifs with hup
    · exact .inl ⟨hup, rfl⟩
    · exact .inr ⟨hup, rfl⟩

theorem gridRound_cases {r : Rnd} (hr : r.InRange) {v e q : Int} {x : ℚ} (hx : (v : ℚ) * 2 ^ (e - q) = x) :
    (r.Up x ∧ gridRound r v e q = ⌊x⌋ + 1) ∨ (¬ r.Up x ∧ gridRound r v e q = ⌊x⌋) := by
  subst hx
  obtain hle | hlt := le_or_gt q e
  · rw [← gridRound_of_le hle r, Int.floor_intCast]
    exact .inr ⟨hr.not_up_intCast _, rfl⟩
  · exact gridRound_of_lt hlt r v

theorem gridRound_stochastic {n : Nat} (hn : n < 2 ^ 32) {v e q : Int} {x : ℚ} (hx : (v : ℚ) * 2 ^ (e - q) = x) :
    (gridRound (.stochastic n) v e q = ⌊x⌋ ∨ gridRound (.stochastic n) v e q = ⌊x⌋ + 1) ∧
      (gridRound (.stochastic n) v e q = ⌊x⌋ + 1 ↔ (2 : Int) ^ 32 ≤ ⌊Int.fract x * 2 ^ 32⌋ + n) := by
  obtain ⟨hup, hk⟩ | ⟨hup, hk⟩ := gridRound_cases (r := .stochastic n) hn hx
  · exact ⟨.inr hk, iff_of_true hk hup⟩
  · exact ⟨.inl hk, iff_of_false (by omega) hup⟩

theorem gridRound_nearest {v e q : Int} {x : ℚ} (hx : (v : ℚ) * 2 ^ (e - q) = x) :
    |x - gridRound .nearest v e q| ≤ 1 / 2 ∧
      (|x - gridRound .nearest v e q| = 1 / 2 → gridRound .nearest v e q % 2 = 0) := by
  have hsum := Int.floor_add_fract x
  obtain ⟨hup, hk⟩ | ⟨hup, hk⟩ := gridRound_cases (r := .nearest) trivial hx
  · have hhalf : 1 / 2 ≤ Int.fract x := hup.elim le_of_lt fun h => h.1.ge
    have habs : |x - gridRound .nearest v e q| = 1 - Int.fract x := by
      rw [hk, Int.cast_add, Int.cast_one, abs_of_nonpos] <;> linarith [Int.fract_lt_one x]
    refine ⟨by linarith, fun h => ?_⟩
    obtain hgt | ⟨-, hodd⟩ := hup
    · linarith
    · omega
  · have habs : |x - gridRound .nearest v e q| = Int.fract x := by
      rw [hk, abs_of_nonneg] <;> linarith [Int.fract_nonneg x]
    obtain ⟨hle, hodd⟩ := not_or.mp hup
    exact ⟨habs ▸ not_lt.mp hle, fun h =>
      (Int.emod_two_eq_zero_or_one _).resolve_right fun hk' => hodd ⟨habs ▸ h, hk ▸ hk'⟩⟩

theorem abs_sub_gridRound_lt {r : Rnd} (hr : r.InRange) {v e q : Int} {x : ℚ} (hx : (v : ℚ) * 2 ^ (e - q) = x) :
    |x - gridRound r v e q| < 1 := by
  have hsum := Int.floor_add_fract x
  have hlow := Int.fract_nonneg x
  have hhigh := Int.fract_lt_one x
  rw [abs_sub_lt_iff]
  obtain ⟨hup, hk⟩ | ⟨hup, hk⟩ := gridRound_cases hr hx <;> rw [hk]
  · have hne : Int.fract x ≠ 0 := fun h => hr.not_up_intCast ⌊x⌋ (by rwa [← hsum, h, add_zero] at hup)
    have hgt := lt_of_le_of_ne hlow hne.symm
    push_cast
    constructor <;> linarith
  · constructor <;> linarith

/-! ### Signs, magnitudes and exponents -/

theorem abs_ratOf (n : Bool) (m : Nat) (e : Int) : |ratOf n m e| = m * 2 ^ e := by
  rw [ratOf, abs_mul, abs_of_pos (by positivity : (0 : ℚ) < 2 ^ e)]
  cases n <;> simp [sint]

theorem le_expo_iff {m : Nat} (hm : m ≠ 0) {e x : Int} : x ≤ expo m e ↔ (2 : ℚ) ^ x ≤ m * 2 ^ e := by
  rw [expo, ← sub_le_iff_le_add, ← div_le_iff₀ (by positivity), ← zpow_sub₀ two_ne_zero]
  obtain hneg | ⟨k, hk⟩ : x - e < 0 ∨ ∃ k : Nat, x - e = k := by
    obtain h | h := lt_or_ge (x - e) 0
    · exact .inl h
    · exact .inr ⟨_, (Int.toNat_of_nonneg h).symm⟩
  · have h1 : (1 : ℚ) ≤ m := by exact_mod_cast Nat.pos_of_ne_zero hm
    exact iff_of_true (by omega) ((zpow_le_one_of_nonpos₀ one_le_two hneg.le).trans h1)
  · rw [hk, zpow_natCast, Int.ofNat_le, Nat.le_log2 hm]
    norm_cast

theorem expo_lt_iff {m : Nat} (hm : m ≠ 0) {e x : Int} : expo m e < x ↔ (m : ℚ) * 2 ^ e < 2 ^ x := by
  rw [← not_le, le_expo_iff hm, not_le]

/-- The sign of a number stays under rounding, or the result is 0. -/
theorem gridRound_sint {r : Rnd} (hr : r.InRange) (n : Bool) (m : Nat) (e q : Int) :
    gridRound r (sint n m) e q = sint n (gridRound r (sint n m) e q).natAbs := by
  have hpos : (0 : ℚ) ≤ m * 2 ^ (e - q) := by positivity
  have hdist := abs_sub_lt_iff.mp (abs_sub_gridRound_lt hr (rfl : (sint n m : ℚ) * 2 ^ (e - q) = _))
  generalize gridRound r (sint n m) e q = k at hdist ⊢
  cases n with
  | false =>
    have hk : (-1 : ℚ) < k := by simp only [sint] at hdist; push_cast at hdist; linarith [hdist.1]
    have hk' : -1 < k := by exact_mod_cast hk
    simp only [sint, Bool.false_eq_true, if_false]
    omega
  | true =>
    have hk : (k : ℚ) < 1 := by simp only [sint] at hdist; push_cast at hdist; linarith [hdist.2]
    have hk' : k < 1 := by exact_mod_cast hk
    simp only [sint, if_true]
    omega

/-! ### The grid and the magnitude that a number is rounded to (R49, R53) -/

/-- The power of two of the grid's step: the unit in the last place, no less than that of the smallest normal. -/
def FpShape.ulp (s : FpShape) (m : Nat) (e : Int) : Int := max (expo m e) s.emin - s.mb

/-- The number of steps of the grid that a number is rounded to. -/
def FpShape.roundMag (s : FpShape) (r : Rnd) (n : Bool) (m : Nat) (e : Int) : Nat :=
  (gridRound r (sint n m) e (s.ulp m e)).natAbs

/-- The three results of a rounding (R49, R53): a flush, an infinity, or the rounded number. -/
theorem roundIeee_cases (f : Fmt) (r : Rnd) (n : Bool) {m : Nat} (e : Int) (hm : m ≠ 0) :
    let s := f.shape; let a := s.roundMag r n m e; let q := s.ulp m e
    (roundIeee f r (.fin n m e) = ⟨encodeMag s n 0 0, .fin n 0 0, false, true, false⟩ ∧ (a = 0 ∨ expo a q < s.emin)) ∨
    (a ≠ 0 ∧ s.emin ≤ expo a q ∧
      ((roundIeee f r (.fin n m e) = ⟨infCode s n, .inf n, true, false, false⟩ ∧ (s.bias : Int) < expo a q) ∨
       (roundIeee f r (.fin n m e) = ⟨encodeMag s n a q, .fin n a q, false, false, false⟩ ∧ expo a q ≤ s.bias))) := by
  intro s a q
  have hround : roundIeee f r (.fin n m e) =
      if (a = 0 || decide (expo a q < s.emin)) = true then ⟨encodeMag s n 0 0, .fin n 0 0, false, true, false⟩
      else if (s.bias : Int) < expo a q then ⟨infCode s n, .inf n, true, false, false⟩
      else ⟨encodeMag s n a q, .fin n a q, false, false, false⟩ := if_neg hm
  rw [hround]
  split_ifs with hflush hinf
  · exact .inl ⟨rfl, by simpa using hflush⟩
  all_goals obtain ⟨ha, hnormal⟩ : a ≠ 0 ∧ s.emin ≤ expo a q := by simpa using hflush
  · exact .inr ⟨ha, hnormal, .inl ⟨rfl, hinf⟩⟩
  · exact .inr ⟨ha, hnormal, .inr ⟨rfl, not_lt.mp hinf⟩⟩

theorem mul_zpow_sub_mul (x : ℚ) (e q : Int) : x * 2 ^ (e - q) * 2 ^ q = x * 2 ^ e := by
  rw [mul_assoc, ← zpow_add₀ two_ne_zero, sub_add_cancel]

/-- The distance to the rounded number, in steps of the grid, is that of the magnitudes. -/
theorem abs_sub_roundMag {s : FpShape} {r : Rnd} (hr : r.InRange) (n : Bool) (m : Nat) (e : Int) :
    |(m : ℚ) * 2 ^ (e - s.ulp m e) - s.roundMag r n m e| =
      |(sint n m : ℚ) * 2 ^ (e - s.ulp m e) - gridRound r (sint n m) e (s.ulp m e)| := by
  rw [gridRound_sint hr, ← FpShape.roundMag]
  cases n with
  | false => simp [sint]
  | true => rw [← abs_neg]; simp [sint, add_comm, sub_eq_add_neg]

theorem abs_sub_roundMag_lt {s : FpShape} {r : Rnd} (hr : r.InRange) (n : Bool) (m : Nat) (e : Int) :
    |(m : ℚ) * 2 ^ (e - s.ulp m e) - s.roundMag r n m e| < 1 := by
  rw [abs_sub_roundMag hr]
  exact abs_sub_gridRound_lt hr rfl

theorem abs_sub_roundMag_nearest (s : FpShape) (n : Bool) (m : Nat) (e : Int) :
    |(m : ℚ) * 2 ^ (e - s.ulp m e) - s.roundMag .nearest n m e| ≤ 1 / 2 ∧
      (|(m : ℚ) * 2 ^ (e - s.ulp m e) - s.roundMag .nearest n m e| = 1 / 2 → s.roundMag .nearest n m e % 2 = 0) := by
  obtain ⟨hle, heven⟩ := gridRound_nearest (rfl : (sint n m : ℚ) * 2 ^ (e - s.ulp m e) = _)
  rw [abs_sub_roundMag (r := .nearest) trivial]
  exact ⟨hle, fun h => by have := heven h; unfold FpShape.roundMag; omega⟩

theorem abs_ratOf_sub_roundMag {s : FpShape} {r : Rnd} (hr : r.InRange) (n : Bool) (m : Nat) (e : Int) :
    |ratOf n m e - ratOf n (s.roundMag r n m e) (s.ulp m e)| =
      |(m : ℚ) * 2 ^ (e - s.ulp m e) - s.roundMag r n m e| * 2 ^ s.ulp m e := by
  have hsteps : ratOf n m e - ratOf n (s.roundMag r n m e) (s.ulp m e) =
      ((sint n m : ℚ) * 2 ^ (e - s.ulp m e) - gridRound r (sint n m) e (s.ulp m e)) * 2 ^ s.ulp m e := by
    rw [sub_mul, mul_zpow_sub_mul, gridRound_sint hr]
    rfl
  rw [hsteps, abs_mul, abs_of_pos (by positivity : (0 : ℚ) < 2 ^ s.ulp m e), abs_sub_roundMag hr]

theorem roundMag_le {s : FpShape} {r : Rnd} (hr : r.InRange) (n : Bool) {m : Nat} (e : Int) (hm : m ≠ 0) :
    s.roundMag r n m e ≤ 2 ^ (s.mb + 1) := by
  have hdist := abs_sub_lt_iff.mp (abs_sub_roundMag_lt (s := s) hr n m e)
  have hlt : (m : ℚ) * 2 ^ (e - s.ulp m e) < 2 ^ ((s.mb + 1 : ℕ) : Int) :=
    (expo_lt_iff hm).mp (by unfold expo FpShape.ulp; push_cast; unfold expo; omega)
  rw [zpow_natCast] at hlt
  have ha : (s.roundMag r n m e : ℚ) < 2 ^ (s.mb + 1) + 1 := by linarith [hdist.2]
  exact Nat.lt_succ_iff.mp (by exact_mod_cast ha)

theorem le_roundMag {s : FpShape} {r : Rnd} (hr : r.InRange) (n : Bool) {m : Nat} {e : Int} (hm : m ≠ 0)
    (hnormal : s.emin ≤ expo m e) : 2 ^ s.mb ≤ s.roundMag r n m e := by
  have hdist := abs_sub_lt_iff.mp (abs_sub_roundMag_lt (s := s) hr n m e)
  have hle : (2 : ℚ) ^ ((s.mb : ℕ) : Int) ≤ (m : ℚ) * 2 ^ (e - s.ulp m e) :=
    (le_expo_iff hm).mp (by unfold expo FpShape.ulp; unfold expo at *; omega)
  rw [zpow_natCast] at hle
  have ha : (2 : ℚ) ^ s.mb < s.roundMag r n m e + 1 := by linarith [hdist.1]
  exact Nat.lt_succ_iff.mp (by exact_mod_cast ha)

/-- A normal number is rounded to one no smaller than its binade. -/
theorem expo_le_expo_roundMag {s : FpShape} {r : Rnd} (hr : r.InRange) (n : Bool) {m : Nat} {e : Int} (hm : m ≠ 0)
    (hnormal : s.emin ≤ expo m e) : s.roundMag r n m e ≠ 0 ∧ expo m e ≤ expo (s.roundMag r n m e) (s.ulp m e) := by
  have hle := le_roundMag hr n hm hnormal
  have ha : s.roundMag r n m e ≠ 0 := (hle.trans_lt' (by positivity)).ne'
  have hlog := (Nat.le_log2 ha).mpr hle
  refine ⟨ha, ?_⟩
  rw [expo, FpShape.ulp, max_eq_left hnormal]
  simp only [expo]
  omega

theorem roundIeee_flush_lt {f : Fmt} {r : Rnd} (hr : r.InRange) {n : Bool} {m : Nat} {e : Int} (hm : m ≠ 0)
    (hflush : (roundIeee f r (.fin n m e)).flush = true) :
    (roundIeee f r (.fin n m e)).val = .fin n 0 0 ∧ |ratOf n m e| < 2 ^ f.shape.emin := by
  obtain ⟨h, hsmall⟩ | ⟨-, -, ⟨h, -⟩ | ⟨h, -⟩⟩ := roundIeee_cases f r n e hm
  · rw [h, abs_ratOf]
    refine ⟨rfl, lt_of_not_ge fun hge => ?_⟩
    have hnormal := (le_expo_iff hm).mpr hge
    obtain ⟨ha, hle⟩ := expo_le_expo_roundMag hr n hm hnormal
    have := hsmall.resolve_left ha
    omega
  · simp [h] at hflush
  · simp [h] at hflush

/-! ### Codes of BF16, FP16 and FP32 (R41, R53) -/

theorem isIeee_cases {f : Fmt} (hf : f.isIeee = true) : f = .bf16 ∨ f = .fp16 ∨ f = .fp32 := by
  cases f <;> simp [Fmt.isIeee] at hf ⊢

theorem two_pow_eb_of_isIeee {f : Fmt} (hf : f.isIeee = true) : 2 ^ f.shape.eb = 2 * f.shape.bias + 2 := by
  obtain rfl | rfl | rfl := isIeee_cases hf <;> rfl

theorem bias_pos_of_isIeee {f : Fmt} (hf : f.isIeee = true) : 0 < f.shape.bias := by
  obtain rfl | rfl | rfl := isIeee_cases hf <;> decide

theorem width_of_isIeee {f : Fmt} (hf : f.isIeee = true) : f.width = f.shape.mb + (f.shape.eb + 1) := by
  obtain rfl | rfl | rfl := isIeee_cases hf <;> rfl

/-- The code with a sign, an exponent field and a mantissa field. -/
def FpShape.fields (s : FpShape) (n : Bool) (x mant : Nat) : Nat :=
  mant + 2 ^ s.mb * (x + 2 ^ s.eb * n.toNat)

theorem add_mul_lt_mul {a b c d : Nat} (hab : a < b) (hcd : c < d) : a + b * c < b * d :=
  calc a + b * c < b + b * c := by omega
    _ = b * (c + 1) := by ring
    _ ≤ b * d := Nat.mul_le_mul_left b hcd

theorem FpShape.fields_lt {s : FpShape} (n : Bool) {x mant : Nat} (hx : x < 2 ^ s.eb) (hmant : mant < 2 ^ s.mb) :
    s.fields n x mant < 2 ^ (s.mb + (s.eb + 1)) := by
  have hn : n.toNat < 2 ^ 1 := n.toNat_lt
  rw [FpShape.fields, Nat.pow_add, Nat.pow_add]
  exact add_mul_lt_mul hmant (add_mul_lt_mul hx hn)

theorem infCode_eq_fields (s : FpShape) (n : Bool) : infCode s n = s.fields n (2 ^ s.eb - 1) 0 := by
  cases n <;> simp [infCode, FpShape.fields, pow_add] <;> ring

theorem encodeMag_zero (s : FpShape) (n : Bool) : encodeMag s n 0 0 = s.fields n 0 0 := by
  cases n <;> simp [encodeMag, FpShape.fields, pow_add, mul_comm]

theorem decodeElem_of_isIeee {f : Fmt} (hf : f.isIeee = true) (c : Nat) : decodeElem f c =
    let s := f.shape
    let m := c % 2 ^ s.mb
    let x := (c / 2 ^ s.mb) % 2 ^ s.eb
    let n := decide ((c / 2 ^ (s.mb + s.eb)) % 2 = 1)
    if x = 2 ^ s.eb - 1 then (if m = 0 then .inf n else .nan)
    else if x = 0 then .fin n m (s.emin - s.mb)
    else .fin n (2 ^ s.mb + m) ((x : Int) - s.bias - s.mb) := by
  obtain rfl | rfl | rfl := isIeee_cases hf <;> simp [decodeElem, Fmt.isIeee]

theorem decodeElem_fields {f : Fmt} (hf : f.isIeee = true) (n : Bool) {x mant : Nat} (hx : x < 2 ^ f.shape.eb)
    (hmant : mant < 2 ^ f.shape.mb) : decodeElem f (f.shape.fields n x mant) =
      if x = 2 ^ f.shape.eb - 1 then (if mant = 0 then .inf n else .nan)
      else if x = 0 then .fin n mant (f.shape.emin - f.shape.mb)
      else .fin n (2 ^ f.shape.mb + mant) ((x : Int) - f.shape.bias - f.shape.mb) := by
  have hdiv : f.shape.fields n x mant / 2 ^ f.shape.mb = x + 2 ^ f.shape.eb * n.toNat := by
    rw [FpShape.fields, Nat.add_mul_div_left _ _ (by positivity), Nat.div_eq_of_lt hmant, zero_add]
  have hsign : decide ((f.shape.fields n x mant / 2 ^ (f.shape.mb + f.shape.eb)) % 2 = 1) = n := by
    rw [pow_add, ← Nat.div_div_eq_div_mul, hdiv, Nat.add_mul_div_left _ _ (by positivity), Nat.div_eq_of_lt hx]
    cases n <;> rfl
  have hmod : f.shape.fields n x mant % 2 ^ f.shape.mb = mant := by
    rw [FpShape.fields, Nat.add_mul_mod_self_left, Nat.mod_eq_of_lt hmant]
  simp only [decodeElem_of_isIeee hf, hsign, hmod, hdiv, Nat.add_mul_mod_self_left, Nat.mod_eq_of_lt hx]

/-- The mantissa bits that `encodeMag` keeps of a magnitude, with the leading one. -/
def significand (mb a : Nat) : Nat :=
  if mb ≤ Nat.log2 a then a >>> (Nat.log2 a - mb) else a <<< (mb - Nat.log2 a)

/-- A magnitude of at most `mb + 1` bits, or the next power of two, is kept whole. -/
theorem significand_mul {mb a : Nat} (ha : a ≠ 0) (hbits : a ≤ 2 ^ (mb + 1)) :
    (significand mb a : ℚ) * 2 ^ ((Nat.log2 a : Int) - mb) = a := by
  obtain hlt | heq := hbits.lt_or_eq
  · have hlog : Nat.log2 a ≤ mb := Nat.lt_succ_iff.mp ((Nat.log2_lt ha).mpr hlt)
    have hsig : significand mb a = a * 2 ^ (mb - Nat.log2 a) := by
      obtain h | h := hlog.lt_or_eq
      · rw [significand, if_neg h.not_ge, Nat.shiftLeft_eq]
      · simp [significand, h]
    rw [hsig, Nat.cast_mul, Nat.cast_pow, Nat.cast_ofNat, ← zpow_natCast, mul_assoc, ← zpow_add₀ two_ne_zero,
      Nat.cast_sub hlog, sub_add_sub_cancel, sub_self, zpow_zero, mul_one]
  · have hlog : Nat.log2 a = mb + 1 := by rw [heq, Nat.log2_two_pow]
    have hsig : significand mb a = 2 ^ mb := by
      rw [significand, hlog, if_pos (by omega), heq, Nat.shiftRight_eq_div_pow, Nat.add_sub_cancel_left]
      omega
    rw [hsig, hlog, heq]
    push_cast
    rw [add_sub_cancel_left, zpow_one, pow_succ]

theorem significand_mem {mb a : Nat} (ha : a ≠ 0) (hbits : a ≤ 2 ^ (mb + 1)) :
    2 ^ mb ≤ significand mb a ∧ significand mb a < 2 ^ (mb + 1) := by
  have hval := significand_mul ha hbits
  have hpos : (0 : ℚ) < 2 ^ ((Nat.log2 a : Int) - mb) := by positivity
  constructor
  · have hle : (2 : ℚ) ^ mb * 2 ^ ((Nat.log2 a : Int) - mb) ≤ significand mb a * 2 ^ ((Nat.log2 a : Int) - mb) := by
      rw [hval, ← zpow_natCast, ← zpow_add₀ two_ne_zero, add_sub_cancel, zpow_natCast]
      exact_mod_cast Nat.log2_self_le ha
    exact_mod_cast le_of_mul_le_mul_right hle hpos
  · have hlt : (significand mb a : ℚ) * 2 ^ ((Nat.log2 a : Int) - mb) <
        2 ^ (mb + 1) * 2 ^ ((Nat.log2 a : Int) - mb) := by
      rw [hval, pow_succ, mul_right_comm, ← zpow_natCast, ← zpow_add₀ two_ne_zero, add_sub_cancel, zpow_natCast,
        ← pow_succ]
      exact_mod_cast Nat.lt_log2_self
    exact_mod_cast lt_of_mul_lt_mul_right hlt hpos.le

theorem encodeMag_eq_fields {s : FpShape} (n : Bool) {a : Nat} {q : Int} (ha : a ≠ 0) (hnormal : s.emin ≤ expo a q) :
    encodeMag s n a q = s.fields n (expo a q + s.bias).toNat (significand s.mb a - 2 ^ s.mb) := by
  simp only [encodeMag, if_neg ha, if_neg hnormal.not_gt, FpShape.fields, significand]
  cases n <;> simp [pow_add] <;> ring

theorem ratOf_congr {m m' : Nat} {e e' : Int} (n : Bool) (h : (m : ℚ) * 2 ^ e = m' * 2 ^ e') :
    ratOf n m e = ratOf n m' e' := by
  cases n <;> simp [ratOf, sint, h]

theorem decodeElem_encodeMag {f : Fmt} (hf : f.isIeee = true) (n : Bool) {a : Nat} {q : Int} (ha : a ≠ 0)
    (hbits : a ≤ 2 ^ (f.shape.mb + 1)) (hlow : f.shape.emin ≤ expo a q) (hhigh : expo a q ≤ f.shape.bias) :
    encodeMag f.shape n a q < 2 ^ f.width ∧ Stands (decodeElem f (encodeMag f.shape n a q)) (ratOf n a q) := by
  obtain ⟨hsig, hsig'⟩ := significand_mem ha hbits
  have heb := two_pow_eb_of_isIeee hf
  have hmin : (1 : Int) ≤ expo a q + f.shape.bias := by unfold FpShape.emin at hlow; omega
  have hx : (expo a q + f.shape.bias).toNat < 2 ^ f.shape.eb := by omega
  have hmant : significand f.shape.mb a - 2 ^ f.shape.mb < 2 ^ f.shape.mb := by rw [pow_succ] at hsig'; omega
  rw [encodeMag_eq_fields n ha hlow]
  refine ⟨width_of_isIeee hf ▸ FpShape.fields_lt n hx hmant, ?_⟩
  rw [decodeElem_fields hf n hx hmant, if_neg (by omega), if_neg (by omega), stands_fin_iff,
    Int.toNat_of_nonneg (by omega), add_sub_cancel_right, Nat.add_sub_cancel' hsig]
  apply ratOf_congr
  rw [expo, add_sub_right_comm, zpow_add₀ two_ne_zero, ← mul_assoc, significand_mul ha hbits]

/-! ### Where nearest-even overflows (R53) -/

/-- The largest finite value plus half its unit in the last place is as far below the next power of two. -/
theorem overflow_threshold (s : FpShape) : ((2 : ℚ) ^ (s.mb + 2) - 1) * 2 ^ ((s.bias : Int) - s.mb - 1) =
    2 ^ ((s.bias : Int) + 1) - 2 ^ ((s.bias : Int) - s.mb - 1) := by
  rw [sub_mul, one_mul, ← zpow_natCast, ← zpow_add₀ two_ne_zero]
  congr 2
  push_cast
  ring

theorem le_abs_of_bias_lt_expo {s : FpShape} (hbias : 0 < s.bias) {n : Bool} {m : Nat} {e : Int} (hm : m ≠ 0)
    (ha : s.roundMag .nearest n m e ≠ 0) (hover : (s.bias : Int) < expo (s.roundMag .nearest n m e) (s.ulp m e)) :
    (2 : ℚ) ^ ((s.bias : Int) + 1) - 2 ^ ((s.bias : Int) - s.mb - 1) ≤ m * 2 ^ e := by
  have hpos : (0 : ℚ) < 2 ^ ((s.bias : Int) - s.mb - 1) := by positivity
  obtain hbig | hsmall := lt_or_ge (s.bias : Int) (expo m e)
  · have hle := (le_expo_iff hm).mp (Int.add_one_le_of_lt hbig)
    linarith
  · have hle := (le_expo_iff ha).mp (Int.add_one_le_of_lt hover)
    have hdist := (abs_sub_le_iff.mp (abs_sub_roundMag_nearest s n m e).1).2
    have hq : s.ulp m e - 1 ≤ (s.bias : Int) - s.mb - 1 := by unfold FpShape.ulp FpShape.emin; omega
    have hstep := zpow_le_zpow_right₀ (one_le_two : (1 : ℚ) ≤ 2) hq
    have hmul := mul_le_mul_of_nonneg_right hdist (by positivity : (0 : ℚ) ≤ 2 ^ s.ulp m e)
    rw [sub_mul, mul_zpow_sub_mul] at hmul
    rw [zpow_sub_one₀ two_ne_zero] at hstep
    linarith

/-- In the last binade the tie at the threshold goes to the even multiple, which is the next power of two. -/
theorem bias_lt_expo_of_le_abs {s : FpShape} {n : Bool} {m : Nat} {e : Int} (hm : m ≠ 0) (hbias : 0 < s.bias)
    (hle : (2 : ℚ) ^ ((s.bias : Int) + 1) - 2 ^ ((s.bias : Int) - s.mb - 1) ≤ m * 2 ^ e) :
    s.roundMag .nearest n m e ≠ 0 ∧ (s.bias : Int) < expo (s.roundMag .nearest n m e) (s.ulp m e) := by
  have hbinade : (s.bias : Int) ≤ expo m e := by
    rw [le_expo_iff hm]
    have := zpow_le_zpow_right₀ (one_le_two : (1 : ℚ) ≤ 2) (by omega : (s.bias : Int) - s.mb - 1 ≤ s.bias)
    rw [zpow_add_one₀ two_ne_zero] at hle
    linarith
  have hnormal : s.emin ≤ expo m e := by unfold FpShape.emin; omega
  obtain ⟨ha, hexpo⟩ := expo_le_expo_roundMag (r := .nearest) trivial n hm hnormal
  refine ⟨ha, ?_⟩
  obtain hbig | hlast := hbinade.lt_or_eq
  · omega
  · have hq : s.ulp m e = (s.bias : Int) - s.mb := by rw [FpShape.ulp, max_eq_left hnormal, ← hlast]
    obtain ⟨hdist, heven⟩ := abs_sub_roundMag_nearest s n m e
    have hy : ((2 : ℚ) ^ (s.mb + 1) - 1 / 2) * 2 ^ s.ulp m e ≤ m * 2 ^ (e - s.ulp m e) * 2 ^ s.ulp m e := by
      rw [mul_zpow_sub_mul, sub_mul, ← zpow_natCast, ← zpow_add₀ two_ne_zero, hq]
      convert hle using 2
      · congr 1
        push_cast
        ring
      · rw [zpow_sub_one₀ two_ne_zero]
        ring
    have hy' := le_of_mul_le_mul_right hy (by positivity)
    have hmag : 2 ^ (s.mb + 1) ≤ s.roundMag .nearest n m e := by
      by_contra hlt
      have hnear : (s.roundMag .nearest n m e : ℚ) + 1 ≤ 2 ^ (s.mb + 1) := by exact_mod_cast not_le.mp hlt
      have htie := heven (le_antisymm hdist (le_abs.mpr (.inl (by linarith))))
      have hfar : s.roundMag .nearest n m e + 2 ≤ 2 ^ (s.mb + 1) := by rw [pow_succ] at hlt ⊢; omega
      have hfar' : (s.roundMag .nearest n m e : ℚ) + 2 ≤ 2 ^ (s.mb + 1) := by exact_mod_cast hfar
      linarith [(abs_sub_le_iff.mp hdist).1]
    have hlog := (Nat.le_log2 ha).mpr hmag
    rw [hq, expo]
    omega

theorem roundIeee_nearest_inf_iff {f : Fmt} (hf : f.isIeee = true) {n : Bool} {m : Nat} {e : Int} (hm : m ≠ 0) :
    let s := f.shape
    (∃ i, (roundIeee f .nearest (.fin n m e)).val = .inf i) ↔
      ((2 : ℚ) ^ (s.mb + 2) - 1) * 2 ^ ((s.bias : Int) - s.mb - 1) ≤ |ratOf n m e| := by
  intro s
  rw [overflow_threshold, abs_ratOf]
  constructor
  · rintro ⟨i, hi⟩
    obtain ⟨h, -⟩ | ⟨ha, -, ⟨h, hover⟩ | ⟨h, -⟩⟩ := roundIeee_cases f .nearest n e hm
    · simp [h] at hi
    · exact le_abs_of_bias_lt_expo (bias_pos_of_isIeee hf) hm ha hover
    · simp [h] at hi
  · intro hle
    obtain ⟨ha, hover⟩ := bias_lt_expo_of_le_abs (n := n) hm (bias_pos_of_isIeee hf) hle
    obtain ⟨h, hsmall⟩ | ⟨-, -, ⟨h, -⟩ | ⟨h, hfin⟩⟩ := roundIeee_cases f .nearest n e hm
    · have := hsmall.resolve_left ha
      unfold FpShape.emin at this
      omega
    · exact ⟨n, by rw [h]⟩
    · exact absurd hover hfin.not_gt

/-! ### Results and their codes (R41, R49, R53) -/

theorem decodeElem_infCode {f : Fmt} (hf : f.isIeee = true) (n : Bool) :
    infCode f.shape n < 2 ^ f.width ∧ decodeElem f (infCode f.shape n) = .inf n := by
  have hx : 2 ^ f.shape.eb - 1 < 2 ^ f.shape.eb := Nat.sub_one_lt (by positivity)
  have hmant : 0 < 2 ^ f.shape.mb := by positivity
  rw [infCode_eq_fields, decodeElem_fields hf n hx hmant, if_pos rfl, if_pos rfl]
  exact ⟨width_of_isIeee hf ▸ FpShape.fields_lt n hx hmant, rfl⟩

theorem decodeElem_encodeMag_zero {f : Fmt} (hf : f.isIeee = true) (n : Bool) (q : Int) :
    encodeMag f.shape n 0 0 < 2 ^ f.width ∧ Stands (decodeElem f (encodeMag f.shape n 0 0)) (ratOf n 0 q) := by
  have hx : 0 < 2 ^ f.shape.eb := by positivity
  have hmant : 0 < 2 ^ f.shape.mb := by positivity
  have heb := two_pow_eb_of_isIeee hf
  rw [encodeMag_zero, decodeElem_fields hf n hx hmant, if_neg (by omega), if_pos rfl, ratOf_zero]
  exact ⟨width_of_isIeee hf ▸ FpShape.fields_lt n hx hmant, stands_zero n _⟩

theorem roundIeee_nan (f : Fmt) (r : Rnd) : (roundIeee f r .nan).code = f.canonNan := rfl

theorem decodeElem_canonNan {f : Fmt} (hf : f.isIeee = true) : decodeElem f f.canonNan = .nan := by
  obtain rfl | rfl | rfl := isIeee_cases hf <;> rfl

theorem decodeElem_roundIeee_inf {f : Fmt} (hf : f.isIeee = true) (r : Rnd) (i : Bool) :
    decodeElem f (roundIeee f r (.inf i)).code = .inf i :=
  (decodeElem_infCode hf i).2

theorem roundIeee_of_val_fin {f : Fmt} (hf : f.isIeee = true) {r : Rnd} (hr : r.InRange) {n n' : Bool} {m a : Nat}
    {e q : Int} (hm : m ≠ 0) (hval : (roundIeee f r (.fin n m e)).val = .fin n' a q) :
    n' = n ∧ Stands (decodeElem f (roundIeee f r (.fin n m e)).code) (ratOf n a q) ∧
      (a ≠ 0 → a = f.shape.roundMag r n m e ∧ q = f.shape.ulp m e) := by
  obtain ⟨h, -⟩ | ⟨ha, hlow, ⟨h, -⟩ | ⟨h, hhigh⟩⟩ := roundIeee_cases f r n e hm <;> rw [h] at hval <;> cases hval
  · rw [h]
    exact ⟨rfl, (decodeElem_encodeMag_zero hf n 0).2, fun h0 => absurd rfl h0⟩
  · rw [h]
    exact ⟨rfl, (decodeElem_encodeMag hf n ha (roundMag_le hr n e hm) hlow hhigh).2, fun _ => ⟨rfl, rfl⟩⟩

theorem roundIeee_code_lt {f : Fmt} (hf : f.isIeee = true) {r : Rnd} (hr : r.InRange) (n : Bool) {m : Nat} (e : Int)
    (hm : m ≠ 0) : (roundIeee f r (.fin n m e)).code < 2 ^ f.width := by
  obtain ⟨h, -⟩ | ⟨ha, hlow, ⟨h, -⟩ | ⟨h, hhigh⟩⟩ := roundIeee_cases f r n e hm <;> rw [h]
  · exact (decodeElem_encodeMag_zero hf n 0).1
  · exact (decodeElem_infCode hf n).1
  · exact (decodeElem_encodeMag hf n ha (roundMag_le hr n e hm) hlow hhigh).1

theorem roundIeee_of_val_inf {f : Fmt} (hf : f.isIeee = true) {r : Rnd} {n i : Bool} {m : Nat} {e : Int} (hm : m ≠ 0)
    (hval : (roundIeee f r (.fin n m e)).val = .inf i) :
    i = n ∧ decodeElem f (roundIeee f r (.fin n m e)).code = .inf n ∧ (roundIeee f r (.fin n m e)).ovf = true := by
  obtain ⟨h, -⟩ | ⟨-, -, ⟨h, -⟩ | ⟨h, -⟩⟩ := roundIeee_cases f r n e hm <;> rw [h] at hval <;> cases hval
  rw [h]
  exact ⟨rfl, (decodeElem_infCode hf n).2, rfl⟩

theorem roundIeee_val_ne_nan (f : Fmt) (r : Rnd) (n : Bool) {m : Nat} (e : Int) (hm : m ≠ 0) :
    (roundIeee f r (.fin n m e)).val ≠ .nan := by
  obtain ⟨h, -⟩ | ⟨-, -, ⟨h, -⟩ | ⟨h, -⟩⟩ := roundIeee_cases f r n e hm <;> rw [h] <;> exact Val.noConfusion

/-- The clause of O58 on finite numbers, for a noise of 32 bits. Its other clauses hold as they stand:
`gridRound_nearest`, `gridRound_stochastic`, `roundIeee_nan`, `decodeElem_canonNan` and `decodeElem_roundIeee_inf`. -/
theorem roundIeee_of_inRange {f : Fmt} (hf : f.isIeee = true) {r : Rnd} (hr : r.InRange) (n : Bool) {m : Nat} (e : Int)
    (hm : m ≠ 0) : let s := f.shape; let x := roundIeee f r (.fin n m e)
    x.code < 2 ^ f.width ∧
    (∀ n' a q, x.val = .fin n' a q → n' = n ∧ Stands (decodeElem f x.code) (ratOf n a q) ∧
      (a ≠ 0 → r = .nearest → q = max (expo m e) s.emin - s.mb ∧ 2 * |ratOf n m e - ratOf n a q| ≤ 2 ^ q)) ∧
    (∀ i, x.val = .inf i → i = n ∧ decodeElem f x.code = .inf n ∧ x.ovf = true) ∧ x.val ≠ .nan ∧
    (r = .nearest → ((∃ i, x.val = .inf i) ↔
      ((2 : ℚ) ^ (s.mb + 2) - 1) * 2 ^ ((s.bias : Int) - s.mb - 1) ≤ |ratOf n m e|)) ∧
    (x.flush = true → x.val = .fin n 0 0 ∧ |ratOf n m e| < 2 ^ s.emin) := by
  refine ⟨roundIeee_code_lt hf hr n e hm, fun n' a q hval => ?_, fun i => roundIeee_of_val_inf hf hm,
    roundIeee_val_ne_nan f r n e hm, ?_, roundIeee_flush_lt hr hm⟩
  · obtain ⟨hn, hstands, hmag⟩ := roundIeee_of_val_fin hf hr hm hval
    refine ⟨hn, hstands, fun ha hnear => ?_⟩
    subst hnear
    obtain ⟨rfl, rfl⟩ := hmag ha
    refine ⟨rfl, ?_⟩
    rw [abs_ratOf_sub_roundMag hr, ← mul_assoc]
    have hdist := (abs_sub_roundMag_nearest f.shape n m e).1
    exact mul_le_of_le_one_left (by positivity) (by linarith)
  · rintro rfl
    exact roundIeee_nearest_inf_iff hf hm

/-! ### A noise of more than 32 bits -/

/-- -2^-126, the smallest normal magnitude of BF16, lies on the grid, and the noise 2^32 carries it one step up and
below that magnitude. -/
theorem roundIeee_smallestNormal_flushes :
    (roundIeee .bf16 (.stochastic (2 ^ 32)) (.fin true 256 (-134))).flush = true := by decide

/-- Refutes O58: its clauses on `roundIeee` bound no noise, and with the noise 2^32 the number -2^-126 flushes, which is
not below the smallest normal magnitude of BF16. With a noise of 32 bits they hold: `roundIeee_of_inRange`. -/
theorem not_resultsAreRoundedOnceToTheNearest : ¬ Obligations.ResultsAreRoundedOnceToTheNearest := by
  rintro ⟨-, hround, -⟩
  obtain ⟨-, -, -, -, -, hflush⟩ := hround .bf16 (.stochastic (2 ^ 32)) true 256 (-134) rfl (by decide)
  obtain ⟨-, hsmall⟩ := hflush roundIeee_smallestNormal_flushes
  norm_num [ratOf, sint, FpShape.emin, Fmt.shape] at hsmall

end Sys2Proof.Machine
end

section
/-!
PROOFS. Products of finite elements on the bench grid and the sum of a row; statements of spec/03_bench_accumulation.md.
-/

namespace Sys2Proof.Machine

/-! ### One number on a grid (R79, R87) -/

theorem floorTo_of_le {e q : Int} (h : q ≤ e) (v : Int) : floorTo v e q = (v * 2 ^ (e - q).toNat, false) := by
  rw [floorTo, if_pos h]

theorem floorTo_of_lt {e q : Int} (h : e < q) (v : Int) :
    floorTo v e q = (v / (2 ^ (q - e).toNat : ℕ), decide (v % (2 ^ (q - e).toNat : ℕ) ≠ 0)) := by
  rw [floorTo, if_neg h.not_ge, Nat.cast_pow, Nat.cast_ofNat]

theorem floorTo_fst (v e q : Int) : (floorTo v e q).1 = ⌊(v : ℚ) * 2 ^ (e - q)⌋ := by
  obtain hle | hlt := le_or_gt q e
  · rw [floorTo_of_le hle, ← Int.toNat_of_nonneg (sub_nonneg.mpr hle), zpow_natCast, Int.toNat_natCast]
    exact_mod_cast (Int.floor_intCast _).symm
  · rw [floorTo_of_lt hlt, mul_zpow_sub_eq_div hlt.le, Rat.floor_intCast_div_natCast]

/-- Off the grid, the remainder that `floorTo` tests is what the floor takes away, in units of `2^e`. -/
theorem floorTo_snd_eq_false_iff (v e q : Int) :
    (floorTo v e q).2 = false ↔ ((floorTo v e q).1 : ℚ) * 2 ^ q = v * 2 ^ e := by
  obtain hle | hlt := le_or_gt q e
  · rw [floorTo_of_le hle]
    push_cast
    rw [mul_assoc, two_pow_toNat hle]
    simp
  · rw [floorTo_of_lt hlt, ← two_pow_toNat hlt.le, ← mul_assoc, mul_left_inj' (by positivity)]
    simp only [decide_eq_false_iff_not, not_not]
    have hdiv := Int.ediv_mul_add_emod v (2 ^ (q - e).toNat : ℕ)
    norm_cast
    omega

/-! ### One product (R79) -/

/-- A product in steps of the bench grid. -/
theorem product_div_grid (A : Int) (a b : Int × Int) :
    (a.1 : ℚ) * 2 ^ a.2 * (b.1 * 2 ^ b.2) / 2 ^ (A - 110) =
      ((a.1 * b.1 : Int) : ℚ) * 2 ^ (a.2 + b.2 - (A - 110)) := by
  rw [zpow_sub₀ two_ne_zero (a.2 + b.2), zpow_add₀ two_ne_zero, ← mul_div_assoc, Int.cast_mul, mul_mul_mul_comm]

theorem alignProduct_fst (A : Int) (a b : Int × Int) :
    (alignProduct A a b).1 = ⌊(a.1 : ℚ) * 2 ^ a.2 * (b.1 * 2 ^ b.2) / 2 ^ (A - 110)⌋ := by
  rw [alignProduct, floorTo_fst, product_div_grid]

theorem alignProduct_snd_eq_false_iff (A : Int) (a b : Int × Int) :
    (alignProduct A a b).2 = false ↔
      ((alignProduct A a b).1 : ℚ) * 2 ^ (A - 110) = (a.1 : ℚ) * 2 ^ a.2 * (b.1 * 2 ^ b.2) := by
  rw [alignProduct, floorTo_snd_eq_false_iff, zpow_add₀ two_ne_zero, Int.cast_mul, mul_mul_mul_comm]

/-! ### The sum of a row (R79, R80) -/

theorem dotAligned_fst (A : Int) (l : List ((Int × Int) × (Int × Int))) :
    (dotAligned A l).1 = (l.map fun p => (alignProduct A p.1 p.2).1).sum := by
  induction l with
  | nil => rfl
  | cons p l ih => rw [dotAligned, List.map_cons, List.sum_cons, ih]

theorem dotAligned_snd (A : Int) (l : List ((Int × Int) × (Int × Int))) :
    (dotAligned A l).2 = (l.filter fun p => (alignProduct A p.1 p.2).2).length := by
  rw [← List.countP_eq_length_filter]
  induction l with
  | nil => rfl
  | cons p l ih => rw [dotAligned, List.countP_cons, ih, b2n]

/-- The order of the products changes neither the sum nor the count. -/
theorem dotAligned_perm (A : Int) {l l' : List ((Int × Int) × (Int × Int))} (h : l.Perm l') :
    dotAligned A l' = dotAligned A l := by
  apply Prod.ext
  · rw [dotAligned_fst, dotAligned_fst, (h.map _).sum_eq]
  · rw [dotAligned_snd, dotAligned_snd, (h.filter _).length_eq]

/-- Settles O57: `floorTo` is the floor on the grid, and its remainder is 0 exactly on the grid (R79). -/
theorem productsEnterTheBenchAsFloors : Obligations.ProductsEnterTheBenchAsFloors :=
  ⟨fun A a b => ⟨alignProduct_fst A a b, alignProduct_snd_eq_false_iff A a b⟩,
    fun A l => ⟨dotAligned_fst A l, dotAligned_snd A l, fun _ => dotAligned_perm A⟩⟩

end Sys2Proof.Machine
end

section
/-!
PROOFS. The level of an array moves by one a step; statements of spec/04_tensor_array.md.
-/

namespace Sys2Proof.Machine

open Sys2Proof.Claims

/-! ### A step of a ramp-down (R117, R573) -/

/-- A core whose array has come down one level at time `now`; at level 0 a ramp-down is over. -/
def Core.lowered (o : Core) (now : Nat) (r : Ramp) : Core :=
  { o with level := o.level - 1, ramp := if o.level = 1 then .steady else r, since := now }

@[simp] theorem Core.lowered_level (o : Core) (now : Nat) (r : Ramp) : (o.lowered now r).level = o.level - 1 := rfl

/-- A fall to the cap is no ramp-down: it leaves the array steady at every level. -/
theorem Core.lowered_steady (o : Core) (now : Nat) :
    o.lowered now .steady = { o with level := o.level - 1, ramp := .steady, since := now } := by
  rw [Core.lowered, ite_self]

section
variable {s : State} {k : Nat}

theorem State.rampDown_of_fused (hfused : s.part.isFused k = true) : s.rampDown k = s := by
  simp [State.rampDown, hfused]

theorem State.rampDown_above_cap (hfused : s.part.isFused k = false) (hcap : s.levelCap (k / 64) < (s.co k).level) :
    ∃ n, s.rampDown k = (s.reach n).modCo k (·.lowered (s.reach n).now .steady) := by
  have hlevel : (s.co k).level ≠ 0 := by omega
  simp only [State.rampDown, hfused, hlevel, hcap]
  exact ⟨_, rfl⟩

section
variable (hfused : s.part.isFused k = false) (hlevel : (s.co k).level ≠ 0)
  (hcap : (s.co k).level ≤ s.levelCap (k / 64))
include hfused hlevel hcap

theorem State.rampDown_of_climbing (hramp : (s.co k).ramp = .up ∨ (s.co k).ramp = .warm) : s.rampDown k = s := by
  obtain hramp | hramp := hramp <;> simp [State.rampDown, hfused, hlevel, hcap.not_gt, hramp]

theorem State.rampDown_of_falling (hramp : (s.co k).ramp = .down) :
    ∃ n, s.rampDown k = ((s.reach ((s.co k).since + cycleUnits 64)).bump K.DUMMY_ROW_SLOTS n).modCo k
      (·.lowered (s.reach ((s.co k).since + cycleUnits 64)).now .down) := by
  simp only [State.rampDown, hfused, hlevel, hcap.not_gt, hramp]
  exact ⟨_, rfl⟩

theorem State.rampDown_of_gap (hramp : (s.co k).ramp = .steady) :
    let o := s.co k
    let u := s.reach (max o.since o.holdTill + cycleUnits o.fillGap)
    s.rampDown k = (((u.bump K.DUMMY_ROW_SLOTS
        (o.rowSlots (o.hold + o.fillGap) * (if o.level = 5 then 4 else o.level - 1) / 4)).bump K.RAMP_DOWNS 1).modCo k
      (·.lowered u.now .down)).modCo k (fun c => { c with hold := 0 }) := by
  simp only [State.rampDown, hfused, hlevel, hcap.not_gt, hramp]
  rfl

end

/-! ### A step of a climb (R119, R122) -/

theorem State.rampUp_of_fused (hfused : s.part.isFused k = true) : s.rampUp k = s := by
  simp [State.rampUp, hfused]

/-- At its cap, or with no climb under way, there is nothing to raise (log entry 8). -/
theorem State.rampUp_of_idle
    (h : s.levelCap (k / 64) ≤ (s.co k).level ∨ ((s.co k).ramp ≠ .up ∧ (s.co k).ramp ≠ .warm)) : s.rampUp k = s := by
  obtain hcap | ⟨hup, hwarm⟩ := h
  · simp [State.rampUp, hcap]
  · simp [State.rampUp, hup, hwarm]

/-- `t` is `s` after time has passed, counters have counted and free values have been drawn, and nothing else. -/
def State.Recounted (s t : State) : Prop := t = { s with now := t.now, od := t.od, free := t.free }

namespace State.Recounted

theorem refl (s : State) : s.Recounted s := rfl

theorem trans {s t u : State} (hst : s.Recounted t) (htu : t.Recounted u) : s.Recounted u := by
  unfold State.Recounted at *
  rw [htu, hst]

theorem reach (s : State) (n : Nat) : s.Recounted (s.reach n) := rfl

theorem bump (s : State) (i n : Nat) : s.Recounted (s.bump i n) := rfl

/-- A counter that grows by a free amount. -/
theorem bump_draw (s : State) (i n : Nat) : s.Recounted (s.draw.2.bump i n) := rfl

theorem co_eq {s t : State} (h : s.Recounted t) (i : Nat) : t.co i = s.co i := by rw [h]; rfl

end State.Recounted

/-- Before the cluster goes on, a climb raises the level of its core; what it counts of its slots is no part of the
cores. -/
theorem State.rampUp_of_climbing (hfused : s.part.isFused k = false)
    (hcap : (s.co k).level < s.levelCap (k / 64)) (hramp : (s.co k).ramp = .up ∨ (s.co k).ramp = .warm) :
    ∃ (u : State) (f : Core → Core), s.rampUp k = (u.modCo k f).settle (k / 8) ∧ s.Recounted u ∧
      ∀ c, (f c).level = c.level + 1 := by
  have hgo : ¬ (s.part.isFused k || ((s.co k).ramp ≠ .up && (s.co k).ramp ≠ .warm) ||
      decide (s.levelCap (k / 64) ≤ (s.co k).level)) = true := by
    obtain hramp | hramp := hramp <;> simp [hfused, hramp, hcap]
  unfold State.rampUp
  rw [if_neg hgo]
  refine ⟨_, _, rfl, ?_, fun _ => rfl⟩
  have hreach : s.Recounted (if (s.co k).level = 0 then s else s.reach ((s.co k).since + cycleUnits 64)) := by
    split
    · exact .refl s
    · exact .reach s _
  refine hreach.trans ?_
  split_ifs with hlevel0 hlevel1 hnoRows hheld hdummies
  · exact .refl _
  · exact .refl _
  · exact .bump _ _ _
  · exact .bump_draw _ _ _
  · exact .bump _ _ _
  · exact .trans (.bump_draw _ _ _) (.bump_draw _ _ _)

end

/-! ### The statement -/

/-- A state that keeps the queue and the part's fixed facts is what the command answers. -/
theorem State.ends_eq_next {s t : State} (hpending : t.pending = s.pending) (hpart : t.part = s.part) :
    s.ends t = .next t := by
  rw [State.ends, ← hpending, ← hpart]

theorem exec_arrayRampDown {core : Fin 256} {s t : State} (h : s.rampDown core = t) (hpending : t.pending = s.pending)
    (hpart : t.part = s.part) : exec (.arrayRampDown core) s = .next t :=
  (congrArg s.ends h).trans (State.ends_eq_next hpending hpart)

theorem exec_arrayRampUp {core : Fin 256} {s t : State} (h : s.rampUp core = t) :
    exec (.arrayRampUp core) s = .next { t with pending := s.pending, part := s.part } :=
  congrArg s.ends h

/-- Settles O15: `rampDown` and `rampUp` by the branch that they take (R115, R117, R119, R120, R573). -/
theorem arrayLevelClimbsAndFalls : Obligations.ArrayLevelClimbsAndFalls := by
  intro core s o
  refine ⟨fun hfused => ⟨exec_arrayRampDown (State.rampDown_of_fused hfused) rfl rfl,
      exec_arrayRampUp (State.rampUp_of_fused hfused)⟩,
    fun hfused hlevel hcap =>
      ⟨fun hramp => exec_arrayRampDown (State.rampDown_of_climbing hfused hlevel hcap hramp) rfl rfl,
      fun hramp => ?gap, fun hramp => ?falling⟩,
    fun hfused hcap => ?aboveCap, fun hidle => exec_arrayRampUp (State.rampUp_of_idle hidle),
    fun hfused hcap hramp => ?climb⟩
  case gap =>
    refine ⟨_, exec_arrayRampDown (State.rampDown_of_gap hfused hlevel hcap hramp) rfl rfl, rfl, rfl, ?_, ?_, ?_,
      fun k hk => ?_⟩
    · simp [o]
    · simp [counted, State.bump_par]
    · simp [counted, State.bump_par, o]
    · simp [State.modCo_co, hk]
  case falling =>
    obtain ⟨n, hdown⟩ := State.rampDown_of_falling hfused hlevel hcap hramp
    refine ⟨_, exec_arrayRampDown hdown rfl rfl, rfl, rfl, ?_, ?_, fun k hk => ?_⟩
    · simp [o]
    · simp [State.bump_par]
    · simp [State.modCo_co, hk]
  case aboveCap =>
    obtain ⟨n, hdown⟩ := State.rampDown_above_cap hfused hcap
    refine ⟨_, exec_arrayRampDown hdown rfl rfl, rfl, fun k => ?_⟩
    rw [State.modCo_co, Core.lowered_steady]
    rfl
  case climb =>
    obtain ⟨u, f, hup, hu, hf⟩ := State.rampUp_of_climbing hfused hcap hramp
    have hlevel : ((u.modCo core f).co core).level = o.level + 1 := by rw [State.modCo_co_same, hf, hu.co_eq]
    refine ⟨u.modCo core f, exec_arrayRampUp hup, ?_, hlevel, hlevel ▸ hcap, fun k hk => ?_⟩
    · rw [hu]; rfl
    · rw [State.modCo_co, if_neg hk, hu.co_eq]

end Sys2Proof.Machine
end

section
/-!
PROOFS. Queues are first in, first out, loops repeat their bodies, and a program boundary clears its cluster; statements
of spec/05_core_instructions.md on queues and program flow.
-/

namespace Sys2Proof.Machine

open Sys2Proof.Claims

/-! ### The ring of a queue (R126) -/

/-- Positions of one turn of the ring lie in different slots. -/
theorem Queue.slot_inj {x : Queue} {i j : Nat} (hi : i < x.size) (hj : j < x.size) (h : x.slot i = x.slot j) : i = j :=
  Nat.ModEq.eq_of_lt_of_lt (Nat.ModEq.add_left_cancel' x.head (Nat.add_left_cancel h)) hi hj

/-- Once the head has moved on by one, every position is the next one of before. -/
theorem Queue.slot_of_head_succ (x : Queue) (count i : Nat) :
    Queue.slot { x with head := (x.head + 1) % x.size, count := count } i = x.slot (i + 1) := by
  simp only [Queue.slot, Nat.mod_add_mod]
  congr 2
  omega

/-! ### Pushes and pops (R128, R130) -/

section
variable (c : Core) (q : Nat) (b : Block)

theorem Core.put_queue (p : Nat) :
    (c.put q b).queue p = if p = q then { c.queue q with count := (c.queue q).count + 1 } else c.queue p :=
  Tbl.get_put _ _ _ _ _

theorem Core.put_slots (a : Nat) : Tbl.get (c.put q b).slots Block.null a =
    if a = (c.queue q).slot (c.queue q).count then b else Tbl.get c.slots Block.null a :=
  Tbl.get_put _ _ _ _ _

/-- A push leaves the queue's ring where it is. -/
theorem Core.put_peek (i : Nat) : (c.put q b).peek q i =
    if (c.queue q).slot i = (c.queue q).slot (c.queue q).count then b else c.peek q i := by
  rw [Core.peek, Core.put_slots, Core.put_queue, if_pos rfl]
  rfl

theorem Core.pop_queue (p : Nat) : (c.pop q).queue p = if p = q then
    { c.queue q with head := ((c.queue q).head + 1) % (c.queue q).size, count := (c.queue q).count - 1 }
    else c.queue p :=
  Tbl.get_put _ _ _ _ _

theorem Core.pop_peek (i : Nat) : (c.pop q).peek q i = c.peek q (i + 1) := by
  rw [Core.peek, Core.pop_queue, if_pos rfl, Queue.slot_of_head_succ]
  rfl

end

/-- Settles O60: a push writes the slot behind the last block, which no earlier position shares; a pop moves the head on
by one (R126, R128, R130). -/
theorem queuesAreFirstInFirstOut : Obligations.QueuesAreFirstInFirstOut := by
  intro c q b x hhead
  refine ⟨fun hroom => ⟨?last, fun n hn => ?before, ?ring, fun p hp => ?_, fun a ha => ?_, rfl⟩, fun _ => ?pop⟩
  case last => rw [Core.put_peek, if_pos rfl]
  case before =>
    have hslot : x.slot n ≠ x.slot x.count := fun h => hn.ne (Queue.slot_inj (hn.trans hroom) hroom h)
    rw [Core.put_peek, if_neg hslot]
  case ring => rw [Core.put_queue, if_pos rfl]
  case pop =>
    have hring : (c.pop q).queue q = { x with head := (x.head + 1) % x.size, count := x.count - 1 } := by
      rw [Core.pop_queue, if_pos rfl]
    rw [hring]
    refine ⟨c.pop_peek q, rfl, rfl, rfl, Nat.mod_lt _ (Nat.zero_lt_of_lt hhead), fun p hp => ?_, rfl, rfl⟩
    rw [Core.pop_queue, if_neg hp]
  · rw [Core.put_queue, if_neg hp]
  · rw [Core.put_slots, if_neg ha]

/-! ### The end of a loop's body (R167) -/

section
variable (first last count : Nat) (r : List Frame)

theorem nextSlot_of_repeat {n : Nat} (h : n + 1 < count) :
    nextSlot last (⟨first, last, n, count⟩ :: r) = (first, ⟨first, last, n + 1, count⟩ :: r) := by
  simp [nextSlot, h]

theorem nextSlot_of_lastPass {n : Nat} (h : count ≤ n + 1) :
    nextSlot last (⟨first, last, n, count⟩ :: r) = nextSlot last r := by
  simp [nextSlot, h.not_gt]

/-- The counter has counted the ends of the body. -/
theorem iterate_nextSlot {n : Nat} (h : n < count) :
    (fun l => (nextSlot last l).2)^[n] (⟨first, last, 0, count⟩ :: r) = ⟨first, last, n, count⟩ :: r := by
  induction n with
  | zero => rfl
  | succ n ih => rw [Function.iterate_succ_apply', ih (by omega), nextSlot_of_repeat first last count r h]

end

theorem State.seqLoop_of_zero {s : State} {c : Nat} {w : BitVec 128} (hw : s.fetchOp c .loop = some w)
    (hcount : loopCount w.toNat = 0) : s.seqLoop c = s.modCl c (fun l => l.goPast (l.pc + loopBody w.toNat)) := by
  simp only [State.seqLoop, hw, hcount, if_true]

/-- Settles O9, by induction on the ends of the body so far (R167). -/
theorem loopBodyRunsCountTimes : Obligations.LoopBodyRunsCountTimes := by
  constructor
  · intro first last count r hcount
    refine ⟨fun n hn => ⟨iterate_nextSlot first last count r hn, fun h => ?_⟩,
      nextSlot_of_lastPass first last count r (by omega)⟩
    rw [nextSlot_of_repeat first last count r h]
  · intro cl s w hw hcount
    refine ⟨s.modCl cl (fun l => l.goPast (l.pc + loopBody w.toNat)), ?_, ?_, ?_⟩
    · exact (congrArg s.ends (State.seqLoop_of_zero hw hcount)).trans (State.ends_eq_next rfl rfl)
    · rw [State.modCl_cl_same]; rfl
    · rw [State.modCl_cl_same]; rfl

end Sys2Proof.Machine
end

section
/-!
PROOFS. What a program boundary changes of a cluster and its cores; a statement of spec/05_core_instructions.md.
-/

namespace Sys2Proof.Machine

open Sys2Proof.Claims

/-! ### What a trace record touches (R519, R520) -/

/-- `t` is `s` after memory and traces have been written and counters, which stand from 0x8000:00 on, have counted, and
nothing else. -/
structure State.Traced (s t : State) : Prop where
  frame : t = { s with od := t.od, traces := t.traces, mem := t.mem }
  par_eq : ∀ k < 0x800000, t.par k = s.par k

namespace State.Traced

theorem refl (s : State) : s.Traced s := ⟨rfl, fun _ _ => rfl⟩

theorem trans {s t u : State} (hst : s.Traced t) (htu : t.Traced u) : s.Traced u where
  frame := by rw [htu.frame, hst.frame]
  par_eq k hk := (htu.par_eq k hk).trans (hst.par_eq k hk)

theorem bump (s : State) {k : Nat} (n : Nat) (hk : 0x800000 ≤ k) : s.Traced (s.bump k n) where
  frame := rfl
  par_eq i hi := by rw [State.bump_par, if_neg (by omega)]

theorem writeTraces (s : State) (x : Tbl TraceSt) : s.Traced { s with traces := x } := ⟨rfl, fun _ _ => rfl⟩

theorem writeSpace (s : State) (space a : Nat) (bs : List Nat) : s.Traced (s.writeSpace space a bs) := by
  unfold State.writeSpace
  split <;> exact ⟨rfl, fun _ _ => rfl⟩

theorem countBursts (s : State) (cls a n : Nat) : s.Traced (s.countBursts cls a n) := by
  unfold State.countBursts
  split
  · exact refl s
  · exact bump s _ (Nat.le_add_right_of_le (by decide))

theorem countRmw (s : State) (a n : Nat) (hdr : Bool) : s.Traced (s.countRmw a n hdr) := by
  unfold State.countRmw
  dsimp only
  split
  · exact refl s
  · exact bump s _ (by decide)

theorem trace (s : State) (d cls : Nat) (ev : BitVec 128) : s.Traced (s.trace d cls ev) := by
  unfold State.trace
  split
  next => exact refl s
  extract_lets t w used len
  split
  next => exact (writeTraces s _).trans (bump _ _ (by decide))
  next overrun t' a counted noted off _ =>
    have hcounted : s.Traced counted := (writeTraces s _).trans (bump _ _ (by decide))
    have hnoted : s.Traced noted := by
      unfold noted
      split
      · exact hcounted.trans (bump _ _ (by decide))
      · exact hcounted
    split
    · exact hnoted.trans (bump _ _ (by decide))
    · exact hnoted.trans (((writeSpace _ _ _ _).trans (countBursts _ _ _ _)).trans (countRmw _ _ _ _))

end State.Traced

theorem State.trace_of_off {s : State} {d cls : Nat} (h : traceOff s d cls) (ev : BitVec 128) :
    s.trace d cls ev = s := by
  obtain h | h := h <;> simp [State.trace, h]

/-! ### What samples and completed commands touch -/

/-- `t` is `s` after records have been written, free values have been drawn, contexts have moved on and posts have left,
and nothing else. -/
def State.Recorded (s t : State) : Prop :=
  t = { s with free := t.free, od := t.od, ctxs := t.ctxs, mem := t.mem, posts := t.posts, traces := t.traces }

theorem State.Traced.recorded {s t : State} (h : s.Traced t) : s.Recorded t := by
  rw [State.Recorded, h.frame]

namespace State.Recorded

theorem refl (s : State) : s.Recorded s := rfl

theorem trans {s t u : State} (hst : s.Recorded t) (htu : t.Recorded u) : s.Recorded u := by
  unfold State.Recorded at *
  rw [htu, hst]

/-- Operations that each leave a state `Recorded` may follow each other, beside whatever else is collected. -/
theorem foldl {α β : Type} (g : β → State) {f : β → α → β} (hf : ∀ b a, (g b).Recorded (g (f b a))) (as : List α)
    (b : β) : (g b).Recorded (g (as.foldl f b)) := by
  induction as generalizing b with
  | nil => exact refl _
  | cons a as ih => exact (hf b a).trans (ih (f b a))

theorem bump (s : State) (k n : Nat) : s.Recorded (s.bump k n) := rfl

theorem bumpFree (s : State) (k : Nat) : s.Recorded (s.bumpFree k) := rfl

theorem bursts (s : State) (cls k off n : Nat) : s.Recorded (s.bursts cls k off n) := by
  unfold State.bursts
  dsimp only
  split_ifs
  · exact refl s
  · exact (State.Traced.countBursts s _ _ _).recorded
  · exact bumpFree s _
  · exact refl s

theorem writeHdr (s : State) (k b : Nat) (h : BitVec 128) : s.Recorded (s.writeHdr k b h) :=
  (State.Traced.writeSpace s _ _ _).recorded

theorem put (s : State) (cls k off : Nat) (bs : List Nat) (hdr : Option (BitVec 128)) :
    s.Recorded (s.put cls k off bs hdr) := by
  have hdata : s.Recorded ((s.writeKey k off bs).bursts cls k off bs.length) :=
    (State.Traced.writeSpace s _ _ _).recorded.trans (bursts _ _ _ _ _)
  unfold State.put
  dsimp only
  split <;> split
  · exact (hdata.trans (writeHdr _ _ _ _)).trans (State.Traced.countRmw _ _ _ _).recorded
  · exact hdata.trans (State.Traced.countRmw _ _ _ _).recorded
  · exact hdata.trans (writeHdr _ _ _ _)
  · exact hdata

theorem putChecked (s : State) (cls x k off : Nat) (bs : List Nat) (hdr : Option (BitVec 128)) :
    s.Recorded (s.putChecked cls x k off bs hdr) := by
  unfold State.putChecked
  dsimp only
  split_ifs
  · exact bump s _ _
  · exact bump s _ _
  · exact put s _ _ _ _ _

/-- What timing decides of a counter is drawn; the rest is read (R505). -/
theorem counter (s : State) (l : Cluster) (k i : Nat) : s.Recorded (s.counter l k i).1 := by
  unfold State.counter
  dsimp only
  split_ifs <;> rfl

theorem sample (s : State) (c : Nat) (fin : Bool) : s.Recorded (s.sample c fin).1 := by
  unfold State.sample
  refine foldl Prod.fst (fun b k => ?_) _ (s, _)
  refine foldl Prod.fst (fun b i => ?_) _ b
  exact counter b.1 _ k i

theorem writeSample (s : State) (c w : Nat) : s.Recorded (s.writeSample c w) := by
  unfold State.writeSample
  dsimp only
  split
  · exact putChecked s _ _ _ _ _ _
  · exact bump s _ _

theorem progressCx (s : State) (x : Nat) : s.Recorded (s.progressCx x) := rfl

theorem post (s : State) (p : Post) : s.Recorded (s.post p) := rfl

theorem completeCmd (s : State) (x : Nat) (cmd : Cmd) (status code sectNo slot : Nat) (add : Bool) :
    s.Recorded (s.completeCmd x cmd status code sectNo slot add) := by
  unfold State.completeCmd
  dsimp only
  split
  · exact (State.Traced.writeSpace s _ _ _).recorded.trans (progressCx _ _)
  · exact ((State.Traced.writeSpace s _ _ _).recorded.trans (progressCx _ _)).trans (post _ _)

theorem runBoundary (s : State) (x c : Nat) : s.Recorded (s.runBoundary x c) :=
  trans (t := s.modCx x _) rfl (foldl id (fun b r => completeCmd b x r _ _ _ _ _) _ _)

variable {s t : State} (h : s.Recorded t)
include h

theorem part_eq : t.part = s.part := by rw [h]

theorem cl_eq (c : Nat) : t.cl c = s.cl c := by rw [h]; rfl

theorem co_eq (k : Nat) : t.co k = s.co k := by rw [h]; rfl

end State.Recorded


/-! ### The cores of the cluster (R135, R169) -/

/-- The enabled cores of a cluster hold no queue and no instruction. -/
def State.clearCores (s : State) (c : Nat) : State :=
  ((s.emptyQueues c).coresOf c).foldl (fun s k => s.modCo k (fun o => { o with jobs := [], passMax := [] }))
    (s.emptyQueues c)

section
variable (s : State) (c : Nat)

theorem State.mem_coresOf {k : Nat} : k ∈ s.coresOf c ↔ k / 8 = c ∧ s.part.isFused k = false := by
  have hrange : (∃ n < 8, 8 * c + n = k) ↔ k / 8 = c :=
    ⟨fun ⟨n, hn, hk⟩ => by omega, fun h => ⟨k % 8, by omega, by omega⟩⟩
  simp only [State.coresOf, List.mem_filter, List.mem_map, List.mem_range, hrange, Bool.not_eq_true']

theorem State.nodup_coresOf : (s.coresOf c).Nodup :=
  (List.nodup_range.map (add_right_injective (8 * c))).filter _

theorem State.emptyQueues_cores : ∃ x, s.emptyQueues c = { s with cores := x } :=
  State.foldl_modCo_cores _ _ s

theorem State.coresOf_emptyQueues : (s.emptyQueues c).coresOf c = s.coresOf c := by
  obtain ⟨x, hx⟩ := s.emptyQueues_cores c
  rw [hx]
  rfl

theorem State.clearCores_cores : ∃ x, s.clearCores c = { s with cores := x } := by
  obtain ⟨x, hx⟩ := s.emptyQueues_cores c
  obtain ⟨y, hy⟩ := State.foldl_modCo_cores _ ((s.emptyQueues c).coresOf c) (s.emptyQueues c)
  rw [State.clearCores, hy, hx]
  exact ⟨y, rfl⟩

theorem State.clearCores_co (k : Nat) : (s.clearCores c).co k =
    if k / 8 = c ∧ s.part.isFused k = false then { s.co k with queues := [], half := [], jobs := [], passMax := [] }
    else s.co k := by
  rw [State.clearCores, State.coresOf_emptyQueues, State.foldl_modCo_co _ (s.nodup_coresOf c), State.emptyQueues,
    State.foldl_modCo_co _ (s.nodup_coresOf c)]
  simp only [State.mem_coresOf]
  split <;> rfl

end

/-! ### The boundary (R169) -/

/-- A sequencer that has come to its program boundary at a time, with its last sample. -/
def Cluster.stopped (l : Cluster) (now : Nat) (final : BitVec 16384) : Cluster :=
  { l with
    running := false
    ended := false
    pc := 0
    frames := []
    wait := none
    posts := []
    progress := true
    idleSince := now
    delay := none
    final := final }

/-- A boundary takes its sample, clears the cores, stops the sequencer and completes the cluster's RUN, in this order. -/
theorem State.boundary_recorded (s : State) (c : Nat) : ∃ (u : State) (n : Nat) (v : BitVec 16384),
    s.Recorded u ∧ ((u.clearCores c).modCl c (·.stopped n v)).Recorded (s.boundary c) :=
  ⟨_, _, _, (State.Recorded.sample s c true).trans (.writeSample _ c _), .runBoundary _ _ c⟩

section
variable (s : State) (c : Nat)

theorem State.boundary_cl :
    ∃ n v, ∀ d, (s.boundary c).cl d = if d = c then (s.cl c).stopped n v else s.cl d := by
  obtain ⟨u, n, v, hsample, hrun⟩ := s.boundary_recorded c
  obtain ⟨x, hx⟩ := u.clearCores_cores c
  refine ⟨n, v, fun d => ?_⟩
  rw [hrun.cl_eq, State.modCl_cl, hx, ← hsample.cl_eq c, ← hsample.cl_eq d]
  rfl

theorem State.boundary_co (k : Nat) : (s.boundary c).co k =
    if k / 8 = c ∧ s.part.isFused k = false then { s.co k with queues := [], half := [], jobs := [], passMax := [] }
    else s.co k := by
  obtain ⟨u, n, v, hsample, hrun⟩ := s.boundary_recorded c
  rw [hrun.co_eq, State.modCl_co, State.clearCores_co, hsample.part_eq, hsample.co_eq]

theorem State.boundary_frame : (s.boundary c).pending = s.pending ∧ (s.boundary c).part = s.part ∧
    (s.boundary c).side = s.side ∧ (s.boundary c).pkg = s.pkg := by
  obtain ⟨u, n, v, hsample, hrun⟩ := s.boundary_recorded c
  obtain ⟨x, hx⟩ := u.clearCores_cores c
  rw [hrun, hx, hsample]
  exact ⟨rfl, rfl, rfl, rfl⟩

end

theorem State.programBoundary_of_left {s : State} {c : Nat} (h : s.atEnd c = false) : s.programBoundary c = s := by
  simp [State.programBoundary, h]

theorem State.programBoundary_of_atEnd {s : State} {c : Nat} (h : s.atEnd c = true) :
    s.programBoundary c = s.boundary c := by
  simp [State.programBoundary, h]

theorem exec_programBoundary {cl : Fin 32} {s t : State} (h : s.programBoundary cl = t)
    (hpending : t.pending = s.pending) (hpart : t.part = s.part) : exec (.programBoundary cl) s = .next t :=
  (congrArg s.ends h).trans (State.ends_eq_next hpending hpart)

/-- Settles O14: what `State.boundary` makes of a cluster and of each core; the sample before it and the completion of
the RUN after it reach neither (R169, R135). -/
theorem programBoundaryClearsTheCluster : Obligations.ProgramBoundaryClearsTheCluster := by
  intro cl s
  refine ⟨fun hleft => exec_programBoundary (State.programBoundary_of_left hleft) rfl rfl, fun hend => ?_⟩
  obtain ⟨n, v, hcl⟩ := s.boundary_cl cl
  obtain ⟨hpending, hpart, hside, hpkg⟩ := s.boundary_frame cl
  have hself : (s.boundary cl).cl cl = (s.cl cl).stopped n v := by rw [hcl, if_pos rfl]
  refine ⟨s.boundary cl, exec_programBoundary (State.programBoundary_of_atEnd hend) hpending hpart, ?_⟩
  rw [hself]
  refine ⟨rfl, rfl, rfl, rfl, rfl, rfl, rfl, rfl, rfl, fun k q hk hfused => ?_, fun k hk => ?_, fun c hc => ?_,
    hside, hpkg⟩
  · rw [State.boundary_co, if_pos ⟨hk, hfused⟩]
    rfl
  · rw [State.boundary_co, if_neg (fun h => hk h.1)]
  · rw [hcl, if_neg hc]

end Sys2Proof.Machine
end

section
/-!
PROOFS. Waits and posts at a sequencer; statements of spec/05_core_instructions.md on semaphore instructions.
-/

namespace Sys2Proof.Machine

open Sys2Proof.Claims

/-! ### What a trace record leaves alone -/

namespace State.Traced
variable {s t : State} (h : s.Traced t)
include h

theorem sem_eq (r : SemRef) : t.sem r = s.sem r := by rw [h.frame]; cases r <;> rfl

theorem now_eq : t.now = s.now := by rw [h.frame]

end State.Traced

/-- `t` is `s` after the trace of its cluster has taken records of semaphores, which it does only where that is on. -/
structure State.TracedSem (s : State) (c : Nat) (t : State) : Prop extends s.Traced t where
  eq_of_off : traceOff s (c / 8) 3 → t = s

theorem State.traceSem_tracedSem (s : State) (c code : Nat) (f : Bool) (index v : Nat) :
    s.TracedSem c (s.traceSem c code f index v) :=
  ⟨.trace _ _ _ _, fun hoff => State.trace_of_off hoff _⟩

theorem State.TracedSem.trans {s t u : State} {c : Nat} (hst : s.TracedSem c t) (htu : t.TracedSem c u) :
    s.TracedSem c u where
  toTraced := hst.toTraced.trans htu.toTraced
  eq_of_off hoff := by
    obtain rfl := hst.eq_of_off hoff
    exact htu.eq_of_off hoff

/-! ### SEM.WAIT and its wake notice (R162, R200, R205) -/

/-- A wait that comes into force. -/
def State.waitFor (s : State) (c : Nat) (f : SemF) : WaitSt :=
  ⟨semTarget c f, f.value, s.now, s.parMs K.SEM_WAIT_TIMEOUT, false, false⟩

section
variable {s : State} {c : Nat} {w : BitVec 128}

theorem State.seqWait_of_passes (hw : s.fetchOp c .semWait = some w)
    (hpass : waitGe (s.sem (semTarget c (semF w.toNat))) (semF w.toNat).value = true) :
    ∃ u, s.TracedSem c u ∧ s.seqWait c = u.modCl c Cluster.advance := by
  have hfirst := s.traceSem_tracedSem c 0x82 false (semF w.toNat).index (semF w.toNat).value
  refine ⟨_, hfirst.trans (State.traceSem_tracedSem _ c 0x82 true (semF w.toNat).index (semF w.toNat).value), ?_⟩
  simp only [State.seqWait, hw, hfirst.sem_eq, hpass, if_true]

theorem State.seqWait_of_holds (hw : s.fetchOp c .semWait = some w)
    (hhold : waitGe (s.sem (semTarget c (semF w.toNat))) (semF w.toNat).value = false) :
    ∃ u, s.TracedSem c u ∧ s.seqWait c = u.modCl c (fun l =>
      { l with wait := some (s.waitFor c (semF w.toNat)), progress := true }) := by
  have hfirst := s.traceSem_tracedSem c 0x82 false (semF w.toNat).index (semF w.toNat).value
  refine ⟨_, hfirst, ?_⟩
  simp only [State.seqWait, hw, hfirst.sem_eq, hhold, State.waitFor, State.parMs, hfirst.now_eq,
    hfirst.par_eq K.SEM_WAIT_TIMEOUT (by decide)]
  rfl

theorem State.fetch_of_wait (h : (s.cl c).wait.isSome = true) : s.fetch c = none := by
  simp [State.fetch, Option.isNone_eq_false_iff.2 h]

theorem State.wakeCl_of_waiting {v : WaitSt} (hv : (s.cl c).wait = some v) (hgrant : v.granted = false) :
    s.wakeCl c = s := by
  simp [State.wakeCl, hv, hgrant]

theorem State.wakeCl_of_granted {v : WaitSt} (hv : (s.cl c).wait = some v) (hgrant : v.granted = true) :
    ∃ u, s.TracedSem c u ∧ s.wakeCl c = u.modCl c (fun l => { l.advance with wait := none }) := by
  simp only [State.wakeCl, hv, hgrant]
  exact ⟨_, State.traceSem_tracedSem .., rfl⟩

/-- One cluster is changed after its trace: what that leaves of the state. -/
theorem State.TracedSem.modCl {u : State} (h : s.TracedSem c u) (f : Cluster → Cluster) :
    let t := u.modCl c f
    t = { s with clusters := t.clusters, od := t.od, traces := t.traces, mem := t.mem } ∧
      (traceOff s (c / 8) 3 → t = s.modCl c f) ∧ ∀ d, t.cl d = if d = c then f (s.cl c) else s.cl d := by
  refine ⟨?_, fun hoff => ?_, fun d => ?_⟩
  · rw [h.frame]
    rfl
  · rw [h.eq_of_off hoff]
  · rw [State.modCl_cl, h.recorded.cl_eq, h.recorded.cl_eq]

end

theorem exec_modCl {i : Instr} {s t u : State} {c : Nat} {f : Cluster → Cluster} (hu : s.TracedSem c u)
    (ht : t = u.modCl c f) (hexec : exec i s = s.ends t) : exec i s = .next (u.modCl c f) := by
  rw [hexec, ht]
  exact State.ends_eq_next (by rw [hu.frame]; rfl) (by rw [hu.frame]; rfl)

/-- Settles O10: a trace record reaches no cluster, no semaphore and no duration, so the test and the wait are those of
the state before (R162, R198, R200, R205). That a satisfied wait ends in its own step, and that SEM_WAIT_WAKE without a
granted wait does nothing, are the model's choices (log entries 30 and 8). -/
theorem semWaitHoldsUntilItsWakeNotice : Obligations.SemWaitHoldsUntilItsWakeNotice := by
  constructor
  · intro cl s w hw
    cases hge : waitGe (s.sem (semTarget cl (semF w.toNat))) (semF w.toNat).value
    case true =>
      obtain ⟨u, hu, hwait⟩ := State.seqWait_of_passes hw hge
      obtain ⟨hframe, hoff, hcl⟩ := hu.modCl Cluster.advance
      refine ⟨_, exec_modCl hu hwait rfl, hframe, fun h => ?_, fun c hc => ?_, fun _ => ?_, nofun⟩
      · rw [hoff h]
        rfl
      · rw [hcl, if_neg hc]
      · rw [hcl, if_pos rfl]
        rfl
    case false =>
      obtain ⟨u, hu, hwait⟩ := State.seqWait_of_holds hw hge
      obtain ⟨hframe, hoff, hcl⟩ := hu.modCl
        (fun l => { l with wait := some (s.waitFor cl (semF w.toNat)), progress := true })
      refine ⟨_, exec_modCl hu hwait rfl, hframe, fun h => ?_, fun c hc => ?_, nofun, fun _ => ⟨?_, ?_⟩⟩
      · rw [hoff h]
        rfl
      · rw [hcl, if_neg hc]
      · rw [hcl, if_pos rfl]
        rfl
      · apply State.fetch_of_wait
        rw [hcl, if_pos rfl]
        rfl
  · intro c s v hv
    refine ⟨fun hgrant => ?_, fun hgrant => ?_⟩
    · exact (congrArg s.ends (State.wakeCl_of_waiting hv hgrant)).trans (State.ends_eq_next rfl rfl)
    · obtain ⟨u, hu, hwake⟩ := State.wakeCl_of_granted hv hgrant
      obtain ⟨hframe, hoff, hcl⟩ := hu.modCl (fun l => { l.advance with wait := none })
      refine ⟨_, exec_modCl hu hwake rfl, hframe, fun h => ?_, fun d => ?_⟩
      · rw [hoff h]
        rfl
      · rw [hcl]
        rfl

end Sys2Proof.Machine
end

section
/-!
PROOFS. Posts leave their sequencer, at once or behind their fence; a statement of spec/05_core_instructions.md.
-/

namespace Sys2Proof.Machine

open Sys2Proof.Claims

/-! ### Requests over links (R427) -/

theorem State.issueReq_links (s : State) (r : Req) : ∃ l, s.issueReq r = { s with links := l } := by
  unfold State.issueReq
  split
  · exact ⟨_, rfl⟩
  · exact State.links_links ⟨_, rfl⟩ (State.sendMask_links _ _ _)

/-! ### A post takes effect at its sequencer (R163, R204) -/

section
variable {s : State} {c : Nat} {w : BitVec 128}

theorem State.emitPost_of_local (hscope : (semF w.toNat).scope ≠ 3) :
    ∃ u, s.TracedSem c u ∧ s.emitPost c w = u.post (postOf s c w) := by
  simp only [State.emitPost, if_pos hscope]
  exact ⟨_, State.traceSem_tracedSem .., rfl⟩

/-- Beside its trace, a post of scope 3 is refused, is one of a replay step, or asks for a message (R351, R411, R420). -/
theorem State.emitPost_of_remote (hscope : (semF w.toNat).scope = 3) : ∃ u, s.TracedSem c u ∧
    (s.emitPost c w = u.bump K.EP_SEND_FAULTS 1 ∨ s.emitPost c w = u ∨ ∃ r, s.emitPost c w = u.issueReq r) := by
  refine ⟨_, s.traceSem_tracedSem c 0x83 (decide (insOp w.toNat = some .semSub)) (semF w.toNat).index
    (semF w.toNat).value, ?_⟩
  simp only [State.emitPost, hscope, ne_eq, not_true_eq_false, if_false]
  split_ifs
  · exact .inl rfl
  · exact .inr (.inl rfl)
  · exact .inr (.inr ⟨_, rfl⟩)

/-- R420: an entry that does not serve the context takes nothing, which is counted. -/
theorem State.emitPost_of_refused (hscope : (semF w.toNat).scope = 3)
    (hentry : s.epOk (s.epDie (s.cl c).ctx (c / 8)) (semF w.toNat).endpoint (s.cl c).ctx = false)
    (hoff : traceOff s (c / 8) 3) : s.emitPost c w = s.bump K.EP_SEND_FAULTS 1 := by
  have htrace (code index v : Nat) (f : Bool) : s.traceSem c code f index v = s :=
    (s.traceSem_tracedSem c code f index v).eq_of_off hoff
  simp [State.emitPost, htrace, hscope, hentry]

/-- What a post that takes effect leaves: one of scope 0 to 2 is on its way, one of scope 3 has reached only the links. -/
structure State.Emitted (s : State) (c : Nat) (w : BitVec 128) (t : State) : Prop where
  frame : t = { s with od := t.od, traces := t.traces, mem := t.mem, posts := t.posts, links := t.links }
  posts_eq : t.posts = s.posts ++ if (semF w.toNat).scope = 3 then [] else [postOf s c w]
  links_eq : (semF w.toNat).scope ≠ 3 → t.links = s.links

theorem State.emitPost_emitted : s.Emitted c w (s.emitPost c w) := by
  by_cases hscope : (semF w.toNat).scope = 3
  case neg =>
    obtain ⟨u, hu, hpost⟩ := State.emitPost_of_local (s := s) (c := c) hscope
    rw [hpost, hu.frame]
    exact ⟨rfl, by rw [if_neg hscope]; rfl, fun _ => rfl⟩
  case pos =>
    obtain ⟨u, hu, hpost | hpost | ⟨r, hpost⟩⟩ := State.emitPost_of_remote (s := s) (c := c) hscope
    · rw [hpost, hu.frame]
      exact ⟨rfl, by simp [hscope], fun h => absurd hscope h⟩
    · rw [hpost, hu.frame]
      exact ⟨rfl, by simp [hscope], fun h => absurd hscope h⟩
    · obtain ⟨l, hl⟩ := u.issueReq_links r
      rw [hpost, hl, hu.frame]
      exact ⟨rfl, by simp [hscope], fun h => absurd hscope h⟩

/-- A sequencer moves on in a way that keeps its program's context, and its post takes effect. -/
theorem State.emitPost_modCl (f : Cluster → Cluster) (hf : ∀ l, (f l).ctx = l.ctx ∧ (f l).gen = l.gen) :
    let t := (s.modCl c f).emitPost c w
    t = { s with clusters := t.clusters, od := t.od, traces := t.traces, mem := t.mem, posts := t.posts, links := t.links } ∧
      (∀ d, t.cl d = if d = c then f (s.cl c) else s.cl d) ∧
      t.posts = s.posts ++ (if (semF w.toNat).scope = 3 then [] else [postOf s c w]) ∧
      ((semF w.toNat).scope ≠ 3 → t.links = s.links) := by
  obtain ⟨hframe, hposts, hlinks⟩ := State.emitPost_emitted (s := s.modCl c f) (c := c) (w := w)
  have hpost : postOf (s.modCl c f) c w = postOf s c w := by
    simp only [postOf, State.modCl_cl_same, hf]
  refine ⟨?_, fun d => ?_, hpost ▸ hposts, hlinks⟩
  · rw [hframe]
    rfl
  · rw [← State.modCl_cl, hframe]
    rfl

/-! ### SEM.ADD, SEM.SUB and the posts that wait (R161, R204) -/

/-- A post as its sequencer would hold it. -/
def State.heldPost (s : State) (c : Nat) (w : BitVec 128) : PostSt := ⟨w, (s.cl c).issue, (s.cl c).pcCode⟩

section
variable {o : Op} (hw : s.fetchOp c o = some w)
include hw

theorem State.seqPost_of_open (hposts : (s.cl c).posts = []) (hopen : s.fenceOpen c (s.heldPost c w) = true) :
    s.seqPost c o = (s.modCl c Cluster.issued).emitPost c w := by
  unfold State.heldPost at hopen
  simp only [State.seqPost, hw, hposts, hopen]
  rfl

theorem State.seqPost_of_refused (hposts : (s.cl c).posts = []) (hopen : s.fenceOpen c (s.heldPost c w) = true)
    (hscope : (semF w.toNat).scope = 3)
    (hentry : s.epOk (s.epDie (s.cl c).ctx (c / 8)) (semF w.toNat).endpoint (s.cl c).ctx = false)
    (hoff : traceOff s (c / 8) 3) : s.seqPost c o = (s.modCl c Cluster.issued).bump K.EP_SEND_FAULTS 1 := by
  have hctx : ((s.modCl c Cluster.issued).cl c).ctx = (s.cl c).ctx := by
    rw [State.modCl_cl_same]
    rfl
  rw [State.seqPost_of_open hw hposts hopen]
  exact State.emitPost_of_refused hscope (hctx.symm ▸ hentry) hoff

theorem State.seqPost_of_room (hshut : (s.cl c).posts ≠ [] ∨ s.fenceOpen c (s.heldPost c w) = false)
    (hroom : (s.cl c).posts.length < 4) : s.seqPost c o =
      (s.modCl c (fun l => { l with posts := l.posts ++ [s.heldPost c w] })).modCl c Cluster.issued := by
  have hwaits : ((s.cl c).posts = [] && s.fenceOpen c (s.heldPost c w)) = false := by
    obtain h | h := hshut <;> simp [h]
  unfold State.heldPost at hwaits
  simp only [State.seqPost, hw, hwaits, hroom]
  rfl

theorem State.seqPost_of_full (hfull : 4 ≤ (s.cl c).posts.length) : s.seqPost c o = s := by
  have hposts : (s.cl c).posts ≠ [] := List.ne_nil_of_length_pos (by omega)
  simp [State.seqPost, hw, hposts, hfull.not_gt]

end

section
variable {p : PostSt} {r : List PostSt} (hp : (s.cl c).posts = p :: r)
include hp

theorem State.postNext_of_shut (hshut : s.fenceOpen c p = false) : s.postNext c = s := by
  simp [State.postNext, hp, hshut]

theorem State.postNext_of_open (hopen : s.fenceOpen c p = true) :
    s.postNext c = (s.modCl c (fun l => { l with posts := r })).emitPost c p.word := by
  simp [State.postNext, hp, hopen]

end

end

/-- The two commands differ only in the opcode that they look for at the sequencer's slot. -/
theorem exec_semAdd_or_semSub {cl : Fin 32} {i : Instr} {o : Op}
    (h : (i, o) ∈ [(Instr.semAdd cl, Op.semAdd), (Instr.semSub cl, Op.semSub)]) (s : State) :
    exec i s = s.ends (s.seqPost cl o) := by
  simp only [List.mem_cons, Prod.mk.injEq, List.not_mem_nil, or_false] at h
  obtain ⟨rfl, rfl⟩ | ⟨rfl, rfl⟩ := h <;> rfl

/-- Settles O12, by what the sequencer finds: no post and an open fence, room to wait, or four posts that wait already
(R161, R163, R204). That a command with nothing to do changes nothing is the model's choice (log entry 8). -/
theorem semAddAndSubLeaveOrWaitForTheFence : Obligations.SemAddAndSubLeaveOrWaitForTheFence := by
  constructor
  · intro cl s w i o hi hw p io
    have hexec := exec_semAdd_or_semSub hi s
    by_cases hopen : (s.cl cl).posts = [] ∧ s.fenceOpen cl p = true
    case pos =>
      have hleave := State.seqPost_of_open hw hopen.1 hopen.2
      obtain ⟨hframe, hcl, hposts, hlinks⟩ :=
        State.emitPost_modCl (s := s) (c := cl) (w := w) Cluster.issued (fun _ => ⟨rfl, rfl⟩)
      rw [← hleave] at hframe hcl hposts hlinks
      refine ⟨_, hexec.trans (State.ends_eq_next ?_ ?_), ?_, ?_, ?_, ?_, fun d hd => ?_, hlinks,
        fun _ _ => ⟨?_, hposts, fun hscope hentry hoff => ?_⟩, fun hshut => ?_, fun hfull => ?_⟩
      iterate 6 rw [hframe]
      · rw [hcl, if_neg hd]
      · rw [hcl, if_pos rfl]
        rfl
      · rw [State.seqPost_of_refused hw hopen.1 hopen.2 hscope hentry hoff]
        exact ⟨rfl, State.bump_par_same _ _ _⟩
      · simp [hopen] at hshut
      · simp [hopen] at hfull
    case neg =>
      have hshut : (s.cl cl).posts ≠ [] ∨ s.fenceOpen cl p = false := by
        rwa [not_and_or, Bool.not_eq_true] at hopen
      by_cases hroom : (s.cl cl).posts.length < 4
      case pos =>
        have hwait := State.seqPost_of_room hw hshut hroom
        refine ⟨_, (hexec.trans (congrArg s.ends hwait)).trans (State.ends_eq_next rfl rfl), rfl, rfl, rfl, rfl,
          fun d hd => ?_, fun _ => rfl, fun hposts hopen' => absurd ⟨hposts, hopen'⟩ hopen, fun _ _ => ⟨rfl, rfl, ?_⟩,
          fun hfull => absurd hroom hfull.not_gt⟩
        · rw [State.modCl_cl, if_neg hd, State.modCl_cl, if_neg hd]
        · rw [State.modCl_cl_same, State.modCl_cl_same]
          rfl
      case neg =>
        have hstays := State.seqPost_of_full hw (Nat.le_of_not_lt hroom)
        exact ⟨s, (hexec.trans (congrArg s.ends hstays)).trans (State.ends_eq_next rfl rfl), rfl, rfl, rfl, rfl,
          fun _ _ => rfl, fun _ => rfl, fun hposts hopen' => absurd ⟨hposts, hopen'⟩ hopen,
          fun _ hroom' => absurd hroom' hroom, fun _ => rfl⟩
  · intro cl s p r hp
    refine ⟨fun hshut => ?_, fun hopen hscope => ?_⟩
    · exact (congrArg s.ends (State.postNext_of_shut hp hshut)).trans (State.ends_eq_next rfl rfl)
    · obtain ⟨hframe, hcl, hposts, -⟩ :=
        State.emitPost_modCl (s := s) (c := cl) (w := p.word) (fun l => { l with posts := r }) (fun _ => ⟨rfl, rfl⟩)
      rw [← State.postNext_of_open hp hopen] at hframe hcl hposts
      rw [if_neg hscope] at hposts
      refine ⟨s.postNext cl, State.ends_eq_next ?_ ?_, hposts, ?_, ?_, ?_, ?_, hcl⟩
      all_goals rw [hframe]

end Sys2Proof.Machine
end

section
/-!
PROOFS. What becomes of a QMOVE that is dropped while it has blocks to read; a statement of
spec/05_core_instructions.md.
-/

namespace Sys2Proof.Machine

open Sys2Proof.Claims

/-- A QMOVE that has been dropped: it reads on, and none of its blocks land (R171). -/
def MoveFlight.dropped (m : MoveFlight) : MoveFlight := { m with judged := some true, blocks := [] }

/-- The drop of a stale QMOVE reaches one item in flight: the first that equals it. -/
theorem State.arriveMove_of_stale {s : State} {m : MoveFlight} (hjudged : m.judged = none)
    (hstale : s.stale m.ctx m.gen = true) (hleft : m.left ≠ 0) :
    s.arriveMove m = { s.dropStale with moves := s.moves.replace m m.dropped } := by
  simp only [State.arriveMove, hjudged, hstale, hleft]
  rfl

theorem exec_qmoveArrival {n : Nat} {s : State} {m : MoveFlight} (hm : s.moves[n]? = some m)
    (hpath : s.pathWaits m.node (m.dst / 64) = false) : exec (.qmoveArrival n) s = s.ends (s.arriveMove m) := by
  have harrives : s.moveArrives n = s.arriveMove m := by simp [State.moveArrives, hm, hpath]
  exact congrArg s.ends harrives

/-- A QMOVE of a closed context, with a block to read. -/
def staleMove : MoveFlight := { src := 0, id := 0, no := 0, ctx := 1, gen := 1, dst := 1, dq := 0, blocks := [], left := 1 }

/-- Two equal QMOVEs are on their way. -/
def twinMoves : State := { State.reset with moves := [staleMove, staleMove] }

/-- The arrival of the first leaves the second unjudged. -/
theorem exec_qmoveArrival_twinMoves : exec (.qmoveArrival 0) twinMoves =
    .next { twinMoves.dropStale with moves := [staleMove.dropped, staleMove] } := by
  rw [exec_qmoveArrival (m := staleMove) rfl (by decide), State.arriveMove_of_stale rfl (by decide) (by decide)]
  rfl

/-- Refutes O17: `movesWithout` replaces every item in flight that equals the dropped QMOVE, the model one of them
(R171). The statement ranges over all states, also those in which two items in flight are equal, and there its clauses on
a QMOVE that is dropped while it has blocks to read fail. -/
theorem not_qmovesAndStaleItems : ¬ Obligations.QmovesAndStaleItems := by
  rintro ⟨-, -, hmoves⟩
  obtain ⟨t, hexec, hframe, -⟩ := hmoves 0 twinMoves staleMove rfl rfl (by decide) (by decide)
  have hclaimed : t.moves = [staleMove.dropped, staleMove.dropped] := by
    rw [hframe]
    rfl
  obtain rfl := Host.Outcome.next.inj (exec_qmoveArrival_twinMoves.symm.trans hexec)
  have htwin : staleMove = staleMove.dropped := by simpa using hclaimed
  exact absurd htwin (by decide)

end Sys2Proof.Machine
end

section
/-!
PROOFS. How a command of a context completes, and what its command stream then waits on; the sequencer's NOP, LOOP and
END; statements of spec/06_sequencers_and_loading.md on both.
-/

namespace Sys2Proof.Machine

open Sys2Proof.Claims

/-- A command answers the state that its function is shown to give, where that keeps the queue and the part. -/
theorem exec_next_of_eq {i : Instr} {s t u : State} (hexec : exec i s = s.ends u) (hu : u = t)
    (hpending : t.pending = s.pending) (hpart : t.part = s.part) : exec i s = .next t := by
  rw [hexec, hu, State.ends_eq_next hpending hpart]

/-! ### The sequencer's own instructions (R167, R193) -/

section
variable {s : State} {c : Nat} {w : BitVec 128}

theorem State.seqNop_of_fetched (hw : s.fetchOp c .nop = some w) : s.seqNop c = s.modCl c pastSlot := by
  simp only [State.seqNop, hw]
  rfl

theorem State.seqLoop_of_pos (hw : s.fetchOp c .loop = some w) (hcount : loopCount w.toNat ≠ 0) :
    s.seqLoop c = s.modCl c (fun l => { l with
      pc := l.pc + 1
      frames := ⟨l.pc + 1, l.pc + loopBody w.toNat, 0, loopCount w.toNat⟩ :: l.frames
      progress := true }) := by
  simp only [State.seqLoop, hw, hcount, if_false]

theorem State.seqEnd_of_fetched (hw : s.fetchOp c .endProg = some w) :
    s.seqEnd c = s.modCl c (fun l => { l with ended := true, progress := true }) := by
  simp only [State.seqEnd, hw]

/-- A command that changes one cluster changes nothing else. -/
theorem exec_next_of_modCl {i : Instr} {t : State} {f : Cluster → Cluster} (hexec : exec i s = s.ends t)
    (ht : t = s.modCl c f) : ∃ t, exec i s = .next t ∧ t = { s with clusters := t.clusters } ∧
      ∀ d, t.cl d = if d = c then f (s.cl c) else s.cl d :=
  ⟨s.modCl c f, exec_next_of_eq hexec ht rfl rfl, rfl, s.modCl_cl c f⟩

end

/-- Settles O8: each instruction is one change of its cluster (R167, R193). -/
theorem sequencerNopLoopAndEnd : Obligations.SequencerNopLoopAndEnd := by
  intro cl s w
  refine ⟨fun hw => ?nop, fun hw hcount => ?skipped, fun hw hcount => ?entered, fun hw => ?ended⟩
  case nop => exact exec_next_of_modCl rfl (State.seqNop_of_fetched hw)
  case skipped => exact exec_next_of_modCl rfl (State.seqLoop_of_zero hw hcount)
  case entered => exact exec_next_of_modCl rfl (State.seqLoop_of_pos hw hcount)
  case ended => exact exec_next_of_modCl rfl (State.seqEnd_of_fetched hw)

/-! ### The end of a command (R179, R180, R192) -/

/-- The field that `setBits` writes, with what stands below it, stays below the field's upper end. -/
theorem setBits_low_lt {hi lo : Nat} (h : lo ≤ hi) (v y : Nat) :
    (y % 2 ^ (hi + 1 - lo)) * 2 ^ lo + v % 2 ^ lo < 2 ^ (hi + 1) := by
  have hpow : 2 ^ (hi + 1) = 2 ^ (hi + 1 - lo) * 2 ^ lo := by rw [← pow_add]; congr 1; omega
  rw [hpow, mul_comm (y % _)]
  exact Nat.mul_add_lt_mul_of_lt_of_lt (Nat.mod_lt _ (Nat.two_pow_pos _)) (Nat.mod_lt _ (Nat.two_pow_pos _))

theorem setBits_shiftRight {hi lo : Nat} (h : lo ≤ hi) (v y : Nat) :
    setBits v hi lo y >>> (hi + 1) = v >>> (hi + 1) := by
  rw [setBits, add_assoc, Nat.shiftLeft_eq, Nat.shiftLeft_eq, Nat.shiftRight_eq_div_pow (_ + _), mul_comm,
    Nat.mul_add_div (by positivity), Nat.div_eq_of_lt (setBits_low_lt h v y), add_zero]

theorem setBits_mod {hi lo : Nat} (h : lo ≤ hi) (v y : Nat) : setBits v hi lo y % 2 ^ lo = v % 2 ^ lo := by
  have hdvd : 2 ^ lo ∣ (v >>> (hi + 1)) <<< (hi + 1) := by
    rw [Nat.shiftLeft_eq]
    exact Dvd.dvd.mul_left (pow_dvd_pow 2 (by omega)) _
  obtain ⟨d, hd⟩ := hdvd
  rw [setBits, hd, Nat.shiftLeft_eq, mul_comm _ (2 ^ lo), ← mul_add, Nat.mul_add_mod, Nat.mod_mod]

theorem bits_of_shiftRight_eq {v w n h l : Nat} (hl : n ≤ l) (hvw : v >>> n = w >>> n) : bits v h l = bits w h l := by
  rw [bits, bits, ← Nat.add_sub_of_le hl, Nat.shiftRight_add, hvw, Nat.shiftRight_add]

theorem bits_of_mod_eq {v w n h l : Nat} (hh : h < n) (hvw : v % 2 ^ n = w % 2 ^ n) : bits v h l = bits w h l := by
  refine Nat.eq_of_testBit_eq fun i => ?_
  simp only [bits, Nat.testBit_mod_two_pow, Nat.testBit_shiftRight]
  by_cases hi : i < h + 1 - l
  · have hbit := congrArg (Nat.testBit · (l + i)) hvw
    simp only [Nat.testBit_mod_two_pow, show l + i < n by omega, decide_true, Bool.true_and] at hbit
    rw [hbit]
  · simp [hi]

/-- Writing a field leaves every field that lies wholly below or above it. -/
theorem bits_setBits {hi lo h l : Nat} (hlo : lo ≤ hi) (hout : h < lo ∨ hi < l) (v y : Nat) :
    bits (setBits v hi lo y) h l = bits v h l := by
  obtain hbelow | habove := hout
  · exact bits_of_mod_eq hbelow (setBits_mod hlo v y)
  · exact bits_of_shiftRight_eq habove (setBits_shiftRight hlo v y)

/-- A completed command word keeps the fields other than its result and its number (R180). -/
theorem bits_doneWord {h l : Nat} (hout : h < 416 ∨ 503 < l) (c : Cmd) (status code sect slot : Nat) :
    bits (doneWord c status code sect slot) h l = bits c.word.toNat h l := by
  simp (disch := omega) only [doneWord, bits_setBits]

section
variable (s : State) (x : Nat) (c : Cmd) (status code sect slot : Nat) (add : Bool)

/-- The result of a command stands in its slot of the stream, and its stream has moved on (R180). -/
def State.writeResult : State := (s.writeSpace 0
  (s.par (K.CONTEXT_STREAM_BASE + x) + 64 * (c.n % 2 ^ bits (s.par (K.CONTEXT_STREAM_CFG + x)) 4 0))
  (toBytes 64 (doneWord c status code sect slot))).progressCx x

theorem State.completeCmd_of_foreign (hforeign : foreignAdd s x c = true) :
    s.completeCmd x c status code sect slot add = s.writeResult x c 4 0 0 (bits c.word.toNat 267 263) := by
  unfold foreignAdd at hforeign
  simp only [State.completeCmd, hforeign, Bool.not_true, Bool.and_false, Bool.false_eq_true, if_false, if_true]
  rfl

theorem State.completeCmd_of_wait (hforeign : foreignAdd s x c = false) :
    s.completeCmd x c status code sect slot false = s.writeResult x c status code sect slot := by
  unfold foreignAdd at hforeign
  simp only [State.completeCmd, hforeign, Bool.false_and, Bool.false_eq_true, if_false]
  rfl

/-- The word as it stands once it holds its result still names its ADD. -/
theorem State.completeCmd_of_owned (hforeign : foreignAdd s x c = false) (hop : c.op ≠ 4) :
    s.completeCmd x c status code sect slot true =
      { s.writeResult x c status code sect slot with posts := s.posts ++ cmdAdd x c } := by
  have hfields := fun h l hout => bits_doneWord (h := h) (l := l) hout c status code sect slot
  simp only [doneWord] at hfields
  unfold foreignAdd at hforeign
  unfold Cmd.op at hop
  simp (disch := omega) only [State.completeCmd, hforeign, hfields, Bool.false_eq_true, if_false]
  simp only [ne_eq, hop, not_false_eq_true, decide_true, Bool.not_false, Bool.and_true, if_true, cmdAdd, addOf]
  split
  next hnone => rw [hnone, Option.map_none, Option.toList_none, List.append_nil]; rfl
  next r hsome => rw [hsome]; rfl

theorem State.completeCmd_frame : let t := s.completeCmd x c status code sect slot add
    t = { s.progressCx x with mem := t.mem, posts := t.posts } := by
  unfold State.completeCmd
  dsimp only
  split <;> rfl

theorem State.completeCmd_cx (y : Nat) : (s.completeCmd x c status code sect slot add).cx y =
    if y = x then { s.cx x with progress := true } else s.cx y := by
  rw [State.completeCmd_frame]
  exact s.modCx_cx x (fun l => { l with progress := true }) y

theorem State.finish_frame : let t := s.finish x c status code sect slot
    t = { s with ctxs := t.ctxs, mem := t.mem, posts := t.posts } := by
  unfold State.finish
  rw [State.completeCmd_frame]
  rfl

theorem State.finish_cx (y : Nat) : (s.finish x c status code sect slot).cx y =
    if y = x then { s.cx x with cur := none, progress := true } else s.cx y := by
  rw [State.finish, State.completeCmd_cx, State.modCx_cx_same, State.modCx_cx]
  split <;> rfl

theorem State.finish_completes (hop : c.op ≠ 4) :
    Completes s (s.finish x c status code sect slot) x c status code sect slot := by
  refine ⟨by rw [State.finish_cx, if_pos rfl], ?_⟩
  cases hforeign : foreignAdd s x c
  case true =>
    rw [State.finish, State.completeCmd_of_foreign (s.modCx x _) x c status code sect slot true hforeign]
    exact ⟨(List.append_nil _).symm, rfl⟩
  case false =>
    rw [State.finish, State.completeCmd_of_owned (s.modCx x _) x c status code sect slot hforeign hop]
    exact ⟨rfl, rfl⟩

/-- A WAIT performs no ADD; one on a package semaphore names no cluster (R179, R192). -/
theorem State.finishWait_done (hscope : bits c.word.toNat 269 268 = 2) : let t := s.finishWait x c
    (t.cx x).cur = none ∧ (t.cx x).wait = none ∧ t = { s with ctxs := t.ctxs, mem := t.mem } := by
  have hforeign (u : State) : foreignAdd u x c = false := by simp [foreignAdd, hscope]
  dsimp only
  unfold State.finishWait
  refine ⟨?_, ?_, ?_⟩
  · rw [State.completeCmd_cx, if_pos rfl, State.modCx_cx_same]
  · rw [State.completeCmd_cx, if_pos rfl, State.modCx_cx_same]
  · rw [State.completeCmd_of_wait _ x c 1 0 0 0 (hforeign _)]
    rfl

end

theorem State.curCmd_op {s : State} {x op : Nat} {c : Cmd} (hc : s.curCmd x op = some c) : c.op = op := by
  unfold State.curCmd at hc
  split at hc
  next => cases hc
  next d _ =>
    split_ifs at hc with h
    cases hc
    simp only [Bool.and_eq_true, decide_eq_true_eq] at h
    obtain ⟨-, hop⟩ := h
    exact hop

/-! ### Reading a command (R177, R181, R344) -/

/-- The state once the command processor has read a context's next command, which then waits to be accepted. -/
def State.taken (s : State) (x : Nat) : State :=
  (s.modCx x (fun q => { q with read := (q.read + 1) % 2 ^ 32, cur := some (nextCmd s x) })).progressCx x

theorem State.taken_cx (s : State) (x y : Nat) : (s.taken x).cx y = if y = x then
    { s.cx x with read := ((s.cx x).read + 1) % 2 ^ 32, cur := some (nextCmd s x), progress := true } else s.cx y := by
  rw [State.taken, State.progressCx, State.modCx_cx, State.modCx_cx_same, State.modCx_cx]
  split <;> rfl

/-- The test of the command processor, in the model's words. -/
theorem mayRead_iff (s : State) (x : Nat) : mayRead s x ↔
    (!s.live || (s.cx x).st ≠ .opened || (s.cx x).orphaned || (s.cx x).cur.isSome || (s.cx x).read % 2 ^ 24 =
      (s.sem (.pkg 0 (bits (s.par (K.CONTEXT_STREAM_CFG + x)) 45 32))).toNat) = false := by
  simp [mayRead, and_assoc]

section
variable {s : State} {x : Nat}

theorem State.readCmd_of_shut (hshut : ¬ mayRead s x) : s.readCmd x = s :=
  if_pos (Bool.eq_true_of_not_eq_false (mt (mayRead_iff s x).mpr hshut))

theorem State.readCmd_of_open (hread : mayRead s x) : s.readCmd x =
    if (nextCmd s x).bad s.part then ((s.taken x).bump K.BAD_COMMANDS 1).finish x (nextCmd s x) 7 0 0 0
    else if (nextCmd s x).op = 0x10 then (s.taken x).modCx x (fun q => { q with aborting := false })
    else if (s.cx x).aborting then (s.taken x).finish x (nextCmd s x) 9 0 0 0
    else s.taken x :=
  if_neg (Bool.eq_false_iff.mp ((mayRead_iff s x).mp hread))

/-- What every command read leaves: it is counted, and beside its context only memory, a counter and the posts on their
way have changed. -/
structure State.ReadOn (s : State) (x : Nat) (t : State) : Prop where
  frame : t = { s with ctxs := t.ctxs, od := t.od, mem := t.mem, posts := t.posts }
  read_eq : (t.cx x).read = ((s.cx x).read + 1) % 2 ^ 32
  cx_eq : ∀ y ≠ x, t.cx y = s.cx y

namespace State.ReadOn

theorem taken (s : State) (x : Nat) : s.ReadOn x (s.taken x) where
  frame := rfl
  read_eq := by rw [State.taken_cx, if_pos rfl]
  cx_eq y hy := by rw [State.taken_cx, if_neg hy]

variable {t : State} (h : s.ReadOn x t)
include h

theorem bump (k n : Nat) : s.ReadOn x (t.bump k n) where
  frame := by rw [h.frame]; rfl
  read_eq := h.read_eq
  cx_eq := h.cx_eq

theorem modCx {f : Ctx → Ctx} (hf : ∀ q, (f q).read = q.read) : s.ReadOn x (t.modCx x f) where
  frame := by rw [h.frame]; rfl
  read_eq := by rw [State.modCx_cx_same, hf, h.read_eq]
  cx_eq y hy := by rw [State.modCx_cx, if_neg hy, h.cx_eq y hy]

theorem finish (c : Cmd) (status code sect slot : Nat) : s.ReadOn x (t.finish x c status code sect slot) where
  frame := by rw [State.finish_frame, h.frame]
  read_eq := by rw [State.finish_cx, if_pos rfl, h.read_eq]
  cx_eq y hy := by rw [State.finish_cx, if_neg hy, h.cx_eq y hy]

end State.ReadOn

theorem State.readCmd_readOn (hread : mayRead s x) : s.ReadOn x (s.readCmd x) := by
  have htaken := State.ReadOn.taken s x
  rw [State.readCmd_of_open hread]
  split_ifs with hbad hop habort
  · exact (htaken.bump _ _).finish ..
  · exact htaken.modCx (fun _ => rfl)
  · exact htaken.finish ..
  · exact htaken

/-- A good command that is not ABORTED waits to be accepted, and only its context has changed. -/
theorem State.readCmd_of_good (hread : mayRead s x) (hgood : (nextCmd s x).bad s.part = false)
    (hruns : (s.cx x).aborting = false ∨ (nextCmd s x).op = 0x10) :
    ((s.readCmd x).cx x).cur = some (nextCmd s x) ∧ s.readCmd x = { s with ctxs := (s.readCmd x).ctxs } := by
  have hcur : ((s.taken x).cx x).cur = some (nextCmd s x) := by rw [State.taken_cx, if_pos rfl]
  rw [State.readCmd_of_open hread, hgood, if_neg Bool.false_ne_true]
  split_ifs with hop habort
  · exact ⟨by rw [State.modCx_cx_same, hcur], rfl⟩
  · simp [habort, hop] at hruns
  · exact ⟨hcur, rfl⟩

theorem State.readCmd_of_bad (hread : mayRead s x) (hbad : (nextCmd s x).bad s.part = true) :
    ((s.readCmd x).cx x).cur = none ∧ counted s (s.readCmd x) K.BAD_COMMANDS 1 := by
  rw [State.readCmd_of_open hread, if_pos hbad]
  refine ⟨by rw [State.finish_cx, if_pos rfl], ?_⟩
  rw [State.finish_frame]
  exact (s.taken x).bump_par_same K.BAD_COMMANDS 1

end

/-- Settles O18, by what `State.readCmd` makes of the command of the next slot (R177, R181, R344). That a bad command is
bad before it is ABORTED, and that a context that may not read stays as it is, are the model's choices (log entries 33
and 8). -/
theorem commandsAreReadInOrder : Obligations.CommandsAreReadInOrder := by
  intro x s
  refine ⟨fun hshut => exec_next_of_eq rfl (State.readCmd_of_shut hshut) rfl rfl, fun hread => ?_⟩
  obtain ⟨hframe, hcount, hothers⟩ := State.readCmd_readOn hread
  refine ⟨s.readCmd x, State.ends_eq_next ?_ ?_, hcount, ?_, ?_, ?_, ?_, hothers, State.readCmd_of_good hread,
    State.readCmd_of_bad hread⟩
  all_goals rw [hframe]

/-! ### SIGNAL and WAIT (R179, R205) -/

section
variable {s : State} {x : Nat} {c : Cmd}

theorem State.signalCmd_of_busy (hc : s.curCmd x 3 = some c) (hbusy : (s.cx x).running ≠ []) : s.signalCmd x = s := by
  simp [State.signalCmd, hc, hbusy]

theorem State.signalCmd_of_idle (hc : s.curCmd x 3 = some c) (hidle : (s.cx x).running = []) :
    s.signalCmd x = s.finish x c 1 0 0 0 := by
  simp [State.signalCmd, hc, hidle]

section
variable (hc : s.curCmd x 4 = some c) (hscope : bits c.word.toNat 269 268 = 2) (hwait : (s.cx x).wait = none)
include hc hscope hwait

theorem State.waitCmd_of_satisfied (hge : waitGe
    (s.sem (.pkg (bits c.word.toNat 267 266) (bits c.word.toNat 262 249))) (bits c.word.toNat 248 225) = true) :
    s.waitCmd x = s.finishWait x c := by
  simp [State.waitCmd, hc, hscope, hwait, hge, semOfC]

theorem State.waitCmd_of_unsatisfied (hge : waitGe
    (s.sem (.pkg (bits c.word.toNat 267 266) (bits c.word.toNat 262 249))) (bits c.word.toNat 248 225) = false) :
    s.waitCmd x = s.modCx x (fun q => { q with
      wait := some ⟨.pkg (bits c.word.toNat 267 266) (bits c.word.toNat 262 249), bits c.word.toNat 248 225, s.now,
        s.parMs K.SEM_WAIT_TIMEOUT, false, false⟩ }) := by
  simp [State.waitCmd, hc, hscope, hwait, hge, semOfC]

end

theorem State.wake_of_granted {w : WaitSt} (hc : s.curCmd x 4 = some c) (hw : (s.cx x).wait = some w)
    (hgrant : w.granted = true) : s.wake (.command x) = s.finishWait x c := by
  simp [State.wake, hc, hw, hgrant]

end

/-- Settles O21: SIGNAL and a satisfied WAIT end by `State.finish` and `State.finishWait` (R179, R180, R205). That a
WAIT which is satisfied at once ends in that step, and that a SIGNAL which still waits changes nothing, are the model's
choices (log entries 30 and 8). -/
theorem signalAndWaitComplete : Obligations.SignalAndWaitComplete := by
  intro x s c
  refine ⟨fun hc hbusy => ?busy, fun hc hidle howned => ?signal, fun hc hscope => ⟨fun hwait hge => ?satisfied,
    fun hwait hge => ?unsatisfied, fun w hw hgrant => ?granted⟩⟩
  case busy => exact exec_next_of_eq rfl (State.signalCmd_of_busy hc hbusy) rfl rfl
  case signal =>
    have hforeign : foreignAdd s x c = false := by simpa [foreignAdd] using howned
    have hframe := s.finish_frame x c 1 0 0 0
    obtain ⟨hcur, hposts, -⟩ := s.finish_completes x c 1 0 0 0 (by simp [State.curCmd_op hc])
    rw [hforeign] at hposts
    refine ⟨_, exec_next_of_eq rfl (State.signalCmd_of_idle hc hidle) ?_ ?_, hcur, hposts, hframe⟩
    all_goals rw [hframe]
  case satisfied =>
    obtain ⟨hcur, hnone, hframe⟩ := s.finishWait_done x c hscope
    refine ⟨_, exec_next_of_eq rfl (State.waitCmd_of_satisfied hc hscope hwait hge) ?_ ?_, hcur,
      hnone, hframe⟩
    all_goals rw [hframe]
  case unsatisfied =>
    exact ⟨_, exec_next_of_eq rfl (State.waitCmd_of_unsatisfied hc hscope hwait hge) rfl rfl, rfl,
      State.modCx_cx_same ..⟩
  case granted =>
    obtain ⟨hcur, hnone, hframe⟩ := s.finishWait_done x c hscope
    refine ⟨_, exec_next_of_eq rfl (State.wake_of_granted hc hw hgrant) ?_ ?_, hcur, hnone, hframe⟩
    all_goals rw [hframe]

end Sys2Proof.Machine
end

section
/-!
PROOFS. What a LOAD writes, and how it is refused; a statement of spec/06_sequencers_and_loading.md.
-/

namespace Sys2Proof.Machine

open Sys2Proof.Claims

/-! ### Commands that are refused or counted -/

/-- A counter, which stands from 0x8000:00 on, is none of the entries that a completion reads. -/
theorem completes_of_bump {s t : State} {x : Nat} {c : Cmd} {status code sect slot k n : Nat} (hx : x < 16)
    (hk : 0x800000 ≤ k) (h : Completes (s.bump k n) t x c status code sect slot) :
    Completes s t x c status code sect slot := by
  have hpar (i : Nat) (hi : i + 16 ≤ 0x800000) : (s.bump k n).par (i + x) = s.par (i + x) :=
    (State.Traced.bump s n hk).par_eq _ (by omega)
  have hholds (d : Nat) : (s.bump k n).holds x d = s.holds x d := by
    rw [State.holds, hpar K.CONTEXT_CLUSTERS (by decide), State.holds]
  unfold Completes foreignAdd at *
  rw [hholds, hpar K.CONTEXT_STREAM_BASE (by decide), hpar K.CONTEXT_STREAM_CFG (by decide)] at h
  exact h

/-! ### Writing an image (R184, R185, R187, R189) -/

theorem nodup_mapBits (m : Nat) : (mapBits m).Nodup := List.nodup_range.filter _

theorem mem_insertNat {i r : Nat} {l : List Nat} : i ∈ insertNat r l ↔ i = r ∨ i ∈ l := by
  induction l with
  | nil => simp [insertNat]
  | cons a l ih =>
    unfold insertNat
    split_ifs with hlt heq
    · exact List.mem_cons
    · simp [heq]
    · simp only [List.mem_cons, ih]
      exact or_left_comm

theorem mem_foldl_insertNat {i first n : Nat} {l : List Nat} :
    i ∈ (List.range n).foldl (fun l j => insertNat (first + j) l) l ↔ i ∈ l ∨ first ≤ i ∧ i < first + n := by
  induction n with
  | zero => simp
  | succ n ih =>
    have hlast : first ≤ i ∧ i < first + (n + 1) ↔ i = first + n ∨ first ≤ i ∧ i < first + n := by omega
    rw [List.range_succ, List.foldl_append, List.foldl_cons, List.foldl_nil, mem_insertNat, ih, hlast]
    exact or_left_comm

theorem State.foldl_modCl_clusters (f : Cluster → Cluster) (ks : List Nat) (s : State) :
    ∃ x, ks.foldl (fun s k => s.modCl k f) s = { s with clusters := x } := by
  induction ks generalizing s with
  | nil => exact ⟨s.clusters, rfl⟩
  | cons k ks ih =>
    obtain ⟨x, hx⟩ := ih (s.modCl k f)
    exact ⟨x, hx⟩

theorem State.foldl_modCl_cl (f : Cluster → Cluster) {ks : List Nat} (hks : ks.Nodup) (s : State) (i : Nat) :
    (ks.foldl (fun s k => s.modCl k f) s).cl i = if i ∈ ks then f (s.cl i) else s.cl i := by
  induction ks generalizing s with
  | nil => rfl
  | cons k ks ih =>
    obtain ⟨hk, hks⟩ := List.nodup_cons.1 hks
    rw [List.foldl_cons, ih hks, State.modCl_cl]
    by_cases hi : i = k
    · subst hi; simp [hk]
    · simp [hi]

/-- The page that PAGE names, read off the cluster itself. -/
def Cluster.resolve (l : Cluster) (page : Nat) : Bool :=
  match page with
  | 0 => false
  | 1 => true
  | _ => !l.active

theorem State.resolvePage_eq (s : State) (c page : Nat) : s.resolvePage c page = (s.cl c).resolve page := rfl

/-- Writing a page leaves the active page, so the pages that PAGE names stay those of before the LOAD. -/
theorem Cluster.writePage_resolve (l : Cluster) (p : Bool) (ws : List Nat) (page : Nat) :
    (l.writePage p ws).resolve page = l.resolve page := by
  cases p <;> rfl

section
variable (x : Nat) (img : List Nat) (page : Nat)

/-- A section of an image is written: a program into its clusters' pages, or descriptors into the context's table. -/
def State.writeSect (s : State) (e : Sect) : State :=
  if e.typ = 1 then
    (mapBits e.clusters).foldl (fun s k => s.modCl k (fun l => l.writePage (l.resolve page) (e.words img))) s
  else
    (s.writeSpace 0 (s.par (K.CONTEXT_DESC_BASE + x) + 64 * e.first) ((img.drop e.offset).take e.length)).modCx x
      (fun q => { q with descs := (List.range (e.length / 64)).foldl (fun l i => insertNat (e.first + i) l) q.descs })

theorem State.writeImage_eq (s : State) :
    s.writeImage x img page = (imgSects img).foldl (State.writeSect x img page) s := rfl

theorem State.writeSect_frame (s : State) (e : Sect) : let t := s.writeSect x img page e
    t = { s with clusters := t.clusters, ctxs := t.ctxs, mem := t.mem } := by
  dsimp only
  unfold State.writeSect
  split
  · obtain ⟨y, hy⟩ := State.foldl_modCl_clusters (fun l => l.writePage (l.resolve page) (e.words img))
      (mapBits e.clusters) s
    rw [hy]
  · rfl

theorem State.writeSect_cl (s : State) (e : Sect) (k : Nat) : (s.writeSect x img page e).cl k =
    if e.typ = 1 ∧ k ∈ mapBits e.clusters
    then (s.cl k).writePage ((s.cl k).resolve page) (e.words img) else s.cl k := by
  unfold State.writeSect
  by_cases htyp : e.typ = 1
  · rw [if_pos htyp, State.foldl_modCl_cl _ (nodup_mapBits _)]
    simp only [htyp, true_and]
  · rw [if_neg htyp, if_neg (fun h => htyp h.1)]
    rfl

theorem State.writeSect_descs (s : State) (e : Sect) (i : Nat) : i ∈ ((s.writeSect x img page e).cx x).descs ↔
    i ∈ (s.cx x).descs ∨ (e.typ ≠ 1 ∧ e.first ≤ i ∧ i < e.first + e.length / 64) := by
  unfold State.writeSect
  by_cases htyp : e.typ = 1
  · obtain ⟨y, hy⟩ := State.foldl_modCl_clusters (fun l => l.writePage (l.resolve page) (e.words img))
      (mapBits e.clusters) s
    rw [if_pos htyp, hy]
    simp [htyp, State.cx]
  · rw [if_neg htyp, State.modCx_cx_same, mem_foldl_insertNat]
    simp only [ne_eq, htyp, not_false_eq_true, true_and]
    rfl

/-- The image's sections are written one after the other. -/
theorem State.writeImage_frame (s : State) : let t := s.writeImage x img page
    t = { s with clusters := t.clusters, ctxs := t.ctxs, mem := t.mem } := by
  rw [State.writeImage_eq]
  generalize imgSects img = es
  induction es generalizing s with
  | nil => rfl
  | cons e es ih =>
    dsimp only at ih ⊢
    rw [List.foldl_cons, ih, State.writeSect_frame]

theorem State.writeImage_cl (s : State) (k : Nat) : (s.writeImage x img page).cl k =
    (imgSects img).foldl (fun l e => if e.typ = 1 ∧ k ∈ mapBits e.clusters
      then l.writePage (s.resolvePage k page) (e.words img) else l) (s.cl k) := by
  rw [State.writeImage_eq, State.resolvePage_eq]
  generalize imgSects img = es
  induction es generalizing s with
  | nil => rfl
  | cons e es ih =>
    have hresolve : ((s.writeSect x img page e).cl k).resolve page = (s.cl k).resolve page := by
      rw [State.writeSect_cl]
      split
      · exact Cluster.writePage_resolve ..
      · rfl
    rw [List.foldl_cons, List.foldl_cons, ih, hresolve, State.writeSect_cl]

theorem State.writeImage_descs (s : State) (i : Nat) : i ∈ ((s.writeImage x img page).cx x).descs ↔
    i ∈ (s.cx x).descs ∨ ∃ e ∈ imgSects img, e.typ ≠ 1 ∧ e.first ≤ i ∧ i < e.first + e.length / 64 := by
  rw [State.writeImage_eq]
  generalize imgSects img = es
  induction es generalizing s with
  | nil => simp
  | cons e es ih => rw [List.foldl_cons, ih, State.writeSect_descs, List.exists_mem_cons_iff, or_assoc]

end

/-! ### The loader's answers (R184, R190) -/

section
variable {s : State} {x : Nat} {c : Cmd} {img : List Nat} (hc : s.curCmd x 1 = some c)
include hc

theorem State.load_of_down (hdown : s.service.mgmt.coreUp = false) : s.load x = s := by
  simp [State.load, hc, hdown]

variable (hup : s.service.mgmt.coreUp = true)
include hup

theorem State.load_of_noImage (himg : s.loadImage x c.word.toNat = none) :
    s.load x = (s.bump K.IMAGE_REJECTS 1).finish x c 2 0x0101 0 0 := by
  simp [State.load, hc, hup, himg]

variable (himg : s.loadImage x c.word.toNat = some img)
include himg

theorem State.load_of_busy {q : Nat × Nat} {r : List (Nat × Nat)}
    (hbusy : s.busyPages img (bits c.word.toNat 271 270) = q :: r) :
    s.load x = (s.bump K.PAGE_BUSY_DROPS (r.length + 1)).finish x c 3 0 q.1 q.2 := by
  simp [State.load, hc, hup, himg, hbusy]

variable (hfree : s.busyPages img (bits c.word.toNat 271 270) = [])
include hfree

theorem State.load_of_fault {f : ImgFail} (hfault : s.verify x img (bits c.word.toNat 303 272) = some f) :
    s.load x = (s.bump K.IMAGE_REJECTS 1).finish x c 2 f.code f.sect f.slot := by
  simp [State.load, hc, hup, himg, hfree, hfault]

theorem State.load_of_passed (hpassed : s.verify x img (bits c.word.toNat 303 272) = none) :
    s.load x = (s.writeImage x img (bits c.word.toNat 271 270)).finish x c 1 0 0 0 := by
  simp [State.load, hc, hup, himg, hfree, hpassed]

end

/-- What a LOAD that is counted and completes without a write leaves (R190). -/
theorem State.bump_finish_refuses {s : State} {x : Nat} {c : Cmd} (hx : x < 16) (hop : c.op ≠ 4) {k : Nat}
    (hk : 0x800000 ≤ k) (n status code sect slot : Nat) : let t := (s.bump k n).finish x c status code sect slot
    Completes s t x c status code sect slot ∧ counted s t k n ∧ t.clusters = s.clusters ∧
      (t.cx x).descs = (s.cx x).descs := by
  refine ⟨completes_of_bump hx hk (State.finish_completes _ x c _ _ _ _ hop), ?_, ?_, ?_⟩
  · rw [State.finish_frame]
    exact s.bump_par_same k n
  · rw [State.finish_frame]
    rfl
  · rw [State.finish_cx, if_pos rfl]
    rfl

theorem State.load_frame (s : State) (x : Nat) : let t := s.load x
    t = { s with od := t.od, clusters := t.clusters, ctxs := t.ctxs, mem := t.mem, posts := t.posts } := by
  dsimp only
  unfold State.load
  split
  next => rfl
  next c hc =>
    dsimp only
    split_ifs
    · rfl
    · split
      next => rw [State.finish_frame]; rfl
      next img himg =>
        split
        next => rw [State.finish_frame]; rfl
        next =>
          split
          next => rw [State.finish_frame]; rfl
          next => rw [State.finish_frame, State.writeImage_frame]

/-- Settles O19, by the branch that `State.load` takes (R184, R185, R190). That a LOAD changes nothing while it waits
for the management core, and that its pages are resolved before its image is verified, are the model's choices (log
entries 8 and 33). -/
theorem loadWritesOrRefusesItsImage : Obligations.LoadWritesOrRefusesItsImage := by
  intro x s c img hc
  refine ⟨fun hdown => exec_next_of_eq rfl (State.load_of_down hc hdown) rfl rfl, fun hup => ?_⟩
  have hop : c.op ≠ 4 := by simp [State.curCmd_op hc]
  have hframe := s.load_frame x
  refine ⟨s.load x, State.ends_eq_next ?_ ?_, ?_, ?_, ?_, fun himg => ?noImage, fun himg => ⟨fun q r hbusy => ?busy,
    fun f hfree hfault => ?fault, fun hfree hpassed => ?passed⟩⟩
  case noImage =>
    rw [State.load_of_noImage hc hup himg]
    exact State.bump_finish_refuses x.isLt hop (by decide) ..
  case busy =>
    rw [State.load_of_busy hc hup himg hbusy]
    exact State.bump_finish_refuses x.isLt hop (by decide) ..
  case fault =>
    rw [State.load_of_fault hc hup himg hfree hfault]
    exact State.bump_finish_refuses x.isLt hop (by decide) ..
  case passed =>
    rw [State.load_of_passed hc hup himg hfree hpassed]
    refine ⟨State.finish_completes _ _ _ _ _ _ _ hop, fun k => ?_, fun i => ?_⟩
    · rw [State.finish_frame]
      exact s.writeImage_cl x img _ k
    · rw [State.finish_cx, if_pos rfl]
      exact s.writeImage_descs x img _ i
  all_goals rw [hframe]

end Sys2Proof.Machine
end

section
/-!
PROOFS. How a RUN starts its clusters, and how it is refused; a statement of spec/06_sequencers_and_loading.md.
-/

namespace Sys2Proof.Machine

/-! ### Starting clusters (R186, R149, R509, R565) -/

/-- `t` stands at the start of a program of a context and generation, in the page that `l` would run; it carries the
number of the RUN. -/
def Cluster.StartsAs (l : Cluster) (x gen n : Nat) (t : Cluster) : Prop :=
  t.running = true ∧ t.ended = false ∧ t.asleep = false ∧ t.pc = 0 ∧ t.active = l.runPage ∧ t.frames = [] ∧
    t.wait = none ∧ t.posts = [] ∧ t.ctx = x ∧ t.gen = gen ∧ t.tag = n % 2 ^ 32

section
variable (s : State) (c : Nat)

theorem State.wakeCluster_frame : let t := s.wakeCluster c
    t = { s with od := t.od, clusters := t.clusters } := by
  dsimp only
  unfold State.wakeCluster
  split <;> rfl

theorem State.wakeCluster_cl {d : Nat} (h : d ≠ c) : (s.wakeCluster c).cl d = s.cl d := by
  unfold State.wakeCluster
  split
  · rfl
  · rw [State.modCl_cl, if_neg h]
    rfl

theorem State.wakeCluster_awake :
    ((s.wakeCluster c).cl c).asleep = false ∧ ((s.wakeCluster c).cl c).runPage = (s.cl c).runPage := by
  unfold State.wakeCluster
  split
  next h => exact ⟨by simpa using h, rfl⟩
  next =>
    rw [State.modCl_cl_same]
    exact ⟨rfl, rfl⟩

end

/-- From `s` to `t` a RUN of context `x`, the `n`-th command, has started clusters, and nothing else has changed but
counters. -/
structure State.Starts (s : State) (x n : Nat) (cs : List Nat) (t : State) : Prop where
  frame : t = { s with od := t.od, clusters := t.clusters, cores := t.cores }
  cl_starts : ∀ k ∈ cs, (s.cl k).StartsAs x (s.cx x).gen n (t.cl k)
  cl_eq : ∀ k ∉ cs, t.cl k = s.cl k
  co_starts : ∀ k, k / 8 ∈ cs → s.part.isFused k = false → t.co k = (s.co k).start x (s.cx x).gen
  co_eq : ∀ k, k / 8 ∉ cs → t.co k = s.co k

namespace State.Starts

theorem nil (s : State) (x n : Nat) : s.Starts x n [] s where
  frame := rfl
  cl_starts := nofun
  cl_eq _ _ := rfl
  co_starts := nofun
  co_eq _ _ := rfl

theorem append {s t u : State} {x n : Nat} {cs ds : List Nat} (hst : s.Starts x n cs t) (htu : t.Starts x n ds u)
    (hdisj : cs.Disjoint ds) : s.Starts x n (cs ++ ds) u := by
  have hgen : (t.cx x).gen = (s.cx x).gen := by rw [hst.frame]; rfl
  have hfused (k : Nat) : t.part.isFused k = s.part.isFused k := by rw [hst.frame]
  refine ⟨by rw [htu.frame, hst.frame], fun k hk => ?_, fun k hk => ?_, fun k hk hf => ?_, fun k hk => ?_⟩
  · obtain hc | hd := List.mem_append.mp hk
    · rw [htu.cl_eq k (hdisj hc)]
      exact hst.cl_starts k hc
    · rw [← hst.cl_eq k (fun hc => hdisj hc hd), ← hgen]
      exact htu.cl_starts k hd
  · rw [List.mem_append, not_or] at hk
    rw [htu.cl_eq k hk.2, hst.cl_eq k hk.1]
  · obtain hc | hd := List.mem_append.mp hk
    · rw [htu.co_eq k (hdisj hc), hst.co_starts k hc hf]
    · rw [htu.co_starts k hd (hfused k ▸ hf), hst.co_eq k (fun hc => hdisj hc hd), hgen]
  · rw [List.mem_append, not_or] at hk
    rw [htu.co_eq k hk.2, hst.co_eq k hk.1]

theorem startCluster (s : State) (x c n : Nat) : s.Starts x n [c] (s.startCluster x c n) := by
  have hwake := s.wakeCluster_frame c
  obtain ⟨hawake, hpage⟩ := s.wakeCluster_awake c
  have hco (k : Nat) : (s.wakeCluster c).co k = s.co k := by rw [hwake]; rfl
  have hcores : (s.wakeCluster c).coresOf c = s.coresOf c := by rw [hwake]; rfl
  have hgen : ((s.wakeCluster c).cx x).gen = (s.cx x).gen := by rw [hwake]; rfl
  obtain ⟨y, hy⟩ := State.foldl_modCo_cores (·.start x (s.cx x).gen) (s.coresOf c) (s.wakeCluster c)
  have hfold := State.foldl_modCo_co (·.start x (s.cx x).gen) (s.nodup_coresOf c) (s.wakeCluster c)
  rw [hy] at hfold
  unfold State.startCluster
  dsimp only
  rw [hcores, hgen, hy]
  refine ⟨by rw [hwake]; rfl, fun k hk => ?_, fun k hk => ?_, fun k hk hf => ?_, fun k hk => ?_⟩
  · obtain rfl := List.mem_singleton.mp hk
    rw [State.modCl_cl_same]
    exact ⟨rfl, rfl, hawake, rfl, hpage, rfl, rfl, rfl, rfl, rfl, rfl⟩
  · rw [State.modCl_cl, if_neg (List.mem_singleton.not.mp hk)]
    exact s.wakeCluster_cl c (List.mem_singleton.not.mp hk)
  · rw [State.modCl_co, hfold, if_pos ((s.mem_coresOf c).mpr ⟨List.mem_singleton.mp hk, hf⟩), hco]
  · rw [State.modCl_co, hfold, if_neg fun h => hk (List.mem_singleton.mpr ((s.mem_coresOf c).mp h).1), hco]

end State.Starts

theorem State.startClusters_starts {cs : List Nat} (hcs : cs.Nodup) (s : State) (x n : Nat) :
    s.Starts x n cs (cs.foldl (fun s k => s.startCluster x k n) s) := by
  induction cs generalizing s with
  | nil => exact .nil s x n
  | cons k ks ih =>
    obtain ⟨hk, hks⟩ := List.nodup_cons.mp hcs
    exact (State.Starts.startCluster s x k n).append (ih hks _) (List.singleton_disjoint.mpr hk)

/-! ### RUN (R186, R192, R439) -/

/-- The clusters that a RUN names. -/
def Cmd.runClusters (c : Cmd) : List Nat := mapBits (bits c.word.toNat 415 384)

/-- The state in which a RUN has started its clusters, and still waits to be accepted. -/
def State.startAll (s : State) (x : Nat) (c : Cmd) : State :=
  c.runClusters.foldl (fun s k => s.startCluster x k c.n) s

theorem State.startAll_starts (s : State) (x : Nat) (c : Cmd) : s.Starts x c.n c.runClusters (s.startAll x c) :=
  State.startClusters_starts (nodup_mapBits _) s x c.n

section
variable {s : State} {x : Nat} {c : Cmd} (hc : s.curCmd x 2 = some c)
include hc

/-- A RUN that names no cluster, or one outside its context, completes NOT_OWNED. -/
theorem State.runCmd_of_foreign (h : c.runClusters = [] ∨ c.runClusters.any (fun k => !s.holds x k) = true) :
    ∃ slot, s.runCmd x = s.finish x c 4 0 0 slot := by
  unfold Cmd.runClusters at h
  obtain hnone | hforeign := h
  · exact ⟨0, by simp [State.runCmd, hc, hnone]⟩
  · obtain ⟨k, hk⟩ := Option.isSome_iff_exists.mp (List.find?_isSome.mpr (List.any_eq_true.mp hforeign))
    have hne : mapBits (bits c.word.toNat 415 384) ≠ [] := fun h => by simp [h] at hforeign
    exact ⟨k, by simp only [State.runCmd, hc, hk, hne, if_false]⟩

end

section
variable {s : State} {x : Nat} {c : Cmd}
  (hheld : c.runClusters.all (fun k => s.holds x k) = true)
  (hstill : c.runClusters.all (fun k => !(s.cl k).testing && !(s.cl k).running && !s.frozen k) = true)
  (hactive : s.power.state = .active)
include hheld hstill hactive

/-- What a RUN waits for is over, in the model's words. -/
theorem State.run_guards : c.runClusters.find? (fun k => !s.holds x k) = none ∧
    c.runClusters.any (fun k => (s.cl k).testing) = false ∧
    (c.runClusters.any (fun k => (s.cl k).running || s.frozen k) || s.power.state ≠ .active) = false := by
  simp only [List.all_eq_true, Bool.and_eq_true, Bool.not_eq_true', and_assoc] at hheld hstill
  refine ⟨List.find?_eq_none.mpr fun k hk => ?_, List.any_eq_false.mpr fun k hk => ?_, ?_⟩
  · simp [hheld k hk]
  · obtain ⟨htesting, -, -⟩ := hstill k hk
    simp [htesting]
  · simp only [hactive, ne_eq, not_true_eq_false, decide_false, Bool.or_false]
    refine List.any_eq_false.mpr fun k hk => ?_
    obtain ⟨-, hrunning, hfrozen⟩ := hstill k hk
    simp [hrunning, hfrozen]

variable (hc : s.curCmd x 2 = some c) (hne : c.runClusters ≠ [])
include hc hne

theorem State.runCmd_of_invalid
    (hbad : c.runClusters.any (fun k => !(s.cl k).pageValid (s.cl k).runPage) = true) :
    ∃ slot, s.runCmd x = s.finish x c 5 0 0 slot := by
  obtain ⟨hheld, htest, hrun⟩ := State.run_guards hheld hstill hactive
  obtain ⟨k, hk⟩ := Option.isSome_iff_exists.mp (List.find?_isSome.mpr (List.any_eq_true.mp hbad))
  unfold Cmd.runClusters at *
  exact ⟨k, by simp only [State.runCmd, hc, hne, hheld, htest, hrun, hk, if_false, Bool.false_eq_true]⟩

theorem State.runCmd_of_valid
    (hgood : c.runClusters.all (fun k => (s.cl k).pageValid (s.cl k).runPage) = true) :
    s.runCmd x = ((s.startAll x c).modCx x (fun q => { q with
      cur := none
      running := q.running ++ [{ c with left := bits c.word.toNat 415 384 }] })).progressCx x := by
  obtain ⟨hheld, htest, hrun⟩ := State.run_guards hheld hstill hactive
  have hpages : c.runClusters.find? (fun k => !(s.cl k).pageValid (s.cl k).runPage) = none :=
    List.find?_eq_none.mpr fun k hk => by simp [List.all_eq_true.mp hgood k hk]
  unfold State.startAll Cmd.runClusters at *
  simp only [State.runCmd, hc, hne, hheld, htest, hrun, hpages, if_false, Bool.false_eq_true]

end

/-- A RUN that is refused completes, and changes no cluster, no core and no semaphore. -/
theorem exec_run_of_finish {x : Fin 16} {s : State} {c : Cmd} {status slot : Nat}
    (h : s.runCmd x = s.finish x c status 0 0 slot) : ∃ t, exec (.run x) s = .next t ∧ t.clusters = s.clusters ∧
      t.cores = s.cores ∧ (t.cx x).cur = none ∧ t.side = s.side ∧ t.pkg = s.pkg := by
  have hframe := s.finish_frame x c status 0 0 slot
  refine ⟨_, exec_next_of_eq rfl h ?_ ?_, ?_, ?_, ?cur, ?_, ?_⟩
  case cur => rw [State.finish_cx, if_pos rfl]
  all_goals rw [hframe]

/-- Settles O20, by the refusals of `State.runCmd` and by `State.startClusters_starts` (R186, R149, R509). -/
theorem runStartsEveryNamedCluster : Obligations.RunStartsEveryNamedCluster := by
  intro x s c hc cs
  refine ⟨fun hforeign => ?foreign, fun hne hheld hstill hactive => ⟨fun hbad => ?invalid, fun hgood => ?valid⟩⟩
  case foreign =>
    obtain ⟨slot, hrun⟩ := State.runCmd_of_foreign hc hforeign
    exact exec_run_of_finish hrun
  case invalid =>
    obtain ⟨slot, hrun⟩ := State.runCmd_of_invalid hheld hstill hactive hc hne hbad
    exact exec_run_of_finish hrun
  case valid =>
    have hrun := State.runCmd_of_valid hheld hstill hactive hc hne hgood
    obtain ⟨hframe, hclStarts, hcl, hcoStarts, hco⟩ := s.startAll_starts x c
    have hctx : (s.startAll x c).cx x = s.cx x := by rw [hframe]; rfl
    refine ⟨_, exec_next_of_eq rfl hrun ?_ ?_, ?cur, ?running, fun k hk => ?cluster, hcl,
      fun k hk hfused => ?core, hco, ?_, ?_, ?_⟩
    case cur => rw [State.progressCx, State.modCx_cx_same, State.modCx_cx_same]
    case running =>
      rw [State.progressCx, State.modCx_cx_same, State.modCx_cx_same, ← hctx]
    case cluster =>
      simp only [State.progressCx, State.modCx_cl]
      exact hclStarts k hk
    case core => exact ⟨congrArg Core.jobs (hcoStarts k hk hfused), congrArg Core.epi (hcoStarts k hk hfused)⟩
    all_goals
      rw [hframe]
      rfl

end Sys2Proof.Machine
end

section
/-!
PROOFS. An opening tests the waits of other contexts too; a statement of spec/06_sequencers_and_loading.md.
-/

namespace Sys2Proof.Machine

/-- The contexts that a command answers are those of the state that its function gives. -/
theorem cx_of_ends {i : Instr} {s t u : State} (hexec : exec i s = .next t) (hu : exec i s = s.ends u) (y : Nat) :
    t.cx y = u.cx y := by
  obtain rfl := Host.Outcome.next.inj (hexec.symm.trans hu)
  rfl

/-- A command WAIT on package semaphore 1 of I/O die 0 for the target 0: OPCODE 4, C_SCOPE 2, C_INDEX 1 (R179). -/
def waitWord : BitVec 512 := BitVec.ofNat 512 (4 <<< 504 + 2 <<< 268 + 1 <<< 249)

/-- The wait of `waitWord`, not granted. -/
def waitOnOne : WaitSt := ⟨.pkg 0 1, 0, 0, 0, false, false⟩

/-- Context 3 is OPEN on cluster 1 and waits on package semaphore 1, whose value 0x800000 does not satisfy it (R198).
Context 2, on cluster 0, may be opened: its package range 0 to 1 meets the range 1 to 2 of context 3, but R174 does not
refuse that. -/
def waitingBeside : State := { State.reset with
  ctxs := [(3, { st := .opened, gen := 1, read := 1, cur := some ⟨0, waitWord, 1, 0⟩, wait := some waitOnOne })]
  od := [(K.CONTEXT_CLUSTERS + 2, 1), (K.CONTEXT_CLUSTERS + 3, 2), (K.CONTEXT_SEMS + 2, 2),
    (K.CONTEXT_SEMS + 3, 1 <<< 15 + 2), (K.CONTEXT_STREAM_CFG + 3, 2 <<< 32)]
  pkg := [(1, 0x800000), (2, 1)] }

theorem waits_waitingBeside : (waitingBeside.cx 3).wait = some waitOnOne := rfl

theorem openAllowed_waitingBeside : waitingBeside.openAllowed (2 : Fin 16) = true := by decide +kernel

/-- The opening sets the semaphore to 0 (R201), and its new value wakes the waiter (R200). -/
theorem openCtx_waitingBeside :
    ((waitingBeside.openCtx (2 : Fin 16)).cx 3).wait = some { waitOnOne with granted := true } := by
  decide +kernel

/-- Refutes O22: the semaphores that an opening sets to 0 are tested like any that change (R200, R201), which grants the
wait of a context that is OPEN on one of them; the statement leaves every other context as it was. -/
theorem not_openingAContext : ¬ Obligations.OpeningAContext := by
  intro h
  obtain ⟨-, -, hopens⟩ := h 2 waitingBeside
  obtain ⟨t, hexec, -, -, -, -, -, -, -, -, -, -, -, -, -, -, hothers, -⟩ := hopens openAllowed_waitingBeside
  have hcx : t.cx 3 = (waitingBeside.openCtx (2 : Fin 16)).cx 3 := cx_of_ends hexec rfl 3
  have hwaits := waits_waitingBeside
  rw [← hothers 3 (by decide), hcx, openCtx_waitingBeside] at hwaits
  exact absurd hwaits (by decide)

end Sys2Proof.Machine
end

section
/-!
PROOFS. Semaphore values, the posts that change them and the waits that they grant; statements of
spec/07_synchronisation.md on semaphores.
-/

namespace Sys2Proof.Machine

open Sys2Proof.Claims

/-! ### The wrapped comparison (R198) -/

/-- The difference of 24 bits is that of the integers modulo 2^24. -/
theorem toNat_sub_ofNat (v : BitVec 24) (t : Nat) :
    ((v - BitVec.ofNat 24 t).toNat : Int) = ((v.toNat : Int) - t) % 2 ^ 24 := by
  rw [BitVec.toNat_sub, BitVec.toNat_ofNat]
  omega

/-- Settles O11, by `toNat_sub_ofNat` (R198). -/
theorem waitGeIsACircularComparison : Obligations.WaitGeIsACircularComparison := by
  intro v t _
  rw [waitGe, decide_eq_true_iff, ← toNat_sub_ofNat]
  norm_cast

/-! ### Folds that change one entry at a time -/

/-- Operations that each change the entry of their own index, in states of which `P` holds throughout. -/
theorem foldl_each {σ α : Type} {P : σ → Prop} {get : σ → Nat → α} {g : σ → Nat → σ} {f : Nat → α → α}
    {ks : List Nat} (hks : ks.Nodup) (hP : ∀ k ∈ ks, ∀ s, P s → P (g s k))
    (hg : ∀ k ∈ ks, ∀ s, P s → ∀ i, get (g s k) i = if i = k then f k (get s k) else get s i)
    {s : σ} (hs : P s) :
    P (ks.foldl g s) ∧ ∀ i, get (ks.foldl g s) i = if i ∈ ks then f i (get s i) else get s i := by
  induction ks generalizing s with
  | nil => exact ⟨hs, fun _ => rfl⟩
  | cons k ks ih =>
    obtain ⟨hk, hks⟩ := List.nodup_cons.mp hks
    obtain ⟨hPk, hP⟩ := List.forall_mem_cons.mp hP
    obtain ⟨hgk, hg⟩ := List.forall_mem_cons.mp hg
    obtain ⟨hend, hget⟩ := ih hks hP hg (hPk s hs)
    refine ⟨hend, fun i => ?_⟩
    rw [List.foldl_cons, hget, hgk s hs]
    by_cases hi : i = k
    · subst hi
      simp [hk]
    · simp [hi]

/-- The same of a table whose entry is written, or is left where the write would not change it. -/
theorem Tbl.get_foldl_range {α : Type} [DecidableEq α] {d : α} {g : Tbl α → Nat → Tbl α} {f : α → α}
    (hg : ∀ t k, (g t k = t ∧ f (Tbl.get t d k) = Tbl.get t d k) ∨ g t k = Tbl.put t d k (f (Tbl.get t d k)))
    (n : Nat) (t : Tbl α) (i : Nat) :
    Tbl.get ((List.range n).foldl g t) d i = if i < n then f (Tbl.get t d i) else Tbl.get t d i := by
  have hstep (t : Tbl α) (k i : Nat) : Tbl.get (g t k) d i = if i = k then f (Tbl.get t d k) else Tbl.get t d i := by
    obtain ⟨hskip, hsame⟩ | hput := hg t k
    · rw [hskip, hsame]
      split_ifs with hi
      · rw [hi]
      · rfl
    · rw [hput, Tbl.get_put]
  have hfold := (foldl_each (P := fun _ => True) (get := fun t i => Tbl.get t d i) (f := fun _ => f)
    (List.nodup_range (n := n)) (fun _ _ _ _ => trivial) (fun k _ t _ i => hstep t k i) (s := t) trivial).2 i
  simpa only [List.mem_range] using hfold

/-! ### Grants (R200) -/

/-- A cluster whose wait has been tested against the new value of a semaphore. -/
def Cluster.testWait (l : Cluster) (r : SemRef) (v : BitVec 24) : Cluster := { l with wait := l.wait.map (·.test r v) }

/-- A context whose command's wait has been tested against the new value of a semaphore. -/
def Ctx.testWait (l : Ctx) (r : SemRef) (v : BitVec 24) : Ctx := { l with wait := l.wait.map (·.test r v) }

theorem Cluster.mapWait_of_none {l : Cluster} (h : l.wait = none) (f : WaitSt → WaitSt) :
    { l with wait := l.wait.map f } = l := by
  rw [h, Option.map_none, ← h]

theorem Ctx.mapWait_of_none {l : Ctx} (h : l.wait = none) (f : WaitSt → WaitSt) :
    { l with wait := l.wait.map f } = l := by
  rw [h, Option.map_none, ← h]

theorem Cluster.testWait_of_some {l : Cluster} {w : WaitSt} (h : l.wait = some w) (r : SemRef) (v : BitVec 24) :
    l.testWait r v = { l with wait := some (w.test r v) } := by
  rw [Cluster.testWait, h, Option.map_some]

theorem Ctx.testWait_of_some {l : Ctx} {w : WaitSt} (h : l.wait = some w) (r : SemRef) (v : BitVec 24) :
    l.testWait r v = { l with wait := some (w.test r v) } := by
  rw [Ctx.testWait, h, Option.map_some]

section
variable (s : State) (r : SemRef)

theorem State.grant_waits : ∃ c x, s.grant r = { s with clusters := c, ctxs := x } := ⟨_, _, rfl⟩

theorem State.grant_cl {c : Nat} (hc : c < 32) : (s.grant r).cl c = (s.cl c).testWait r (s.sem r) := by
  simp only [State.grant, State.cl]
  rw [Tbl.get_foldl_range (f := (·.testWait r (s.sem r))) ?_, if_pos hc]
  intro t k
  split
  next hnone => exact .inl ⟨rfl, Cluster.mapWait_of_none hnone _⟩
  next w hsome => exact .inr (by rw [Cluster.testWait_of_some hsome])

theorem State.grant_cx {x : Nat} (hx : x < 16) : (s.grant r).cx x = (s.cx x).testWait r (s.sem r) := by
  simp only [State.grant, State.cx]
  rw [Tbl.get_foldl_range (f := (·.testWait r (s.sem r))) ?_, if_pos hx]
  intro t k
  split
  next hnone => exact .inl ⟨rfl, Ctx.mapWait_of_none hnone _⟩
  next w hsome => exact .inr (by rw [Ctx.testWait_of_some hsome])

end

/-! ### One operation on a semaphore (R196, R197, R199) -/

section
variable (s : State) (r : SemRef) (sub : Bool) (v : Nat)

theorem State.putSem_frame (u : BitVec 24) : let t := s.putSem r u
    t = { s with side := t.side, pkg := t.pkg } := by
  cases r <;> rfl

/-- Semaphores of different keys lie in different places of their stores. -/
theorem State.putSem_sem_of_ne {q : SemRef} (h : semKey q ≠ semKey r) (u : BitVec 24) :
    (s.putSem r u).sem q = s.sem q := by
  cases r <;> cases q
  case side.side c i d j => rw [State.putSem_side, if_neg fun hkey => h (congrArg (false, ·) hkey)]
  case side.pkg => rfl
  case pkg.side => rfl
  case pkg.pkg n i m j => rw [State.putSem_pkg, if_neg fun hkey => h (congrArg (true, ·) hkey)]

theorem State.applySem_frame : let t := s.applySem r sub v
    t = { s with side := t.side, pkg := t.pkg, clusters := t.clusters, ctxs := t.ctxs } := by
  dsimp only
  unfold State.applySem
  obtain ⟨c, x, hgrant⟩ := State.grant_waits (s.putSem r _) r
  rw [hgrant, State.putSem_frame]

theorem State.applySem_sem_of_ne {q : SemRef} (h : semKey q ≠ semKey r) : (s.applySem r sub v).sem q = s.sem q := by
  rw [State.applySem, State.grant_sem, State.putSem_sem_of_ne s r h]

theorem State.applySem_toNat : ((s.applySem r sub v).sem r).toNat =
    if sub then ((s.sem r).toNat + (2 ^ 24 - v % 2 ^ 24)) % 2 ^ 24 else ((s.sem r).toNat + v) % 2 ^ 24 := by
  rw [State.applySem_sem]
  cases sub
  case false =>
    rw [if_neg Bool.false_ne_true, if_neg Bool.false_ne_true, BitVec.toNat_add, BitVec.toNat_ofNat, Nat.add_mod_mod]
  case true => rw [if_pos rfl, if_pos rfl, BitVec.toNat_sub, BitVec.toNat_ofNat, Nat.add_comm]

theorem State.applySem_cl {c : Nat} (hc : c < 32) :
    (s.applySem r sub v).cl c = (s.cl c).testWait r ((s.applySem r sub v).sem r) := by
  rw [State.applySem, State.grant_sem, State.grant_cl _ _ hc, State.putSem_frame]
  rfl

theorem State.applySem_cx {x : Nat} (hx : x < 16) :
    (s.applySem r sub v).cx x = (s.cx x).testWait r ((s.applySem r sub v).sem r) := by
  rw [State.applySem, State.grant_sem, State.grant_cx _ _ hx, State.putSem_frame]
  rfl

end

/-! ### Arrivals (R199, R482) -/

section
variable {s : State} {n : Nat} {p : Post} (hp : s.posts[n]? = some p)
include hp

theorem State.postArrives_of_waiting (hpath : s.pathWaits p.src p.sem.node = true) : s.postArrives n = s := by
  simp [State.postArrives, hp, hpath]

theorem State.postArrives_of_current (hpath : s.pathWaits p.src p.sem.node = false)
    (hcurrent : s.stale p.ctx p.gen = false) :
    s.postArrives n = ({ s with posts := s.posts.eraseIdx n } : State).applySem p.sem p.sub p.value := by
  have hcurrent' : ({ s with posts := s.posts.eraseIdx n } : State).stale p.ctx p.gen = false := hcurrent
  simp [State.postArrives, hp, hpath, hcurrent']

end

/-- Settles O13, by what `State.applySem` makes of each semaphore and of each wait (R196, R199, R200). That a post waits
while the reset of a die stops its path is the model's choice (log entry 140). -/
theorem postArrivesAtItsSemaphore : Obligations.PostArrivesAtItsSemaphore := by
  intro n s p hp
  refine ⟨fun hpath => exec_next_of_eq rfl (State.postArrives_of_waiting hp hpath) rfl rfl, fun hpath hcurrent => ?_⟩
  have hframe := ({ s with posts := s.posts.eraseIdx n } : State).applySem_frame p.sem p.sub p.value
  refine ⟨_, exec_next_of_eq rfl (State.postArrives_of_current hp hpath hcurrent) ?_ ?_, ?_, ?value,
    fun r hr => ?other, fun c => State.applySem_cl _ _ _ _, fun x => State.applySem_cx _ _ _ _, ?_⟩
  case value => exact State.applySem_toNat _ _ _ _
  case other => exact State.applySem_sem_of_ne _ _ _ _ hr
  all_goals rw [hframe]

end Sys2Proof.Machine
end

section
/-!
PROOFS. What a clear leaves of a status entry; a statement of spec/07_synchronisation.md.
-/

namespace Sys2Proof.Machine

theorem bit_eq_testBit (v i : Nat) : bit v i = v.testBit i := by
  rw [bit, Nat.testBit, Nat.and_comm, Nat.and_one_is_mod]
  obtain h | h := Nat.mod_two_eq_zero_or_one (v >>> i) <;> rw [h] <;> rfl

section
variable {s : State} (hlive : s.live = true) (m : Nat)
include hlive

theorem State.clearFlags_sync : s.clearFlags K.SYNC_STATUS m =
    s.setPar K.SYNC_STATUS (bits (Nat.xor (Nat.lor (s.par K.SYNC_STATUS) m) m) 31 0) := by
  simp [State.clearFlags, hlive]

theorem State.clearFlags_thermal : s.clearFlags K.THERMAL_STATUS m = { s with power := { s.power with
    flags := (s.power.flags &&& ~~~(BitVec.ofNat 8 m)) ||| BitVec.ofNat 8 s.power.thermalNow } } := by
  simp [State.clearFlags, hlive]

end

/-- Bits of an entry of 32 bits once the bits of a mask have been cleared. -/
theorem bit_cleared (v m : Nat) {i : Nat} (hi : i < 32) :
    bit (bits (Nat.xor (Nat.lor v m) m) 31 0) i = (bit v i && !m.testBit i) := by
  have hcleared : (Nat.xor (Nat.lor v m) m).testBit i = ((v.testBit i || m.testBit i) ^^ m.testBit i) :=
    (Nat.testBit_xor _ _ _).trans (congrArg (· ^^ m.testBit i) (Nat.testBit_or _ _ _))
  rw [bits, Nat.shiftRight_zero, bit_eq_testBit, bit_eq_testBit, Nat.testBit_mod_two_pow, hcleared]
  cases v.testBit i <;> cases m.testBit i <;> simp [hi]

/-- Settles O27, by the two entries' clears (R223, R574). -/
theorem statusFlagsAreClearedByWritingOnes : Obligations.StatusFlagsAreClearedByWritingOnes := by
  intro m s hlive
  refine ⟨⟨_, exec_next_of_eq rfl (State.clearFlags_sync hlive m.toNat) rfl rfl, rfl, fun i hi => ?sync,
      fun k hk => ?other⟩,
    ⟨_, exec_next_of_eq rfl (State.clearFlags_thermal hlive m.toNat) rfl rfl, rfl, fun i hi => ?thermal⟩⟩
  case sync => rw [State.setPar_par_same, bit_cleared _ _ hi, BitVec.testBit_toNat]
  case other => rw [State.setPar_par, if_neg hk]
  case thermal =>
    simp only [BitVec.getLsbD_or, BitVec.getLsbD_and, BitVec.getLsbD_not, BitVec.getLsbD_ofNat, BitVec.testBit_toNat,
      hi, decide_true, Bool.true_and]

end Sys2Proof.Machine
end

section
/-!
PROOFS. What reports, logs and seals leave of the hang records and of the entries that tell of hangs; the timeouts of
waits; statements of spec/07_synchronisation.md.
-/

namespace Sys2Proof.Machine

open Sys2Proof.Claims

/-! ### Reports (R491 to R493) -/

/-- SYNC_STATUS, the counters of hangs and timeouts (the Entries of chapter 07), and DUMP_TRIGGERS (R484). -/
def hangEntry (k : Nat) : Bool := k / 256 = 0x7410 || k / 256 = 0x8070 || k = K.DUMP_TRIGGERS

/-- `t` is `s` after reports have been made: only links, the report ring and other counters have changed. -/
structure State.Reported (s t : State) : Prop where
  frame : t = { s with od := t.od, links := t.links, reports := t.reports }
  par_eq : ∀ k, hangEntry k = true → t.par k = s.par k

namespace State.Reported

theorem refl (s : State) : s.Reported s := ⟨rfl, fun _ _ => rfl⟩

theorem trans {s t u : State} (hst : s.Reported t) (htu : t.Reported u) : s.Reported u where
  frame := by rw [htu.frame, hst.frame]
  par_eq k hk := (htu.par_eq k hk).trans (hst.par_eq k hk)

theorem bump (s : State) {k : Nat} (n : Nat) (hk : hangEntry k = false) : s.Reported (s.bump k n) where
  frame := rfl
  par_eq i hi := by
    have hne : i ≠ k := fun h => by simp [h, hk] at hi
    rw [State.bump_par, if_neg hne]

theorem toPort (s : State) (q : Nat) (m : Msg) : s.Reported (s.toPort q m) := by
  obtain ⟨l, hl⟩ := s.toPort_links q m
  rw [hl]
  exact ⟨rfl, fun _ _ => rfl⟩

theorem sendReport (s : State) (rcd : BitVec 256) : s.Reported (s.sendReport rcd) := by
  unfold State.sendReport
  dsimp only
  split
  · exact refl s
  · split
    · exact bump s 1 (by decide)
    · exact (toPort s _ _).trans (bump _ 1 (by decide))

theorem report (s : State) (kind : Nat) (c : Option (Nat × Nat)) (detail : Nat) :
    s.Reported (s.report kind c detail) := by
  unfold State.report
  extract_lets seq tail rcd full counted un
  have hcounted : s.Reported counted := by
    unfold counted
    split
    · exact bump s 1 (by decide)
    · exact refl s
  refine (hcounted.trans ?_).trans (sendReport _ _)
  exact ⟨rfl, fun _ _ => rfl⟩

theorem reportCtx (s : State) (kind x detail : Nat) : s.Reported (s.reportCtx kind x detail) := report s _ _ _

/-- A report that is made where the context held no record. -/
theorem ite {s t : State} {p : Prop} [Decidable p] (h : s.Reported t) : s.Reported (if p then t else s) := by
  split
  · exact h
  · exact refl s

variable {s t : State} (h : s.Reported t)
include h

theorem cx_eq (x : Nat) : t.cx x = s.cx x := by rw [h.frame]; rfl

end State.Reported

/-! ### Hang records (R222) -/

section
variable (s : State) (x cause blocked : Nat) (b : Stall) (die entry : Nat)

theorem State.hangRecord_frame : let t := s.hangRecord x cause blocked b die entry
    t = { s with ctxs := t.ctxs } := by
  unfold State.hangRecord
  dsimp only
  split <;> rfl

theorem State.hangRecord_cx (y : Nat) : let t := s.hangRecord x cause blocked b die entry
    t.cx y = if y = x then { s.cx x with hang := (t.cx x).hang } else s.cx y := by
  unfold State.hangRecord
  dsimp only
  split
  · split
    next h => rw [h]
    next => rfl
  · rw [State.modCx_cx, State.modCx_cx_same]

/-- A context that holds a record keeps it. -/
theorem State.hangRecord_of_held (hheld : bit (s.cx x).hang.toNat 0 = true) :
    s.hangRecord x cause blocked b die entry = s :=
  if_pos hheld

end

theorem State.syncFlag_bit (s : State) (i : Nat) : bit ((s.syncFlag i).par K.SYNC_STATUS) i = true := by
  rw [State.syncFlag, State.setPar_par_same, bit_eq_testBit]
  exact (Nat.testBit_or _ _ _).trans (by rw [Nat.testBit_two_pow_self, Bool.or_true])

theorem State.syncFlag_par (s : State) (i : Nat) {k : Nat} (hk : k ≠ K.SYNC_STATUS) :
    (s.syncFlag i).par k = s.par k := by
  rw [State.syncFlag, State.setPar_par, if_neg hk]

/-! ### A wait times out (R219 to R221) -/

section
variable (s : State) (x : Nat) (w : WaitSt) (b : Stall)

/-- The state in which a wait that times out has been recorded, flagged and counted, but not reported. -/
def State.flagged : State :=
  (((s.reach (w.since + w.limit)).hangRecord x 2 0 b 0 0).syncFlag (16 + x)).bump K.WAIT_TIMEOUTS 1

theorem State.waitExpired_reported : (s.flagged x w b).Reported (s.waitExpired x w b) :=
  .ite (.reportCtx _ _ _ _)

theorem State.flagged_frame : let t := s.flagged x w b
    t = { s with now := max s.now (w.since + w.limit), od := t.od, ctxs := t.ctxs } := by
  dsimp only
  unfold State.flagged State.syncFlag
  rw [State.hangRecord_frame]
  rfl

theorem State.flagged_cx (y : Nat) :
    (s.flagged x w b).cx y = ((s.reach (w.since + w.limit)).hangRecord x 2 0 b 0 0).cx y := rfl

theorem State.flagged_sync : bit ((s.flagged x w b).par K.SYNC_STATUS) (16 + x) = true := by
  rw [State.flagged, State.bump_par, if_neg (by decide), State.syncFlag_bit]

theorem State.flagged_counted : counted s (s.flagged x w b) K.WAIT_TIMEOUTS 1 := by
  rw [counted, State.flagged, State.bump_par_same, State.syncFlag_par _ _ (by decide), State.hangRecord_frame]
  rfl

theorem State.waitExpired_frame : let t := s.waitExpired x w b
    t = { s with now := max s.now (w.since + w.limit), od := t.od, ctxs := t.ctxs, links := t.links,
                 reports := t.reports } := by
  dsimp only
  rw [(s.waitExpired_reported x w b).frame, State.flagged_frame]

end

/-- What O26 says of every wait that times out, whatever its stream. -/
def ExpiryRecorded (s t : State) (x : Nat) (w : WaitSt) (b : Stall) : Prop :=
  t.now = max s.now (w.since + w.limit) ∧ bit (t.par K.SYNC_STATUS) (16 + x) = true ∧ counted s t K.WAIT_TIMEOUTS 1 ∧
  (t.cx x).hang = (((s.reach (w.since + w.limit)).hangRecord x 2 0 b 0 0).cx x).hang ∧
  (bit (s.cx x).hang.toNat 0 = true → (t.cx x).hang = (s.cx x).hang) ∧
  t.side = s.side ∧ t.pkg = s.pkg ∧ t.cores = s.cores ∧ t.mem = s.mem

/-- The mark on the wait itself reaches only waits. -/
theorem State.waitExpired_recorded {s t : State} {x : Nat} {w : WaitSt} {b : Stall}
    (hframe : t = { s.waitExpired x w b with clusters := t.clusters, ctxs := t.ctxs })
    (hhang : (t.cx x).hang = ((s.waitExpired x w b).cx x).hang) : ExpiryRecorded s t x w b := by
  have hreport := s.waitExpired_reported x w b
  have hexpired := s.waitExpired_frame x w b
  have hpar {k : Nat} (hk : hangEntry k = true) : t.par k = (s.flagged x w b).par k := by
    rw [hframe, ← hreport.par_eq k hk]
    rfl
  rw [hreport.cx_eq, State.flagged_cx] at hhang
  refine ⟨?_, ?sync, ?count, hhang, fun hheld => ?held, ?_, ?_, ?_, ?_⟩
  case sync => rw [hpar (by decide), State.flagged_sync]
  case count => rw [counted, hpar (by decide), State.flagged_counted]
  case held =>
    have hkept := State.hangRecord_of_held (s.reach (w.since + w.limit)) x 2 0 b 0 0 hheld
    rw [hhang, hkept]
    rfl
  all_goals rw [hframe, hexpired]

section
variable {s : State}

theorem State.waitTimeout_of_noWait {c : Nat} (hw : (s.cl c).wait = none) : s.waitTimeout (.cluster c) = s := by
  simp only [State.waitTimeout, hw]

theorem State.waitTimeout_of_noCommand {x : Nat} (h : (s.cx x).wait = none ∨ (s.cx x).cur = none) :
    s.waitTimeout (.command x) = s := by
  simp only [State.waitTimeout]
  split
  next w k hw hk => simp [hw, hk] at h
  next => rfl

variable {w : WaitSt}

section
variable {c : Nat} (hw : (s.cl c).wait = some w)
include hw

theorem State.waitTimeout_cluster_of_settled (h : w.granted = true ∨ w.timedOut = true) :
    s.waitTimeout (.cluster c) = s := by
  obtain h | h := h <;> simp [State.waitTimeout, hw, h]

theorem State.waitTimeout_cluster_of_pending (hgrant : w.granted = false) (htimed : w.timedOut = false) :
    s.waitTimeout (.cluster c) = (s.waitExpired (s.cl c).ctx w ⟨c, 0, (s.cl c).pcCode, some w⟩).modCl c
      (fun l => { l with wait := l.wait.map (fun w => { w with timedOut := true }) }) := by
  simp [State.waitTimeout, hw, hgrant, htimed]

end

section
variable {x : Nat} {k : Cmd} (hw : (s.cx x).wait = some w) (hk : (s.cx x).cur = some k)
include hw hk

theorem State.waitTimeout_command_of_settled (h : w.granted = true ∨ w.timedOut = true) :
    s.waitTimeout (.command x) = s := by
  obtain h | h := h <;> simp [State.waitTimeout, hw, hk, h]

theorem State.waitTimeout_command_of_pending (hgrant : w.granted = false) (htimed : w.timedOut = false) :
    s.waitTimeout (.command x) = (s.waitExpired x w ⟨32, 1, k.n % 4096, some w⟩).modCx x
      (fun q => { q with wait := q.wait.map (fun w => { w with timedOut := true }) }) := by
  simp [State.waitTimeout, hw, hk, hgrant, htimed]

end

end

/-- Settles O26: `State.waitExpired` records, flags, counts and reports, and the wait is then marked where it stands
(R219, R220, R222). That the expiry happens at the deadline, and that it does nothing without a wait that may time out,
are the model's choices (log entries 1 and 8). -/
theorem timedOutWaitStaysInForce : Obligations.TimedOutWaitStaysInForce := by
  unfold Obligations.TimedOutWaitStaysInForce
  intro recorded
  refine ⟨fun c s hw => exec_next_of_eq rfl (State.waitTimeout_of_noWait hw) rfl rfl,
    fun c s w hw => ⟨fun h => exec_next_of_eq rfl (State.waitTimeout_cluster_of_settled hw h) rfl rfl,
      fun hgrant htimed => ?cluster⟩,
    fun x s w k hw hk => ⟨fun h => exec_next_of_eq rfl (State.waitTimeout_command_of_settled hw hk h) rfl rfl,
      fun hgrant htimed => ?command⟩,
    fun x s h => exec_next_of_eq rfl (State.waitTimeout_of_noCommand h) rfl rfl⟩
  case cluster =>
    have hframe := s.waitExpired_frame (s.cl c).ctx w ⟨c, 0, (s.cl c).pcCode, some w⟩
    have hcl (d : Nat) : (s.waitExpired (s.cl c).ctx w ⟨c, 0, (s.cl c).pcCode, some w⟩).cl d = s.cl d := by
      rw [hframe]
      rfl
    refine ⟨_, exec_next_of_eq rfl (State.waitTimeout_cluster_of_pending hw hgrant htimed) ?_ ?_,
      State.waitExpired_recorded rfl rfl, ?same, fun d hd => ?other⟩
    case same => rw [State.modCl_cl_same, hcl, hw, Option.map_some]
    case other => rw [State.modCl_cl, if_neg hd, hcl]
    all_goals
      rw [hframe]
      rfl
  case command =>
    have hframe := s.waitExpired_frame x w ⟨32, 1, k.n % 4096, some w⟩
    have hcx : (s.waitExpired x w ⟨32, 1, k.n % 4096, some w⟩).cx x =
        { s.cx x with hang := ((s.waitExpired x w ⟨32, 1, k.n % 4096, some w⟩).cx x).hang } := by
      rw [(s.waitExpired_reported x w _).cx_eq, State.flagged_cx, State.hangRecord_cx, if_pos rfl]
      rfl
    refine ⟨_, exec_next_of_eq rfl (State.waitTimeout_command_of_pending hw hk hgrant htimed) ?_ ?_,
      State.waitExpired_recorded rfl ?hang, ?wait, ?cur, ?_⟩
    case hang => rw [State.modCx_cx_same]
    case wait =>
      rw [State.modCx_cx_same, hcx, hw]
      rfl
    case cur =>
      rw [State.modCx_cx_same, hcx, hk]
    all_goals
      rw [hframe]
      rfl

end Sys2Proof.Machine
end

section
/-!
PROOFS. What a scan for hangs counts; the stalls and blocked streams that it reads; a part of a statement of
spec/07_synchronisation.md.
-/

namespace Sys2Proof.Machine

/-! ### What the blocked streams depend on (R209 to R215) -/

/-- `t` is `s` but for the time base, counters, which stand from 0x8000:00 on, and what contexts hold of scans. -/
structure State.SameStreams (s t : State) : Prop where
  frame : t = { s with now := t.now, od := t.od, ctxs := t.ctxs }
  par_eq : ∀ k < 0x800000, t.par k = s.par k
  cx_eq : ∀ x, ∃ n b, t.cx x = { s.cx x with scans := n, hung := b }

namespace State.SameStreams

theorem refl (s : State) : s.SameStreams s := ⟨rfl, fun _ _ => rfl, fun _ => ⟨_, _, rfl⟩⟩

theorem trans {s t u : State} (hst : s.SameStreams t) (htu : t.SameStreams u) : s.SameStreams u where
  frame := by rw [htu.frame, hst.frame]
  par_eq k hk := (htu.par_eq k hk).trans (hst.par_eq k hk)
  cx_eq x := by
    obtain ⟨n, b, ht⟩ := hst.cx_eq x
    obtain ⟨m, d, hu⟩ := htu.cx_eq x
    exact ⟨m, d, by rw [hu, ht]⟩

theorem reach (s : State) (n : Nat) : s.SameStreams (s.reach n) := ⟨rfl, fun _ _ => rfl, fun _ => ⟨_, _, rfl⟩⟩

theorem bump (s : State) {k : Nat} (n : Nat) (hk : 0x800000 ≤ k) : s.SameStreams (s.bump k n) where
  frame := rfl
  par_eq i hi := by rw [State.bump_par, if_neg (by omega)]
  cx_eq _ := ⟨_, _, rfl⟩

theorem modCx (s : State) (x : Nat) {f : Ctx → Ctx} (hf : ∀ c, ∃ n b, f c = { c with scans := n, hung := b }) :
    s.SameStreams (s.modCx x f) where
  frame := rfl
  par_eq _ _ := rfl
  cx_eq y := by
    rw [State.modCx_cx]
    split
    next hy => rw [hy]; exact hf _
    next => exact ⟨_, _, rfl⟩

variable {s t : State} (h : s.SameStreams t)
include h

theorem cl_eq (c : Nat) : t.cl c = s.cl c := by rw [h.frame]; rfl

theorem co_eq (k : Nat) : t.co k = s.co k := by rw [h.frame]; rfl

theorem coresOf_eq (c : Nat) : t.coresOf c = s.coresOf c := by rw [h.frame]; rfl

theorem sem_eq (r : SemRef) : t.sem r = s.sem r := by rw [h.frame]; cases r <;> rfl

theorem frozen_eq (c : Nat) : t.frozen c = s.frozen c := by rw [h.frame]; rfl

theorem atEnd_eq (c : Nat) : t.atEnd c = s.atEnd c := by rw [h.frame]; rfl

theorem pushStalled_eq (c k : Nat) : t.pushStalled c k = s.pushStalled c k := by rw [h.frame]; rfl

theorem buffersFree_eq (c w : Nat) : t.buffersFree c w = s.buffersFree c w := by rw [h.frame]; rfl

theorem inFlight_eq (x : Nat) : t.inFlight x = s.inFlight x := by rw [h.frame]; rfl

theorem fetch_eq (c : Nat) : t.fetch c = s.fetch c := by
  obtain ⟨n, b, hcx⟩ := h.cx_eq (s.cl c).ctx
  simp only [State.fetch, h.cl_eq, h.frozen_eq, hcx]

theorem stallCl_eq (c : Nat) : t.stallCl c = s.stallCl c := by
  simp only [State.stallCl, h.cl_eq, h.frozen_eq, h.atEnd_eq, h.fetch_eq, h.coresOf_eq, h.co_eq, h.pushStalled_eq,
    h.buffersFree_eq]

theorem stallCx_eq (x : Nat) : t.stallCx x = s.stallCx x := by
  obtain ⟨n, b, hcx⟩ := h.cx_eq x
  simp only [State.stallCx, h.cl_eq, hcx]

variable {x : Nat} (hx : x < 16)
include hx

/-- An entry of which each context has its own. -/
theorem ctxPar_eq {k : Nat} (hk : k + 16 ≤ 0x800000) : t.par (k + x) = s.par (k + x) := h.par_eq _ (by omega)

theorem clustersOf_eq : t.clustersOf x = s.clustersOf x := by
  simp only [State.clustersOf, h.ctxPar_eq hx (k := K.CONTEXT_CLUSTERS) (by decide)]

theorem busyCx_eq : t.busyCx x = s.busyCx x := by
  obtain ⟨n, b, hcx⟩ := h.cx_eq x
  simp only [State.busyCx, hcx, h.sem_eq, h.ctxPar_eq hx (k := K.CONTEXT_STREAM_CFG) (by decide)]

theorem internal_eq (r : SemRef) : t.internal x r = s.internal x r := by
  have hsems := h.ctxPar_eq hx (k := K.CONTEXT_SEMS) (by decide)
  have hclusters := h.ctxPar_eq hx (k := K.CONTEXT_CLUSTERS) (by decide)
  have hlocal := h.ctxPar_eq hx (k := K.HANG_LOCAL_PKG) (by decide)
  cases r
  case side => simp only [State.internal, State.holds, State.inSideRange, hsems, hclusters]
  case pkg => simp only [State.internal, State.inPkgRange, hsems, hlocal]

theorem blocked_eq : t.blocked x = s.blocked x := by
  funext b
  simp only [State.blocked, h.internal_eq hx]

theorem hangStreams_eq (since : Bool) : t.hangStreams x since = s.hangStreams x since := by
  obtain ⟨n, b, hcx⟩ := h.cx_eq x
  simp only [State.hangStreams, State.busyCl, h.clustersOf_eq hx, h.cl_eq, h.stallCl_eq, h.stallCx_eq, h.blocked_eq hx,
    h.busyCx_eq hx, h.inFlight_eq, hcx]
  rfl

end State.SameStreams

/-! ### A scan (R214, R216) -/

/-- What a scan makes of a context that it judges, whether the condition is met, for `n` scans to a declaration. -/
def Ctx.scanned (c : Ctx) (met : Bool) (n : Nat) : Ctx :=
  let due := met && decide (n ≤ c.scans + 1)
  { c with
    scans := if met && !due then c.scans + 1 else 0
    hung := c.hung || due }

/-- A scan judges the contexts that are OPEN or STOPPED. -/
def State.scanCtx (n : Nat) (s : State) (x : Nat) : State :=
  if (s.cx x).st ≠ .opened && (s.cx x).st ≠ .stopped then s
  else s.modCx x (·.scanned (s.hangStreams x true).isSome n)

/-- The contexts have been judged, and the progress of all streams still stands. -/
def State.scanned (s : State) : State :=
  (List.range 16).foldl (State.scanCtx (s.par K.HANG_SCAN_COUNT)) (s.reach ((s.now / 400000 + 1) * 400000))

/-- The progress of all streams has been cleared. -/
def State.clearProgress (s : State) : State :=
  (List.range 16).foldl (fun s x => s.modCx x (fun c => { c with progress := false }))
    ((List.range 32).foldl (fun s c => s.modCl c (fun l => { l with progress := false })) s)

theorem State.hangScan_eq (s : State) : s.hangScan = s.scanned.clearProgress := rfl

theorem Ctx.scanned_eq (c : Ctx) (met : Bool) (n : Nat) : c.scanned met n = { c with
    scans := if met ∧ c.scans + 1 < n then c.scans + 1 else 0
    hung := c.hung || (met && decide (n ≤ c.scans + 1)) } := by
  cases met
  · rfl
  · simp [Ctx.scanned]

theorem State.scanCtx_cx (n : Nat) (s : State) (x i : Nat) : (s.scanCtx n x).cx i = if i = x then
    (if (s.cx x).st ≠ .opened && (s.cx x).st ≠ .stopped then s.cx x
      else (s.cx x).scanned (s.hangStreams x true).isSome n) else s.cx i := by
  unfold State.scanCtx
  split
  · split
    next hi => rw [hi]
    next => rfl
  · rw [State.modCx_cx]

theorem State.scanCtx_sameStreams (n : Nat) (s : State) (x : Nat) : s.SameStreams (s.scanCtx n x) := by
  unfold State.scanCtx
  split
  · exact .refl s
  · exact .modCx s x fun _ => ⟨_, _, rfl⟩

theorem State.scanCtx_frame (n : Nat) (s : State) (x : Nat) : let t := s.scanCtx n x
    t = { s with ctxs := t.ctxs } := by
  dsimp only
  unfold State.scanCtx
  split <;> rfl

theorem State.scanned_cx (s : State) {x : Nat} (hx : x < 16) : s.scanned.cx x =
    if (s.cx x).st ≠ .opened && (s.cx x).st ≠ .stopped then s.cx x
    else (s.cx x).scanned (s.hangStreams x true).isSome (s.par K.HANG_SCAN_COUNT) := by
  have hreach : s.SameStreams (s.reach ((s.now / 400000 + 1) * 400000)) := .reach s _
  have hfold := (foldl_each (P := s.SameStreams) (get := State.cx) (g := State.scanCtx (s.par K.HANG_SCAN_COUNT))
    (f := fun i c => if c.st ≠ .opened && c.st ≠ .stopped then c
      else c.scanned (s.hangStreams i true).isSome (s.par K.HANG_SCAN_COUNT)) (List.nodup_range (n := 16))
    (fun k _ t ht => ht.trans (t.scanCtx_sameStreams _ k))
    (fun k hk t ht i => by rw [State.scanCtx_cx, ht.hangStreams_eq (List.mem_range.mp hk)]) hreach).2 x
  exact hfold.trans (if_pos (List.mem_range.mpr hx))

/-! ### Folds over contexts -/

theorem State.foldl_ctxs {α : Type} {g : State → α → State} (hg : ∀ s a, ∃ x, g s a = { s with ctxs := x })
    (as : List α) (s : State) : ∃ x, as.foldl g s = { s with ctxs := x } := by
  induction as generalizing s with
  | nil => exact ⟨s.ctxs, rfl⟩
  | cons a as ih =>
    obtain ⟨x, hx⟩ := hg s a
    obtain ⟨y, hy⟩ := ih (g s a)
    exact ⟨y, by rw [List.foldl_cons, hy, hx]⟩

theorem State.foldl_modCx_ctxs (f : Ctx → Ctx) (ks : List Nat) (s : State) :
    ∃ x, ks.foldl (fun s k => s.modCx k f) s = { s with ctxs := x } :=
  State.foldl_ctxs (fun _ _ => ⟨_, rfl⟩) ks s

theorem State.foldl_modCx_cl (f : Ctx → Ctx) (ks : List Nat) (s : State) (c : Nat) :
    (ks.foldl (fun s k => s.modCx k f) s).cl c = s.cl c := by
  obtain ⟨x, hx⟩ := State.foldl_modCx_ctxs f ks s
  rw [hx]
  rfl

theorem State.foldl_modCx_cx (f : Ctx → Ctx) {ks : List Nat} (hks : ks.Nodup) (s : State) (i : Nat) :
    (ks.foldl (fun s k => s.modCx k f) s).cx i = if i ∈ ks then f (s.cx i) else s.cx i :=
  (foldl_each (P := fun _ => True) (get := State.cx) (f := fun _ => f) hks (fun _ _ _ _ => trivial)
    (fun k _ t _ => t.modCx_cx k f) trivial).2 i

theorem State.scanned_frame (s : State) : ∃ x,
    s.scanned = { s with now := (s.now / 400000 + 1) * 400000, ctxs := x } := by
  obtain ⟨x, hx⟩ := State.foldl_ctxs (fun t i => ⟨_, t.scanCtx_frame (s.par K.HANG_SCAN_COUNT) i⟩) (List.range 16)
    (s.reach ((s.now / 400000 + 1) * 400000))
  have hnow : max s.now ((s.now / 400000 + 1) * 400000) = (s.now / 400000 + 1) * 400000 := by omega
  exact ⟨x, by rw [State.scanned, hx, State.reach, hnow]⟩

section
variable (s : State)

theorem State.clearProgress_frame : ∃ c x, s.clearProgress = { s with clusters := c, ctxs := x } := by
  obtain ⟨c, hc⟩ := State.foldl_modCl_clusters (fun l => { l with progress := false }) (List.range 32) s
  obtain ⟨x, hx⟩ := State.foldl_modCx_ctxs (fun l => { l with progress := false }) (List.range 16)
    { s with clusters := c }
  exact ⟨c, x, by rw [State.clearProgress, hc, hx]⟩

theorem State.clearProgress_cl {c : Nat} (hc : c < 32) : s.clearProgress.cl c = { s.cl c with progress := false } := by
  rw [State.clearProgress, State.foldl_modCx_cl, State.foldl_modCl_cl _ List.nodup_range,
    if_pos (List.mem_range.mpr hc)]

theorem State.clearProgress_cx {x : Nat} (hx : x < 16) : s.clearProgress.cx x = { s.cx x with progress := false } := by
  obtain ⟨c, hc⟩ := State.foldl_modCl_clusters (fun l => { l with progress := false }) (List.range 32) s
  rw [State.clearProgress, State.foldl_modCx_cx _ List.nodup_range, if_pos (List.mem_range.mpr hx), hc]
  rfl

end

/-- The first part of O25 (R214, R216). -/
theorem State.hangScan_counts (s : State) : let t := s.hangScan
    t = { s with now := t.now, ctxs := t.ctxs, clusters := t.clusters } ∧ t.now = (s.now / 400000 + 1) * 400000 ∧
    (∀ x, x < 16 → ((s.cx x).st = .opened ∨ (s.cx x).st = .stopped) → t.cx x = { s.cx x with
      scans := if (s.hangStreams x true).isSome ∧ (s.cx x).scans + 1 < s.par K.HANG_SCAN_COUNT
        then (s.cx x).scans + 1 else 0
      hung := (s.cx x).hung || ((s.hangStreams x true).isSome && decide (s.par K.HANG_SCAN_COUNT ≤ (s.cx x).scans + 1))
      progress := false }) ∧
    (∀ x, x < 16 → (s.cx x).st ≠ .opened → (s.cx x).st ≠ .stopped → t.cx x = { s.cx x with progress := false }) ∧
    (∀ c, c < 32 → t.cl c = { s.cl c with progress := false }) := by
  obtain ⟨y, hscanned⟩ := s.scanned_frame
  obtain ⟨c, x, hclear⟩ := s.scanned.clearProgress_frame
  refine ⟨?frame, ?time, fun x hx hst => ?judged, fun x hx hopen hstop => ?other, fun c hc => ?cluster⟩
  case frame => rw [State.hangScan_eq, hclear, hscanned]
  case time => rw [State.hangScan_eq, hclear, hscanned]
  case judged =>
    have hjudged : ((s.cx x).st ≠ .opened && (s.cx x).st ≠ .stopped) = false := by
      obtain h | h := hst <;> simp [h]
    rw [State.hangScan_eq, State.clearProgress_cx _ hx, State.scanned_cx s hx, hjudged, if_neg Bool.false_ne_true,
      Ctx.scanned_eq]
  case other =>
    have hleft : ((s.cx x).st ≠ .opened && (s.cx x).st ≠ .stopped) = true := by simp [hopen, hstop]
    rw [State.hangScan_eq, State.clearProgress_cx _ hx, State.scanned_cx s hx, if_pos hleft]
  case cluster =>
    rw [State.hangScan_eq, State.clearProgress_cl _ hc, hscanned]
    rfl

end Sys2Proof.Machine
end

section
/-!
PROOFS. What a seal, a replay's end and a dump leave of the hang records, and how a hang is declared; a statement of
spec/07_synchronisation.md.
-/

namespace Sys2Proof.Machine

open Sys2Proof.Claims

/-! ### What a seal touches (R328, R332 to R341, R352) -/

/-- `t` is `s` after reports, log entries, charges and verdict messages: no semaphore, core or queue has changed, no
hang record, and no entry that tells of hangs. -/
structure State.Noted (s t : State) : Prop where
  frame : t = { s with od := t.od, ctxs := t.ctxs, mem := t.mem, links := t.links, reports := t.reports,
                       defence := t.defence }
  par_eq : ∀ k, hangEntry k = true → t.par k = s.par k
  cx_eq : ∀ y, (t.cx y).hang = (s.cx y).hang ∧ (t.cx y).hung = (s.cx y).hung

theorem State.Reported.noted {s t : State} (h : s.Reported t) : s.Noted t where
  frame := by rw [h.frame]
  par_eq := h.par_eq
  cx_eq y := by rw [h.cx_eq]; exact ⟨rfl, rfl⟩

namespace State.Noted

theorem refl (s : State) : s.Noted s := (State.Reported.refl s).noted

theorem trans {s t u : State} (hst : s.Noted t) (htu : t.Noted u) : s.Noted u where
  frame := by rw [htu.frame, hst.frame]
  par_eq k hk := (htu.par_eq k hk).trans (hst.par_eq k hk)
  cx_eq y := by
    obtain ⟨hhang, hhung⟩ := hst.cx_eq y
    obtain ⟨hhang', hhung'⟩ := htu.cx_eq y
    exact ⟨hhang'.trans hhang, hhung'.trans hhung⟩

theorem ite {s t u : State} {p : Prop} [Decidable p] (ht : s.Noted t) (hu : s.Noted u) :
    s.Noted (if p then t else u) := by
  split
  · exact ht
  · exact hu

theorem foldl {α : Type} {f : State → α → State} (hf : ∀ (s : State) (a : α), s.Noted (f s a)) (as : List α)
    (s : State) : s.Noted (as.foldl f s) := by
  induction as generalizing s with
  | nil => exact refl s
  | cons a as ih => exact (hf s a).trans (ih (f s a))

theorem bump (s : State) {k : Nat} (n : Nat) (hk : hangEntry k = false) : s.Noted (s.bump k n) :=
  (State.Reported.bump s n hk).noted

theorem modCx (s : State) (x : Nat) {f : Ctx → Ctx} (hf : ∀ c, (f c).hang = c.hang ∧ (f c).hung = c.hung) :
    s.Noted (s.modCx x f) where
  frame := rfl
  par_eq _ _ := rfl
  cx_eq y := by
    rw [State.modCx_cx]
    split
    next hy => rw [hy]; exact hf _
    next => exact ⟨rfl, rfl⟩

theorem writeSpace (s : State) (space a : Nat) (bs : List Nat) : s.Noted (s.writeSpace space a bs) := by
  unfold State.writeSpace
  split <;> exact ⟨rfl, fun _ _ => rfl, fun _ => ⟨rfl, rfl⟩⟩

theorem writeBlock (s : State) (k b : Nat) (v : Block) : s.Noted (s.writeBlock k b v) :=
  (writeSpace s _ _ _).trans (ite (writeSpace _ _ _ _) (refl _))

theorem logEntry (s : State) (x n rcd : Nat) (blk : Option Block) : s.Noted (s.logEntry x n rcd blk).2 := by
  unfold State.logEntry
  dsimp only
  split
  next => exact refl s
  next =>
    split
    · exact refl s
    · dsimp only
      refine trans ?_ (modCx _ x fun _ => ⟨rfl, rfl⟩)
      split
      next => exact (writeBlock s _ _ _).trans (writeSpace _ _ _ _)
      next => exact writeSpace s _ _ _

theorem log (s : State) (x n rcd : Nat) (blk : Option Block) : s.Noted (s.log x n rcd blk) := by
  have hunlogged := (logEntry s x n rcd blk).trans (modCx _ x (f := fun c => { c with
    steps := c.steps.map (fun t => if t.num = n && t.st = .opened then { t with unlogged := true } else t) })
    fun _ => ⟨rfl, rfl⟩)
  exact ite (logEntry s x n rcd blk) (ite (hunlogged.trans (bump _ 1 (by decide))) hunlogged)

theorem health (s : State) (c : Charge) (n : Nat) : s.Noted (s.health c n) :=
  ⟨rfl, fun _ _ => rfl, fun _ => ⟨rfl, rfl⟩⟩

theorem sendVerdict (s : State) (x e : Nat) (m : VMsg) : s.Noted (s.sendVerdict x e m) := by
  refine ite ?_ (refl s)
  obtain ⟨l, hl⟩ := s.sendMask_links (epPorts 0 (s.ep 0 e)) (Msg.make (s.stamp (s.ep 0 e) x (s.cx x).gen 2 1 0)
    ((List.range 4).map (fun i => BitVec.ofNat 128 (m.bytes >>> (128 * i)))))
  rw [hl]
  exact ⟨rfl, fun _ _ => rfl, fun _ => ⟨rfl, rfl⟩⟩

theorem modStep (s : State) (x num attempt : Nat) (f : Step → Step) :
    s.Noted (s.modCx x (fun c => c.modStep num attempt f)) :=
  modCx s x fun _ => ⟨rfl, rfl⟩

theorem issueVerdict (s : State) (x : Nat) (v : VMsg) : s.Noted (s.issueVerdict x v) :=
  (foldl (fun s e => sendVerdict s x e v) _ s).trans (modStep _ x _ _ _)

theorem tryHealth (s : State) (x num attempt : Nat) : s.Noted (s.tryHealth x num attempt) := by
  unfold State.tryHealth
  dsimp only
  split
  next => exact refl s
  next =>
    refine ite (refl s) (ite ?_ (ite (modStep s x _ _ _) ?_))
    · exact (sendVerdict s x _ _).trans (modStep _ x _ _ _)
    · exact (modStep s x _ _ _).trans (issueVerdict _ x _)

theorem tryReplay (s : State) (x num attempt : Nat) : s.Noted (s.tryReplay x num attempt) := by
  unfold State.tryReplay
  dsimp only
  split
  next => exact refl s
  next =>
    refine ite (refl s) (ite ?_ ?_)
    · exact (modStep s x _ _ _).trans (sendVerdict _ x _ _)
    · exact (modStep s x _ _ _).trans (issueVerdict _ x _)

theorem recordReplay (s : State) (x num : Nat) (isMatch : Bool) : s.Noted (s.recordReplay x num isMatch) := by
  have hcounted := (bump s 1 (k := K.STEPS_REPLAYED) (by decide)).trans
    (ite (p := isMatch) (refl _) (bump (k := K.REPLAY_MISSES) _ 1 (by decide)))
  unfold State.recordReplay
  dsimp only
  split
  next => exact hcounted
  next => exact hcounted.trans ((modStep _ x _ _ _).trans (tryReplay _ x _ _))

theorem sealStep (s : State) (x : Nat) (t : Step) : s.Noted (s.sealStep x t) := by
  have hlogged (s : State) (p : Nat × Nat × Nat) : s.Noted (if p.2.2 = 0 then s
      else s.log x t.num (p.1 <<< 110 + 3 <<< 108 + (p.2.1 % 2 ^ 40) <<< 52 + t.attempt <<< 34 + p.2.2 <<< 2) none) :=
    ite (refl s) (log s x _ _ none)
  unfold State.sealStep
  extract_lets logged unl t₁ t₂ w checked charged sealed base sent
  have hcharged : s.Noted charged :=
    ((foldl hlogged t.gathers s).trans (ite (health _ _ _) (refl _))).trans (ite (health _ _ _) (refl _))
  have hsealed : charged.Noted sealed := modCx charged x fun _ => ⟨rfl, rfl⟩
  exact ((hcharged.trans hsealed).trans (sendVerdict _ x _ _)).trans (tryHealth _ x _ _)

end State.Noted

/-! ### What the end of a replay step and a dump touch (R351, R484) -/

/-- From `s` to `t` no hang record has changed, and no entry that tells of hangs. -/
structure State.HangKept (s t : State) : Prop where
  pending_eq : t.pending = s.pending
  part_eq : t.part = s.part
  par_eq : ∀ k, hangEntry k = true → t.par k = s.par k
  cx_eq : ∀ y, (t.cx y).hang = (s.cx y).hang ∧ (t.cx y).hung = (s.cx y).hung

theorem State.Noted.hangKept {s t : State} (h : s.Noted t) : s.HangKept t where
  pending_eq := by rw [h.frame]
  part_eq := by rw [h.frame]
  par_eq := h.par_eq
  cx_eq := h.cx_eq

namespace State.HangKept

theorem refl (s : State) : s.HangKept s := (State.Noted.refl s).hangKept

theorem trans {s t u : State} (hst : s.HangKept t) (htu : t.HangKept u) : s.HangKept u where
  pending_eq := htu.pending_eq.trans hst.pending_eq
  part_eq := htu.part_eq.trans hst.part_eq
  par_eq k hk := (htu.par_eq k hk).trans (hst.par_eq k hk)
  cx_eq y := by
    obtain ⟨hhang, hhung⟩ := hst.cx_eq y
    obtain ⟨hhang', hhung'⟩ := htu.cx_eq y
    exact ⟨hhang'.trans hhang, hhung'.trans hhung⟩

theorem foldl {α : Type} {f : State → α → State} (hf : ∀ (s : State) (a : α), s.HangKept (f s a)) (as : List α)
    (s : State) : s.HangKept (as.foldl f s) := by
  induction as generalizing s with
  | nil => exact refl s
  | cons a as ih => exact (hf s a).trans (ih (f s a))

/-- Neither the dictionary nor a context has changed. -/
theorem of_eq {s t : State} (hpending : t.pending = s.pending) (hpart : t.part = s.part) (hod : t.od = s.od)
    (hctxs : t.ctxs = s.ctxs) : s.HangKept t where
  pending_eq := hpending
  part_eq := hpart
  par_eq k _ := by rw [State.par, State.odDflt, hpart, hod, State.par, State.odDflt]
  cx_eq y := by
    rw [State.cx, hctxs, State.cx]
    exact ⟨rfl, rfl⟩

theorem grantAll_waits (s : State) : ∃ c x, s.grantAll = { s with clusters := c, ctxs := x } := ⟨_, _, rfl⟩

theorem grantAll_cx (s : State) (y : Nat) :
    (s.grantAll.cx y).hang = (s.cx y).hang ∧ (s.grantAll.cx y).hung = (s.cx y).hung := by
  simp only [State.grantAll, State.cx]
  rw [Tbl.get_foldl_range (f := fun (l : Ctx) =>
    { l with wait := l.wait.map (fun w => w.test w.sem (s.sem w.sem)) }) ?_]
  · split <;> exact ⟨rfl, rfl⟩
  · intro t k
    split
    next hnone => exact .inl ⟨rfl, Ctx.mapWait_of_none (Option.isNone_iff_eq_none.mp hnone) _⟩
    next => exact .inr rfl

/-- Restored semaphores grant waits, which are no part of a hang record. -/
theorem grantAll (s : State) : s.HangKept s.grantAll := by
  have hcx := grantAll_cx s
  obtain ⟨c, x, h⟩ := grantAll_waits s
  rw [h] at hcx ⊢
  exact ⟨rfl, rfl, fun _ _ => rfl, hcx⟩

theorem restoreSems (s : State) (x : Nat) (t : Step) : s.HangKept (s.restoreSems x t) := by
  refine trans ?_ (grantAll _)
  exact of_eq rfl rfl rfl rfl

theorem emptyQueues (s : State) (c : Nat) : s.HangKept (s.emptyQueues c) := by
  obtain ⟨y, hy⟩ := s.emptyQueues_cores c
  rw [hy]
  exact of_eq rfl rfl rfl rfl

theorem sealReplay (s : State) (x : Nat) (t : Step) : s.HangKept (s.sealReplay x t) := by
  unfold State.sealReplay
  extract_lets w v clear restored emptied left
  have hemptied : s.HangKept emptied := (restoreSems s x t).trans (foldl (fun s c => emptyQueues s c) _ _)
  have hleft : emptied.HangKept left := 
    (State.Noted.modCx emptied x (f := fun c => { c with replay := none }) fun _ => ⟨rfl, rfl⟩).hangKept
  split
  exact (hemptied.trans hleft).trans (State.Noted.recordReplay _ _ _ _).hangKept

theorem wakeCluster (s : State) (c : Nat) : s.HangKept (s.wakeCluster c) := by
  unfold State.wakeCluster
  split
  · exact refl s
  · refine (State.Noted.bump s 1 (k := K.CLUSTER_WAKES) (by decide)).hangKept.trans ?_
    exact of_eq rfl rfl rfl rfl

theorem startDump (s : State) (trigger : Nat) (before : Bool) : s.HangKept (s.startDump trigger before) := by
  unfold State.startDump
  split
  next => exact of_eq rfl rfl rfl rfl
  next =>
    split
    next => exact (State.Noted.bump s 1 (by decide)).hangKept
    next =>
      extract_lets woken
      have hwoken : s.HangKept woken := by
        unfold woken
        split
        · exact foldl (fun s c => wakeCluster s c) _ s
        · exact refl s
      refine hwoken.trans ?_
      exact of_eq rfl rfl rfl rfl

theorem failStep (s : State) (x cause : Nat) : s.HangKept (s.failStep x cause) := by
  unfold State.failStep
  split
  next => exact (State.Noted.sealStep s x _).hangKept
  next =>
    split
    next =>
      split
      · exact sealReplay s x _
      · exact refl s
    next => exact refl s

end State.HangKept

/-- Without a replay step, only a step can fail (R332). -/
theorem State.failStep_noted {s : State} {x : Nat} (hreplay : (s.cx x).replay = none) (cause : Nat) :
    s.Noted (s.failStep x cause) := by
  unfold State.failStep
  split
  next => exact .sealStep s x _
  next => rw [hreplay]; exact .refl s

/-! ### A declaration (R216 to R218) -/

section
variable (s : State) (x : Nat)

/-- The state in which a declaration has been taken and counted. -/
def State.declared : State := (s.modCx x (fun c => { c with hung := false })).bump K.HANG_DECLARATIONS 1

/-- The first of the blocked streams, which a hang record names; 32 stands for a command stream. -/
def State.firstBlocked : Stall := ((s.hangStreams x false).getD []).headD ⟨32, 0, 0, none⟩

/-- The blocked streams of a context as the bits of a hang record. -/
def State.blockedBits : Nat := (((s.hangStreams x false).getD []).map (fun t => 2 ^ t.waiter)).sum

/-- The state in which a hang has been recorded and flagged, but not reported. -/
def State.hangFlagged : State :=
  ((s.declared x).hangRecord x 1 ((s.declared x).blockedBits x) ((s.declared x).firstBlocked x) 0 0).syncFlag x

/-- The state in which a hang has been reported, where it has a new record. -/
def State.hangReported : State :=
  if !bit ((s.declared x).cx x).hang.toNat 0 then (s.hangFlagged x).reportCtx 0x01 x
    ((s.declared x).blockedBits x + ((s.declared x).firstBlocked x).waiter <<< 33)
  else s.hangFlagged x

end

section
variable {s : State} {x : Nat}

theorem State.declareHang_of_none (h : (s.cx x).hung = false) : s.declareHang x = s := by
  simp [State.declareHang, h]

variable (h : (s.cx x).hung = true)
include h

theorem State.declareHang_of_flagged (hbit : bit (s.par K.SYNC_STATUS) x = true) : s.declareHang x = s.declared x := by
  have hbit' : bit ((s.declared x).par K.SYNC_STATUS) x = true := by
    rw [State.declared, State.bump_par, if_neg (by decide)]
    exact hbit
  unfold State.declared at *
  simp only [State.declareHang, h, hbit', Bool.not_true, Bool.false_eq_true, if_false, if_true]

theorem State.declareHang_of_clear (hbit : bit (s.par K.SYNC_STATUS) x = false) : s.declareHang x =
    (if bit ((s.hangReported x).par K.DUMP_TRIGGERS) 6 then (s.hangReported x).startDump 6 false
      else s.hangReported x).failStep x 1 := by
  have hbit' : bit ((s.declared x).par K.SYNC_STATUS) x = false := by
    rw [State.declared, State.bump_par, if_neg (by decide)]
    exact hbit
  unfold State.hangReported State.hangFlagged State.blockedBits State.firstBlocked State.declared at *
  simp only [State.declareHang, h, hbit', Bool.not_true, Bool.false_eq_true, if_false]

end

section
variable (s : State) (x : Nat)

theorem State.declared_sameStreams : s.SameStreams (s.declared x) :=
  (State.SameStreams.modCx s x fun _ => ⟨_, _, rfl⟩).trans (.bump _ 1 (by decide))

theorem State.declared_par {k : Nat} (hk : k ≠ K.HANG_DECLARATIONS) : (s.declared x).par k = s.par k := by
  rw [State.declared, State.bump_par, if_neg hk]
  rfl

theorem State.declared_counted : counted s (s.declared x) K.HANG_DECLARATIONS 1 := State.bump_par_same _ _ _

theorem State.declared_cx : (s.declared x).cx x = { s.cx x with hung := false } := by
  rw [State.declared, State.bump_cx, State.modCx_cx_same]

/-- What is due to be declared is no part of a hang record. -/
theorem State.declared_hangRecord (cause blocked : Nat) (b : Stall) (die entry : Nat) :
    (((s.declared x).hangRecord x cause blocked b die entry).cx x).hang =
      ((s.hangRecord x cause blocked b die entry).cx x).hang := by
  have hsem := (s.declared_sameStreams x).sem_eq
  simp only [State.hangRecord, State.declared_cx, hsem]
  split
  next => rw [State.declared_cx]
  next =>
    rw [State.modCx_cx_same, State.modCx_cx_same]
    rfl

theorem State.hangFlagged_cx (y : Nat) : (s.hangFlagged x).cx y = ((s.declared x).hangRecord x 1
    ((s.declared x).blockedBits x) ((s.declared x).firstBlocked x) 0 0).cx y := rfl

theorem State.hangReported_reported : (s.hangFlagged x).Reported (s.hangReported x) :=
  .ite (.reportCtx _ _ _ _)

theorem State.hangFlagged_frame : let t := s.hangFlagged x
    t = { s with od := t.od, ctxs := t.ctxs } := by
  dsimp only
  unfold State.hangFlagged State.syncFlag
  rw [State.hangRecord_frame]
  rfl

theorem State.hangFlagged_sync : bit ((s.hangFlagged x).par K.SYNC_STATUS) x = true := State.syncFlag_bit _ _

theorem State.hangFlagged_par {k : Nat} (hk : k ≠ K.SYNC_STATUS) :
    (s.hangFlagged x).par k = (s.declared x).par k := by
  rw [State.hangFlagged, State.syncFlag_par _ _ hk, State.hangRecord_frame]
  rfl

theorem State.hangFlagged_counted : counted s (s.hangFlagged x) K.HANG_DECLARATIONS 1 := by
  rw [counted, State.hangFlagged_par _ _ (by decide)]
  exact s.declared_counted x

/-- Beside its record, a context that is declared hung has only given up its declaration. -/
theorem State.hangFlagged_cx_same :
    (s.hangFlagged x).cx x = { s.cx x with hung := false, hang := ((s.hangFlagged x).cx x).hang } := by
  rw [State.hangFlagged_cx, State.hangRecord_cx, if_pos rfl, State.declared_cx]

theorem State.hangFlagged_hang {x : Nat} (hx : x < 16) : ((s.hangFlagged x).cx x).hang =
    ((s.hangRecord x 1 (s.blockedBits x) (s.firstBlocked x) 0 0).cx x).hang := by
  have hstreams := (s.declared_sameStreams x).hangStreams_eq hx false
  have hbits : (s.declared x).blockedBits x = s.blockedBits x := by rw [State.blockedBits, hstreams, State.blockedBits]
  have hfirst : (s.declared x).firstBlocked x = s.firstBlocked x := by
    rw [State.firstBlocked, hstreams, State.firstBlocked]
  rw [State.hangFlagged_cx, hbits, hfirst, State.declared_hangRecord]

end

section
variable {s : State} {x : Nat} (h : (s.cx x).hung = true) (hbit : bit (s.par K.SYNC_STATUS) x = false)
include h hbit

theorem State.declareHang_hangKept : (s.hangFlagged x).HangKept (s.declareHang x) := by
  have hreported := (s.hangReported_reported x).noted.hangKept
  rw [State.declareHang_of_clear h hbit]
  split
  · exact (hreported.trans (.startDump _ _ _)).trans (.failStep _ _ _)
  · exact hreported.trans (.failStep _ _ _)

/-- With no dump ordered and no replay step, a declaration only reports and fails a step (R332, R484). -/
theorem State.declareHang_noted (hdump : bit (s.par K.DUMP_TRIGGERS) 6 = false) (hreplay : (s.cx x).replay = none) :
    (s.hangFlagged x).Noted (s.declareHang x) := by
  have hreported := s.hangReported_reported x
  have hdump' : bit ((s.hangReported x).par K.DUMP_TRIGGERS) 6 = false := by
    rw [hreported.par_eq _ (by decide), State.hangFlagged_par _ _ (by decide), State.declared_par _ _ (by decide),
      hdump]
  have hreplay' : ((s.hangReported x).cx x).replay = none := by
    rw [hreported.cx_eq, State.hangFlagged_cx_same, hreplay]
  rw [State.declareHang_of_clear h hbit, hdump', if_neg Bool.false_ne_true]
  exact hreported.noted.trans (State.failStep_noted hreplay' _)

end

/-- Settles O25, by `State.hangScan_counts` and by what a declaration does after its record and its flag, which reaches
neither (R214, R216, R217, R218). The time of a scan, that a declaration which is not due does nothing, and that only a
fresh record is reported are the model's choices (log entries 1, 8 and 70). -/
theorem hangsAreScannedForAndDeclared : Obligations.HangsAreScannedForAndDeclared := by
  refine ⟨fun s => ?scan, fun x s => ⟨fun hnone => ?none, fun hdue => ?due⟩⟩
  case scan =>
    obtain ⟨hframe, -⟩ := s.hangScan_counts
    refine ⟨s.hangScan, State.ends_eq_next ?_ ?_, s.hangScan_counts⟩
    all_goals rw [hframe]
  case none => exact exec_next_of_eq rfl (State.declareHang_of_none hnone) rfl rfl
  case due =>
    cases hbit : bit (s.par K.SYNC_STATUS) x
    case true =>
      refine ⟨s.declared x, exec_next_of_eq rfl (State.declareHang_of_flagged hdue hbit) rfl rfl, ?_,
        s.declared_counted x, fun _ => ⟨rfl, s.declared_cx x, fun k hk => s.declared_par x hk⟩, nofun⟩
      rw [State.declared_cx]
    case false =>
      obtain ⟨hpending, hpart, hpar, hcx⟩ := State.declareHang_hangKept hdue hbit
      obtain ⟨hhang, hhung⟩ := hcx x
      have hflagged := s.hangFlagged_frame x
      rw [State.hangFlagged_hang s x.isLt] at hhang
      refine ⟨s.declareHang x, State.ends_eq_next ?pending ?part, ?hung, ?count, nofun,
        fun _ => ⟨?sync, hhang, fun hheld => ?held, fun hdump hreplay => ?quiet⟩⟩
      case pending => rw [hpending, hflagged]
      case part => rw [hpart, hflagged]
      case hung => rw [hhung, State.hangFlagged_cx_same]
      case count => rw [counted, hpar _ (by decide), State.hangFlagged_counted]
      case sync => rw [hpar _ (by decide), State.hangFlagged_sync]
      case held => rw [hhang, State.hangRecord_of_held _ _ _ _ _ _ _ hheld]
      case quiet =>
        have hnoted := (State.declareHang_noted hdue hbit hdump hreplay).frame
        refine ⟨?_, ?_, ?_⟩
        all_goals rw [hnoted, hflagged]

end Sys2Proof.Machine
end

section
/-!
PROOFS. The state after reset, and which bytes a write to memory reaches; statements of spec/08_dma_and_shelves.md.
-/

namespace Sys2Proof.Machine

open Sys2Proof.Claims

/-- Settles O5: the parts of the state after reset, each as the definition writes it. That every byte reads 0, that the
contexts are CLOSED and that the time base is 0 are the model's choice (log 4, log 5). -/
theorem resetIsCanonical : Obligations.ResetIsCanonical :=
  ⟨rfl, fun _ => rfl, fun _ => rfl, fun _ => rfl, fun _ => rfl, fun _ => rfl, fun r => by cases r <;> rfl, rfl, rfl⟩

/-! ### HBM views and their stacks (R360, R605) -/

theorem bits_view (v : Nat) {x : Nat} (hv : v < 256) (hx : x < 2 ^ 40) : bits (v * 2 ^ 40 + x) 47 40 = v := by
  simp only [bits, Nat.shiftRight_eq_div_pow]; omega

theorem bits_viewOffset (v : Nat) {x : Nat} (hx : x < 2 ^ 40) : bits (v * 2 ^ 40 + x) 39 0 = x := by
  simp only [bits, Nat.shiftRight_eq_div_pow]; omega

theorem Part.hbmSites_cases (p : Part) : p.hbmSites.Nodup ∧ p.hbmSites.length ≤ 10 := by
  unfold Part.hbmSites
  split_ifs <;> decide

theorem Part.viewStacks_sublist (p : Part) (v : Nat) : (p.viewStacks v).Sublist p.hbmSites := by
  unfold Part.viewStacks
  split_ifs
  · exact .refl _
  · exact List.filter_sublist
  · exact List.filter_sublist
  · exact List.nil_sublist _

theorem Part.nodup_viewStacks (p : Part) (v : Nat) : (p.viewStacks v).Nodup :=
  (p.viewStacks_sublist v).nodup p.hbmSites_cases.1

theorem Part.viewBytes_lt (p : Part) (v : Nat) : (p.viewStacks v).length * stackBytes < 2 ^ 40 := by
  have hle := (p.viewStacks_sublist v).length_le.trans p.hbmSites_cases.2
  unfold stackBytes
  omega

theorem Part.hbmCell_of_view (p : Part) {v x : Nat} (hv : v < 256) (hx : x < 2 ^ 40) (hl : p.viewStacks v ≠ []) :
    p.hbmCell (v * 2 ^ 40 + x) = (p.viewStacks v).getD (x / 2048 % (p.viewStacks v).length) 0 * 2 ^ 36
      + 2048 * (x / 2048 / (p.viewStacks v).length) + x % 2048 := by
  have hpos : 1 ≤ (p.viewStacks v).length := List.length_pos_iff.2 hl
  simp only [Part.hbmCell, bits_view v hv hx, bits_viewOffset v hx, max_eq_right hpos]

theorem Part.hbmCell_inj (p : Part) {v x y : Nat} (hv : v < 256) (hx : x < (p.viewStacks v).length * stackBytes)
    (hy : y < (p.viewStacks v).length * stackBytes) (h : p.hbmCell (v * 2 ^ 40 + x) = p.hbmCell (v * 2 ^ 40 + y)) :
    x = y := by
  have hlt := p.viewBytes_lt v
  have hl : p.viewStacks v ≠ [] := by
    rintro hnil
    simp [hnil] at hx
  rw [p.hbmCell_of_view hv (hx.trans hlt) hl, p.hbmCell_of_view hv (hy.trans hlt) hl] at h
  have hnodup := p.nodup_viewStacks v
  generalize p.viewStacks v = l at *
  have hpos : 0 < l.length := List.length_pos_iff.2 hl
  have hbound {z : Nat} (hz : z < l.length * stackBytes) : z / 2048 / l.length < 25165824 := by
    rw [Nat.div_div_eq_div_mul]
    refine (Nat.div_lt_iff_lt_mul (by omega)).2 (hz.trans_eq ?_)
    rw [stackBytes]
    ring
  have hbx := hbound hx
  have hby := hbound hy
  have hsite : l.getD (x / 2048 % l.length) 0 = l.getD (y / 2048 % l.length) 0 := by omega
  have hturn : x / 2048 / l.length = y / 2048 / l.length := by omega
  have hin : x % 2048 = y % 2048 := by omega
  have hix := Nat.mod_lt (x / 2048) hpos
  have hiy := Nat.mod_lt (y / 2048) hpos
  rw [List.getD_eq_getElem _ _ hix, List.getD_eq_getElem _ _ hiy, hnodup.getElem_inj_iff] at hsite
  have hblock : x / 2048 = y / 2048 := by
    rw [← Nat.div_add_mod (x / 2048) l.length, ← Nat.div_add_mod (y / 2048) l.length, hsite, hturn]
  omega

/-- Bytes of one 2,048-byte block of a view follow one another in their stack (R362). -/
theorem Part.hbmCell_add (p : Part) {a j : Nat} (h : a % 2048 + j < 2048) : p.hbmCell (a + j) = p.hbmCell a + j := by
  have hview : bits (a + j) 47 40 = bits a 47 40 := by simp only [bits, Nat.shiftRight_eq_div_pow]; omega
  have hoff : bits (a + j) 39 0 = bits a 39 0 + j := by simp only [bits, Nat.shiftRight_eq_div_pow]; omega
  have hblock : (bits a 39 0 + j) / 2048 = bits a 39 0 / 2048 := by simp only [bits, Nat.shiftRight_eq_div_pow]; omega
  have hin : (bits a 39 0 + j) % 2048 = bits a 39 0 % 2048 + j := by
    simp only [bits, Nat.shiftRight_eq_div_pow]; omega
  simp only [Part.hbmCell, hview, hoff, hblock, hin]
  omega

/-! ### The pieces of a write, one per 2,048-byte block (R362) -/

theorem mem_pieces {a n : Nat} {q : Nat × Nat} (hq : q ∈ pieces a n) :
    a ≤ q.1 ∧ q.1 + q.2 ≤ a + n ∧ (q.2 ≠ 0 → q.1 % 2048 + q.2 ≤ 2048) := by
  obtain ⟨i, hi, rfl⟩ := List.mem_map.1 hq
  have hi := List.mem_range.1 hi
  simp only [ceilDiv] at hi
  dsimp only
  omega

theorem exists_piece {a n i : Nat} (hi : i < n) : ∃ q ∈ pieces a n, q.1 ≤ a + i ∧ a + i < q.1 + q.2 := by
  refine ⟨_, List.mem_map.2 ⟨(a + i) / 2048 - a / 2048, List.mem_range.2 ?_, rfl⟩, ?_⟩
  · simp only [ceilDiv]; omega
  · dsimp only
    omega

/-- Store writes that agree on what stands at `y`: it reads as they say where one of them covers it, and as before where
none does. -/
theorem Store.byte_foldl_write {α : Type} (f : α → Nat) (g : α → List Nat) (cov : α → Prop) [DecidablePred cov]
    (y : Nat) (b : BitVec 8) (l : List α)
    (h : ∀ q ∈ l, ∀ m : Store, (m.write (f q) (g q)).byte y = if cov q then b else m.byte y) (m : Store) :
    (l.foldl (fun m q => m.write (f q) (g q)) m).byte y = if ∃ q ∈ l, cov q then b else m.byte y := by
  induction l generalizing m with
  | nil => simp
  | cons q l ih =>
    rw [List.foldl_cons, ih (fun r hr => h r (List.mem_cons_of_mem q hr)), h q List.mem_cons_self]
    by_cases hq : cov q
    · simp [hq]
    · simp [hq]

section
variable {p : Part} {a : Nat} {bs : List Nat} {q : Nat × Nat} (hq : q ∈ pieces a bs.length)
include hq

theorem length_piece : ((bs.drop (q.1 - a)).take q.2).length = q.2 := by
  obtain ⟨hlow, hhigh, -⟩ := mem_pieces hq
  rw [List.length_take, List.length_drop]
  omega

theorem Part.hbmCell_piece {j : Nat} (hj : j < q.2) : p.hbmCell (q.1 + j) = p.hbmCell q.1 + j := by
  obtain ⟨-, -, hblock⟩ := mem_pieces hq
  exact p.hbmCell_add (by omega)

/-- A piece of a write reaches only the cells of the write's bytes. -/
theorem Store.byte_write_piece_out {y : Nat} (hy : ∀ i, i < bs.length → y ≠ p.hbmCell (a + i)) (m : Store) :
    (m.write (p.hbmCell q.1) ((bs.drop (q.1 - a)).take q.2)).byte y = m.byte y := by
  obtain ⟨hlow, hhigh, -⟩ := mem_pieces hq
  rw [Store.byte_write, length_piece hq, if_neg]
  rintro ⟨hfrom, hto⟩
  have hcell := Part.hbmCell_piece (p := p) hq (j := y - p.hbmCell q.1) (by omega)
  refine hy (q.1 - a + (y - p.hbmCell q.1)) (by omega) ?_
  rw [← Nat.add_assoc, Nat.add_sub_cancel' hlow, hcell, Nat.add_sub_cancel' hfrom]

/-- A piece of a write to distinct cells, at the cell of the write's byte `i`. -/
theorem Store.byte_write_piece
    (hinj : ∀ i j, i < bs.length → j < bs.length → p.hbmCell (a + i) = p.hbmCell (a + j) → i = j)
    {i : Nat} (hi : i < bs.length) (m : Store) :
    (m.write (p.hbmCell q.1) ((bs.drop (q.1 - a)).take q.2)).byte (p.hbmCell (a + i)) =
      if q.1 ≤ a + i ∧ a + i < q.1 + q.2 then BitVec.ofNat 8 (bs.getD i 0) else m.byte (p.hbmCell (a + i)) := by
  obtain ⟨hlow, hhigh, -⟩ := mem_pieces hq
  rw [Store.byte_write, length_piece hq]
  by_cases hin : q.1 ≤ a + i ∧ a + i < q.1 + q.2
  · have hcell := Part.hbmCell_piece (p := p) hq (j := a + i - q.1) (by omega)
    rw [Nat.add_sub_cancel' hin.1] at hcell
    rw [if_pos hin, if_pos (by omega), hcell, Nat.add_sub_cancel_left]
    congr 1
    rw [List.getD_eq_getElem?_getD, List.getElem?_take_of_lt (by omega), List.getElem?_drop,
      show q.1 - a + (a + i - q.1) = i by omega, List.getD_eq_getElem?_getD]
  · rw [if_neg hin, if_neg]
    rintro ⟨hfrom, hto⟩
    have hcell := Part.hbmCell_piece (p := p) hq (j := p.hbmCell (a + i) - p.hbmCell q.1) (by omega)
    rw [Nat.add_sub_cancel' hfrom] at hcell
    have hi' := hinj (q.1 - a + (p.hbmCell (a + i) - p.hbmCell q.1)) i (by omega) hi (by
      rw [← Nat.add_assoc, Nat.add_sub_cancel' hlow, hcell])
    omega

end

section
variable {s : State} {a : Nat} {bs : List Nat}

/-- A byte of HBM that no byte of a write has as its cell stays. -/
theorem State.writeSpace_hbm_out {y : Nat} (hy : ∀ i, i < bs.length → y ≠ s.part.hbmCell (a + i)) :
    (s.writeSpace 0 a bs).mem.hbm.byte y = s.mem.hbm.byte y :=
  (Store.byte_foldl_write _ _ (fun _ => False) y 0 _
    (fun _ hq m => (Store.byte_write_piece_out hq hy m).trans (if_neg id).symm) _).trans (if_neg (by simp))

/-- A write to distinct cells leaves each of its bytes in its cell. -/
theorem State.writeSpace_hbm
    (hinj : ∀ i j, i < bs.length → j < bs.length → s.part.hbmCell (a + i) = s.part.hbmCell (a + j) → i = j)
    {i : Nat} (hi : i < bs.length) :
    (s.writeSpace 0 a bs).mem.hbm.byte (s.part.hbmCell (a + i)) = BitVec.ofNat 8 (bs.getD i 0) :=
  (Store.byte_foldl_write _ _ _ _ _ _ (fun _ hq m => Store.byte_write_piece hq hinj hi m) _).trans
    (if_pos (exists_piece hi))

end

theorem Part.hbmCell_view_inj (p : Part) {v o n : Nat} (hv : v < 256)
    (hfit : o + n ≤ (p.viewStacks v).length * stackBytes) (i j : Nat) (hi : i < n) (hj : j < n)
    (h : p.hbmCell (v * 2 ^ 40 + o + i) = p.hbmCell (v * 2 ^ 40 + o + j)) : i = j := by
  rw [Nat.add_assoc, Nat.add_assoc] at h
  exact Nat.add_left_cancel (p.hbmCell_inj hv (hfit.trans_lt' (Nat.add_lt_add_left hi o))
    (hfit.trans_lt' (Nat.add_lt_add_left hj o)) h)

/-- A write to HBM leaves shelves and service memory. -/
theorem State.writeSpace_zero_frame (s : State) (a : Nat) (bs : List Nat) :
    (s.writeSpace 0 a bs).mem.shelf = s.mem.shelf ∧ (s.writeSpace 0 a bs).mem.service = s.mem.service := ⟨rfl, rfl⟩

/-- Settles O29: stores write exactly the bytes named (R228), and a view's blocks rotate over its stacks (R362, R605),
so that its offsets have cells of their own (R360). -/
theorem writesReachTheirBytesAndNoOthers : Obligations.WritesReachTheirBytesAndNoOthers := by
  refine ⟨⟨fun s a x bs => ⟨Store.byte_write _ _ _ _, Store.byte_write _ _ _ _, rfl, rfl, rfl, rfl⟩, ?view⟩,
    fun p v x hv hx hl => p.hbmCell_of_view hv hx hl, fun p v x y hv hx hy h => p.hbmCell_inj hv hx hy h,
    fun p hp => by rw [Part.viewStacks, if_pos rfl, Part.hbmSites, if_pos hp]⟩
  intro s v o bs hv hl hfit a
  obtain ⟨hshelf, hservice⟩ := s.writeSpace_zero_frame a bs
  exact ⟨hshelf, hservice, fun i hi => State.writeSpace_hbm (s.part.hbmCell_view_inj hv hfit) hi,
    fun y hy => State.writeSpace_hbm_out hy⟩

end Sys2Proof.Machine
end

section
/-!
PROOFS. What every function of the model leaves of the memory and of the endpoint table: memory stays in its canonical
form; a statement of spec/08_dma_and_shelves.md. One lemma for each function, in the order of the model's files, by the
branches of its definition.
-/

namespace Sys2Proof.Machine

/-! ### The state's memory and endpoint table together -/

/-- The memory is in its canonical form, where `W` asks for it, and the endpoint table is one of `E`. Every function of
the model that answers a state keeps both, so the sweep below is made once: O6 takes `W` true and any table, O24 takes
`W` false and one table. A function that writes endpoint entries or clears the links is stated for any table. -/
structure State.Tidy (s : State) (W : Prop) (E : Set (Tbl (BitVec 128))) : Prop where
  wf : W → s.mem.wf = true
  eps : s.links.eps ∈ E

theorem Memory.wf_of_hbm {m : Memory} {st : Store} (hm : m.wf = true) (hst : m.hbm.wf = true → st.wf = true) :
    { m with hbm := st }.wf = true := by
  rw [Memory.wf_iff] at *
  obtain ⟨hhbm, hrest⟩ := hm
  exact ⟨hst hhbm, hrest⟩

theorem Memory.wf_of_shelf {m : Memory} {st : Store} (hm : m.wf = true) (hst : m.shelf.wf = true → st.wf = true) :
    { m with shelf := st }.wf = true := by
  rw [Memory.wf_iff] at *
  obtain ⟨hhbm, hshelf, hservice⟩ := hm
  exact ⟨hhbm, hst hshelf, hservice⟩

theorem Memory.wf_of_service {m : Memory} {st : Store} (hm : m.wf = true)
    (hst : m.service.wf = true → st.wf = true) : { m with service := st }.wf = true := by
  rw [Memory.wf_iff] at *
  obtain ⟨hhbm, hshelf, hservice⟩ := hm
  exact ⟨hhbm, hshelf, hst hservice⟩

/-- Steps that each keep the canonical form keep it together. -/
theorem Store.wf_foldl {α : Type} {f : Store → α → Store} (hf : ∀ st a, st.wf = true → (f st a).wf = true)
    {l : List α} {m : Store} (hm : m.wf = true) : (l.foldl f m).wf = true := by
  induction l generalizing m with
  | nil => exact hm
  | cons a l ih => exact ih (hf m a hm)

/-- The state that the checks on a message leave. -/
def Admit.left : Admit → State
  | .ended t => t
  | .lands t _ _ _ _ => t

namespace State.Tidy

/-! ### Rules: changes of other fields, branches and folds -/

variable {s t : State} {W : Prop} {E : Set (Tbl (BitVec 128))}

theorem of_eq (h : s.Tidy W E) (hm : t.mem = s.mem) (he : t.links.eps = s.links.eps) : t.Tidy W E :=
  ⟨hm ▸ h.wf, he ▸ h.eps⟩

/-- A change of any fields but the memory and the endpoint table. Every field is a variable of its own, so that
unification alone matches an update of some of them. -/
theorem frame (h : s.Tidy W E)
    {pending now free part od ctxs clusters cores side pkg posts moves accesses hbm keys groups plans planSt drawers
    rings traces mirrors send power reports defence boot service}
    {ports inbox routes tags reqs waiting held parked} :
    State.Tidy { s with pending := pending, now := now, free := free, part := part, od := od, ctxs := ctxs,
                        clusters := clusters, cores := cores, side := side, pkg := pkg, posts := posts,
                        moves := moves, accesses := accesses, hbm := hbm, keys := keys, groups := groups,
                        plans := plans, planSt := planSt, drawers := drawers, rings := rings, traces := traces,
                        mirrors := mirrors, send := send, power := power, reports := reports, defence := defence,
                        boot := boot, service := service,
                        links := { s.links with ports := ports, inbox := inbox, routes := routes, tags := tags,
                                                reqs := reqs, waiting := waiting, held := held,
                                                parked := parked } } W E :=
  h.of_eq rfl rfl

/-- A change of any fields but the memory, where the links may be set anew. -/
theorem memFrame (h : s.Tidy W E)
    {pending now free part od ctxs clusters cores side pkg posts moves accesses hbm keys groups plans planSt drawers
    rings traces links mirrors send power reports defence boot service} :
    State.Tidy { s with pending := pending, now := now, free := free, part := part, od := od, ctxs := ctxs,
                        clusters := clusters, cores := cores, side := side, pkg := pkg, posts := posts,
                        moves := moves, accesses := accesses, hbm := hbm, keys := keys, groups := groups,
                        plans := plans, planSt := planSt, drawers := drawers, rings := rings, traces := traces,
                        links := links, mirrors := mirrors, send := send, power := power, reports := reports,
                        defence := defence, boot := boot, service := service } W .univ :=
  ⟨h.wf, Set.mem_univ _⟩

/-- A change of the memory that keeps its canonical form. -/
theorem setMem (h : s.Tidy W E) (he : t.links.eps = s.links.eps) (hm : s.mem.wf = true → t.mem.wf = true) :
    t.Tidy W E :=
  ⟨fun hw => hm (h.wf hw), he ▸ h.eps⟩

theorem ite {c : Prop} {_ : Decidable c} (hs : s.Tidy W E) (ht : t.Tidy W E) : (if c then s else t).Tidy W E := by
  split <;> assumption

/-- A change made under a condition, or not at all. -/
theorem whenever {c : Prop} {_ : Decidable c} (h : s.Tidy W E) (ht : s.Tidy W E → t.Tidy W E) :
    (if c then t else s).Tidy W E :=
  .ite (ht h) h

theorem whenNot {c : Prop} {_ : Decidable c} (h : s.Tidy W E) (ht : s.Tidy W E → t.Tidy W E) :
    (if c then s else t).Tidy W E :=
  .ite h (ht h)

theorem ite_fst {α : Type} {c : Prop} {_ : Decidable c} {p q : State × α} (hp : p.1.Tidy W E) (hq : q.1.Tidy W E) :
    (if c then p else q).1.Tidy W E := by
  split <;> assumption

theorem ite_snd {α : Type} {c : Prop} {_ : Decidable c} {p q : α × State} (hp : p.2.Tidy W E) (hq : q.2.Tidy W E) :
    (if c then p else q).2.Tidy W E := by
  split <;> assumption

theorem foldl {α : Type} {f : State → α → State} {l : List α} (hf : ∀ t a, t.Tidy W E → (f t a).Tidy W E)
    (h : s.Tidy W E) :
    (l.foldl f s).Tidy W E := by
  induction l generalizing s with
  | nil => exact h
  | cons a l ih => exact ih (hf s a h)

theorem foldl_fst {α β : Type} {f : State × β → α → State × β} {l : List α} {p : State × β}
    (hf : ∀ p a, p.1.Tidy W E → (f p a).1.Tidy W E) (h : p.1.Tidy W E) : (l.foldl f p).1.Tidy W E := by
  induction l generalizing p with
  | nil => exact h
  | cons a l ih => exact ih (hf p a h)

theorem foldl_snd {α β : Type} {f : β × State → α → β × State} {l : List α} {p : β × State}
    (hf : ∀ p a, p.2.Tidy W E → (f p a).2.Tidy W E) (h : p.2.Tidy W E) : (l.foldl f p).2.Tidy W E := by
  induction l generalizing p with
  | nil => exact h
  | cons a l ih => exact ih (hf p a h)

theorem fst_mk {α : Type} {a : α} (h : s.Tidy W E) : (s, a).1.Tidy W E := h

theorem snd_mk {α : Type} {a : α} (h : s.Tidy W E) : (a, s).2.Tidy W E := h

/-- Every state that a partial step can answer is tidy. -/
def Next (W : Prop) (E : Set (Tbl (BitVec 128))) (o : Option State) : Prop := ∀ u, o = some u → u.Tidy W E

namespace Next
variable {o p : Option State}

theorem none : Next W E none := fun u hu => absurd hu.symm (Option.some_ne_none u)

theorem some (h : s.Tidy W E) : Next W E (some s) := by
  rintro _ ⟨⟩
  exact h

theorem ite {c : Prop} {_ : Decidable c} (ho : Next W E o) (hp : Next W E p) : Next W E (if c then o else p) := by
  split <;> assumption

theorem map {f : State → State} (ho : Next W E o) (hf : ∀ t, t.Tidy W E → (f t).Tidy W E) : Next W E (o.map f) := by
  intro u hu
  obtain ⟨t, ht, rfl⟩ := Option.map_eq_some_iff.1 hu
  exact hf t (ho t ht)

theorem map_fst {α : Type} {r : Option (State × α)} {f : State × α → State} (hr : Next W E (r.map Prod.fst))
    (hf : ∀ p, p.1.Tidy W E → (f p).Tidy W E) : Next W E (r.map f) := by
  intro u hu
  obtain ⟨p, hp, rfl⟩ := Option.map_eq_some_iff.1 hu
  exact hf p (hr _ (by rw [hp]; rfl))

theorem bind {α : Type} {a : Option α} {f : α → Option State} (hf : ∀ x, a = .some x → Next W E (f x)) :
    Next W E (a.bind f) := by
  intro u hu
  obtain ⟨x, hx, hfx⟩ := Option.bind_eq_some_iff.1 hu
  exact hf x hx u hfx

theorem findSome {α : Type} {l : List α} {f : α → Option State} (hf : ∀ x, Next W E (f x)) :
    Next W E (l.findSome? f) := by
  intro u hu
  obtain ⟨x, -, hx⟩ := List.exists_of_findSome?_eq_some hu
  exact hf x u hx

end Next

theorem of_next {o : Option State} (ho : Next W E o) (hs : o = some s) : s.Tidy W E := ho s hs

/-! ### The functions of Machine/Ops -/

theorem setPar (h : s.Tidy W E) {k v} : (s.setPar k v).Tidy W E := h.of_eq rfl rfl

theorem bump (h : s.Tidy W E) {k n} : (s.bump k n).Tidy W E :=
  h.setPar

theorem reach (h : s.Tidy W E) {t} : (s.reach t).Tidy W E := h.of_eq rfl rfl

theorem draw (h : s.Tidy W E) : (s.draw).2.Tidy W E := by
  unfold State.draw
  exact .snd_mk h.frame

theorem setCl (h : s.Tidy W E) {c x} : (s.setCl c x).Tidy W E := h.of_eq rfl rfl

theorem setCo (h : s.Tidy W E) {k x} : (s.setCo k x).Tidy W E := h.of_eq rfl rfl

theorem setCx (h : s.Tidy W E) {x c} : (s.setCx x c).Tidy W E := h.of_eq rfl rfl

theorem modCl (h : s.Tidy W E) {c f} : (s.modCl c f).Tidy W E :=
  h.setCl

theorem modCo (h : s.Tidy W E) {k f} : (s.modCo k f).Tidy W E :=
  h.setCo

theorem modCx (h : s.Tidy W E) {x f} : (s.modCx x f).Tidy W E :=
  h.setCx

theorem dropStale (h : s.Tidy W E) : s.dropStale.Tidy W E :=
  h.bump

theorem progressCl (h : s.Tidy W E) {c} : (s.progressCl c).Tidy W E :=
  h.modCl

theorem progressCx (h : s.Tidy W E) {x} : (s.progressCx x).Tidy W E :=
  h.modCx

theorem writeSpace (h : s.Tidy W E) {space a bs} : (s.writeSpace space a bs).Tidy W E := by
  unfold State.writeSpace
  split
  · exact h.setMem rfl fun hw => Memory.wf_of_hbm hw (Store.wf_writes _ _ _ _)
  · exact h.setMem rfl fun hw => Memory.wf_of_shelf hw (Store.wf_write _ _ _)
  · exact h.setMem rfl fun hw => Memory.wf_of_service hw (Store.wf_write _ _ _)

theorem countBursts (h : s.Tidy W E) {cls a n} : (s.countBursts cls a n).Tidy W E := by
  unfold State.countBursts
  exact .ite h h.bump

theorem countRmw (h : s.Tidy W E) {a n hdr} : (s.countRmw a n hdr).Tidy W E := by
  unfold State.countRmw
  exact .ite h h.bump

theorem bumpFree (h : s.Tidy W E) {k} : (s.bumpFree k).Tidy W E := by
  unfold State.bumpFree
  exact h.draw.bump

theorem trace (h : s.Tidy W E) {d cls ev} : (s.trace d cls ev).Tidy W E := by
  unfold State.trace
  exact .ite h (.ite h.frame.bump (.ite (.bump (.whenever h.frame.bump fun h => h.bump)) (.countRmw (.countBursts
    (.writeSpace (.whenever h.frame.bump fun h => h.bump))))))

theorem event (h : s.Tidy W E) {u code detail} : (s.event u code detail).Tidy W E := by
  unfold State.event
  exact .whenever (.whenever h.frame fun h => h.bump) fun h => h.trace

theorem setPort (h : s.Tidy W E) {p x} : (s.setPort p x).Tidy W E := h.of_eq rfl rfl

theorem sendOn (h : s.Tidy W E) {q p} : (s.sendOn q p).Tidy W E := by
  unfold State.sendOn
  exact .whenNot h.setPort fun h => h.frame

theorem toPort (h : s.Tidy W E) {p m} : (s.toPort p m).Tidy W E :=
  h.sendOn

theorem sendMask (h : s.Tidy W E) {mask m} : (s.sendMask mask m).Tidy W E := by
  unfold State.sendMask
  dsimp only
  split
  · exact h.toPort
  · exact h.frame

theorem unpark (h : s.Tidy W E) : s.unpark.Tidy W E := by
  unfold State.unpark
  exact .foldl (fun _ _ h => h.sendMask) h.frame

theorem sendReport (h : s.Tidy W E) {rcd} : (s.sendReport rcd).Tidy W E := by
  unfold State.sendReport
  dsimp only
  refine .ite h ?_
  split
  · exact h.bump
  · exact h.toPort.bump

theorem report (h : s.Tidy W E) {kind ctx detail} : (s.report kind ctx detail).Tidy W E := by
  unfold State.report
  exact .sendReport (.frame (.ite h.bump h))

theorem reportCtx (h : s.Tidy W E) {kind x detail} : (s.reportCtx kind x detail).Tidy W E :=
  h.report

theorem putSem (h : s.Tidy W E) {r v} : (s.putSem r v).Tidy W E := by
  unfold State.putSem
  split
  · exact h.frame
  · exact h.frame

theorem grant (h : s.Tidy W E) {r} : (s.grant r).Tidy W E := h.of_eq rfl rfl

theorem grantAll (h : s.Tidy W E) : s.grantAll.Tidy W E := by
  unfold State.grantAll
  exact h.frame

theorem applySem (h : s.Tidy W E) {r sub v} : (s.applySem r sub v).Tidy W E := by
  unfold State.applySem
  exact h.putSem.grant

theorem post (h : s.Tidy W E) {p} : (s.post p).Tidy W E := h.of_eq rfl rfl

theorem writeKey (h : s.Tidy W E) {k off bs} : (s.writeKey k off bs).Tidy W E :=
  h.writeSpace

theorem writeHdr (h : s.Tidy W E) {k b h'} : (s.writeHdr k b h').Tidy W E :=
  h.writeSpace

theorem writeBlock (h : s.Tidy W E) {k b x} : (s.writeBlock k b x).Tidy W E := by
  unfold State.writeBlock
  exact .whenever h.writeKey fun h => h.writeHdr

/-! ### The functions of Machine/Steps -/

theorem scored (h : s.Tidy W E) {new} : (s.scored new).Tidy W E := h.of_eq rfl rfl

theorem health (h : s.Tidy W E) {c n} : (s.health c n).Tidy W E := by
  unfold State.health
  exact h.frame.scored

theorem sendEp (h : s.Tidy W E) {io e x mtype vc body} : (s.sendEp io e x mtype vc body).Tidy W E := by
  unfold State.sendEp
  exact .ite h.sendMask h

theorem sendVerdict (h : s.Tidy W E) {x e m} : (s.sendVerdict x e m).Tidy W E :=
  h.sendEp

theorem logEntry (h : s.Tidy W E) {x stepNo rcd blk} : (s.logEntry x stepNo rcd blk).2.Tidy W E := by
  unfold State.logEntry
  dsimp only
  split
  · exact h
  · refine .ite_snd h (.snd_mk (.modCx (.writeKey ?_)))
    split
    · exact h.writeBlock
    · exact h

theorem log (h : s.Tidy W E) {x stepNo rcd blk} : (s.log x stepNo rcd blk).Tidy W E := by
  unfold State.log
  exact .whenNot h.logEntry fun h => .whenever h.modCx fun h => h.bump

theorem logUnder (h : s.Tidy W E) {x step rcd blk} : (s.logUnder x step rcd blk).Tidy W E := by
  unfold State.logUnder
  split
  · exact h
  · exact h.log

theorem issueVerdict (h : s.Tidy W E) {x v} : (s.issueVerdict x v).Tidy W E := by
  unfold State.issueVerdict
  exact .modCx (.foldl (fun _ _ h => h.sendVerdict) h)

theorem tryHealth (h : s.Tidy W E) {x num attempt} : (s.tryHealth x num attempt).Tidy W E := by
  unfold State.tryHealth
  dsimp only
  split
  · exact h
  · exact .ite h (.ite h.sendVerdict.modCx (.ite h.modCx h.modCx.issueVerdict))

theorem tryReplay (h : s.Tidy W E) {x num attempt} : (s.tryReplay x num attempt).Tidy W E := by
  unfold State.tryReplay
  dsimp only
  split
  · exact h
  · exact .ite h (.ite h.modCx.sendVerdict h.modCx.issueVerdict)

theorem recordMiss (h : s.Tidy W E) {x num} : (s.recordMiss x num).Tidy W E := by
  unfold State.recordMiss
  dsimp only
  split
  · exact h.bump
  · exact h.bump.modCx.tryReplay

theorem recordReplay (h : s.Tidy W E) {x num isMatch} : (s.recordReplay x num isMatch).Tidy W E := by
  unfold State.recordReplay
  dsimp only
  split
  · exact .whenNot h.bump fun h => h.bump
  · exact .tryReplay (.modCx (.whenNot h.bump fun h => h.bump))

theorem emptyQueues (h : s.Tidy W E) {c} : (s.emptyQueues c).Tidy W E := by
  unfold State.emptyQueues
  exact .foldl (fun _ _ h => h.modCo) h

theorem restoreSems (h : s.Tidy W E) {x t} : (s.restoreSems x t).Tidy W E := by
  unfold State.restoreSems
  exact h.frame.grantAll

theorem sealReplay (h : s.Tidy W E) {x t} : (s.sealReplay x t).Tidy W E := by
  unfold State.sealReplay
  exact .recordReplay (.modCx (.foldl (fun _ _ h => h.emptyQueues) h.restoreSems))

theorem sealStep (h : s.Tidy W E) {x t} : (s.sealStep x t).Tidy W E := by
  unfold State.sealStep
  exact .tryHealth (.sendVerdict (.modCx (.whenever (.whenever (.foldl (fun _ _ h => .ite h h.log) h)
    fun h => h.health) fun h => h.health)))

theorem failStep (h : s.Tidy W E) {x cause} : (s.failStep x cause).Tidy W E := by
  unfold State.failStep
  split
  · exact h.sealStep
  · split
    · exact .ite h.sealReplay h
    · exact h

theorem stopCtx (h : s.Tidy W E) {x} : (s.stopCtx x).Tidy W E := by
  unfold State.stopCtx
  exact .ite h.modCx.failStep h

/-! ### The functions of Machine/LinkOps -/

theorem setTags (h : s.Tidy W E) {io e t} : (s.setTags io e t).Tidy W E := h.of_eq rfl rfl

theorem issueReq (h : s.Tidy W E) {r} : (s.issueReq r).Tidy W E := by
  unfold State.issueReq
  exact .ite h.frame h.setTags.frame.sendMask

theorem pumpReqs (h : s.Tidy W E) {io e} : (s.pumpReqs io e).Tidy W E := by
  unfold State.pumpReqs
  exact .foldl (fun _ _ h => h.issueReq) h.frame

theorem takeMsg (h : s.Tidy W E) {m} : (s.takeMsg m).Tidy W E := by
  unfold State.takeMsg
  dsimp only
  split
  · exact h
  · exact h.frame.setPort

theorem withhold (h : s.Tidy W E) {x m} : (s.withhold x m).Tidy W E := by
  unfold State.withhold
  dsimp only
  split
  · exact h
  · exact .ite h h.setPort

theorem grantHeld (h : s.Tidy W E) {x} : (s.grantHeld x).Tidy W E := by
  unfold State.grantHeld
  exact .foldl (fun _ _ h => .ite h h.setPort) h

/-! ### The functions of Machine/Arrive -/

theorem setStack (h : s.Tidy W E) {h' x} : (s.setStack h' x).Tidy W E := h.of_eq rfl rfl

theorem bursts (h : s.Tidy W E) {cls k off n} : (s.bursts cls k off n).Tidy W E := by
  unfold State.bursts
  exact .ite h (.ite h.countBursts (.ite h.bumpFree h))

theorem put (h : s.Tidy W E) {cls k off bs hdr} : (s.put cls k off bs hdr).Tidy W E := by
  unfold State.put
  dsimp only
  refine .ite (.countRmw ?_) ?_
  · split
    · exact h.writeKey.bursts.writeHdr
    · exact h.writeKey.bursts
  · split
    · exact h.writeKey.bursts.writeHdr
    · exact h.writeKey.bursts

theorem putChecked (h : s.Tidy W E) {cls x k off bs hdr} : (s.putChecked cls x k off bs hdr).Tidy W E := by
  unfold State.putChecked
  exact .ite h.bump (.ite h.bump h.put)

theorem modMir (h : s.Tidy W E) {x f} : (s.modMir x f).Tidy W E := h.of_eq rfl rfl

theorem markStore (h : s.Tidy W E) {x k off n step} : (s.markStore x k off n step).Tidy W E := by
  unfold State.markStore
  split
  · exact h
  · split
    · exact h.bump
    · exact h.modMir

theorem setDrawer (h : s.Tidy W E) {x d w} : (s.setDrawer x d w).Tidy W E := h.of_eq rfl rfl

theorem pruneDrawer (h : s.Tidy W E) {x d} : (s.pruneDrawer x d).Tidy W E :=
  h.setDrawer

theorem modXfer (h : s.Tidy W E) {c seq f} : (s.modXfer c seq f).Tidy W E :=
  h.modCl

theorem answer (h : s.Tidy W E) {io entry slot status blocks} : (s.answer io entry slot status blocks).Tidy W E := by
  unfold State.answer
  exact .ite h h.setTags.sendMask

theorem accessDone (h : s.Tidy W E) {o st n} : (s.accessDone o st n).Tidy W E := by
  unfold State.accessDone
  dsimp only
  split
  · exact h.modXfer
  · exact .ite h.frame.answer (.ite h h.answer)

theorem waitAt (h : s.Tidy W E) {a} : (s.waitAt a).Tidy W E := h.of_eq rfl rfl

theorem stopStall (h : s.Tidy W E) {c t} : (s.stopStall c t).Tidy W E := by
  unfold State.stopStall
  dsimp only
  split
  · exact h
  · exact h.bump.modXfer

theorem unstall (h : s.Tidy W E) {c t} : (s.unstall c t).Tidy W E := by
  unfold State.unstall
  dsimp only
  split
  · exact h
  · exact h.setDrawer

theorem endStall (h : s.Tidy W E) {c t} : (s.endStall c t).Tidy W E := by
  unfold State.endStall
  exact h.stopStall.unstall

theorem rejudge (h : s.Tidy W E) {x d} : (s.rejudge x d).Tidy W E := by
  unfold State.rejudge
  dsimp only
  refine .ite h (.ite (.foldl (fun _ _ h => ?_) h) (.foldl (fun _ _ h => h.modXfer) h.setDrawer))
  split
  · exact h.stopStall.bump
  · exact h

theorem drawerJoin (h : s.Tidy W E) {x d c seq} : (s.drawerJoin x d c seq).Tidy W E := by
  unfold State.drawerJoin
  exact .ite h (.rejudge (.whenever h.setDrawer fun h => h.bump))

theorem drawerPut (h : s.Tidy W E) {x d entry b p a} : (s.drawerPut x d entry b p a).Tidy W E := by
  unfold State.drawerPut
  dsimp only
  refine .bump (.setDrawer (.ite (.countRmw (.countBursts ?_)) (.bumpFree ?_)))
  · split
    · exact h.writeSpace.writeSpace
    · exact h.writeSpace
  · split
    · exact h.writeSpace.writeSpace
    · exact h.writeSpace

theorem drawerArrive (h : s.Tidy W E) {d entry b a} : (s.drawerArrive d entry b a).Tidy W E := by
  unfold State.drawerArrive
  dsimp only
  refine .ite h.bump.bump.accessDone ?_
  split
  · exact .ite h.bump.accessDone (.ite h.waitAt h.drawerPut.accessDone)
  · split
    · split
      · exact h.setDrawer.drawerPut.accessDone
      · exact h.setDrawer
    · exact h.modXfer.drawerJoin

theorem logWrite (h : s.Tidy W E) {a} : (s.logWrite a).Tidy W E := by
  unfold State.logWrite
  split
  · exact h.logUnder
  · exact h

theorem announceReplay (h : s.Tidy W E) {x} : (s.announceReplay x).Tidy W E := by
  unfold State.announceReplay
  dsimp only
  split
  · exact .ite h (.ite h.modCx.post (.ite h.modCx.recordMiss h))
  · exact h

theorem replayArrived (h : s.Tidy W E) {a} : (s.replayArrived a).Tidy W E := by
  unfold State.replayArrived
  split
  · exact h
  · exact .ite h (.ite h.modCx.announceReplay (.ite h.announceReplay h))

theorem arrive (h : s.Tidy W E) {a} : (s.arrive a).Tidy W E := by
  unfold State.arrive
  dsimp only
  refine .ite h.frame (.ite h.dropStale (.ite h.bump (.ite h.bump.accessDone (.ite h.bump.accessDone ?_))))
  split
  · exact h.drawerArrive
  · refine .ite h.bump.accessDone (.ite h.waitAt (.ite (.waitAt (.modMir (.whenever (.ite h.bump h) fun h => h.bump)))
      (.accessDone (.replayArrived (.logWrite (.ite (.put ?_) (.markStore (.put ?_))))))))
    · split
      · refine .modXfer ?_
        split
        · exact h.bump
        · exact h
      · split
        · exact h.bump
        · exact h
    · split
      · refine .modXfer ?_
        split
        · exact h.bump
        · exact h
      · split
        · exact h.bump
        · exact h

theorem arriveAt (h : s.Tidy W E) {i} : (s.arriveAt i).Tidy W E := by
  unfold State.arriveAt
  split
  · exact h
  · exact h.frame.arrive

theorem releaseHeld (h : s.Tidy W E) : s.releaseHeld.Tidy W E := by
  unfold State.releaseHeld
  exact .foldl (fun _ _ h => h.arrive) h.frame

theorem flushXfer (h : s.Tidy W E) {c seq} : (s.flushXfer c seq).Tidy W E := by
  unfold State.flushXfer
  exact .foldl (fun _ _ h => h.arrive) h.frame

/-! ### The functions of Machine/CoreRun -/

theorem nonfinite (h : s.Tidy W E) {k j e} : (s.nonfinite k j e).Tidy W E := by
  unfold State.nonfinite
  dsimp only
  split
  · exact h.bump.modCx
  · exact .ite h.bump.modCx.modCx (.whenever h.bump.modCx.modCx fun h => h.stopCtx)

theorem applyEff (h : s.Tidy W E) {k j e} : (State.applyEff k j s e).Tidy W E := by
  unfold State.applyEff
  dsimp only
  split
  · exact h.bump
  · exact h.draw.bump
  · exact h.draw.bump
  · exact h.nonfinite
  · exact h.event
  · exact .whenever h.modCx fun h => h.stopCtx
  · exact h.modCo

theorem applyEffs (h : s.Tidy W E) {k j es} : (s.applyEffs k j es).Tidy W E := by
  unfold State.applyEffs
  exact .foldl (fun _ _ h => h.applyEff) h

theorem stalls (h : s.Tidy W E) {k key code} : (s.stalls k key code).Tidy W E := by
  unfold State.stalls
  exact h.draw.bump.modCo

theorem traceProduct (h : s.Tidy W E) {k j fin} : (s.traceProduct k j fin).Tidy W E :=
  h.trace

theorem enterRows (h : s.Tidy W E) {k j} : (s.enterRows k j).Tidy W E := by
  unfold State.enterRows
  exact .ite h (.modCo (.whenever (.ite h.applyEffs h.applyEffs) fun h => h.applyEffs))

theorem runMma (h : s.Tidy W E) {k j reads} : (runMma s k j reads).Tidy W E := by
  unfold Sys2Proof.Machine.runMma
  exact .enterRows (.applyEffs (.setCo (.ite h.draw h)))

theorem runVec (h : s.Tidy W E) {k j o reads} : (runVec s k j o reads).Tidy W E := by
  unfold Sys2Proof.Machine.runVec
  exact h.modCo.applyEffs

theorem runCvt (h : s.Tidy W E) {k j reads} : (runCvt s k j reads).Tidy W E := by
  unfold Sys2Proof.Machine.runCvt
  exact h.modCo.applyEffs

theorem sendMove (h : s.Tidy W E) {k j sent bs} : (s.sendMove k j sent bs).Tidy W E := by
  unfold State.sendMove
  exact .ite h (.ite h.frame h.frame)

theorem sendRead (h : s.Tidy W E) {k old new reads} : (s.sendRead k old new reads).Tidy W E := by
  unfold State.sendRead
  exact .ite h h.sendMove

theorem discards (h : s.Tidy W E) {k j qs} : (s.discards k j qs).Tidy W E := by
  unfold State.discards
  exact .foldl (fun _ _ h => .ite h h.applyEffs) h

theorem runJob (h : s.Tidy W E) {k j reads} : (runJob s k j reads).Tidy W E := by
  unfold Sys2Proof.Machine.runJob
  dsimp only
  split
  · exact h.runMma
  · exact h.modCo
  · exact h.runCvt
  · exact h.discards.modCo
  · exact h.discards.modCo
  · refine .ite h.runVec ?_
    split
    · exact h.modCo
    · exact h.modCo
    · exact h.modCo
    · exact h.modCo
  · exact h.modCo

theorem beginJob (h : s.Tidy W E) {k j} : (beginJob s k j).Tidy W E := by
  unfold Sys2Proof.Machine.beginJob
  dsimp only
  split
  · exact h.setCo.traceProduct
  · exact h.setCo
  · exact .ite h.setCo h.setCo
  · exact h.setCo

theorem meetHalf (h : s.Tidy W E) {k pre j} : (meetHalf k pre s j).1.Tidy W E := by
  unfold Sys2Proof.Machine.meetHalf
  dsimp only
  split
  · exact h
  · exact .ite_fst h (.fst_mk h.setCo)

theorem pushOut {k pre n} {p : State × Job} (h : p.1.Tidy W E) : (pushOut k pre n p).1.Tidy W E := by
  induction n generalizing p with
  | zero => exact h
  | succ n ih =>
    rw [Sys2Proof.Machine.pushOut]
    dsimp only
    split
    · exact h
    · exact .ite_fst h (.ite_fst (ih h.bump) (.ite_fst (ih h.setCo) h))

theorem advanceJob (h : s.Tidy W E) {k pre j} : Next W E (Sys2Proof.Machine.advanceJob s k pre j) := by
  unfold Sys2Proof.Machine.advanceJob
  dsimp only
  split
  · exact .ite (.some h.beginJob) .none
  · split
    · split
      · exact .ite .none (.some h.setCo)
      · refine .ite (.some (.runJob (.whenNot (.sendRead h.setCo) fun h => h.progressCl))) (.ite .none (.some ?_))
        exact .whenNot (.sendRead h.setCo) fun h => h.progressCl
    · refine .ite (.some (.progressCl ?_)) (.ite .none (.some (.progressCl (.modCo (.pushOut h.meetHalf)))))
      exact .whenNot (.whenNot (.whenever (.modCo (.pushOut h.meetHalf)) fun h => h.traceProduct) fun h => h.stalls)
        fun h => h.stalls

theorem advanceFirst (h : s.Tidy W E) {k} (l pre : List Job) : Next W E (Sys2Proof.Machine.advanceFirst s k pre l) := by
  induction l generalizing pre with
  | nil => exact .none
  | cons j l ih =>
    rw [Sys2Proof.Machine.advanceFirst]
    split
    next hu => exact .some (h.advanceJob _ hu)
    next => exact ih _

theorem advanceCores (h : s.Tidy W E) (l : List Nat) : Next W E (Sys2Proof.Machine.advanceCores s l) := by
  induction l with
  | nil => exact .none
  | cons k l ih =>
    rw [Sys2Proof.Machine.advanceCores]
    split
    next hu => exact .some (h.advanceFirst _ _ _ hu)
    next => exact ih

/-! ### The functions of Machine/Dma -/

theorem blockFail (h : s.Tidy W E) {cl x src b} : (s.blockFail cl x src b).Tidy W E := by
  unfold State.blockFail
  exact h.bump.modCx.event

theorem checkBlock (h : s.Tidy W E) {cl x src log b} : (s.checkBlock cl x src log b).1.Tidy W E := by
  unfold State.checkBlock
  exact .ite_fst (.fst_mk (.ite h.modCx h)) (.ite_fst h (.fst_mk h.blockFail))

theorem placeRead (h : s.Tidy W E) {p off n} : (s.placeRead p off n).Tidy W E := by
  unfold State.placeRead
  dsimp only
  split
  · exact h.bursts
  · exact .whenever (.foldl (fun _ _ h => h.countBursts) h) fun h => h.bumpFree

theorem checkPlace (h : s.Tidy W E) {cl x log p bs} : (s.checkPlace cl x log p bs).1.Tidy W E := by
  unfold State.checkPlace
  exact .foldl_fst (fun _ _ h => .fst_mk h.checkBlock) h

theorem readBlocks (h : s.Tidy W E) {cl t p} : (s.readBlocks cl t p).1.Tidy W E := by
  unfold State.readBlocks
  exact .fst_mk (.foldl_fst (fun _ _ h => .ite_fst h (.ite_fst (.fst_mk h.placeRead.checkBlock)
    (.fst_mk h.placeRead))) (.fst_mk (.foldl_fst (fun _ _ h => .ite_fst (.fst_mk h.checkBlock) h)
    (.fst_mk h.placeRead))))

theorem readRows (h : s.Tidy W E) {cl t p} : (s.readRows cl t p).1.Tidy W E := by
  unfold State.readRows
  exact .ite_fst (.fst_mk (.ite_fst (.checkPlace (.foldl (fun _ _ h => h.placeRead) h)) (.fst_mk (.foldl
    (fun _ _ h => h.placeRead) h)))) (.ite_fst (.fst_mk (.ite_fst (.checkPlace (.foldl (fun _ _ h => h.placeRead) h))
    (.fst_mk (.foldl (fun _ _ h => h.placeRead) h)))) (.fst_mk (.ite_fst (.checkPlace (.foldl
    (fun _ _ h => h.placeRead) h)) (.fst_mk (.foldl (fun _ _ h => h.placeRead) h)))))

theorem readGather (h : s.Tidy W E) {t} : (s.readGather t).1.Tidy W E := by
  unfold State.readGather
  exact .ite_fst (.fst_mk (.foldl (fun _ _ h => .ite h.bursts h) h.bursts)) (.fst_mk (.foldl
    (fun _ _ h => .ite h.bursts h) h.bursts))

theorem launch (h : s.Tidy W E) {l} : (s.launch l).Tidy W E := h.of_eq rfl rfl

theorem writeBuilt (h : s.Tidy W E) {c t l} : (s.writeBuilt c t l).Tidy W E :=
  h.launch

theorem writeBlocks (h : s.Tidy W E) {c t l} : (s.writeBlocks c t l).Tidy W E :=
  h.writeBuilt

theorem writeBytes (h : s.Tidy W E) {c t k off bs} : (s.writeBytes c t k off bs).Tidy W E :=
  h.launch

theorem endXfer (h : s.Tidy W E) {c seq st} : (s.endXfer c seq st).Tidy W E :=
  h.modXfer

theorem sendFault (h : s.Tidy W E) {c seq} : (s.sendFault c seq).Tidy W E := by
  unfold State.sendFault
  split
  · exact .ite h h.bump.endXfer
  · exact h

theorem sendBlocks (h : s.Tidy W E) {c t blk l} : (s.sendBlocks c t blk l).Tidy W E := by
  unfold State.sendBlocks
  exact .ite h.sendFault (.ite h.modCx.modXfer h.modCx.issueReq)

theorem sendAll (h : s.Tidy W E) {c t blk l} : (s.sendAll c t blk l).Tidy W E := by
  unfold State.sendAll
  exact .foldl (fun _ _ h => h.sendBlocks) h

theorem setXfer (h : s.Tidy W E) {c t} : (s.setXfer c t).Tidy W E :=
  h.modXfer

theorem headerPass (h : s.Tidy W E) {c t r} : (s.headerPass c t r).Tidy W E :=
  h.setXfer

theorem placeReading (h : s.Tidy W E) {c t r} : (s.placeReading c t r).Tidy W E := by
  unfold State.placeReading
  dsimp only
  split
  · exact h.bump.setXfer
  · exact .ite (.foldl (fun _ _ h => h.sendBlocks) h.bump.setXfer.sendAll) h.bump.setXfer.sendAll.sendAll
  · split
    · exact .whenever h.bump.bump.setXfer.writeBlocks fun h => h.writeBlocks
    · exact .foldl (fun _ _ h => h.writeBytes) (.ite h.bump.bump.setXfer.writeBuilt (.foldl
        (fun _ _ h => h.writeBytes) h.bump.bump.setXfer))

theorem beginXfer (h : s.Tidy W E) {c t} : (s.beginXfer c t).Tidy W E := by
  unfold State.beginXfer
  dsimp only
  refine .ite h.bump.setXfer (.ite h.bump.endXfer (.ite h (.ite (.headerPass ?_) (.placeReading ?_))))
  · split
    · exact h.readBlocks
    · exact h.readRows
    · exact h.readGather
  · split
    · exact h.readBlocks
    · exact h.readRows
    · exact h.readGather

theorem traceDma (h : s.Tidy W E) {c t fin st} : (s.traceDma c t fin st).Tidy W E :=
  h.trace

theorem openWrites (h : s.Tidy W E) {c t} : (s.openWrites c t).Tidy W E := by
  unfold State.openWrites
  dsimp only
  split
  · exact h
  · exact h.setDrawer.modXfer

theorem acceptXfer (h : s.Tidy W E) {c core j} : (s.acceptXfer c core j).Tidy W E := by
  unfold State.acceptXfer
  dsimp only
  refine .ite h.setCl.traceDma.countBursts.bump.endXfer (.ite h.setCl.traceDma.countBursts.bump.endXfer
    (.ite h.setCl.traceDma.countBursts.endXfer (.ite h.setCl.traceDma.countBursts.bump.endXfer
    (.ite h.setCl.traceDma.countBursts.endXfer (.ite h.setCl.traceDma.countBursts.bump.endXfer ?_)))))
  split
  · exact h.setCl.traceDma.countBursts.openWrites.beginXfer
  · split
    · exact h.setCl.traceDma.countBursts.bump.event.endXfer
    · exact h.setCl.traceDma.countBursts.bump.setDrawer.beginXfer

theorem drawerOffer (h : s.Tidy W E) {c t die} : Next W E (s.drawerOffer c t die) := by
  unfold State.drawerOffer
  split
  · exact .none
  · dsimp only
    refine .ite (.some (.launch (.modXfer h.endStall))) (.ite .none ?_)
    split
    · exact .some (.launch (.modXfer (.endStall h.setDrawer)))
    · exact .some h.drawerJoin

theorem drainOne (h : s.Tidy W E) {core q} : Next W E ((s.drainOne core q).map Prod.fst) := by
  unfold State.drainOne
  dsimp only
  split_ifs
  · exact .some h
  · exact .none
  · exact .some h.setCo

theorem checkDrained (h : s.Tidy W E) {c t q b} : (s.checkDrained c t q b).1.Tidy W E :=
  h.checkBlock

theorem emitBytes (h : s.Tidy W E) {c t} : (s.emitBytes c t).Tidy W E := by
  unfold State.emitBytes
  exact .ite (.ite h h.setXfer.sendAll) (.ite (.ite h (.ite h.setXfer h.setXfer.writeBlocks)) (.foldl
    (fun _ _ h => h.writeBytes) h.setXfer))

theorem emitScales (h : s.Tidy W E) {c t before} : (s.emitScales c t before).Tidy W E := by
  unfold State.emitScales
  exact .ite (.ite h h.sendAll) (.ite h.modXfer (.foldl (fun _ _ h => h.writeBytes) h))

theorem emitBlock (h : s.Tidy W E) {c t b} : (s.emitBlock c t b).Tidy W E := by
  unfold State.emitBlock
  exact .ite (.ite h.setXfer.sendBlocks h.setXfer) (.ite h.setXfer h.setXfer.writeBlocks)

theorem emitScaleBlock (h : s.Tidy W E) {c t i b} : (s.emitScaleBlock c t i b).Tidy W E := by
  unfold State.emitScaleBlock
  exact .ite h.sendBlocks (.ite h.setXfer h.writeBlocks)

theorem advanceXfer (h : s.Tidy W E) {c pre t} : Next W E (s.advanceXfer c pre t) := by
  unfold State.advanceXfer
  dsimp only
  refine .ite .none ?_
  split
  · exact .ite (.some (.setXfer h.modCo)) .none
  refine .ite ?_ ?_
  · split
    · exact .ite (.some h.beginXfer) .none
    · exact .none
  split
  next hu =>
    refine .some (.of_next (.findSome fun p => ?_) hu)
    exact .ite .none (.ite (.some h.setXfer) (.ite (.some (.endXfer (.setXfer h.bump)))
      (.ite (.some (.setXfer h.setCo)) .none)))
  split
  next hu =>
    refine .some (.of_next ?_ hu)
    split
    · exact .ite h.drawerOffer .none
    · exact .none
  split
  next hu =>
    refine .some (.of_next (.ite .none (.map_fst h.drainOne fun _ h => ?_)) hu)
    exact .ite h.checkDrained.emitBlock (.emitBytes (.setXfer h.checkDrained))
  refine .ite .none (.ite (.map_fst h.drainOne fun _ h => .emitScales (.emitBytes (.setXfer h.checkDrained))) ?_)
  split
  · exact .none
  · exact .ite .none (.map_fst h.drainOne fun _ h => .emitScaleBlock (.setXfer h.checkDrained))

theorem advanceXfers (h : s.Tidy W E) {c} (l pre : List Xfer) : Next W E (s.advanceXfers c pre l) := by
  induction l generalizing pre with
  | nil => exact .none
  | cons t l ih =>
    rw [State.advanceXfers]
    split
    next hu => exact .some (h.advanceXfer _ hu)
    next => exact ih _

theorem acceptNext (h : s.Tidy W E) {c} : Next W E (s.acceptNext c) := by
  unfold State.acceptNext
  exact .ite .none (.findSome fun k => .bind fun j _ => .ite .none (.some (.progressCl (.acceptXfer h.modCo))))

theorem moveDone (h : s.Tidy W E) {m st} : (s.moveDone m st).Tidy W E := by
  unfold State.moveDone
  split
  · exact h
  · exact h.answer

theorem landMove (h : s.Tidy W E) {c} : Next W E (s.landMove c) := by
  unfold State.landMove
  extract_lets gone
  split
  · exact .none
  · refine .ite (.some (.moveDone (.bump h.frame))) ?_
    split
    · exact .some h.frame
    next m _ _ b r _ =>
      extract_lets put logged landed
      have hput : put.Tidy W E := .whenNot h fun h => h.modCo
      have hlogged : logged.Tidy W E := by
        unfold logged
        split
        · exact hput.logUnder
        · exact hput
      have hlanded : landed.Tidy W E := .whenNot hlogged fun h => h.progressCl
      exact .ite (.some (.moveDone hlanded.frame)) (.some hlogged.frame)

theorem advanceCluster (h : s.Tidy W E) {c} : Next W E (s.advanceCluster c) := by
  unfold State.advanceCluster
  split
  next hu => exact .some (h.advanceCores _ _ hu)
  split
  next hu => exact .some (h.acceptNext _ hu)
  split
  next hu => exact .some (h.advanceXfers _ _ _ hu).progressCl
  next => exact .map h.landMove fun _ h => h.progressCl

theorem settleFor (h : s.Tidy W E) {c} {n : Nat} : (State.settleFor c n s).Tidy W E := by
  induction n generalizing s with
  | zero => exact h
  | succ n ih =>
    rw [State.settleFor]
    split
    · exact h
    next hu => exact ih (h.advanceCluster _ hu)

theorem countStalls (h : s.Tidy W E) {c} : (s.countStalls c).Tidy W E := by
  unfold State.countStalls
  exact .foldl (fun _ _ h => .whenever (.ite h.stalls h) fun h => h.stalls) h

theorem settle (h : s.Tidy W E) {c} : (s.settle c).Tidy W E := by
  unfold State.settle
  exact h.settleFor.countStalls

theorem drawerReadDone (h : s.Tidy W E) {t} : (s.drawerReadDone t).Tidy W E := by
  unfold State.drawerReadDone
  dsimp only
  split
  · exact h
  · exact h.setDrawer.pruneDrawer.rejudge

theorem drawerWriteDone (h : s.Tidy W E) {c t} : (s.drawerWriteDone c t).Tidy W E := by
  unfold State.drawerWriteDone
  dsimp only
  split
  · exact h
  · exact h.setDrawer.pruneDrawer

theorem completeXfer (h : s.Tidy W E) {c t silent} : (s.completeXfer c t silent).Tidy W E := by
  unfold State.completeXfer
  dsimp only
  split
  · exact .whenNot h.modCl.drawerReadDone.drawerWriteDone.traceDma fun h => .ite h.putChecked h.bump
  · exact .post (.whenNot h.modCl.drawerReadDone.drawerWriteDone.traceDma fun h => .ite h.putChecked h.bump)

theorem orphanReqs (h : s.Tidy W E) {c seq} : (s.orphanReqs c seq).Tidy W E := h.of_eq rfl rfl

/-! ### The functions of Machine/Plans -/

theorem setPlan (h : s.Tidy W E) {p q} : (s.setPlan p q).Tidy W E := h.of_eq rfl rfl

theorem planPost (h : s.Tidy W E) {f i} : (s.planPost f i).Tidy W E :=
  h.post

theorem gatherRun (h : s.Tidy W E) {f p} {n : Nat} : (State.gatherRun f p n s).Tidy W E := by
  induction n generalizing s with
  | zero => exact h
  | succ n ih =>
    rw [State.gatherRun]
    dsimp only
    split
    · exact h
    · exact .ite h (ih (.planPost h.setPlan))

/-! ### The functions of Machine/Gathers -/

theorem enginePut (h : s.Tidy W E) {x k off b} : (s.enginePut x k off b).Tidy W E :=
  h.putChecked

theorem engineNonfinite (h : s.Tidy W E) {x n} : (s.engineNonfinite x n).Tidy W E := by
  unfold State.engineNonfinite
  exact .ite h h.bump.modCx

theorem vote (h : s.Tidy W E) {n} : (s.vote n).Tidy W E := by
  unfold State.vote
  exact .ite h h.bump.health

theorem voted (h : s.Tidy W E) {f rs} : (s.voted f rs).1.Tidy W E := by
  unfold State.voted
  exact .fst_mk h.frame.vote

theorem toE4M3 (h : s.Tidy W E) {x tensor step bl} : (s.toE4M3 x tensor step bl).1.Tidy W E := by
  unfold State.toE4M3
  exact .fst_mk (.engineNonfinite (.whenNot (.whenNot (.whenNot h.voted fun h => h.bump) fun h => h.bump)
    fun h => h.bump))

theorem putScales (h : s.Tidy W E) {f slot tensor step bad bytes} :
    (s.putScales f slot tensor step bad bytes).Tidy W E :=
  h.enginePut

theorem landUnit (h : s.Tidy W E) {f p u bl} : (s.landUnit f p u bl).Tidy W E := by
  unfold State.landUnit
  exact .gatherRun (.setPlan (.whenNot (.foldl (fun _ _ h => h.enginePut) h.engineNonfinite) fun h => h.putScales))

theorem landStale (h : s.Tidy W E) {f p u} : (s.landStale f p u).Tidy W E := by
  unfold State.landStale
  exact h.bump.modCx.landUnit

theorem unitBlocksIn (h : s.Tidy W E) {f p entry tensor unit l} :
    (s.unitBlocksIn f p entry tensor unit l).Tidy W E := by
  unfold State.unitBlocksIn
  dsimp only
  split
  · exact h
  · exact .whenNot h.setPlan fun h => .ite h.landUnit h.landStale

theorem judgeGather (h : s.Tidy W E) {f g} : (s.judgeGather f g).1.Tidy W E := by
  unfold State.judgeGather
  dsimp only
  refine .foldl_fst (fun _ _ h => .ite_fst h ?_) h
  split
  · exact .fst_mk h.bursts
  · exact .fst_mk h.bursts.bump
  · exact h
  · exact .ite_fst h (.fst_mk h.bump)

theorem replyGather (h : s.Tidy W E) {f p g} : (s.replyGather f p g).Tidy W E := by
  unfold State.replyGather
  exact .ite (.unitBlocksIn (.ite_fst (.fst_mk h.bump) (.ite_fst (.fst_mk h.bump) h.bump.toE4M3))) (.foldl
    (fun _ _ h => h.sendEp) (.ite_fst (.fst_mk h.bump) (.ite_fst (.fst_mk h.bump) h.bump.toE4M3)))

theorem serveGather (h : s.Tidy W E) {f p g} : (s.serveGather f p g).Tidy W E := by
  unfold State.serveGather
  exact .ite h.bump (.ite h.judgeGather.replyGather h.judgeGather.setPlan)

theorem regather (h : s.Tidy W E) : s.regather.Tidy W E := by
  unfold State.regather
  dsimp only
  refine .foldl (fun _ _ h => ?_) h
  split
  · exact h
  · exact .ite h (.foldl (fun _ _ h => h.serveGather) h.setPlan)

theorem releaseWrites (h : s.Tidy W E) : s.releaseWrites.Tidy W E := by
  unfold State.releaseWrites
  exact h.releaseHeld.regather

/-! ### The functions of Machine/Copies -/

theorem setCopy (h : s.Tidy W E) {x k c} : (s.setCopy x k c).Tidy W E := by
  unfold State.setCopy
  dsimp only
  split
  · exact h.modMir
  · exact h.modMir
  · exact h.frame
  · exact h.modMir

theorem sendRun (h : s.Tidy W E) {x c run} : (s.sendRun x c run).Tidy W E := by
  unfold State.sendRun
  dsimp only
  refine .issueReq ?_
  split
  · exact .bump (.setCopy (.foldl_fst (fun _ _ h => .fst_mk h.bursts.checkBlock) h))
  · exact .bump (.setCopy (.foldl_fst (fun _ _ h => .fst_mk h.bursts.checkBlock) h))
  · exact .bump (.setCopy (.foldl_fst (fun _ _ h => .fst_mk h.bursts.checkBlock) h))
  · exact .setCopy (.foldl_fst (fun _ _ h => .fst_mk h.bursts.checkBlock) h)

theorem closeCopy (h : s.Tidy W E) {x c} : (s.closeCopy x c).Tidy W E := by
  unfold State.closeCopy
  exact h.setCopy.issueReq

theorem pumpCopy (h : s.Tidy W E) {x k} {n : Nat} : (State.pumpCopy x k n s).Tidy W E := by
  induction n generalizing s with
  | zero => exact h
  | succ n ih =>
    rw [State.pumpCopy]
    dsimp only
    split
    · exact h
    · exact .ite (.ite h (ih h.sendRun)) (.ite h.closeCopy h)

theorem runCopy (h : s.Tidy W E) {x k} : (s.runCopy x k).Tidy W E := by
  unfold State.runCopy
  exact h.pumpCopy.releaseWrites

theorem startMirror (h : s.Tidy W E) {x step set} : (s.startMirror x step set).Tidy W E := by
  unfold State.startMirror
  exact h.modMir.runCopy

theorem startCkpt (h : s.Tidy W E) {x step} : (s.startCkpt x step).Tidy W E := by
  unfold State.startCkpt
  dsimp only
  split
  · exact h
  · exact h.modMir.runCopy

theorem startIdle (h : s.Tidy W E) {x} : (s.startIdle x).Tidy W E := by
  unfold State.startIdle
  exact .ite h (.startCkpt (.ite h.startMirror h))

theorem startAtCommit (h : s.Tidy W E) {x step} : (s.startAtCommit x step).Tidy W E := by
  unfold State.startAtCommit
  exact .startCkpt (.whenever h.modMir fun h => h.startMirror)

theorem orphanCopy (h : s.Tidy W E) {x k} : (s.orphanCopy x k).Tidy W E := h.of_eq rfl rfl

theorem startLog (h : s.Tidy W E) {x} : (s.startLog x).Tidy W E := by
  unfold State.startLog
  dsimp only
  split
  · exact h
  · exact .ite h h.modMir.runCopy

theorem endCopy (h : s.Tidy W E) {x k} : (s.endCopy x k).Tidy W E := by
  unfold State.endCopy
  exact h.orphanCopy.setCopy.releaseWrites.startIdle.startLog

theorem copyComplete (h : s.Tidy W E) {x c} : (s.copyComplete x c).Tidy W E := by
  unfold State.copyComplete
  dsimp only
  refine .endCopy ?_
  split
  · exact h.modMir
  · exact h.modMir
  · exact h.frame
  · exact h

theorem copyFail (h : s.Tidy W E) {x c status} : (s.copyFail x c status).Tidy W E := by
  unfold State.copyFail
  dsimp only
  refine .endCopy ?_
  split
  · exact h.bump.modMir.event.report
  · exact h.modMir.event.report
  · exact h.frame.event.report
  · exact h

theorem copyResp (h : s.Tidy W E) {x kind closing ok status short} :
    (s.copyResp x kind closing ok status short).Tidy W E := by
  unfold State.copyResp
  dsimp only
  split
  · exact h
  · exact .ite h.copyFail (.ite h.copyComplete h.setCopy.runCopy)

theorem requestFull (h : s.Tidy W E) {x} : (s.requestFull x).Tidy W E := by
  unfold State.requestFull
  exact h.modMir.startIdle

theorem mirrorCtrl (h : s.Tidy W E) {x} : (s.mirrorCtrl x).Tidy W E := by
  unfold State.mirrorCtrl
  exact h.modMir.requestFull

theorem mirrorRetryDue (h : s.Tidy W E) {x} : (s.mirrorRetryDue x).Tidy W E := by
  unfold State.mirrorRetryDue
  split
  · exact h
  · exact h.reach.modMir.requestFull

theorem wardrobeSendWrite (h : s.Tidy W E) {v} : (s.wardrobeSendWrite v).Tidy W E := by
  unfold State.wardrobeSendWrite
  exact .ite h.frame h.frame.runCopy

theorem ckptWrite (h : s.Tidy W E) {x v} : (s.ckptWrite x v).Tidy W E := by
  unfold State.ckptWrite
  exact .ite h.modMir h.modMir.startIdle

theorem restoreReason (h : s.Tidy W E) {x want} : (s.restoreReason x want).1.Tidy W E := by
  unfold State.restoreReason
  exact .ite_fst h (.ite_fst h (.ite_fst h (.ite_fst (.fst_mk (.foldl_fst (fun _ _ h => .fst_mk h.checkBlock)
    (.fst_mk h.bursts))) (.ite_fst (.fst_mk (.foldl_fst (fun _ _ h => .fst_mk h.checkBlock) (.fst_mk h.bursts)))
    (.ite_fst (.fst_mk (.foldl_fst (fun _ _ h => .fst_mk h.checkBlock) (.fst_mk h.bursts))) (.ite_fst (.fst_mk
    (.foldl_fst (fun _ _ h => .fst_mk h.checkBlock) (.fst_mk h.bursts))) (.ite_fst (.fst_mk (.foldl_fst
    (fun _ _ h => .fst_mk h.checkBlock) (.fst_mk h.bursts))) (.fst_mk (.foldl_fst (fun _ _ h => .fst_mk h.checkBlock)
    (.fst_mk h.bursts))))))))))

theorem refuseRestore (h : s.Tidy W E) {x want reason} : (s.refuseRestore x want reason).Tidy W E := by
  unfold State.refuseRestore
  exact h.modMir.bump.event.report

theorem restoreWrite (h : s.Tidy W E) {x want} : (s.restoreWrite x want).Tidy W E := by
  unfold State.restoreWrite
  exact .ite h.restoreReason.refuseRestore h.restoreReason.modMir

theorem restoreEnd (h : s.Tidy W E) {x} : (s.restoreEnd x).Tidy W E := by
  unfold State.restoreEnd
  dsimp only
  split
  · exact h
  · refine .ite h.modMir.refuseRestore (.requestFull (.regather (.modMir (.modCx (.foldl (fun _ _ h => ?_) h.modMir)))))
    split
    · exact h
    · exact h.bursts.put

/-! ### The functions of Machine/Sequencer -/

theorem broadcast (h : s.Tidy W E) {c o} : (s.broadcast c o).Tidy W E := by
  unfold State.broadcast
  dsimp only
  split
  · exact h
  · exact .ite h (.settle (.modCl (.foldl (fun _ _ h => h.modCo) h)))

theorem seqNop (h : s.Tidy W E) {c} : (s.seqNop c).Tidy W E := by
  unfold State.seqNop
  split
  · exact h
  · exact h.modCl

theorem seqLoop (h : s.Tidy W E) {c} : (s.seqLoop c).Tidy W E := by
  unfold State.seqLoop
  dsimp only
  split
  · exact h
  · exact h.modCl

theorem seqEnd (h : s.Tidy W E) {c} : (s.seqEnd c).Tidy W E := by
  unfold State.seqEnd
  split
  · exact h
  · exact h.modCl

theorem traceSem (h : s.Tidy W E) {c code f index v} : (s.traceSem c code f index v).Tidy W E :=
  h.trace

theorem seqWait (h : s.Tidy W E) {c} : (s.seqWait c).Tidy W E := by
  unfold State.seqWait
  dsimp only
  split
  · exact h
  · exact .ite h.traceSem.traceSem.modCl h.traceSem.modCl

theorem emitPost (h : s.Tidy W E) {c w} : (s.emitPost c w).Tidy W E := by
  unfold State.emitPost
  exact .ite h.traceSem.post (.ite h.traceSem.bump (.whenNot h.traceSem fun h => h.issueReq))

theorem seqPost (h : s.Tidy W E) {c o} : (s.seqPost c o).Tidy W E := by
  unfold State.seqPost
  dsimp only
  split
  · exact h
  · exact .ite h.modCl.emitPost (.ite h.modCl.modCl h)

theorem postNext (h : s.Tidy W E) {c} : (s.postNext c).Tidy W E := by
  unfold State.postNext
  split
  · exact h
  · exact .ite h.modCl.emitPost h

theorem wakeCl (h : s.Tidy W E) {c} : (s.wakeCl c).Tidy W E := by
  unfold State.wakeCl
  dsimp only
  split
  · exact h
  · exact .ite h h.traceSem.modCl

theorem counter (h : s.Tidy W E) {l k i} : (s.counter l k i).1.Tidy W E := by
  unfold State.counter
  exact .ite_fst (.fst_mk h.draw) (.ite_fst h (.ite_fst (.fst_mk h.draw) h))

theorem sample (h : s.Tidy W E) {c fin} : (s.sample c fin).1.Tidy W E := by
  unfold State.sample
  exact .foldl_fst (fun _ _ h => .foldl_fst (fun _ _ h => .fst_mk h.counter) h) h

theorem writeSample (h : s.Tidy W E) {c w} : (s.writeSample c w).Tidy W E := by
  unfold State.writeSample
  exact .ite h.putChecked h.bump

theorem completeCmd (h : s.Tidy W E) {x cmd status code sectNo slot add} :
    (s.completeCmd x cmd status code sectNo slot add).Tidy W E := by
  unfold State.completeCmd
  dsimp only
  split
  · exact h.writeSpace.progressCx
  · exact h.writeSpace.progressCx.post

theorem runBoundary (h : s.Tidy W E) {x c} : (s.runBoundary x c).Tidy W E := by
  unfold State.runBoundary
  exact .foldl (fun _ _ h => h.completeCmd) h.modCx

theorem boundary (h : s.Tidy W E) {c} : (s.boundary c).Tidy W E := by
  unfold State.boundary
  exact .runBoundary (.modCl (.foldl (fun _ _ h => h.modCo) h.sample.writeSample.emptyQueues))

theorem forceBoundary (h : s.Tidy W E) {c} : (s.forceBoundary c).Tidy W E := by
  unfold State.forceBoundary
  exact .ite h.boundary h

theorem arriveMove (h : s.Tidy W E) {m} : (s.arriveMove m).Tidy W E := by
  unfold State.arriveMove
  exact .ite h.settle (.ite (.ite h.dropStale.frame h.dropStale.frame) (.ite
    (.ite h.bump.event.frame h.bump.event.frame) (.ite (.ite h.bump.frame h.bump.frame) h.frame.settle)))

theorem rampDown (h : s.Tidy W E) {k} : (s.rampDown k).Tidy W E := by
  unfold State.rampDown
  dsimp only
  refine .ite h (.ite h.reach.modCo ?_)
  split
  · exact h
  · exact h
  · exact h.reach.bump.modCo
  · exact h.reach.bump.bump.modCo.modCo

theorem rampUp (h : s.Tidy W E) {k} : (s.rampUp k).Tidy W E := by
  unfold State.rampUp
  exact .ite h (.settle (.modCo (.whenNot (.ite h h.reach) fun h => .ite (.ite h (.ite h.bump h.draw.bump))
    (.ite h.bump h.draw.bump.draw.bump))))

/-! ### The functions of Machine/Rollback -/

theorem undoRestore (h : s.Tidy W E) {x num} : (s.undoRestore x num).Tidy W E := by
  unfold State.undoRestore
  exact .foldl (fun _ _ h => .foldl (fun _ _ h => .ite h (.ite h.bump h.put)) h) h

theorem killXfer (h : s.Tidy W E) {c seq st silent} : (s.killXfer c seq st silent).Tidy W E := by
  unfold State.killXfer
  dsimp only
  split
  · exact h
  · split
    · exact h.endStall.orphanReqs.endXfer.completeXfer
    · exact h.endStall.orphanReqs.endXfer

theorem closeDrawers (h : s.Tidy W E) {x steps} : (s.closeDrawers x steps).Tidy W E := by
  unfold State.closeDrawers
  dsimp only
  refine .foldl (fun _ _ h => .ite h (.rejudge (.foldl (fun _ _ h => ?_) h.setDrawer.bump))) h
  split
  · exact .ite h.killXfer h
  · exact h

theorem rollPlans (h : s.Tidy W E) {x t gone} : (s.rollPlans x t gone).Tidy W E := by
  unfold State.rollPlans
  dsimp only
  refine .foldl (fun _ _ h => ?_) h
  split
  · exact .whenNot h.setPlan fun h => h.gatherRun
  · exact h.setPlan

theorem dropCmds (h : s.Tidy W E) {x} : (s.dropCmds x).Tidy W E :=
  h.modCx

theorem stopClusters (h : s.Tidy W E) {x} : (s.stopClusters x).Tidy W E := by
  unfold State.stopClusters
  exact .foldl (fun _ _ h => .ite h.forceBoundary h) h

theorem recordVerdict (h : s.Tidy W E) {x v} : (s.recordVerdict x v).Tidy W E :=
  h.modCx

theorem rollback (h : s.Tidy W E) {x v} : (s.rollback x v).Tidy W E := by
  unfold State.rollback
  dsimp only
  split
  · exact h
  · exact .startIdle (.releaseWrites (.recordVerdict (.bump (.modCx (.setCopy (.modMir (.foldl
      (fun _ _ h => h.completeCmd) (.rollPlans (.closeDrawers (.restoreSems (.foldl (fun _ _ h => h.undoRestore)
      (.grantHeld (.frame (.foldl (fun _ _ h => h.killXfer) h.dropCmds.modCx.stopClusters))))))))))))))

theorem awaitDone (h : s.Tidy W E) {x num} : (s.awaitDone x num).Tidy W E := by
  unfold State.awaitDone
  split
  · exact h
  · exact .ite h.modCx.completeCmd h

theorem commitStep (h : s.Tidy W E) {x t v} : (s.commitStep x t v).Tidy W E := by
  unfold State.commitStep
  exact .announceReplay (.awaitDone (.releaseWrites (.startAtCommit (.closeDrawers (.modCx (.recordVerdict (.bump
    (.ite h.health h))))))))

theorem replayStep (h : s.Tidy W E) {x t v} : (s.replayStep x t v).Tidy W E := by
  unfold State.replayStep
  exact .ite (.recordMiss (.whenever h.recordVerdict.modCx fun h => h.modMir.startLog)) (.announceReplay (.tryReplay
    (.whenever h.recordVerdict.modCx fun h => h.modMir.startLog)))

theorem abortStep (h : s.Tidy W E) {x t v} : (s.abortStep x t v).Tidy W E := by
  unfold State.abortStep
  exact .rollback (.whenever (.ite h.health h) fun h => h.health)

theorem applyVerdicts (h : s.Tidy W E) {x} {n : Nat} : (State.applyVerdicts x n s).Tidy W E := by
  induction n generalizing s with
  | zero => exact h
  | succ n ih =>
    rw [State.applyVerdicts]
    dsimp only
    split
    · exact h
    split
    · exact h
    split
    · refine .ite h (ih ?_)
      split
      · exact h.commitStep.tryHealth
      · exact h.commitStep
    · exact .ite h.replayStep h
    · exact h.abortStep

theorem startFenceWait (h : s.Tidy W E) {x} : (s.startFenceWait x).Tidy W E := by
  unfold State.startFenceWait
  exact .ite h h.frame

theorem verdictExpired (h : s.Tidy W E) {x t} : (s.verdictExpired x t).Tidy W E := by
  unfold State.verdictExpired
  exact h.rollback.modCx.bump.report.startFenceWait

theorem stopCopies (h : s.Tidy W E) {x} : (s.stopCopies x).Tidy W E := by
  unfold State.stopCopies
  exact .whenever h.modMir fun h => h.frame

theorem teardown (h : s.Tidy W E) {x soft domain} : (s.teardown x soft domain).Tidy W E := by
  unfold State.teardown
  dsimp only
  refine .ite h (.ite (.bump (.modCx (.frame (.foldl (fun _ _ h => h.setDrawer) (.modCx ?_))))) (.ite (.report (.bump
    (.modCx (.frame (.foldl (fun _ _ h => h.setDrawer) (.modCx ?_)))))) (.startFenceWait (.report (.bump (.modCx
    (.frame (.foldl (fun _ _ h => h.setDrawer) (.modCx ?_)))))))))
  · split
    · exact .foldl (fun _ _ h => h.undoRestore) (.grantHeld (.whenNot (.foldl (fun _ _ h => h.modCl) (.frame (.foldl
        (fun _ _ h => h.setPlan) (.foldl (fun _ _ h => h.completeCmd) h.dropCmds.modCx.stopClusters.stopCopies))))
        fun h => h.bump))
    · exact .recordVerdict (.foldl (fun _ _ h => h.undoRestore) (.grantHeld (.whenNot (.foldl (fun _ _ h => h.modCl)
        (.frame (.foldl (fun _ _ h => h.setPlan) (.foldl (fun _ _ h => h.completeCmd)
        h.dropCmds.modCx.stopClusters.stopCopies)))) fun h => h.bump)))
  · split
    · exact .foldl (fun _ _ h => h.undoRestore) (.grantHeld (.whenNot (.foldl (fun _ _ h => h.modCl) (.frame (.foldl
        (fun _ _ h => h.setPlan) (.foldl (fun _ _ h => h.completeCmd) h.dropCmds.modCx.stopClusters.stopCopies))))
        fun h => h.bump))
    · exact .recordVerdict (.foldl (fun _ _ h => h.undoRestore) (.grantHeld (.whenNot (.foldl (fun _ _ h => h.modCl)
        (.frame (.foldl (fun _ _ h => h.setPlan) (.foldl (fun _ _ h => h.completeCmd)
        h.dropCmds.modCx.stopClusters.stopCopies)))) fun h => h.bump)))
  · split
    · exact .foldl (fun _ _ h => h.undoRestore) (.grantHeld (.whenNot (.foldl (fun _ _ h => h.modCl) (.frame (.foldl
        (fun _ _ h => h.setPlan) (.foldl (fun _ _ h => h.completeCmd) h.dropCmds.modCx.stopClusters.stopCopies))))
        fun h => h.bump))
    · exact .recordVerdict (.foldl (fun _ _ h => h.undoRestore) (.grantHeld (.whenNot (.foldl (fun _ _ h => h.modCl)
        (.frame (.foldl (fun _ _ h => h.setPlan) (.foldl (fun _ _ h => h.completeCmd)
        h.dropCmds.modCx.stopClusters.stopCopies)))) fun h => h.bump)))

/-! ### The functions of Machine/Drawers -/

theorem spillPut (h : s.Tidy W E) {x w i b} : (s.spillPut x w i b).Tidy W E := by
  unfold State.spillPut
  exact .ite h.bump (.ite h.bump h.writeSpace.writeSpace.countBursts.countRmw)

theorem copyPage (h : s.Tidy W E) {x d p slot} : (s.copyPage x d p slot).Tidy W E := by
  unfold State.copyPage
  exact .bump (.setDrawer (.foldl (fun _ _ h => h.checkBlock.bumpFree.spillPut) h))

theorem spillCopy (h : s.Tidy W E) {x d} : (s.spillCopy x d).Tidy W E := by
  unfold State.spillCopy
  dsimp only
  split
  · exact .ite h.copyPage h
  · exact h

theorem serveWaiting (h : s.Tidy W E) {x d} : (s.serveWaiting x d).Tidy W E := by
  unfold State.serveWaiting
  dsimp only
  refine .ite h (.foldl (fun _ _ h => h.settle) (.rejudge (.setDrawer (.foldl (fun _ _ h => ?_) h))))
  split
  · exact h.stopStall
  · exact h

theorem pageGrant (h : s.Tidy W E) {x d} : (s.pageGrant x d).Tidy W E := by
  unfold State.pageGrant
  dsimp only
  split
  · split
    · exact h
    · exact h.setDrawer.serveWaiting
  · exact h.serveWaiting

/-! ### The functions of Machine/Flags -/

theorem modPower (h : s.Tidy W E) {f} : (s.modPower f).Tidy W E := h.of_eq rfl rfl

theorem syncFlag (h : s.Tidy W E) {i} : (s.syncFlag i).Tidy W E :=
  h.setPar

theorem setThermal (h : s.Tidy W E) : s.setThermal.Tidy W E :=
  h.modPower

theorem clearFlags (h : s.Tidy W E) {entry mask} : (s.clearFlags entry mask).Tidy W E := by
  unfold State.clearFlags
  exact .ite h (.ite h.setPar (.ite h.frame h))

/-! ### The functions of Machine/Defence -/

theorem wakeCluster (h : s.Tidy W E) {c} : (s.wakeCluster c).Tidy W E := by
  unfold State.wakeCluster
  exact .ite h h.bump.modCl

theorem testFailed (h : s.Tidy W E) {c rcd} : (s.testFailed c rcd).Tidy W E := by
  unfold State.testFailed
  exact h.frame.bump.event.health

theorem runTests (h : s.Tidy W E) {c en fails} : (s.runTests c en fails).Tidy W E := by
  unfold State.runTests
  exact .foldl (fun _ _ h => h.testFailed) (.whenever h.bump.emptyQueues fun h => .foldl (fun _ _ h => h.modCo) h)

theorem startTest (h : s.Tidy W E) {c} : (s.startTest c).Tidy W E := by
  unfold State.startTest
  exact .ite h (.ite (.modCl (.ite h h.reach)) (.modCl (.wakeCluster (.ite h h.reach))))

theorem endTest (h : s.Tidy W E) {c fails} : (s.endTest c fails).Tidy W E := by
  unfold State.endTest
  dsimp only
  refine .ite h (.runTests (.modCl ?_))
  split
  · exact h.bump
  · exact h

theorem decay (h : s.Tidy W E) : s.decay.Tidy W E := by
  unfold State.decay
  exact h.reach.frame.scored

theorem holdoffEnd (h : s.Tidy W E) : s.holdoffEnd.Tidy W E := by
  unfold State.holdoffEnd
  dsimp only
  split
  · exact h
  · exact .ite h.reach.frame h.reach.frame.bump.report

theorem deferRequest (h : s.Tidy W E) : s.deferRequest.Tidy W E := by
  unfold State.deferRequest
  exact h.frame.bump

theorem expelAccept (h : s.Tidy W E) {seq} : (s.expelAccept seq).Tidy W E := by
  unfold State.expelAccept
  exact .ite h.frame h.bump

theorem expelDefer (h : s.Tidy W E) {seq} : (s.expelDefer seq).Tidy W E := by
  unfold State.expelDefer
  exact .ite h.deferRequest h.bump

theorem answerExpired (h : s.Tidy W E) : s.answerExpired.Tidy W E := by
  unfold State.answerExpired
  exact .ite h h.reach.deferRequest

theorem setObserving (h : s.Tidy W E) {on} : (s.setObserving on).Tidy W E := h.of_eq rfl rfl

/-! ### The functions of Machine/Entries -/

theorem sense (h : s.Tidy W E) : (s.sense).1.Tidy W E := by
  unfold State.sense
  exact .fst_mk h.draw

theorem temperatures (h : s.Tidy W E) : (s.temperatures).1.Tidy W E := by
  unfold State.temperatures
  exact .foldl_fst (fun _ _ h => .ite_fst (.fst_mk h.sense) h) h

theorem shownSample (h : s.Tidy W E) {c} : (s.shownSample c).1.Tidy W E := by
  unfold State.shownSample
  exact .ite_fst h.sample h

theorem readBlob (h : s.Tidy W E) {k} : (s.readBlob k).1.Tidy W E := by
  unfold State.readBlob
  dsimp only
  split
  · exact h
  · exact h
  · exact h.temperatures
  · exact h
  · exact h
  · exact h
  · exact h
  · exact h
  · exact h
  · exact h
  · exact h
  · exact h
  · exact h
  · exact h
  · exact h
  · exact h
  · exact h
  · exact h
  · exact h
  · exact h
  · exact h
  · exact h
  · exact .fst_mk h.shownSample
  · exact h
  · exact h
  · exact h
  · split
    · exact h
    · exact h
    · exact h
  · exact h

theorem readEntry (h : s.Tidy W E) {k} : (s.readEntry k).1.Tidy W E := by
  unfold State.readEntry
  dsimp only
  refine .ite_fst h ?_
  split
  · exact h
  · split
    · exact h.readBlob
    · exact h.readBlob
    · exact .ite_fst (.fst_mk h.draw) h

/-! ### The functions of Machine/Boot -/

theorem modBoot (h : s.Tidy W E) {f} : (s.modBoot f).Tidy W E := h.of_eq rfl rfl

theorem modMgmt (h : s.Tidy W E) {f} : (s.modMgmt f).Tidy W E := h.of_eq rfl rfl

theorem writeNv (h : s.Tidy W E) : s.writeNv.Tidy W E := by
  unfold State.writeNv
  exact h.modMgmt.modBoot

theorem applyNv (h : s.Tidy W E) {k v} : (s.applyNv k v).Tidy W E := by
  unfold State.applyNv
  exact .ite h.modMgmt (.ite h.frame (.ite h.frame h.setPar))

theorem storeNv (h : s.Tidy W E) {k v} : (s.storeNv k v).Tidy W E := by
  unfold State.storeNv
  exact h.modMgmt.writeNv

theorem loadNv (h : s.Tidy W E) : s.loadNv.Tidy W E := by
  unfold State.loadNv
  exact .foldl (fun _ _ h => h.applyNv) (.whenever h.modMgmt fun h => h.writeNv)

theorem stageFlash (h : s.Tidy W E) : s.stageFlash.Tidy W E := by
  unfold State.stageFlash
  exact h.setMem rfl fun hw => Memory.wf_of_service hw (Store.wf_write _ _ _)

theorem trainStack (h : s.Tidy W E) {h' n} : (s.trainStack h' n).Tidy W E := by
  unfold State.trainStack
  exact h.bump.setStack

theorem softAgain (h : s.Tidy W E) {h'} : (s.softAgain h').Tidy W E :=
  h.setStack

theorem trainStacks (h : s.Tidy W E) {b sites cold} : (s.trainStacks b sites cold).Tidy W E := by
  unfold State.trainStacks
  exact .foldl (fun _ _ h => .ite h (.trainStack (.ite h.softAgain h))) h

theorem testDie (h : s.Tidy W E) {b d} : (s.testDie b d).Tidy W E := by
  unfold State.testDie
  exact .foldl (fun _ _ h => h.runTests.modCl) h

theorem dark (_ : s.Tidy W .univ) {mode} : (s.dark mode).Tidy W .univ :=
  ⟨fun _ => rfl, Set.mem_univ _⟩

theorem romRecovery (h : s.Tidy W E) {cause} : (s.romRecovery cause).Tidy W E :=
  h.modBoot

theorem bootFrom5 (h : s.Tidy W E) {b cold} : (s.bootFrom5 b cold).Tidy W E := by
  unfold State.bootFrom5
  exact .ite h.romRecovery.modBoot (.whenever (.modBoot (.foldl
    (fun _ _ h => h.testDie) h.modBoot.modMgmt.trainStacks)) fun h => h.frame.storeNv)

theorem bootFrom4 (h : s.Tidy W E) {b cold} : (s.bootFrom4 b cold).Tidy W E := by
  unfold State.bootFrom4
  exact .ite h.modBoot.stageFlash.bootFrom5 h.modBoot.romRecovery.modBoot

theorem coldBoot (h : s.Tidy W .univ) {b} : (s.coldBoot b).Tidy W .univ := by
  unfold State.coldBoot
  dsimp only
  refine .ite (.romRecovery (.whenever (.loadNv h.memFrame) fun h => h.frame)) ?_
  split
  · exact .bootFrom4 (.whenever (.loadNv h.memFrame) fun h => h.frame)
  · exact .modBoot (.whenever (.loadNv h.memFrame) fun h => h.frame)
  · exact .romRecovery (.whenever (.loadNv h.memFrame) fun h => h.frame)

/-! ### The functions of Machine/Loader -/

theorem finish (h : s.Tidy W E) {x c status code sect slot} : (s.finish x c status code sect slot).Tidy W E := by
  unfold State.finish
  exact h.modCx.completeCmd

theorem writeImage (h : s.Tidy W E) {x img page} : (s.writeImage x img page).Tidy W E := by
  unfold State.writeImage
  exact .foldl (fun _ _ h => .ite (.foldl (fun _ _ h => h.modCl) h) h.writeSpace.modCx) h

theorem load (h : s.Tidy W E) {x} : (s.load x).Tidy W E := by
  unfold State.load
  dsimp only
  split
  · exact h
  · refine .ite h ?_
    split
    · exact h.bump.finish
    · split
      · exact h.bump.finish
      · split
        · exact h.bump.finish
        · exact h.writeImage.finish

theorem loaderReset (h : s.Tidy W E) {x} : (s.loaderReset x).Tidy W E := by
  unfold State.loaderReset
  dsimp only
  split
  · exact h
  · exact .whenNot h.draw fun h => .finish (.foldl (fun _ _ h => h.modCl) h)

theorem loadersReset (h : s.Tidy W E) : s.loadersReset.Tidy W E := by
  unfold State.loadersReset
  exact .foldl (fun _ _ h => h.loaderReset) h

/-! ### The functions of Machine/Recover -/

theorem modResets (h : s.Tidy W E) {f} : (s.modResets f).Tidy W E := h.of_eq rfl rfl

theorem startDump (h : s.Tidy W E) {trigger before} : (s.startDump trigger before).Tidy W E := by
  unfold State.startDump
  dsimp only
  split
  · exact h.frame
  · split
    · exact h.bump
    · exact .frame (.ite (.foldl (fun _ _ h => h.wakeCluster) h) h)

theorem openBytes (h : s.Tidy W E) {n} : (s.openBytes n).1.Tidy W E := by
  unfold State.openBytes
  exact .foldl_fst (fun _ _ h => .fst_mk h.draw) h

theorem dumpSection (h : s.Tidy W E) {typ unit} : (s.section typ unit).1.Tidy W E := by
  unfold State.section
  dsimp only
  split
  case h_4 => exact h.openBytes
  case h_6 => exact h.shownSample
  case h_9 => exact h.openBytes
  case h_14 => exact .fst_mk h.openBytes
  all_goals exact h

theorem writeSection (h : s.Tidy W E) {a q} : (s.writeSection a q).1.Tidy W E := by
  unfold State.writeSection
  exact h.dumpSection.setMem rfl fun hw => Memory.wf_of_service hw (Store.wf_write _ _ _)

theorem endDump (h : s.Tidy W E) {truncated} : (s.endDump truncated).Tidy W E := by
  unfold State.endDump
  split
  · exact h
  · dsimp only
    refine .report (.whenever (.bump ?_) fun h => h.bump)
    exact .setMem (.foldl_fst (fun _ _ h => h.writeSection) (.fst_mk (.ite h.draw h))) rfl
      fun hw => Memory.wf_of_service hw (Store.wf_write _ _ _)

theorem retrainPort (h : s.Tidy W E) {q} : (s.retrainPort q).Tidy W E := by
  unfold State.retrainPort
  exact .ite h h.setPort.bump

theorem enterSpare (h : s.Tidy W .univ) {cause given domain} : (s.enterSpare cause given domain).Tidy W .univ := by
  unfold State.enterSpare
  exact .report (.bump (.memFrame (.setPar (.foldl (fun _ _ h => h.teardown) h))))

theorem clearCore (h : s.Tidy W E) {k} : (s.clearCore k).Tidy W E :=
  h.setCo

theorem clearCluster (h : s.Tidy W E) {c} : (s.clearCluster c).Tidy W E := by
  unfold State.clearCluster
  exact .frame (.setCl (.foldl (fun _ _ h => h.clearCore) h))

theorem clearDie (h : s.Tidy W E) {d} : (s.clearDie d).Tidy W E := by
  unfold State.clearDie
  dsimp only
  refine .foldl (fun _ _ h => .ite h h.setStack) (.foldl (fun _ _ h => h.setDrawer) ?_)
  exact .setMem (.foldl (fun _ _ h => h.clearCluster) h) rfl fun hw => Memory.wf_of_shelf hw (Store.wf_lose _ _)

theorem clearPackage (h : s.Tidy W .univ) : s.clearPackage.Tidy W .univ := by
  unfold State.clearPackage
  exact .foldl (fun _ _ h => .ite h h.setStack) ⟨fun hw => Memory.wf_of_shelf (h.wf hw)
    (Store.wf_loseAll _ _), Set.mem_univ _⟩

theorem capTime (h : s.Tidy W E) : s.capTime.Tidy W E := by
  unfold State.capTime
  exact .ite h.bump h

theorem saveRecovery (h : s.Tidy W E) : s.saveRecovery.Tidy W E := by
  unfold State.saveRecovery
  exact h.setMem rfl fun hw => Memory.wf_of_service hw (Store.wf_lose _ _)

theorem performReset (h : s.Tidy W .univ) {r} : (s.performReset r).Tidy W .univ := by
  unfold State.performReset
  dsimp only
  split
  · exact h.modResets.modMgmt.bump.report.loadersReset
  · exact .report (.bump (.memFrame (.clearPackage (.bump (.capTime (.foldl (fun _ _ h => h.teardown) h.modResets))))))
  · split
    · exact .modCl (.clearCore (.bump (.foldl (fun _ _ h => h.teardown) h.modResets)))
    · exact .clearCluster (.bump (.foldl (fun _ _ h => h.teardown) h.modResets))
    · exact .clearDie (.bump (.saveRecovery (.foldl (fun _ _ h => h.teardown) h.modResets)))
    · exact .retrainPort (.foldl (fun _ _ h => h.teardown) h.modResets)
    · exact .foldl (fun _ _ h => h.teardown) h.modResets

theorem beginReset (h : s.Tidy W .univ) {r} : (s.beginReset r).Tidy W .univ := by
  unfold State.beginReset
  exact .ite (.modResets (.ite h.startDump h)) (.performReset (.ite h.startDump h))

theorem resetWrite (h : s.Tidy W .univ) {d unit} : (s.resetWrite d unit).Tidy W .univ := by
  unfold State.resetWrite
  exact .ite h h.beginReset

theorem queueReset (h : s.Tidy W .univ) {r} : (s.queueReset r).Tidy W .univ := by
  unfold State.queueReset
  dsimp only
  split
  · exact h.beginReset
  · exact .modResets (.ite h.startDump h)

theorem nextReset (h : s.Tidy W .univ) : s.nextReset.Tidy W .univ := by
  unfold State.nextReset
  split
  · exact h.modResets.beginReset
  · exact h

theorem forceWarm (h : s.Tidy W .univ) : s.forceWarm.Tidy W .univ := by
  unfold State.forceWarm
  dsimp only
  split
  · exact h.beginReset
  · exact .ite h (.ite (.ite h h.queueReset) h.modResets.beginReset)

theorem mgmtReset (h : s.Tidy W .univ) {cause} : (s.mgmtReset cause).Tidy W .univ := by
  unfold State.mgmtReset
  exact .ite h.modMgmt.modMgmt.forceWarm h.modMgmt.queueReset

theorem resumeReset (h : s.Tidy W .univ) : s.resumeReset.Tidy W .univ := by
  unfold State.resumeReset
  split
  · exact h
  · exact .ite h.performReset h

theorem repairSite (h : s.Tidy W E) {b site hard} : (s.repairSite b site hard).Tidy W E := by
  unfold State.repairSite
  exact h.frame.setStack.bump.storeNv

theorem resetEnd (h : s.Tidy W .univ) {b} : (s.resetEnd b).Tidy W .univ := by
  unfold State.resetEnd
  dsimp only
  split
  · exact h
  · refine .ite h ?_
    split
    · split
      · split
        · exact h.frame.modResets.trainStacks.testDie.repairSite
        · exact h.frame.modResets.trainStacks.testDie
      · exact h.frame.modResets.bootFrom4.modBoot
      · exact .ite h.frame.modResets.modMgmt h.frame.modResets.forceWarm
      · exact h.frame.modResets
    · split
      · split
        · exact h.frame.modResets.trainStacks.testDie.repairSite
        · exact h.frame.modResets.trainStacks.testDie
      · exact h.frame.modResets.bootFrom4.modBoot
      · exact .ite h.frame.modResets.modMgmt h.frame.modResets.forceWarm
      · exact h.frame.modResets
    · refine .report ?_
      split
      · split
        · exact h.frame.modResets.trainStacks.testDie.repairSite
        · exact h.frame.modResets.trainStacks.testDie
      · exact h.frame.modResets.bootFrom4.modBoot
      · exact .ite h.frame.modResets.modMgmt h.frame.modResets.forceWarm
      · exact h.frame.modResets

theorem stalled (h : s.Tidy W .univ) : s.stalled.Tidy W .univ := by
  unfold State.stalled
  dsimp only
  split
  · exact h
  · exact .ite h (.ite h.reach.report.modResets.romRecovery.modBoot h.reach.report.forceWarm)

/-! ### The functions of Machine/Hang -/

theorem hangScan (h : s.Tidy W E) : s.hangScan.Tidy W E := by
  unfold State.hangScan
  exact .foldl (fun _ _ h => h.modCx) (.foldl (fun _ _ h => h.modCl) (.foldl (fun _ _ h => .ite h h.modCx) h.reach))

theorem hangRecord (h : s.Tidy W E) {x cause blocked t die entry} :
    (s.hangRecord x cause blocked t die entry).Tidy W E := by
  unfold State.hangRecord
  exact .ite h h.modCx

theorem declareHang (h : s.Tidy W E) {x} : (s.declareHang x).Tidy W E := by
  unfold State.declareHang
  exact .ite h (.whenNot h.modCx.bump fun h => .failStep (.whenever (.whenever h.hangRecord.syncFlag
    fun h => h.reportCtx) fun h => h.startDump))

theorem waitExpired (h : s.Tidy W E) {x w t} : (s.waitExpired x w t).Tidy W E := by
  unfold State.waitExpired
  exact .whenever h.reach.hangRecord.syncFlag.bump fun h => h.reportCtx

theorem waitTimeout (h : s.Tidy W E) {st} : (s.waitTimeout st).Tidy W E := by
  unfold State.waitTimeout
  split
  · split
    · exact h
    · exact .ite h h.waitExpired.modCl
  · split
    · exact .ite h h.waitExpired.modCx
    · exact h

theorem stashTimeout (h : s.Tidy W E) {x d} : (s.stashTimeout x d).Tidy W E := by
  unfold State.stashTimeout
  dsimp only
  split
  · exact h
  · exact .ite h.reach.pageGrant (.settle (.whenever h.reach.killXfer.hangRecord.syncFlag.bump.failStep
      fun h => h.reportCtx))

theorem dmaTimeout (h : s.Tidy W E) {c q} : (s.dmaTimeout c q).Tidy W E := by
  unfold State.dmaTimeout
  dsimp only
  split
  · exact h
  · exact .ite h h.reach.killXfer.bump.failStep.reportCtx.settle

/-! ### The functions of Machine/Opening -/

theorem writeKeyEntry (h : s.Tidy W E) {k w} : (s.writeKeyEntry k w).Tidy W E := by
  unfold State.writeKeyEntry
  exact .ite h h.frame

theorem openCtx (h : s.Tidy W E) {x} : (s.openCtx x).Tidy W E := by
  unfold State.openCtx
  exact .ite h (.whenNot (.foldl (fun _ _ h => h.setPlan) (.foldl (fun _ _ h => h.setDrawer) (.grantAll (.frame
    (.foldl (fun _ _ h => h.modCl) h.modCx))))) fun h => h.frame)

/-! ### The functions of Machine/Upsets -/

theorem setRepairs (h : s.Tidy W E) {l} : (s.setRepairs l).Tidy W E := by
  unfold State.setRepairs
  exact h.frame.storeNv

theorem addCandidate (h : s.Tidy W E) {r} : (s.addCandidate r).Tidy W E := by
  unfold State.addCandidate
  dsimp only
  refine .ite h.setRepairs (.ite h.setRepairs ?_)
  split
  · exact h.setRepairs
  · exact h.bump

theorem hbmError (h : s.Tidy W E) {site unc addr flip} : (s.hbmError site unc addr flip).Tidy W E := by
  unfold State.hbmError
  refine .ite h (.ite (.health (.addCandidate (.event (.bump ?_)))) (.ite (.addCandidate (.bump h.setStack))
    (.bump h.setStack)))
  exact h.setStack.setMem rfl fun hw => Memory.wf_of_hbm hw (Store.wf_write _ _ _)

theorem shelfError (h : s.Tidy W E) {c addr dbl flip} : (s.shelfError c addr dbl flip).Tidy W E := by
  unfold State.shelfError
  refine .ite h (.ite (.health (.event (.bump ?_))) h.bump)
  exact h.setMem rfl fun hw => Memory.wf_of_shelf hw (Store.wf_write _ _ _)

theorem qstoreError (h : s.Tidy W E) {k slot sidecar word dbl flip} :
    (s.qstoreError k slot sidecar word dbl flip).Tidy W E := by
  unfold State.qstoreError
  exact .ite h (.ite h.modCo.bump.event.health h.bump)

theorem lpddrError (h : s.Tidy W E) {x unc} : (s.lpddrError x unc).Tidy W E := by
  unfold State.lpddrError
  exact .ite h h.bump

theorem repairCmd (h : s.Tidy W .univ) {v} : (s.repairCmd v).Tidy W .univ := by
  unfold State.repairCmd
  exact .ite h h.setStack.saveRecovery.bumpFree.beginReset

theorem tgWrite (h : s.Tidy W E) {site ch c m} : (s.tgWrite site ch c m).Tidy W E := by
  unfold State.tgWrite
  refine h.setMem rfl fun hw => Memory.wf_of_hbm hw fun hstore => ?_
  refine Store.wf_foldl (fun st pc hst => Store.wf_foldl (fun st i hst => ?_) hst) hstore
  split
  · exact Store.wf_write _ _ _ hst
  · exact hst

theorem setGen (h : s.Tidy W E) {i g} : (s.setGen i g).Tidy W E := h.of_eq rfl rfl

theorem tgStart (h : s.Tidy W E) : s.tgStart.Tidy W E := by
  unfold State.tgStart
  exact .ite h (.ite h.setGen h.setGen)

theorem tgStop (h : s.Tidy W E) : s.tgStop.Tidy W E := by
  unfold State.tgStop
  exact .ite h h.draw.tgWrite.bump.setGen

theorem tgDone (h : s.Tidy W E) {h' ch found} : (s.tgDone h' ch found).Tidy W E := by
  unfold State.tgDone
  exact .ite h h.tgWrite.bump.setGen

theorem tgFinds (h : s.Tidy W E) {h' ch found} : (s.tgFinds h' ch found).Tidy W E := by
  unfold State.tgFinds
  exact .ite h h.setGen

theorem withFaults (h : s.Tidy W E) {l} : (s.withFaults l).Tidy W E := h.of_eq rfl rfl

theorem memError (h : s.Tidy W E) {e} : (s.memError e).Tidy W E := by
  unfold State.memError
  split
  · exact h
  · exact h.hbmError
  · exact h.lpddrError
  · exact h.shelfError
  · exact h.qstoreError
  · exact h.tgFinds
  · exact h.withFaults

/-! ### The functions of Machine/Receive -/

theorem stepCheck (h : s.Tidy W E) {io e x m} : (s.stepCheck io e x m).left.Tidy W E := by
  have hdrop : ((s.takeMsg m).bump K.STEP_ARRIVAL_DROPS 1).Tidy W E := h.takeMsg.bump
  unfold State.stepCheck
  extract_lets c live host id drop
  clear_value id live
  split
  · split
    · exact h.takeMsg
    · exact hdrop
  split
  · exact h.takeMsg
  split
  · exact hdrop
  dsimp only
  split
  · split
    · exact h.withhold
    · dsimp only [Admit.left]
      exact h.takeMsg.frame
  · exact hdrop

theorem judge (h : s.Tidy W E) {io m} : (s.judge io m).left.Tidy W E := by
  have hdrop (k : Nat) : ((s.takeMsg m).bump k 1).Tidy W E := h.takeMsg.bump
  unfold State.judge
  dsimp only
  split_ifs
  case pos => exact hdrop _
  case pos => exact hdrop _
  case pos => exact hdrop _
  case pos => exact hdrop _
  case pos => exact hdrop _
  case pos => exact h.stepCheck
  case neg => exact h.takeMsg

theorem receive (h : s.Tidy W E) {mtype m} {act : State → Nat → Nat → Nat → Option (Nat × Nat) → State}
    (hact : ∀ t io e x step, t.Tidy W E → (act t io e x step).Tidy W E) : (s.receive mtype m act).Tidy W E := by
  unfold State.receive
  split
  · exact h
  next io _ =>
    refine .ite h (.ite h.takeMsg.bump (.ite h.takeMsg.bump ?_))
    have hleft := h.judge (io := io) (m := m)
    split
    next hended => rwa [hended] at hleft
    next hlands =>
      rw [hlands] at hleft
      exact hact _ _ _ _ _ hleft

theorem once (h : s.Tidy W E) {io e m act} (hact : ∀ t, t.Tidy W E → (act t : State).Tidy W E) :
    (s.once io e m act).Tidy W E := by
  unfold State.once
  refine .ite (hact _ h) (.ite ?_ (hact _ h.setTags))
  split
  · exact h.bump.sendMask
  · exact h.bump

theorem checkArrived (h : s.Tidy W E) {io x src l} : (s.checkArrived io x src l).1.Tidy W E := by
  unfold State.checkArrived
  exact .foldl_fst (fun _ _ h => .fst_mk h.checkBlock) h

theorem writeQueue (h : s.Tidy W E) {io e x step m} : (s.writeQueue io e x step m).Tidy W E := by
  unfold State.writeQueue
  exact .ite h.bump.answer (.ite h.bump.event.answer (.ite h.bump.answer h.checkArrived.frame.settle))

theorem writeMemory (h : s.Tidy W E) {io e x step m} : (s.writeMemory io e x step m).Tidy W E := by
  unfold State.writeMemory
  exact .ite h.answer (.ite h.bump.answer h.checkArrived.frame)

theorem landWrite (h : s.Tidy W E) {m io e x step} : (s.landWrite m io e x step).Tidy W E := by
  unfold State.landWrite
  exact h.once fun _ h => .ite h.writeQueue h.writeMemory

theorem landSemOp (h : s.Tidy W E) {m io e x step} : (s.landSemOp m io e x step).Tidy W E := by
  unfold State.landSemOp
  exact .ite h.bump.event (h.once fun _ h => h.logUnder.post.answer)

theorem pumpEntry (h : s.Tidy W E) {io e} : (s.pumpEntry io e).Tidy W E := by
  unfold State.pumpEntry
  dsimp only
  refine .ite h.pumpReqs (.foldl (fun _ _ h => .foldl (fun _ _ h => ?_) h) h.pumpReqs)
  split
  · exact .ite h.runCopy h
  · exact h

theorem reqAnswered (h : s.Tidy W E) {r status blocks} : (s.reqAnswered r status blocks).Tidy W E := by
  unfold State.reqAnswered
  dsimp only
  refine .ite h ?_
  split
  · exact h.modXfer.settle
  · exact h
  · exact h.copyResp

theorem landResp (h : s.Tidy W E) {m io e _x _step} : (s.landResp m io e _x _step).Tidy W E := by
  unfold State.landResp
  dsimp only
  split
  · exact h
  · exact h.frame.reqAnswered.pumpEntry

theorem retransmit (h : s.Tidy W E) {io e tag} : (s.retransmit io e tag).Tidy W E := by
  unfold State.retransmit
  dsimp only
  split
  · exact h
  · exact .ite h h.reach.frame.bump.sendMask

theorem giveUp (h : s.Tidy W E) {r} : (s.giveUp r).Tidy W E := by
  unfold State.giveUp
  refine .ite h ?_
  split
  · exact h.killXfer.settle
  · exact h
  · exact h.copyResp

theorem exhaust (h : s.Tidy W E) {io e tag} : (s.exhaust io e tag).Tidy W E := by
  unfold State.exhaust
  dsimp only
  split
  · exact h
  · exact .ite h (.pumpEntry (.whenever h.reach.bump.event.frame.giveUp fun h => h.reportCtx))

theorem writeEp (h : s.Tidy W .univ) {io e w} : (s.writeEp io e w).Tidy W .univ := by
  unfold State.writeEp
  exact .ite h (.whenNot h.memFrame fun h => .pumpEntry (.foldl (fun _ _ h => h.giveUp) h.frame))

/-! ### The functions of Machine/Collective -/

theorem shapeMismatch (h : s.Tidy W E) {x c} : (s.shapeMismatch x c).Tidy W E := by
  unfold State.shapeMismatch
  exact h.bump.event

theorem addVoted (h : s.Tidy W E) {x a b} : (s.addVoted x a b).1.Tidy W E := by
  unfold State.addVoted
  exact .fst_mk (.engineNonfinite (.whenNot h.voted fun h => h.bump))

theorem gatherFetch (h : s.Tidy W E) {p} : (s.gatherFetch p).Tidy W E := by
  unfold State.gatherFetch
  dsimp only
  split
  · exact h
  · split
    · exact .ite h (.ite h.setPlan.modCx.serveGather h.setPlan.modCx.sendEp)
    · exact h

theorem landGatherReq (h : s.Tidy W E) {m _io e x _step} : (s.landGatherReq m _io e x _step).Tidy W E := by
  unfold State.landGatherReq
  dsimp only
  split
  · exact h.shapeMismatch
  · exact h.serveGather

theorem landGatherReply (h : s.Tidy W E) {m io _e x _step} : (s.landGatherReply m io _e x _step).Tidy W E := by
  unfold State.landGatherReply
  dsimp only
  split
  · exact h.shapeMismatch
  · exact h.checkArrived.unitBlocksIn

theorem gatherTimeout (h : s.Tidy W E) {p} : (s.gatherTimeout p).Tidy W E := by
  unfold State.gatherTimeout
  dsimp only
  split
  · exact h
  · split
    · exact h
    · exact .ite h h.reach.setPlan.landStale

theorem sendPartial (h : s.Tidy W E) {f p r dest} : (s.sendPartial f p r dest).Tidy W E := by
  unfold State.sendPartial
  exact .foldl (fun _ _ h => h.sendEp) (.whenNot h.bump.engineNonfinite fun h => h.bump)

theorem readyRun (h : s.Tidy W E) {f p owned} {n : Nat} : (State.readyRun f p owned n s).Tidy W E := by
  induction n generalizing s with
  | zero => exact h
  | succ n ih =>
    rw [State.readyRun]
    dsimp only
    split
    · exact h
    · exact .ite h (ih (.planPost h.setPlan))

theorem accumulate (h : s.Tidy W E) {f u} : (s.accumulate f u).Tidy W E := by
  unfold State.accumulate
  exact .foldl (fun _ _ h => h.enginePut) (.engineNonfinite (.ite_fst h h.bursts.engineNonfinite.addVoted))

theorem addSums (h : s.Tidy W E) {f p} {n : Nat} : (State.addSums f p n s).Tidy W E := by
  induction n generalizing s with
  | zero => exact h
  | succ n ih =>
    rw [State.addSums]
    dsimp only
    split
    · exact h
    · exact ih (.readyRun (.bump (.accumulate h.setPlan)))

theorem runReduction (h : s.Tidy W E) {f p} {n : Nat} {r} : (State.runReduction f p n s r).Tidy W E := by
  induction n generalizing s r with
  | zero => exact h
  | succ n ih =>
    rw [State.runReduction]
    dsimp only
    refine .ite (.addSums h.setPlan) (.ite h.sendPartial (.ite ?_ (ih h)))
    split
    · exact h.setPlan
    · exact ih (.addVoted h.setPlan)

theorem reduceSubmission (h : s.Tidy W E) {p} : (s.reduceSubmission p).Tidy W E := by
  unfold State.reduceSubmission
  dsimp only
  split
  · exact h
  · split
    · exact .ite h (.whenNot (.planPost (.setPlan (.modCx (.foldl_fst (fun _ _ h => .fst_mk h.checkBlock)
        (.fst_mk h.bursts))))) fun h => .runReduction (.engineNonfinite (.ite h h.bump)))
    · exact h

theorem landPartial (h : s.Tidy W E) {m io e x _step} : (s.landPartial m io e x _step).Tidy W E := by
  unfold State.landPartial
  dsimp only
  split
  · exact h.shapeMismatch
  · split
    · exact .setPlan (.engineNonfinite (.whenNot h.checkArrived fun h => h.bump))
    · exact .runReduction (.setPlan (.setPlan (.engineNonfinite (.whenNot h.checkArrived fun h => h.bump))))

theorem collTimeout (h : s.Tidy W E) {p unit round} : (s.collTimeout p unit round).Tidy W E := by
  unfold State.collTimeout
  dsimp only
  split
  · exact h
  · split
    · exact h
    · exact h.reach.setPlan.bump.event.failStep.reportCtx

theorem accessArrives (h : s.Tidy W E) {e} : (s.accessArrives e).Tidy W E := by
  unfold State.accessArrives
  split
  · exact h.arriveAt.regather
  · exact h.memError

/-! ### The functions of Machine/Commands -/

theorem readCmd (h : s.Tidy W E) {x} : (s.readCmd x).Tidy W E := by
  unfold State.readCmd
  exact .ite h (.ite h.modCx.progressCx.bump.finish (.ite h.modCx.progressCx.modCx (.whenever h.modCx.progressCx
    fun h => h.finish)))

theorem startCluster (h : s.Tidy W E) {x c n} : (s.startCluster x c n).Tidy W E := by
  unfold State.startCluster
  exact .modCl (.foldl (fun _ _ h => h.modCo) h.wakeCluster)

theorem runCmd (h : s.Tidy W E) {x} : (s.runCmd x).Tidy W E := by
  unfold State.runCmd
  dsimp only
  split
  · exact h
  · refine .ite h.finish ?_
    split
    · exact h.finish
    · refine .ite (.foldl (fun _ _ h => h.modCl) h) (.ite h ?_)
      split
      · exact h.finish
      · exact .progressCx (.modCx (.foldl (fun _ _ h => h.startCluster) h))

theorem signalCmd (h : s.Tidy W E) {x} : (s.signalCmd x).Tidy W E := by
  unfold State.signalCmd
  split
  · exact h
  · exact .ite h.finish h

theorem finishWait (h : s.Tidy W E) {x c} : (s.finishWait x c).Tidy W E := by
  unfold State.finishWait
  exact h.modCx.completeCmd

theorem waitCmd (h : s.Tidy W E) {x} : (s.waitCmd x).Tidy W E := by
  unfold State.waitCmd
  dsimp only
  split
  · exact h
  · split
    · exact h
    · exact .ite h.finish (.ite h.finishWait h.modCx)
    · exact .ite h.finishWait h

/-! ### The functions of Machine/CoreRows -/

theorem postArrives (h : s.Tidy W E) {i} : (s.postArrives i).Tidy W E := by
  unfold State.postArrives
  dsimp only
  split
  · exact h
  · exact .ite h (.ite h.frame.dropStale h.frame.applySem)

theorem wake (h : s.Tidy W E) {st} : (s.wake st).Tidy W E := by
  unfold State.wake
  split
  · exact h.wakeCl
  · split
    · exact .ite h.finishWait h
    · exact h

theorem dmaComplete (h : s.Tidy W E) {c seq} : (s.dmaComplete c seq).Tidy W E := by
  unfold State.dmaComplete
  dsimp only
  split
  · exact h
  · split
    · exact h.flushXfer
    · exact .ite h.flushXfer.completeXfer.settle.regather h.flushXfer.regather

theorem programBoundary (h : s.Tidy W E) {c} : (s.programBoundary c).Tidy W E := by
  unfold State.programBoundary
  exact .ite h.boundary h

theorem moveArrives (h : s.Tidy W E) {i} : (s.moveArrives i).Tidy W E := by
  unfold State.moveArrives
  split
  · exact h
  · exact .ite h h.arriveMove

/-! ### The functions of Machine/Ports -/

theorem queueMgmt (h : s.Tidy W E) {q m} : (s.queueMgmt q m).Tidy W E := by
  unfold State.queueMgmt
  exact .ite h.frame (.ite h.bump (.ite h.bump h.frame))

theorem queueWaiting (h : s.Tidy W E) : s.queueWaiting.Tidy W E := by
  unfold State.queueWaiting
  exact .foldl (fun _ _ h => h.queueMgmt) h.frame

theorem takeSlots (h : s.Tidy W E) {q} {n : Nat} : (State.takeSlots q n s).Tidy W E := by
  induction n generalizing s with
  | zero => exact h
  | succ n ih =>
    rw [State.takeSlots]
    dsimp only
    split
    · exact h
    · exact .ite (ih h.setPort) (.ite h (.ite (.ite (ih h.setPort.queueMgmt) (ih (.frame (h.setPort))))
        (ih h.setPort.bump)))

theorem takeFlit (h : s.Tidy W E) {q n bad slots} : (s.takeFlit q n bad slots).Tidy W E := by
  unfold State.takeFlit
  exact .ite (.ite h.setPort h.setPort.takeSlots) (.ite h h.setPort)

theorem codeword (h : s.Tidy W E) {q ok ctl data} : (s.codeword q ok ctl data).Tidy W E := by
  unfold State.codeword
  exact .foldl (fun _ _ h => h.takeFlit) h.setPort

theorem resend (h : s.Tidy W E) {q n} : (s.resend q n).Tidy W E := by
  unfold State.resend
  dsimp only
  split
  · exact h
  · exact h.setPort.bump

theorem pumpPort (h : s.Tidy W E) {q} : (s.pumpPort q).Tidy W E :=
  h.sendOn

theorem sendPair (h : s.Tidy W E) {q} : (s.sendPair q).Tidy W E := by
  unfold State.sendPair
  exact .ite h h.setPort

theorem control (h : s.Tidy W E) {q w} : (s.control q w).Tidy W E := by
  unfold State.control
  dsimp only
  split
  · exact h.setPort.pumpPort
  · exact h.resend
  · exact h.retrainPort
  · exact h

theorem decoded (h : s.Tidy W E) {q e} : (s.decoded q e).Tidy W E := by
  unfold State.decoded
  dsimp only
  split
  · exact .ite h h.setPort.bump
  · exact h.setPort.bump

theorem codewords (h : s.Tidy W E) {q c} : (s.codewords q c).Tidy W E := by
  unfold State.codewords
  exact .ite h (.whenNot h.decoded.decoded fun h => .sendPair (.whenever (.whenever h.codeword.codeword
    fun h => h.control) fun h => h.control))

theorem losePort (h : s.Tidy W E) {q mode} : (s.losePort q mode).Tidy W E := by
  unfold State.losePort
  exact h.setPort.bump

theorem retryLimit (h : s.Tidy W E) {q} : (s.retryLimit q).Tidy W E := by
  unfold State.retryLimit
  exact .ite h.retrainPort h

theorem uncorrLimit (h : s.Tidy W E) {q} : (s.uncorrLimit q).Tidy W E := by
  unfold State.uncorrLimit
  exact .ite h.retrainPort h

theorem signalFound (h : s.Tidy W E) {q} : (s.signalFound q).Tidy W E := by
  unfold State.signalFound
  exact .ite h.setPort h

theorem trainingEnd (h : s.Tidy W E) {q lanes cause rtt host} : (s.trainingEnd q lanes cause rtt host).Tidy W E := by
  unfold State.trainingEnd
  exact .ite h (.ite h.setPort h.setPort.bump.unpark.pumpPort)

theorem portFailed (h : s.Tidy W E) {q} : (s.portFailed q).Tidy W E := by
  unfold State.portFailed
  exact .ite h h.losePort.report

theorem portCtrl (h : s.Tidy W E) {q} : (s.portCtrl q).Tidy W E := by
  unfold State.portCtrl
  dsimp only
  refine .ite h ?_
  split
  · exact h.retrainPort
  · exact h.setPort
  · exact h.setPort

theorem forward (h : s.Tidy W E) {m} : (s.forward m).Tidy W E := by
  unfold State.forward
  dsimp only
  refine .ite h (.ite h (.ite h.takeMsg.bump ?_))
  split
  · exact h.takeMsg.bump
  · exact .ite h.takeMsg.bump h.takeMsg.toPort.bump

theorem packageFault (h : s.Tidy W .univ) {link} : (s.packageFault link).Tidy W .univ := by
  unfold State.packageFault
  exact .ite h (.forceWarm (.whenever h.modBoot.report fun h => h.startDump))

/-! ### The functions of Machine/ServiceRows -/

theorem whenLive (h : s.Tidy W E) {f : State → State} (hf : ∀ t, t.Tidy W E → (f t).Tidy W E) :
    (s.whenLive f).Tidy W E :=
  .ite (hf _ h) h

theorem mgmtResetWrite (h : s.Tidy W .univ) : s.mgmtResetWrite.Tidy W .univ := by
  unfold State.mgmtResetWrite
  exact .ite h.mgmtReset h

theorem pathsOpen (h : s.Tidy W E) : s.pathsOpen.Tidy W E := by
  unfold State.pathsOpen
  exact .foldl (fun _ _ h => h.settle) (.queueWaiting (.foldl (fun _ _ h => h.pumpReqs) h))

theorem resetDone (h : s.Tidy W .univ) {b} : (s.resetDone b).Tidy W .univ := by
  unfold State.resetDone
  exact .whenever h.resetEnd.nextReset fun h => h.pathsOpen

theorem dumpLate (h : s.Tidy W .univ) : s.dumpLate.Tidy W .univ := by
  unfold State.dumpLate
  split
  · exact .ite h h.reach.endDump.resumeReset
  · exact h

theorem heartbeat (h : s.Tidy W E) : s.heartbeat.Tidy W E := by
  unfold State.heartbeat
  exact .ite h.modMgmt h

theorem watchdog (h : s.Tidy W .univ) : s.watchdog.Tidy W .univ := by
  unfold State.watchdog
  exact .ite h.reach.mgmtReset h

theorem resendReports (h : s.Tidy W E) : s.resendReports.Tidy W E := by
  unfold State.resendReports
  dsimp only
  split
  · exact h
  · exact .frame (.foldl (fun _ _ h => h.sendReport) h.reach)

theorem ackReports (h : s.Tidy W E) {seq} : (s.ackReports seq).Tidy W E := h.of_eq rfl rfl

theorem fenceWaitEnd (h : s.Tidy W .univ) : s.fenceWaitEnd.Tidy W .univ := by
  unfold State.fenceWaitEnd
  split
  · exact h
  · exact h.reach.enterSpare

/-! ### The functions of Machine/Power -/

theorem droop (h : s.Tidy W E) {c} : (s.droop c).Tidy W E := by
  unfold State.droop
  exact .ite h h.draw.bump.modCl

theorem droopEnd (h : s.Tidy W E) {c} : (s.droopEnd c).Tidy W E := by
  unfold State.droopEnd
  exact .ite h.modCl h

theorem putToSleep (h : s.Tidy W E) {c} : (s.putToSleep c).Tidy W E := by
  unfold State.putToSleep
  exact .modCl (.foldl (fun _ _ h => h.modCo) h)

theorem sleep (h : s.Tidy W E) {c} : (s.sleep c).Tidy W E := by
  unfold State.sleep
  exact .ite h h.reach.putToSleep

theorem enterPower (h : s.Tidy W E) {goal} : (s.enterPower goal).Tidy W E := by
  unfold State.enterPower
  exact .ite h (.modPower (.foldl (fun _ _ h => .ite h.setStack h) (.foldl (fun _ _ h => h.putToSleep) h)))

theorem wakePower (h : s.Tidy W E) : s.wakePower.Tidy W E := by
  unfold State.wakePower
  dsimp only
  split
  · exact h
  · exact h.modPower
  · exact .ite h h.modPower

theorem loseDies (h : s.Tidy W E) : s.loseDies.Tidy W E := by
  unfold State.loseDies
  exact .frame (.foldl (fun _ _ h => h.putToSleep) (.foldl (fun _ _ h => .ite h.setStack h) (.foldl
    (fun _ _ h => h.clearDie) h)))

theorem refreshEnd (h : s.Tidy W E) {b train} : (s.refreshEnd b train).Tidy W E := by
  unfold State.refreshEnd
  exact .ite h.trainStacks (.foldl (fun _ _ h => h.setStack) h)

theorem powerEnd (h : s.Tidy W E) {b} : (s.powerEnd b).Tidy W E := by
  unfold State.powerEnd
  dsimp only
  split
  · exact h
  · refine .ite (.wakePower (.modPower (.modPower (.bump ?_)))) (.modPower (.bump ?_))
    · split
      · exact h.frame.loseDies
      · exact h.frame
      · exact .whenever h.frame.refreshEnd fun h => .foldl (fun _ _ h => h.putToSleep) (.foldl
          (fun _ _ h => h.testDie) h)
    · split
      · exact h.frame.loseDies
      · exact h.frame
      · exact .whenever h.frame.refreshEnd fun h => .foldl (fun _ _ h => h.putToSleep) (.foldl
          (fun _ _ h => h.testDie) h)

theorem thermal (h : s.Tidy W E) {d hot} : (s.thermal d hot).Tidy W E := by
  unfold State.thermal
  exact .ite h (.setThermal (.modPower (.ite h h.bump)))

theorem powerWindow (h : s.Tidy W E) {watts} : (s.powerWindow watts).Tidy W E := by
  unfold State.powerWindow
  exact h.reach.capTime.modPower.setThermal

theorem trip (h : s.Tidy W .univ) {sensor reading} : (s.trip sensor reading).Tidy W .univ := by
  unfold State.trip
  exact .ite h h.dark.modPower

theorem tripWritten (h : s.Tidy W E) : s.tripWritten.Tidy W E := by
  unfold State.tripWritten
  split
  · exact h
  · exact h.modPower.storeNv

theorem mainLoss (h : s.Tidy W .univ) : s.mainLoss.Tidy W .univ := by
  unfold State.mainLoss
  exact .whenever (.ite h.dark.modBoot.modPower h) fun h => h.modPower

theorem resetLow (h : s.Tidy W .univ) : s.resetLow.Tidy W .univ := by
  unfold State.resetLow
  exact .ite h h.dark.modPower

theorem bootCold (h : s.Tidy W .univ) {b} : (s.bootCold b).Tidy W .univ := by
  unfold State.bootCold
  exact .ite h h.tripWritten.coldBoot

theorem mainRestore (h : s.Tidy W .univ) {b} : (s.mainRestore b).Tidy W .univ := by
  unfold State.mainRestore
  exact .ite h (.whenever h.modPower fun h => h.bootCold)

theorem release (h : s.Tidy W .univ) {b} : (s.release b).Tidy W .univ := by
  unfold State.release
  exact .ite h (.ite h.modBoot.modPower h.bootCold)

theorem removeAo (h : s.Tidy W .univ) : s.removeAo.Tidy W .univ := by
  unfold State.removeAo
  exact .ite h h.dark.frame

theorem applyAo (h : s.Tidy W E) : s.applyAo.Tidy W E := by
  unfold State.applyAo
  exact .ite h h.modPower.modBoot.frame

theorem refclkOn (h : s.Tidy W E) : s.refclkOn.Tidy W E := by
  unfold State.refclkOn
  exact .ite h.modPower h

/-! ### The functions of Machine/StepRows -/

theorem writeVerify (h : s.Tidy W E) {x n} : (s.writeVerify x n).Tidy W E := by
  unfold State.writeVerify
  exact .ite h h.setPar

theorem redeliver (h : s.Tidy W E) {m} : (s.redeliver m).Tidy W E := by
  unfold State.redeliver
  split
  · exact h.receive fun _ _ _ _ _ h => h.landSemOp
  · exact h.receive fun _ _ _ _ _ h => h.landWrite
  · exact h.receive fun _ _ _ _ _ h => h.landResp
  · exact h.receive fun _ _ _ _ _ h => h.landGatherReq
  · exact h.receive fun _ _ _ _ _ h => h.landGatherReply
  · exact h.receive fun _ _ _ _ _ h => h.landPartial
  · exact h

theorem landHeld (h : s.Tidy W E) {x} : (s.landHeld x).Tidy W E := by
  unfold State.landHeld
  exact .grantHeld (.frame (.foldl (fun _ _ h => h.redeliver) h.frame))

theorem addHeldSums (h : s.Tidy W E) {x} : (s.addHeldSums x).Tidy W E := by
  unfold State.addHeldSums
  refine .foldl (fun _ _ h => ?_) h
  split
  · exact .ite h.addSums h
  · exact h

theorem openStep (h : s.Tidy W E) {x n} : (s.openStep x n).Tidy W E := by
  unfold State.openStep
  exact h.writeVerify.modCx.landHeld.addHeldSums.regather

theorem stepOpen (h : s.Tidy W E) {x} : (s.stepOpen x).Tidy W E := by
  unfold State.stepOpen
  split
  · exact h
  · exact .ite h (.ite h.finish (.ite h.finish (.ite h.finish h.openStep.finish)))

theorem replayOpen (h : s.Tidy W E) {x} : (s.replayOpen x).Tidy W E := by
  unfold State.replayOpen
  dsimp only
  split
  · exact h
  · exact .ite h (.ite h.finish h.modCx.finish)

theorem stepSeal (h : s.Tidy W E) {x} : (s.stepSeal x).Tidy W E := by
  unfold State.stepSeal
  split
  · exact h
  · split
    · exact .ite h (.finish (.ite h.sealReplay h.sealStep))
    · exact .ite h.finish h.finish

theorem stepAwait (h : s.Tidy W E) {x} : (s.stepAwait x).Tidy W E := by
  unfold State.stepAwait
  split
  · exact h
  · refine .ite h ?_
    split
    · exact h.finish
    · exact h.finish
    · exact h.finish

theorem stepFail (h : s.Tidy W E) {x} : (s.stepFail x).Tidy W E := by
  unfold State.stepFail
  split
  · exact h
  · split
    · exact h.failStep.finish
    · exact h.finish

theorem verdictMsg (h : s.Tidy W E) {m typ} {act : State → Nat → Nat → VMsg → Step → State}
    (hact : ∀ t e x v u, t.Tidy W E → (act t e x v u).Tidy W E) : (s.verdictMsg m typ act).Tidy W E := by
  unfold State.verdictMsg
  dsimp only
  refine .ite h (h.receive fun _ _ _ _ _ h => .ite h.bump ?_)
  split
  · exact h.bump
  · exact .ite h.bump (hact _ _ _ _ _ h)

theorem takeHealth (h : s.Tidy W E) {e x v t} : (s.takeHealth e x v t).Tidy W E := by
  unfold State.takeHealth
  split
  · exact h
  · exact h.modCx.tryHealth

theorem takeResult (h : s.Tidy W E) {e x v t} : (s.takeResult e x v t).Tidy W E := by
  unfold State.takeResult
  split
  · exact h
  · exact h.modCx.tryReplay

theorem takePartner (h : s.Tidy W E) {x v t} : (s.takePartner x v t).Tidy W E := by
  unfold State.takePartner
  exact .ite h.modCx.recordMiss h.modCx.announceReplay

theorem takeVerdict (h : s.Tidy W E) {x v t} : (s.takeVerdict x v t).Tidy W E := by
  unfold State.takeVerdict
  exact .applyVerdicts (.modCx (.foldl (fun _ _ h => h.sendVerdict) h))

theorem verdictApply (h : s.Tidy W E) {x} : (s.verdictApply x).Tidy W E := by
  unfold State.verdictApply
  exact .ite h.applyVerdicts h

theorem verdictTimeout (h : s.Tidy W E) {x} : (s.verdictTimeout x).Tidy W E := by
  unfold State.verdictTimeout
  dsimp only
  split
  · exact h
  · exact .ite h.reach.verdictExpired h

theorem rejoin (h : s.Tidy W E) {x} : (s.rejoin x).Tidy W E := by
  unfold State.rejoin
  dsimp only
  refine .ite h (.modCx (.rollback ?_))
  split
  · exact .ite h.sealReplay h
  · exact h

theorem writeMembership (h : s.Tidy W E) {v} : (s.writeMembership v).Tidy W E := by
  unfold State.writeMembership
  exact .ite h (.whenNot h.setPar.frame fun h => .foldl (fun _ _ h => h.rejoin) h.frame)

/-! ### The functions of Machine/Timing -/

theorem modTime (h : s.Tidy W E) {f} : (s.modTime f).Tidy W E := h.of_eq rfl rfl

theorem timeInterval (h : s.Tidy W E) : s.timeInterval.Tidy W E := by
  unfold State.timeInterval
  exact .ite h (.whenever h.reach.modTime fun h => h.toPort)

theorem timeMessage (h : s.Tidy W E) {p m kind} {act : State → State} (hact : ∀ t, t.Tidy W E → (act t).Tidy W E) :
    (s.timeMessage p m kind act).Tidy W E :=
  .ite h (.ite h.takeMsg.bump (hact _ h.takeMsg))

theorem timeAnswer (h : s.Tidy W E) {p m turn} : (State.timeAnswer p m turn s).Tidy W E := by
  unfold State.timeAnswer
  exact h.reach.toPort

theorem offset (h : s.Tidy W E) {t1 t2 turn} : (s.offset t1 t2 turn).1.Tidy W E := by
  unfold State.offset
  exact .ite_fst h (.fst_mk h.draw)

theorem timeCorrect (h : s.Tidy W E) {p m} : (State.timeCorrect p m s).Tidy W E := by
  unfold State.timeCorrect
  dsimp only
  split
  · exact h
  · exact .ite h (.ite h.offset.modTime.frame.modTime h.offset.modTime.modTime)

theorem timeHoldover (h : s.Tidy W E) : s.timeHoldover.Tidy W E := by
  unfold State.timeHoldover
  exact .ite h h.modTime.bump

theorem sampleDue (h : s.Tidy W E) {c} : (s.sampleDue c).Tidy W E := by
  unfold State.sampleDue
  exact .ite h h.reach.sample.writeSample

theorem traceDrain (h : s.Tidy W E) {d} : (s.traceDrain d).Tidy W E := by
  unfold State.traceDrain
  exact .ite h (.ite h (.sendEp (.frame (.draw (.draw (.bump (.ite h.reach h)))))))

/-! ### The functions of Machine/Writes -/

theorem sign (h : s.Tidy W E) {nonce} : (s.sign nonce).Tidy W E := by
  unfold State.sign
  exact h.modBoot

theorem attest (h : s.Tidy W E) {nonce} : (s.attest nonce).Tidy W E := by
  unfold State.attest
  exact .ite h (.ite h.modBoot h.sign)

theorem attestBuilt (h : s.Tidy W E) : s.attestBuilt.Tidy W E := by
  unfold State.attestBuilt
  dsimp only
  refine .ite h ?_
  split
  · exact h.modBoot
  · exact h.modBoot.sign

theorem nvCtrl (h : s.Tidy W E) {on} : (s.nvCtrl on).Tidy W E := by
  unfold State.nvCtrl
  exact .ite h.modMgmt h

theorem portEnable (h : s.Tidy W E) {v} : (s.portEnable v).Tidy W E := by
  unfold State.portEnable
  exact .foldl (fun _ _ h => .ite h (.ite h.setPort h.losePort)) h.setPar

theorem resetCtrl (h : s.Tidy W .univ) {v} : (s.resetCtrl v).2.Tidy W .univ := by
  unfold State.resetCtrl
  dsimp only
  split
  · exact .snd_mk (h.whenLive fun _ h => h.resetWrite)
  · exact .snd_mk (h.whenLive fun _ h => h.mgmtResetWrite)
  · exact .snd_mk (h.whenLive fun _ h => h.resetWrite)
  · exact .ite_snd (.snd_mk (h.whenLive fun _ h => h.resetWrite)) h
  · exact .snd_mk (h.whenLive fun _ h => h.resetWrite)
  · exact .snd_mk (h.whenLive fun _ h => h.resetWrite)

theorem keepDelays (h : s.Tidy W E) : s.keepDelays.Tidy W E := by
  unfold State.keepDelays
  exact .foldl (fun _ _ h => .ite h h.modCl) h

theorem laterGaps (h : s.Tidy W E) {v} : (s.laterGaps v).Tidy W E := by
  unfold State.laterGaps
  exact .foldl (fun _ _ h => .ite h.modCo h) h

theorem applyWrite (h : s.Tidy W .univ) {k v bytes} : (s.applyWrite k v bytes).2.Tidy W .univ := by
  unfold State.applyWrite
  dsimp only
  split
  · exact .ite_snd (.snd_mk h.setPar) h
  · split
    · exact .snd_mk h.modMgmt
    · exact .snd_mk h.nvCtrl
    · exact .ite_snd (.snd_mk (h.whenLive fun _ h => h.wakePower)) (.ite_snd h (.snd_mk h.enterPower))
    · exact .ite_snd (.snd_mk h.clearFlags) (.snd_mk h.setPar)
    · exact .snd_mk h.keepDelays.setPar
    · exact .snd_mk h.laterGaps.setPar
    · exact .ite_snd (.snd_mk h.openCtx) (.snd_mk (h.whenLive fun _ h => h.teardown))
    · exact .ite_snd (.snd_mk h.setPar) (.snd_mk h.writeKeyEntry)
    · exact .snd_mk h.repairCmd
    · exact .ite_snd (.snd_mk h.setPar) (.ite_snd (.snd_mk h.setGen) (.ite_snd (.snd_mk h.tgStart) (.snd_mk h.tgStop)))
    · split
      · exact .snd_mk h.portEnable
      · exact .snd_mk h.portCtrl
      · exact .snd_mk h.setPar
    · exact .ite_snd (.snd_mk h.setPar) (.snd_mk h.frame)
    · exact .snd_mk h.writeMembership
    · exact .ite_snd (.snd_mk h.setPar) (.snd_mk h.writeEp)
    · exact .ite_snd (.snd_mk h.setPar) (.ite_snd h (.snd_mk h.frame))
    · exact .ite_snd (.snd_mk h.setPar) (.ite_snd h (.snd_mk h.frame))
    · exact .snd_mk (h.whenLive fun _ h => h.mirrorCtrl)
    · exact .snd_mk (h.whenLive fun _ h => h.wardrobeSendWrite)
    · exact .snd_mk (h.whenLive fun _ h => h.ckptWrite)
    · exact .snd_mk (h.whenLive fun _ h => h.restoreWrite)
    · split
      · exact .snd_mk (h.whenLive fun _ h => .ite h.expelAccept h.expelDefer)
      · exact .snd_mk (h.whenLive fun _ h => h.setObserving)
      · exact .snd_mk h.setPar
    · exact .snd_mk h.clearFlags
    · split
      · exact h.resetCtrl
      · exact .snd_mk (h.whenLive fun _ h => h.startDump)
      · exact .snd_mk h.setPar
    · exact .snd_mk (h.whenLive fun _ h => h.enterSpare)
    · exact .ite_snd (.snd_mk h.ackReports) (.snd_mk h.setPar)
    · exact .snd_mk h.setPar.frame
    · exact .snd_mk h.attest
    · exact .snd_mk h.setPar

/-! ### The functions of Machine/MgmtRows -/

theorem sendReply (h : s.Tidy W E) {p m} : (s.sendReply p m).Tidy W E := by
  unfold State.sendReply
  exact .ite h.toPort h.bump

theorem reply (h : s.Tidy W E) {r status sel data} : (s.reply r status sel data).Tidy W E := by
  unfold State.reply
  exact .sendReply (.whenever (.ite h h.bump) fun h => h.bump)

theorem takeRequest (h : s.Tidy W E) {p m} : Next W E (s.takeRequest p m) := by
  unfold State.takeRequest
  split
  · exact .ite .none (.some h)
  · exact .ite (.some h.modMgmt) .none

theorem serve (h : s.Tidy W E) {p m ops} {act : MReq → State → State}
    (hact : ∀ r t, t.Tidy W E → (act r t).Tidy W E) : (s.serve p m ops act).Tidy W E := by
  unfold State.serve
  refine .ite h (.ite h.bump ?_)
  split
  · exact .ite h h.queueMgmt
  next ht => exact hact _ _ (h.takeRequest _ ht).bump

theorem select (h : s.Tidy W E) {r} : (s.select r).Tidy W E := by
  unfold State.select
  split
  · exact h.setPar
  · exact h

theorem keepSnap (h : s.Tidy W E) {q} : (s.keepSnap q).Tidy W E :=
  h.modMgmt

theorem readReply (h : s.Tidy W E) {r o} : (s.readReply r o).Tidy W E := by
  unfold State.readReply
  dsimp only
  refine .ite ?_ (.reply (.whenever h.select.readEntry fun h => h.keepSnap))
  split
  · exact h.select
  · exact h.select.keepSnap.reply

theorem mgmtRead (h : s.Tidy W E) {r} : (State.mgmtRead r s).Tidy W E := by
  unfold State.mgmtRead
  dsimp only
  refine .ite h.reply ?_
  split
  · exact h
  · exact h.readReply

theorem writeReply (h : s.Tidy W E) {r o v} : (s.writeReply r o v).Tidy W E := by
  unfold State.writeReply
  exact .ite h.modMgmt h.reply

theorem mgmtWrite (h : s.Tidy W .univ) {r} : (State.mgmtWrite r s).Tidy W .univ := by
  unfold State.mgmtWrite
  dsimp only
  refine .ite h.reply ?_
  split
  · exact h
  · refine .ite h.select.applyWrite.writeReply (.reply ?_)
    split
    · exact h.select.applyWrite.setPar
    · exact h.select.applyWrite

theorem mgmtDescribe (h : s.Tidy W E) {r} : (State.mgmtDescribe r s).Tidy W E := by
  unfold State.mgmtDescribe
  dsimp only
  refine .ite h.reply ?_
  split
  · exact h
  · exact h.select.reply

theorem commitEnd (h : s.Tidy W E) {ok} : (s.commitEnd ok).Tidy W E := by
  unfold State.commitEnd
  dsimp only
  split
  · exact h
  · split
    · exact .ite h.modMgmt.bump.storeNv h.modMgmt.bump.modMgmt
    · exact .ite (.sendReply (.ite h.modMgmt.bump.storeNv h.modMgmt.bump.modMgmt)) (.sendReply (.bump
        (.ite h.modMgmt.bump.storeNv h.modMgmt.bump.modMgmt)))

theorem setStaged (h : s.Tidy W E) {g} : (s.setStaged g).Tidy W E :=
  h.modBoot

theorem imageBegin (h : s.Tidy W E) {r} : (State.imageBegin r s).Tidy W E := by
  unfold State.imageBegin
  exact .ite h.reply (.ite h.reply (.ite h.reply h.setStaged.reply))

theorem imageData (h : s.Tidy W E) {r} : (State.imageData r s).Tidy W E := by
  unfold State.imageData
  refine .ite h.reply ?_
  split
  · exact h.reply
  · refine .ite h.reply (.ite h.reply (.reply (.setStaged ?_)))
    exact h.setMem rfl fun hw => Memory.wf_of_service hw (Store.wf_write _ _ _)

theorem imageCheck (h : s.Tidy W E) {r} : (State.imageCheck r s).Tidy W E := by
  unfold State.imageCheck
  dsimp only
  refine .ite h.reply ?_
  split
  · exact h.reply
  · exact .ite h.reply h.setStaged.reply

theorem imageFlash (h : s.Tidy W E) {r} : (State.imageFlash r s).Tidy W E := by
  unfold State.imageFlash
  exact .ite h.reply (.ite h.reply h.modBoot.reply)

theorem flashEnd (h : s.Tidy W E) {ok} : (s.flashEnd ok).Tidy W E := by
  unfold State.flashEnd
  dsimp only
  split
  · exact h
  · exact .ite h (.modBoot (.ite h h.draw))

theorem imageStart (h : s.Tidy W E) {b r} : (State.imageStart b r s).Tidy W E := by
  unfold State.imageStart
  exact .ite h.reply (.ite h.reply h.reply.modMgmt.frame.bootFrom5)

theorem announce (h : s.Tidy W E) : s.announce.Tidy W E := by
  unfold State.announce
  dsimp only
  refine .ite h (.ite (.foldl (fun _ _ h => .ite h.toPort h) h.reach.modBoot) ?_)
  split
  · exact .bump (.foldl (fun _ _ h => .ite h.toPort h) h.reach.modBoot)
  · exact .toPort (.foldl (fun _ _ h => .ite h.toPort h) h.reach.modBoot)

theorem modSmbus (h : s.Tidy W E) {f} : (s.modSmbus f).Tidy W E :=
  h.modBoot

theorem smbusBlock (h : s.Tidy W E) : s.smbusBlock.Tidy W E := by
  unfold State.smbusBlock
  exact .ite h (.ite h.modSmbus h.readEntry.modSmbus)

theorem tapTake (h : s.Tidy W E) {i} : (s.tapTake i).Tidy W E := by
  unfold State.tapTake
  exact .ite h h.modBoot

end State.Tidy

/-! ### Every command -/

/-- The next state, if the outcome is one, is tidy. -/
def Outcome.Tidy (W : Prop) (o : Outcome) : Prop := ∀ t, o = .next t → t.Tidy W .univ

theorem Outcome.Tidy.of_ends {s t : State} {W : Prop} (h : t.Tidy W .univ) : Outcome.Tidy W (s.ends t) := by
  rintro _ ⟨⟩
  exact h.frame

/-- Each row of the dispatch ends in a state that its function makes of a tidy one. -/
theorem exec_tidy {s : State} {W : Prop} (h : s.Tidy W .univ) (i : Instr) : Outcome.Tidy W (exec i s) := by
  cases i with
  | contextOpen x => exact .of_ends h.openCtx
  | contextTeardown x => exact .of_ends (.ite h.teardown h)
  | keyEntryWrite key value => exact .of_ends h.writeKeyEntry
  | hbmRepairCmd v => exact .of_ends h.repairCmd
  | hbmTgStart => exact .of_ends h.tgStart
  | hbmTgStop => exact .of_ends h.tgStop
  | hbmTgDone site channel found => exact .of_ends h.tgDone
  | write m => exact .of_ends (h.receive fun _ _ _ _ _ h => h.landWrite)
  | semOp m => exact .of_ends (h.receive fun _ _ _ _ _ h => h.landSemOp)
  | resp m => exact .of_ends (h.receive fun _ _ _ _ _ h => h.landResp)
  | requestRetransmit io entry tag => exact .of_ends h.retransmit
  | requestExhausted io entry tag => exact .of_ends h.exhaust
  | epEntryWrite io entry value => exact .of_ends h.writeEp
  | gatherFetch p => exact .of_ends h.gatherFetch
  | gatherReq m => exact .of_ends (h.receive fun _ _ _ _ _ h => h.landGatherReq)
  | gatherReply m => exact .of_ends (h.receive fun _ _ _ _ _ h => h.landGatherReply)
  | gatherUnitTimeout p => exact .of_ends h.gatherTimeout
  | reduceSubmission p faults => exact .of_ends h.withFaults.reduceSubmission.regather
  | partialMsg m faults => exact .of_ends (.regather (h.withFaults.receive fun _ _ _ _ _ h => h.landPartial))
  | collectiveTimeout p unit round => exact .of_ends h.collTimeout
  | memoryAccessArrival ev => exact .of_ends h.accessArrives
  | mma cl => exact .of_ends h.broadcast
  | arrayWarm cl => exact .of_ends h.broadcast
  | epiFmt cl => exact .of_ends h.broadcast
  | epiScale cl => exact .of_ends h.broadcast
  | epiClip cl => exact .of_ends h.broadcast
  | epiKeys cl => exact .of_ends h.broadcast
  | epiStride cl => exact .of_ends h.broadcast
  | vadd cl => exact .of_ends h.broadcast
  | vsub cl => exact .of_ends h.broadcast
  | vmul cl => exact .of_ends h.broadcast
  | vfma cl => exact .of_ends h.broadcast
  | vmax cl => exact .of_ends h.broadcast
  | vmin cl => exact .of_ends h.broadcast
  | vsel cl => exact .of_ends h.broadcast
  | vexp2 cl => exact .of_ends h.broadcast
  | vlog2 cl => exact .of_ends h.broadcast
  | vrcp cl => exact .of_ends h.broadcast
  | vrsqrt cl => exact .of_ends h.broadcast
  | vdot cl => exact .of_ends h.broadcast
  | cvt cl => exact .of_ends h.broadcast
  | dmaIssue cl => exact .of_ends h.broadcast
  | qcfg cl => exact .of_ends h.broadcast
  | qreset cl => exact .of_ends h.broadcast
  | qmove cl => exact .of_ends h.broadcast
  | qdrop cl => exact .of_ends h.broadcast
  | nop cl => exact .of_ends h.seqNop
  | loop cl => exact .of_ends h.seqLoop
  | endProg cl => exact .of_ends h.seqEnd
  | semWait cl => exact .of_ends h.seqWait
  | semAdd cl => exact .of_ends h.seqPost
  | semSub cl => exact .of_ends h.seqPost
  | arrayRampDown core => exact .of_ends h.rampDown
  | arrayRampUp core => exact .of_ends h.rampUp
  | fencedPostEffect cl => exact .of_ends h.postNext
  | semaphorePostArrival i => exact .of_ends h.postArrives
  | semWaitWake st => exact .of_ends h.wake
  | semWaitTimeout st => exact .of_ends h.waitTimeout
  | dmaCompletion cl seq => exact .of_ends h.dmaComplete
  | dmaTimeout cl seq => exact .of_ends h.dmaTimeout
  | programBoundary cl => exact .of_ends h.programBoundary
  | qmoveArrival i => exact .of_ends h.moveArrives
  | commandRead x => exact .of_ends h.readCmd
  | load x => exact .of_ends h.load
  | run x => exact .of_ends h.runCmd
  | signal x => exact .of_ends h.signalCmd
  | wait x => exact .of_ends h.waitCmd
  | hangScan => exact .of_ends h.hangScan
  | hangDeclaration x => exact .of_ends h.declareHang
  | statusFlagClear entry mask => exact .of_ends h.clearFlags
  | drawerSpillCopy x die => exact .of_ends h.spillCopy
  | drawerPageGrant x die => exact .of_ends h.pageGrant
  | stashTimeout x die => exact .of_ends h.stashTimeout
  | codewordReceive port pair => exact .of_ends h.codewords
  | flitRetryLimit port => exact .of_ends h.retryLimit
  | portUncorrLimitExceeded port => exact .of_ends h.uncorrLimit
  | portAlignmentLoss port => exact .of_ends h.retrainPort
  | portSignalDetect port => exact .of_ends h.signalFound
  | portTrainingEnd port lanes cause rtt host => exact .of_ends h.trainingEnd
  | portFailed port => exact .of_ends h.portFailed
  | portCtrlRetrain port => exact .of_ends h.portCtrl
  | messageForward _port m => exact .of_ends h.forward
  | dieLinkRetry => exact .of_ends (.ite h.bump h)
  | packageFault link => exact .of_ends h.packageFault
  | selftestStart cl => exact .of_ends (h.whenLive fun _ h => h.startTest)
  | selftestEnd cl fails => exact .of_ends (h.whenLive fun _ h => h.endTest)
  | healthDecay => exact .of_ends (h.whenLive fun _ h => h.decay)
  | expelHoldoffEnd => exact .of_ends (h.whenLive fun _ h => h.holdoffEnd)
  | expelAccepted seq => exact .of_ends (h.whenLive fun _ h => h.expelAccept)
  | expelDeferred seq => exact .of_ends (h.whenLive fun _ h => h.expelDefer)
  | expelAnswerTimeout => exact .of_ends (h.whenLive fun _ h => h.answerExpired)
  | observationExitWrite => exact .of_ends (h.whenLive fun _ h => h.setObserving)
  | observationEnterWrite => exact .of_ends (h.whenLive fun _ h => h.setObserving)
  | mirrorCtrlFull x => exact .of_ends (h.whenLive fun _ h => h.mirrorCtrl)
  | mirrorRetry x => exact .of_ends (h.whenLive fun _ h => h.mirrorRetryDue)
  | wardrobeSend v => exact .of_ends (h.whenLive fun _ h => h.wardrobeSendWrite)
  | restoreCtrl x v => exact .of_ends (h.whenLive fun _ h => h.restoreWrite)
  | restoreComplete x => exact .of_ends (h.whenLive fun _ h => h.restoreEnd)
  | ckptCtrl x v => exact .of_ends (h.whenLive fun _ h => h.ckptWrite)
  | coreReset core => exact .of_ends (h.whenLive fun _ h => h.resetWrite)
  | mgmtCoreReset => exact .of_ends (h.whenLive fun _ h => h.mgmtResetWrite)
  | clusterReset cl => exact .of_ends (h.whenLive fun _ h => h.resetWrite)
  | linkPortReset port => exact .of_ends (h.whenLive fun _ h => .ite h.resetWrite h)
  | dieReset die => exact .of_ends (h.whenLive fun _ h => h.resetWrite)
  | packageWarmReset => exact .of_ends (h.whenLive fun _ h => h.resetWrite)
  | resetDone b => exact .of_ends h.resetDone
  | dumpCtrl => exact .of_ends (h.whenLive fun _ h => h.startDump)
  | dumpEnd => exact .of_ends h.endDump.resumeReset
  | dumpTruncation => exact .of_ends h.dumpLate
  | mgmtHeartbeat => exact .of_ends (h.whenLive fun _ h => h.heartbeat)
  | mgmtWatchdogExpiry => exact .of_ends (h.whenLive fun _ h => h.watchdog)
  | mgmtFailLimitReached => exact .of_ends (h.whenLive fun _ h => .ite h.watchdog h)
  | aoStallTimeout => exact .of_ends h.stalled
  | reportResend => exact .of_ends (.ite h.resendReports h)
  | reportAck seq => exact .of_ends (.ite h.ackReports h)
  | fenceNotice v => exact .of_ends (h.whenLive fun _ h => h.enterSpare)
  | fenceNoticeWaitExpiry => exact .of_ends (h.whenLive fun _ h => h.fenceWaitEnd)
  | droopDetect cl => exact .of_ends (h.whenLive fun _ h => h.droop)
  | droopRecovery cl => exact .of_ends (h.whenLive fun _ h => h.droopEnd)
  | clusterSleep cl => exact .of_ends (h.whenLive fun _ h => h.sleep)
  | powerStateRetain => exact .of_ends h.enterPower
  | powerStateDeep => exact .of_ends h.enterPower
  | powerStateActive => exact .of_ends (h.whenLive fun _ h => h.wakePower)
  | powerTransitionEnd b => exact .of_ends (h.whenLive fun _ h => h.powerEnd)
  | thermalThrottleChange die hot => exact .of_ends (h.whenLive fun _ h => h.thermal)
  | powerWindowEnd watts => exact .of_ends (h.whenLive fun _ h => h.powerWindow)
  | thermtrip sensor reading => exact .of_ends h.trip
  | tripRecordWritten => exact .of_ends h.tripWritten
  | mainInputLoss => exact .of_ends h.mainLoss
  | mainInputRestore b => exact .of_ends h.mainRestore
  | resetLAssert => exact .of_ends h.resetLow
  | coldBoot b => exact .of_ends h.release
  | powerOn => exact .of_ends h.applyAo
  | aoInputRemoval => exact .of_ends h.removeAo
  | refclkStable => exact .of_ends h.refclkOn
  | stepOpen x => exact .of_ends h.stepOpen
  | replayStepOpen x => exact .of_ends h.replayOpen
  | stepSeal x => exact .of_ends h.stepSeal
  | stepAwait x => exact .of_ends h.stepAwait
  | stepFail x => exact .of_ends h.stepFail
  | health m => exact .of_ends (h.verdictMsg fun _ _ _ _ _ h => h.takeHealth)
  | partnerHealth m => exact .of_ends (h.verdictMsg fun _ _ _ _ _ h => h.takePartner)
  | verdict m => exact .of_ends (h.verdictMsg fun _ _ _ _ _ h => h.takeVerdict)
  | verdictApply x => exact .of_ends h.verdictApply
  | replayResult m => exact .of_ends (h.verdictMsg fun _ _ _ _ _ h => h.takeResult)
  | verdictTimeout x => exact .of_ends h.verdictTimeout
  | jobMembershipWrite v => exact .of_ends h.writeMembership
  | timeSyncIntervalExpiry => exact .of_ends h.timeInterval
  | timeSyncRequest port m turn => exact .of_ends (h.timeMessage fun _ h => h.timeAnswer)
  | timeSyncReply port m => exact .of_ends (h.timeMessage fun _ h => h.timeCorrect)
  | timeHoldover => exact .of_ends h.timeHoldover
  | counterSampleInterval cl => exact .of_ends h.sampleDue
  | traceDrain die => exact .of_ends h.traceDrain
  | mgmtRead port req => exact .of_ends (h.serve fun _ _ h => h.mgmtRead)
  | mgmtWrite port req => exact .of_ends (h.serve fun _ _ h => h.mgmtWrite)
  | mgmtDescribe port req => exact .of_ends (h.serve fun _ _ h => h.mgmtDescribe)
  | nvCommitEnd ok => exact .of_ends (.ite h.commitEnd h)
  | nvRestoreDefaults => exact .of_ends h.nvCtrl
  | nvRestoreCancel => exact .of_ends h.nvCtrl
  | imageBegin port req => exact .of_ends (h.serve fun _ _ h => h.imageBegin)
  | imageData port req => exact .of_ends (h.serve fun _ _ h => h.imageData)
  | imageCheck port req => exact .of_ends (h.serve fun _ _ h => h.imageCheck)
  | imageFlash port req => exact .of_ends (h.serve fun _ _ h => h.imageFlash)
  | imageFlashEnd ok => exact .of_ends (.ite h.flashEnd h)
  | imageStart port req b => exact .of_ends (h.serve fun _ _ h => h.imageStart)
  | announce => exact .of_ends h.announce
  | attestRequest nonce => exact .of_ends h.attest
  | attestBuildEnd => exact .of_ends h.attestBuilt
  | smbusSelect index sub => exact .of_ends (.ite h.modSmbus h)
  | smbusRead => exact .of_ends h.smbusBlock
  | bypass => exact .of_ends h.tapTake
  | idcode => exact .of_ends h.tapTake
  | samplePreload => exact .of_ends h.tapTake
  | extest => exact .of_ends h.tapTake
  | clamp => exact .of_ends h.tapTake
  | highz => exact .of_ends h.tapTake
  | extestPulse => exact .of_ends h.tapTake
  | extestTrain => exact .of_ends h.tapTake

/-- Settles O6: the three stores stay canonical through every write (R229, R362), and a step writes them by no other
function. -/
theorem memoryStaysCanonical : Obligations.MemoryStaysCanonical := by
  intro s t hwf hstep
  obtain ⟨-, rfl⟩ | ⟨c, rest, -, hexec⟩ := step_next_cases hstep
  · obtain ⟨n, v, htick⟩ := s.tick_time
    rwa [htick]
  · have htidy : State.Tidy { s with pending := rest } True .univ := ⟨fun _ => hwf, Set.mem_univ _⟩
    exact (exec_tidy htidy c t hexec).wf trivial

end Sys2Proof.Machine
end

section
/-!
PROOFS. What the writes of key entries and endpoint entries leave of their tables; a statement of
spec/08_dma_and_shelves.md.
-/

namespace Sys2Proof.Machine

/-! ### Fields of a word in two parts -/

theorem testBit_bits (w h l i : Nat) : (bits w h l).testBit i = (decide (i < h + 1 - l) && w.testBit (l + i)) := by
  rw [bits, Nat.testBit_mod_two_pow, Nat.testBit_shiftRight]

theorem testBit_shiftLeft_add {x r l : Nat} (hr : r < 2 ^ l) (i : Nat) :
    (x <<< l + r).testBit i = if i < l then r.testBit i else x.testBit (i - l) := by
  rw [Nat.shiftLeft_eq, Nat.mul_comm, Nat.testBit_two_pow_mul_add _ hr]

/-- A field within the upper of two parts of a word. -/
theorem bits_upper {w r h l h' l' : Nat} (hr : r < 2 ^ l) (hl : l ≤ l') (hh : h' ≤ h) :
    bits (bits w h l <<< l + r) h' l' = bits w h' l' := by
  refine Nat.eq_of_testBit_eq fun i => ?_
  rw [testBit_bits, testBit_bits, testBit_shiftLeft_add hr, if_neg (by omega), testBit_bits,
    show l + (l' + i - l) = l' + i by omega]
  by_cases hi : i < h' + 1 - l'
  · simp [hi, show l' + i - l < h + 1 - l by omega]
  · simp [hi]

/-- A field within the lower of two parts of a word. -/
theorem bits_lower {x r l h' l' : Nat} (hr : r < 2 ^ l) (hh : h' < l) : bits (x <<< l + r) h' l' = bits r h' l' := by
  refine Nat.eq_of_testBit_eq fun i => ?_
  rw [testBit_bits, testBit_bits, testBit_shiftLeft_add hr]
  by_cases hi : i < h' + 1 - l'
  · simp [show l' + i < l by omega]
  · simp [hi]

theorem bits_lt (w h l : Nat) : bits w h l < 2 ^ (h + 1 - l) := Nat.mod_lt _ (Nat.two_pow_pos _)

theorem bit_eq_bits (w i : Nat) : bit w i = (bits w i i == 1) := by rw [bit, bits, Nat.add_sub_cancel_left, Nat.pow_one]

/-! ### Key entries (R225, R226, R361, R598) -/

/-- The lower part of a key entry: the context and VALID. -/
theorem keyMask_lower_lt (w : Nat) : bits w 79 76 <<< 76 + bits w 0 0 < 2 ^ 81 := by
  have hctx := bits_lt w 79 76
  have hvalid := bits_lt w 0 0
  rw [Nat.shiftLeft_eq]
  omega

theorem bits_keyMask_upper (w : Nat) {h l : Nat} (hl : 81 ≤ l) (hh : h ≤ 255) : bits (keyMask w) h l = bits w h l := by
  rw [keyMask, Nat.add_assoc]
  exact bits_upper (keyMask_lower_lt w) hl hh

theorem bits_keyMask_lower (w : Nat) {h l : Nat} (hh : h < 81) :
    bits (keyMask w) h l = bits (bits w 79 76 <<< 76 + bits w 0 0) h l := by
  rw [keyMask, Nat.add_assoc]
  exact bits_lower (keyMask_lower_lt w) hh

theorem bits_keyMask_ctx (w : Nat) : bits (keyMask w) 79 76 = bits w 79 76 :=
  (bits_keyMask_lower w (by decide)).trans (bits_upper ((bits_lt w 0 0).trans (by decide)) le_rfl le_rfl)

theorem bits_keyMask_valid (w : Nat) : bits (keyMask w) 0 0 = bits w 0 0 :=
  (bits_keyMask_lower w (by decide)).trans ((bits_lower ((bits_lt w 0 0).trans (by decide)) (by decide)).trans
    (Nat.mod_mod _ _))

/-- The reserved bits of a key entry stay 0. -/
theorem bits_keyMask_reserved (w : Nat) : bits (keyMask w) 80 80 = 0 ∧ bits (keyMask w) 75 1 = 0 := by
  have hctx := bits_lt w 79 76
  have hvalid := bits_lt w 0 0
  rw [bits_keyMask_lower w (by decide), bits_keyMask_lower w (by decide)]
  simp only [bits, Nat.shiftRight_eq_div_pow, Nat.shiftLeft_eq] at *
  omega

theorem keyF_keyMask (w : Nat) : keyF (keyMask w) = keyF w := by
  simp only [keyF, bit_eq_bits]
  rw [bits_keyMask_ctx, bits_keyMask_valid]
  simp only [bits_keyMask_upper w, Nat.reduceLeDiff]

theorem keyMask_lt (w : Nat) : keyMask w < 2 ^ 256 := by
  have hupper := bits_lt w 255 81
  have hlower := keyMask_lower_lt w
  rw [keyMask, Nat.add_assoc, Nat.shiftLeft_eq]
  omega

section
variable (s : State) (k w : Nat)

theorem State.writeKeyEntry_of_bad (h : s.keyBad w = true) : s.writeKeyEntry k w = s := by
  simp [State.writeKeyEntry, h]

theorem State.writeKeyEntry_of_good (hlive : s.live = true) (h : s.keyBad w = false) :
    s.writeKeyEntry k w = { s with keys := Tbl.put s.keys 0 k (BitVec.ofNat 256 (keyMask w)) } := by
  simp [State.writeKeyEntry, hlive, h]

/-- A region that leaves its HBM view makes a key entry bad. -/
theorem State.keyBad_of_hbmRange (hspace : (keyF w).space = 0)
    (hrange : s.hbmRangeBad (keyF w).base (keyF w).length = true) : s.keyBad w = true := by
  simp [State.keyBad, hspace, hrange]

end

/-! ### Endpoint entries (R418, R419, R421) -/

theorem bits_epMask_upper (w : Nat) {h l : Nat} (hl : 40 ≤ l) (hh : h ≤ 127) : bits (epMask w) h l = bits w h l :=
  bits_upper ((bits_lt w 0 0).trans (by decide)) hl hh

theorem bits_epMask_valid (w : Nat) : bits (epMask w) 0 0 = bits w 0 0 :=
  (bits_lower ((bits_lt w 0 0).trans (by decide)) (by decide)).trans (Nat.mod_mod _ _)

/-- The reserved bits of an endpoint entry stay 0. -/
theorem bits_epMask_reserved (w : Nat) : bits (epMask w) 39 1 = 0 := by
  have hvalid := bits_lt w 0 0
  rw [epMask, bits_lower (hvalid.trans (by decide)) (by decide), bits, Nat.shiftRight_eq_div_pow]
  omega

theorem epMask_lt (w : Nat) : epMask w < 2 ^ 128 := by
  have hupper := bits_lt w 127 40
  have hvalid := bits_lt w 0 0
  rw [epMask, Nat.shiftLeft_eq]
  omega

/-- The table with an entry written. -/
abbrev State.epsWith (s : State) (io e w : Nat) : Tbl (BitVec 128) :=
  Tbl.put s.links.eps 0 (io * 2 ^ 18 + e) (BitVec.ofNat 128 (epMask w))

section
variable {s : State} {io e w : Nat}

theorem State.writeEp_of_refused (h : e = 0x3FFFF ∨ s.part.ioDies ≤ io) : s.writeEp io e w = s := by
  unfold State.writeEp
  rw [if_pos]
  rcases h with h | h <;> simp [h]

variable (hlive : s.live = true) (he : e ≠ 0x3FFFF) (hio : io < s.part.ioDies)
include hlive he hio

/-- What follows a write that moves an entry writes no entry of the table. -/
theorem State.writeEp_eps : (s.writeEp io e w).links.eps = s.epsWith io e w := by
  unfold State.writeEp
  rw [if_neg (by simp [hlive, he, hio])]
  have hwritten : State.Tidy { s with links := { s.links with eps := s.epsWith io e w } } False {s.epsWith io e w} :=
    ⟨False.elim, rfl⟩
  exact (State.Tidy.whenNot hwritten fun h =>
    .pumpEntry (.foldl (fun _ _ h => h.giveUp) h.frame)).eps

theorem State.writeEp_of_kept (hfaddr : bits (s.ep io e) 127 104 = bits w 127 104)
    (hkey : bits (s.ep io e) 85 70 = bits w 85 70) (hctx : bits (s.ep io e) 56 41 = bits w 56 41) :
    s.writeEp io e w = { s with links := { s.links with eps := s.epsWith io e w } } := by
  unfold State.writeEp
  rw [if_neg (by simp [hlive, he, hio])]
  refine if_pos ?_
  simp [hfaddr, hkey, hctx, bits_epMask_upper]

end

section
variable {s t : State} {io e w : Nat} (h : t.links.eps = s.epsWith io e w)
include h

theorem State.ep_of_epsWith : t.ep io e = epMask w := by
  rw [State.ep, h, State.epsWith, Tbl.get_put_same, BitVec.toNat_ofNat, Nat.mod_eq_of_lt (epMask_lt w)]

theorem State.ep_of_epsWith_ne {j f : Nat} (hf : f < 2 ^ 18) (he : e < 2 ^ 18) (hne : j ≠ io ∨ f ≠ e) :
    t.ep j f = s.ep j f := by
  rw [State.ep, h, State.epsWith, Tbl.get_put_ne _ _ _ (by omega), State.ep]

end

/-- Settles O24: the write of a key entry by its two outcomes (R225, R361, R598), and that of an endpoint entry by the
table it leaves (R419), which nothing that follows it writes (R421). -/
theorem tableEntriesAreWrittenOrRefused : Obligations.TableEntriesAreWrittenOrRefused := by
  refine ⟨fun k v s => ⟨fun hbad => ?bad, fun hspace hrange => ?range, fun hlive hgood => ?good⟩,
    fun io e v s => ⟨fun href => ?refused, fun hlive he hio => ?written⟩⟩
  case bad => exact exec_next_of_eq rfl (s.writeKeyEntry_of_bad _ _ hbad) rfl rfl
  case range =>
    refine s.keyBad_of_hbmRange _ hspace ?_
    simpa [State.hbmRangeBad, or_assoc] using hrange
  case good =>
    refine ⟨_, exec_next_of_eq rfl (s.writeKeyEntry_of_good _ _ hlive hgood) rfl rfl, rfl, ?_⟩
    have hread : (BitVec.ofNat 256 (keyMask v.toNat)).toNat = keyMask v.toNat :=
      (BitVec.toNat_ofNat _ _).trans (Nat.mod_eq_of_lt (keyMask_lt _))
    simp only [State.key, Tbl.get_put_same, hread, keyF_keyMask]
    obtain ⟨hbit, hlow⟩ := bits_keyMask_reserved v.toNat
    exact ⟨trivial, hbit, hlow, fun j hj => by rw [Tbl.get_put_ne _ _ _ hj]⟩
  case refused =>
    exact exec_next_of_eq rfl (State.writeEp_of_refused (href.imp_left fun h => by rw [h]; rfl)) rfl rfl
  case written =>
    have he' : e.toNat ≠ 0x3FFFF := fun h => he (BitVec.eq_of_toNat_eq h)
    have heps := State.writeEp_eps (w := v.toNat) hlive he' hio
    refine ⟨_, rfl, ?fields, ?reserved, fun j f hf hne => ?others, fun hfaddr hkey hctx => ?kept⟩
    case fields =>
      intro h l hl
      have hfield : ∀ p ∈ [(127, 104), (103, 86), (85, 70), (69, 61), (60, 57), (56, 53), (52, 41), (40, 40), (0, 0)],
          40 ≤ p.2 ∧ p.1 ≤ 127 ∨ p = (0, 0) := by decide
      refine (congrArg (bits · h l) (State.ep_of_epsWith heps)).trans ?_
      obtain ⟨hlow, hhigh⟩ | hvalid := hfield _ hl
      · exact bits_epMask_upper _ hlow hhigh
      · rw [(Prod.mk.inj hvalid).1, (Prod.mk.inj hvalid).2, bits_epMask_valid]
    case reserved => exact (congrArg (bits · 39 1) (State.ep_of_epsWith heps)).trans (bits_epMask_reserved _)
    case others => exact State.ep_of_epsWith_ne heps hf e.isLt hne
    case kept =>
      rw [State.writeEp_of_kept hlive he' hio hfaddr hkey hctx]

end Sys2Proof.Machine
end

section
/-!
PROOFS. What writes at their memory controllers leave, and the transfers that made them; a statement of
spec/08_dma_and_shelves.md.
-/

namespace Sys2Proof.Machine

open Sys2Proof.Claims

/-! ### Writes to memory, with what they count and mark -/

/-- `t` is `s` after memory, traces and marks of mirrors have been written, free values drawn and counters counted, and
nothing else. -/
def State.Stored (s t : State) : Prop :=
  t = { s with free := t.free, od := t.od, mem := t.mem, traces := t.traces, mirrors := t.mirrors }

theorem State.Traced.stored {s t : State} (h : s.Traced t) : s.Stored t := by
  rw [State.Stored, h.frame]

namespace State.Stored

theorem refl (s : State) : s.Stored s := rfl

theorem trans {s t u : State} (hst : s.Stored t) (htu : t.Stored u) : s.Stored u := by
  unfold State.Stored at *
  rw [htu, hst]

theorem bump (s : State) (k n : Nat) : s.Stored (s.bump k n) := rfl

theorem writeSpace (s : State) (space a : Nat) (bs : List Nat) : s.Stored (s.writeSpace space a bs) :=
  (State.Traced.writeSpace s _ _ _).stored

theorem bursts (s : State) (cls k off n : Nat) : s.Stored (s.bursts cls k off n) := by
  unfold State.bursts
  dsimp only
  split_ifs
  · exact refl s
  · exact (State.Traced.countBursts s _ _ _).stored
  · exact rfl
  · exact refl s

theorem put (s : State) (cls k off : Nat) (bs : List Nat) (hdr : Option (BitVec 128)) :
    s.Stored (s.put cls k off bs hdr) := by
  have hdata : s.Stored ((s.writeKey k off bs).bursts cls k off bs.length) :=
    (writeSpace s _ _ _).trans (bursts _ _ _ _ _)
  unfold State.put
  dsimp only
  split <;> split
  · exact (hdata.trans (writeSpace _ _ _ _)).trans (State.Traced.countRmw _ _ _ _).stored
  · exact hdata.trans (State.Traced.countRmw _ _ _ _).stored
  · exact hdata.trans (writeSpace _ _ _ _)
  · exact hdata

theorem putChecked (s : State) (cls x k off : Nat) (bs : List Nat) (hdr : Option (BitVec 128)) :
    s.Stored (s.putChecked cls x k off bs hdr) := by
  unfold State.putChecked
  dsimp only
  split_ifs
  · exact bump s _ _
  · exact bump s _ _
  · exact put s _ _ _ _ _

theorem markStore (s : State) (x k off n : Nat) (step : Option Nat) : s.Stored (s.markStore x k off n step) := by
  unfold State.markStore
  split
  · exact refl s
  · split
    · exact bump s _ _
    · exact rfl

variable {s t : State} (h : s.Stored t)
include h

theorem xfer_eq (c q : Nat) : t.xfer c q = s.xfer c q := by
  rw [h]
  rfl

theorem cl_eq (c : Nat) : t.cl c = s.cl c := by
  rw [h]
  rfl

theorem key_eq (k : Nat) : t.key k = s.key k := by
  rw [h]
  rfl

theorem part_eq : t.part = s.part := by rw [h]

end State.Stored

/-! ### The bytes of a write depend on memory, keys and part alone -/

section
variable (s : State) (cls a k off n : Nat)

theorem State.countBursts_mem : (s.countBursts cls a n).mem = s.mem := by
  unfold State.countBursts
  split <;> rfl

theorem State.countRmw_mem (hdr : Bool) : (s.countRmw a n hdr).mem = s.mem := by
  unfold State.countRmw
  dsimp only
  split <;> rfl

theorem State.bursts_mem : (s.bursts cls k off n).mem = s.mem := by
  unfold State.bursts
  dsimp only
  split_ifs
  · rfl
  · exact s.countBursts_mem _ _ _
  · rfl
  · rfl

end

theorem State.writeSpace_mem_congr {s t : State} (hmem : t.mem = s.mem) (hpart : t.part = s.part) (space a : Nat)
    (bs : List Nat) : (t.writeSpace space a bs).mem = (s.writeSpace space a bs).mem := by
  unfold State.writeSpace
  split
  · rw [hmem, hpart]
  · rw [hmem]
  · rw [hmem]

/-- A write through a key with the header of its block, without what it counts. -/
def State.putBytes (s : State) (k off : Nat) (bs : List Nat) : Option (BitVec 128) → State
  | none => s.writeKey k off bs
  | some h => (s.writeKey k off bs).writeHdr k (off / 2048) h

theorem State.put_mem (s : State) (cls k off : Nat) (bs : List Nat) (hdr : Option (BitVec 128)) :
    (s.put cls k off bs hdr).mem = (s.putBytes k off bs hdr).mem := by
  have hbursts := State.Stored.bursts (s.writeKey k off bs) cls k off bs.length
  have hheader (h : BitVec 128) : (((s.writeKey k off bs).bursts cls k off bs.length).writeHdr k (off / 2048) h).mem =
      ((s.writeKey k off bs).writeHdr k (off / 2048) h).mem := by
    rw [State.writeHdr, hbursts.key_eq]
    exact State.writeSpace_mem_congr (State.bursts_mem _ _ _ _ _) hbursts.part_eq _ _ _
  unfold State.put
  dsimp only
  cases hdr with
  | none =>
    split
    · exact (State.countRmw_mem _ _ _ _).trans (State.bursts_mem _ _ _ _ _)
    · exact State.bursts_mem _ _ _ _ _
  | some h =>
    split
    · exact (State.countRmw_mem _ _ _ _).trans (hheader h)
    · exact hheader h

theorem State.put_mem_congr {s t : State} (hmem : t.mem = s.mem) (hpart : t.part = s.part) (hkeys : t.keys = s.keys)
    (cls k off : Nat) (bs : List Nat) (hdr : Option (BitVec 128)) :
    (t.put cls k off bs hdr).mem = (s.put cls k off bs hdr).mem := by
  have hkey : t.key k = s.key k := by rw [State.key, hkeys, State.key]
  have hdata : (t.writeKey k off bs).mem = (s.writeKey k off bs).mem := by
    rw [State.writeKey, hkey]
    exact State.writeSpace_mem_congr hmem hpart _ _ _
  rw [State.put_mem, State.put_mem]
  cases hdr with
  | none => exact hdata
  | some h =>
    have hs : s.Stored (s.writeKey k off bs) := .writeSpace _ _ _ _
    have ht : t.Stored (t.writeKey k off bs) := .writeSpace _ _ _ _
    rw [State.putBytes, State.writeHdr, ht.key_eq, hkey, State.putBytes, State.writeHdr, hs.key_eq]
    exact State.writeSpace_mem_congr hdata (ht.part_eq.trans (hpart.trans hs.part_eq.symm)) _ _ _

theorem State.put_mem_accesses (s : State) (l : List Access) (cls k off : Nat) (bs : List Nat)
    (hdr : Option (BitVec 128)) :
    (State.put { s with accesses := l } cls k off bs hdr).mem = (s.put cls k off bs hdr).mem := by
  apply State.put_mem_congr
  all_goals rfl

/-! ### Transfers by SEQ -/

section
variable {s : State} {c q : Nat}

theorem State.xfer_eq_none_iff : s.xfer c q = none ↔ q ∉ (s.cl c).xfers.map (·.seq) := by
  simp [State.xfer]

theorem State.xfer_seq {u : Xfer} (h : s.xfer c q = some u) : u.seq = q := by
  simpa using List.find?_some h

theorem State.modXfer_xfers (c q : Nat) (f : Xfer → Xfer) (d : Nat) : ((s.modXfer c q f).cl d).xfers =
    if d = c then (s.cl c).xfers.map (fun t => if t.seq = q then f t else t) else (s.cl d).xfers := by
  rw [State.modXfer, State.modCl_cl]
  split <;> rfl

theorem State.xfer_modXfer {f : Xfer → Xfer} (hf : ∀ t, (f t).seq = t.seq) {u : Xfer} (h : s.xfer c q = some u) :
    (s.modXfer c q f).xfer c q = some (f u) := by
  have hseq (t : Xfer) : (if t.seq = q then f t else t).seq = t.seq := by
    split
    · exact hf t
    · rfl
  rw [State.xfer, State.modXfer_xfers, if_pos rfl, List.find?_map]
  simp only [Function.comp_def, hseq]
  rw [show (s.cl c).xfers.find? (fun t => decide (t.seq = q)) = some u from h, Option.map_some,
    if_pos (State.xfer_seq h)]

end

/-! ### Held gathers (R299) -/

/-- Where no gather waits, none is judged again. -/
theorem State.regather_of_none {s : State} (h : ∀ p, (s.plan p).held = []) : s.regather = s := by
  refine List.foldl_fixed' (fun p => ?_) _
  dsimp only
  split
  · rfl
  · exact if_pos (h p)

/-! ### A write that nothing holds takes effect (R228, R366) -/

/-- The wait of a held write for a copy of the mirror ends and is counted (R463). -/
def State.copyWaitCounted (s : State) (a : Access) : State :=
  match a.heldCopy with
  | some t => s.bump K.MIRROR_WAIT_TIME (s.now - t)
  | none => s

theorem State.copyWaitCounted_frame (s : State) (a : Access) : let t := s.copyWaitCounted a
    t = { s with od := t.od } := by
  unfold State.copyWaitCounted
  split <;> rfl

/-- The time for which a write of a transfer was held does not count towards DMA_TIMEOUT (R331, R463). -/
def State.freed (s : State) (a : Access) (c q : Nat) : State :=
  match a.heldSince with
  | some t => (s.copyWaitCounted a).modXfer c q (fun u => { u with stalled := u.stalled + (s.now - t) })
  | none => s.copyWaitCounted a

theorem State.freed_frame (s : State) (a : Access) (c q : Nat) : let t := s.freed a c q
    t = { s with od := t.od, clusters := t.clusters } := by
  have hcounted := s.copyWaitCounted_frame a
  unfold State.freed
  dsimp only at *
  split
  · rw [hcounted]
    rfl
  · rw [hcounted]

theorem State.freed_xfer {s : State} {a : Access} {c q : Nat} {u : Xfer} (h : s.xfer c q = some u) :
    (s.freed a c q).xfer c q =
      some { u with stalled := u.stalled + ((a.heldSince.map (fun t => s.now - t)).getD 0) } := by
  have hcounted : (s.copyWaitCounted a).xfer c q = some u := by
    rw [s.copyWaitCounted_frame a]
    exact h
  unfold State.freed
  cases a.heldSince with
  | none => exact hcounted
  | some t =>
    exact State.xfer_modXfer (f := fun u => { u with stalled := u.stalled + (s.now - t) }) (fun _ => rfl) hcounted

/-- The bytes of a write of a transfer are written, and its blocks marked unless it belongs to a replay (R460). -/
def State.landed (s : State) (a : Access) (c q : Nat) : State :=
  let s := (s.freed a c q).put 1 a.key a.off a.bytes a.hdr
  if a.replay then s else s.markStore a.ctx a.key a.off a.bytes.length a.step

section
variable {s : State} {a : Access} {c q : Nat}

theorem State.landed_stored : (s.freed a c q).Stored (s.landed a c q) := by
  have hput := State.Stored.put (s.freed a c q) 1 a.key a.off a.bytes a.hdr
  unfold State.landed
  dsimp only
  split
  · exact hput
  · exact hput.trans (.markStore _ _ _ _ _ _)

theorem State.markStore_mem (x k off n : Nat) (step : Option Nat) : (s.markStore x k off n step).mem = s.mem := by
  unfold State.markStore
  split
  · rfl
  · split <;> rfl

theorem State.landed_mem : (s.landed a c q).mem = (s.put 1 a.key a.off a.bytes a.hdr).mem := by
  have hfreed := s.freed_frame a c q
  have hput : ((s.freed a c q).put 1 a.key a.off a.bytes a.hdr).mem = (s.put 1 a.key a.off a.bytes a.hdr).mem :=
    State.put_mem_congr (by rw [hfreed]) (by rw [hfreed]) (by rw [hfreed]) _ _ _ _ _
  unfold State.landed
  dsimp only
  split
  · exact hput
  · exact (State.markStore_mem _ _ _ _ _).trans hput

section
variable (howner : a.owner = .xfer c q)
include howner

theorem State.logWrite_of_xfer : s.logWrite a = s := by
  rw [State.logWrite, howner]

theorem State.replayArrived_of_xfer : s.replayArrived a = s := by
  rw [State.replayArrived, howner]

variable (hwaits : s.accessWaits a = false) (hstale : s.stale a.ctx a.gen = false)
  (hflight : (s.xfer c q).isNone = false)
include hwaits hstale hflight

theorem State.arrive_of_revoked (hkey : ¬((s.key a.key).valid = true ∧ (s.key a.key).ctx = a.ctx)) :
    s.arrive a = (s.bump K.REVOKED_WRITE_DROPS 1).accessDone (.xfer c q) .addressFault 0 := by
  have hlate : s.lateAccess (.xfer c q) = false := hflight
  unfold State.arrive
  rw [if_neg (by simp [hwaits]), if_neg (by simp [hstale]), howner, if_neg (by simp [hlate]),
    if_pos (by simpa [imp_iff_or_not, or_comm] using hkey)]

theorem State.arrive_of_free (hvalid : (s.key a.key).valid = true) (hctx : (s.key a.key).ctx = a.ctx)
    (hwardrobe : a.replay = false ∨ a.key ≠ s.par (K.WARDROBE_KEY + a.ctx)) (hdrawer : a.drawer = none)
    (hoffline : s.offlineAt a.key a.off a.bytes.length a.hdr.isSome = 0)
    (hawake : s.asleepAt a.key a.off a.bytes.length a.hdr.isSome = false) (hbehind : s.behind a = false)
    (hundo : a.replay = true ∨ s.undoHeld a.ctx a.key a.step = false)
    (hpend : s.pendingOf a.ctx a.key a.off a.bytes.length = []) :
    s.arrive a = (s.landed a c q).accessDone (.xfer c q) .ok (a.count.getD a.bytes.length) := by
  have hlate : s.lateAccess (.xfer c q) = false := hflight
  have hundo' : (s.undoHeld a.ctx a.key a.step && !a.replay) = false := by
    obtain h | h := hundo <;> simp [h]
  unfold State.arrive
  rw [if_neg (by simp [hwaits]), if_neg (by simp [hstale]), howner, if_neg (by simp [hlate]),
    if_neg (by simp [hvalid, hctx]), if_neg (by obtain h | h := hwardrobe <;> simp [h]), hdrawer]
  dsimp only
  rw [if_neg (by simp [hoffline]), if_neg (by simp [hawake, hbehind]), if_neg (by simp [hundo', hpend]),
    State.logWrite_of_xfer howner, State.replayArrived_of_xfer howner]
  unfold State.landed State.freed State.copyWaitCounted
  cases a.heldCopy <;> cases a.heldSince <;> rfl

end
end

theorem State.landed_frame (s : State) (a : Access) (c q : Nat) : let t := s.landed a c q
    t = { s with free := t.free, od := t.od, clusters := t.clusters, mem := t.mem, traces := t.traces,
                 mirrors := t.mirrors } := by
  have hstored := State.landed_stored (s := s) (a := a) (c := c) (q := q)
  have hfreed := s.freed_frame a c q
  dsimp only at *
  rw [hstored, hfreed]

theorem State.accessDone_xfer {s : State} {c q n : Nat} {u : Xfer} (h : s.xfer c q = some u) :
    (s.accessDone (.xfer c q) .ok n).xfer c q = some { u with moved := u.moved + n } := by
  refine State.xfer_modXfer (fun t => ?_) h
  rw [if_pos rfl]

/-- What a write that takes effect leaves, once its transfer has counted its bytes. -/
theorem State.landed_accessDone (s : State) (a : Access) (c q n : Nat) :
    let t := (s.landed a c q).accessDone (.xfer c q) .ok n
    t = { s with free := t.free, od := t.od, clusters := t.clusters, mem := (s.put 1 a.key a.off a.bytes a.hdr).mem,
                 traces := t.traces, mirrors := t.mirrors } := by
  have hframe := s.landed_frame a c q
  have hmem := s.landed_mem (a := a) (c := c) (q := q)
  dsimp only at *
  rw [← hmem, State.accessDone, State.modXfer, State.modCl, State.setCl]
  rw [hframe]

section
variable {s : State} {a : Access}

theorem State.arrive_of_waits (h : s.accessWaits a = true) : s.arrive a = { s with accesses := s.accesses ++ [a] } :=
  if_pos h

theorem State.arrive_of_stale (hwaits : s.accessWaits a = false) (h : s.stale a.ctx a.gen = true) :
    s.arrive a = s.dropStale := by
  unfold State.arrive
  rw [if_neg (by simp [hwaits]), if_pos h]

/-- Which blocks are pending does not depend on the writes on their way. -/
theorem State.pendingOf_accesses (s : State) (l : List Access) (x k off n : Nat) :
    State.pendingOf { s with accesses := l } x k off n = s.pendingOf x k off n := by
  have hgo (b base : Nat) (ps : List (Nat × Nat)) :
      State.imageBlock.go { s with accesses := l } k b base ps = State.imageBlock.go s k b base ps := by
    induction ps generalizing base with
    | nil => rfl
    | cons p ps ih =>
      rw [State.imageBlock.go, State.imageBlock.go, ih]
      rfl
  have himage (b : Nat) : State.imageBlock { s with accesses := l } x k b = s.imageBlock x k b := hgo b 1 _
  rw [State.pendingOf, himage, State.pendingOf]
  rfl

/-- The command of the `i`-th write on its way, where the arrival leaves no gather waiting. -/
theorem exec_write_arrives {i : Nat} {t : State} (ha : s.accesses[i]? = some a)
    (harrive : State.arrive { s with accesses := s.accesses.eraseIdx i } a = t) (hheld : ∀ p, (t.plan p).held = [])
    (hpending : t.pending = s.pending) (hpart : t.part = s.part) :
    exec (.memoryAccessArrival (.write i)) s = .next t := by
  have harrives : s.accessArrives (.write i) = t := by
    rw [State.accessArrives, State.arriveAt, ha]
    dsimp only
    rw [harrive, State.regather_of_none hheld]
  exact exec_next_of_eq rfl harrives hpending hpart

end

/-- Settles O30, by what `State.arrive` makes of a write that waits (log 140), is stale (R478), has lost its key, or is
held by no rule of R331, R373 and R463 (R228). -/
theorem memoryWriteArrives : Obligations.MemoryWriteArrives := by
  intro i s a ha hheld
  refine ⟨fun hwaits => ?waits, fun hwaits hstale => ?stale, fun c q u hwaits hstale howner hu => ⟨fun hkey => ?revoked,
    fun hvalid hctx hwardrobe hdrawer hoffline hawake hbehind hundo hpend => ?free⟩⟩
  case waits => exact exec_write_arrives ha (State.arrive_of_waits hwaits) hheld rfl rfl
  case stale =>
    exact ⟨_, exec_write_arrives ha (State.arrive_of_stale hwaits hstale) hheld rfl rfl, rfl, State.bump_par_same _ _ _⟩
  all_goals have hflight : (s.xfer c q).isNone = false := by rw [hu]; rfl
  case revoked =>
    exact ⟨_, exec_write_arrives ha (State.arrive_of_revoked howner hwaits hstale hflight hkey) hheld rfl rfl, rfl,
      State.bump_par_same _ _ _, rfl, rfl, rfl, rfl⟩
  case free =>
    -- The state with the write taken off its way is the one in which it arrives.
    have harrive := State.arrive_of_free (s := { s with accesses := s.accesses.eraseIdx i }) howner hwaits hstale
      hflight hvalid hctx hwardrobe hdrawer hoffline hawake hbehind hundo ((s.pendingOf_accesses _ _ _ _ _).trans hpend)
    have hframe := State.landed_accessDone { s with accesses := s.accesses.eraseIdx i } a c q
      (a.count.getD a.bytes.length)
    have hxfer := (State.landed_stored.xfer_eq c q).trans
      (State.freed_xfer (s := { s with accesses := s.accesses.eraseIdx i }) (a := a) hu)
    have hdone := State.accessDone_xfer (n := a.count.getD a.bytes.length) hxfer
    generalize State.accessDone _ _ _ _ = t at harrive hframe hdone
    dsimp only at hframe
    refine ⟨t, exec_write_arrives ha harrive (fun p => ?held) ?pending ?part, ?mem, ?accesses, ?side, ?pkg, ?cores,
      hdone⟩
    case held =>
      rw [hframe]
      exact hheld p
    case mem =>
      rw [hframe]
      exact s.put_mem_accesses _ _ _ _ _ _
    all_goals rw [hframe]

end Sys2Proof.Machine
end

section
/-!
PROOFS. How a transfer completes, and how one that is due is ended; a statement of spec/08_dma_and_shelves.md.
-/

namespace Sys2Proof.Machine

open Sys2Proof.Claims

/-! ### What drawers change of the engines (R272, R278 to R281) -/

/-- `t` is `s` after drawers have changed and writes have begun or ended to wait for their pages: no transfer has come
or gone, and what a trace is written by stands. -/
structure State.Paged (s t : State) : Prop where
  frame : t = { s with od := t.od, clusters := t.clusters, drawers := t.drawers }
  par_eq : ∀ k, k / 256 = 0x8420 → t.par k = s.par k
  seqs_eq : ∀ c, (t.cl c).xfers.map (·.seq) = (s.cl c).xfers.map (·.seq)

namespace State.Paged

theorem refl (s : State) : s.Paged s := ⟨rfl, fun _ _ => rfl, fun _ => rfl⟩

theorem trans {s t u : State} (hst : s.Paged t) (htu : t.Paged u) : s.Paged u where
  frame := by rw [htu.frame, hst.frame]
  par_eq k hk := (htu.par_eq k hk).trans (hst.par_eq k hk)
  seqs_eq c := (htu.seqs_eq c).trans (hst.seqs_eq c)

theorem foldl {α : Type} {f : State → α → State} (hf : ∀ (s : State) (a : α), s.Paged (f s a)) (as : List α)
    (s : State) : s.Paged (as.foldl f s) := by
  induction as generalizing s with
  | nil => exact refl s
  | cons a as ih => exact (hf s a).trans (ih (f s a))

theorem bump (s : State) {k : Nat} (n : Nat) (hk : k / 256 ≠ 0x8420) : s.Paged (s.bump k n) where
  frame := rfl
  par_eq i hi := by
    have hne : i ≠ k := fun h => hk (h ▸ hi)
    rw [State.bump_par, if_neg hne]
  seqs_eq _ := rfl

theorem setDrawer (s : State) (x d : Nat) (w : Drawer) : s.Paged (s.setDrawer x d w) :=
  ⟨rfl, fun _ _ => rfl, fun _ => rfl⟩

theorem modXfer (s : State) (c q : Nat) {f : Xfer → Xfer} (hf : ∀ t, (f t).seq = t.seq) :
    s.Paged (s.modXfer c q f) where
  frame := rfl
  par_eq _ _ := rfl
  seqs_eq d := by
    rw [State.modXfer_xfers]
    split
    next hd =>
      rw [hd, List.map_map]
      refine List.map_congr_left fun t _ => ?_
      dsimp only [Function.comp_apply]
      split
      · exact hf t
      · rfl
    next => rfl

theorem stopStall (s : State) (c : Nat) (t : Xfer) : s.Paged (s.stopStall c t) := by
  unfold State.stopStall
  split
  · exact refl s
  · exact (bump s _ (by decide)).trans (modXfer _ _ _ fun _ => rfl)

theorem endStall (s : State) (c : Nat) (t : Xfer) : s.Paged (s.endStall c t) := by
  refine (stopStall s c t).trans ?_
  change (s.stopStall c t).Paged ((s.stopStall c t).unstall c t)
  unfold State.unstall
  split
  · exact refl _
  · exact setDrawer _ _ _ _

theorem rejudge (s : State) (x d : Nat) : s.Paged (s.rejudge x d) := by
  unfold State.rejudge
  dsimp only
  split
  · exact refl s
  split
  · refine foldl (fun s q => ?_) _ s
    split
    · exact (stopStall s _ _).trans (bump _ _ (by decide))
    · exact refl s
  · refine (setDrawer s _ _ _).trans (foldl (fun s q => ?_) _ _)
    exact modXfer s q.1 q.2 fun _ => rfl

theorem drawerReadDone (s : State) (t : Xfer) : s.Paged (s.drawerReadDone t) := by
  unfold State.drawerReadDone
  split
  · exact refl s
  · exact ((setDrawer s _ _ _).trans (setDrawer _ _ _ _)).trans (rejudge _ _ _)

theorem drawerWriteDone (s : State) (c : Nat) (t : Xfer) : s.Paged (s.drawerWriteDone c t) := by
  unfold State.drawerWriteDone
  split
  · exact refl s
  · exact (setDrawer s _ _ _).trans (setDrawer _ _ _ _)

theorem xfer_eq_none {s t : State} (h : s.Paged t) {c q : Nat} (hq : s.xfer c q = none) : t.xfer c q = none := by
  rw [State.xfer_eq_none_iff] at *
  rwa [h.seqs_eq]

end State.Paged

/-- A transfer that reads no drawer leaves every cluster as it is. -/
theorem State.drawersDone_clusters (s : State) (c : Nat) {t : Xfer} (h : t.dread = []) :
    ((s.drawerReadDone t).drawerWriteDone c t).clusters = s.clusters := by
  rw [State.drawerReadDone, h]
  dsimp only
  unfold State.drawerWriteDone
  split <;> rfl

/-! ### A transfer completes (R239) -/

section
variable (s : State) (c : Nat) (t : Xfer)

/-- The transfer is out of its engine and its drawers. -/
def State.xferLeft : State :=
  ((s.modCl c (fun l => { l with xfers := l.xfers.filter (fun u => u.seq ≠ t.seq), progress := true })).drawerReadDone
    t).drawerWriteDone c t

/-- The transfer's trace record and completion record are written. -/
def State.xferRecorded : State :=
  let d := t.desc
  let s := (s.xferLeft c t).traceDma c t true t.status.code
  if !d.record || (s.drawerDie t.ctx d.rkey).isSome || s.isSpillKey t.ctx d.rkey then s
  else if s.keyOk t.ctx d.rkey false true && decide (d.roff + 16 ≤ (s.key d.rkey).length) then
    s.putChecked 0 t.ctx d.rkey d.roff (toBytes 16 t.record) none
  else s.bump K.DMA_ADDRESS_FAULTS 1

theorem State.xferLeft_paged : (s.modCl c (fun l =>
    { l with xfers := l.xfers.filter (fun u => u.seq ≠ t.seq), progress := true })).Paged (s.xferLeft c t) :=
  (State.Paged.drawerReadDone _ t).trans (.drawerWriteDone _ c t)

theorem State.xferLeft_frame : let u := s.xferLeft c t
    u = { s with od := u.od, clusters := u.clusters, drawers := u.drawers } :=
  (s.xferLeft_paged c t).frame

theorem State.xferLeft_xfer : (s.xferLeft c t).xfer c t.seq = none := by
  refine (s.xferLeft_paged c t).xfer_eq_none ?_
  rw [State.xfer_eq_none_iff, State.modCl_cl_same]
  simp

theorem State.traceDma_traced (fin : Bool) (st : Nat) : s.Traced (s.traceDma c t fin st) := State.Traced.trace s _ _ _

theorem State.xferRecorded_stored : (s.xferLeft c t).Stored (s.xferRecorded c t) := by
  have htraced := ((s.xferLeft c t).traceDma_traced c t true t.status.code).stored
  unfold State.xferRecorded
  dsimp only
  split_ifs
  · exact htraced
  · exact htraced.trans (.putChecked _ _ _ _ _ _ _)
  · exact htraced.trans (.bump _ _ _)

theorem State.xferRecorded_frame : let u := s.xferRecorded c t
    u = { s with od := u.od, clusters := u.clusters, drawers := u.drawers, free := u.free, mem := u.mem,
                 traces := u.traces, mirrors := u.mirrors } := by
  have hleft := s.xferLeft_frame c t
  have hstored := s.xferRecorded_stored c t
  dsimp only at *
  rw [hstored, hleft]

/-- Without RECORD and trace, a completion writes no byte. -/
theorem State.xferRecorded_mem {s : State} {c : Nat} {t : Xfer} (hc : c < 32) (hrecord : t.desc.record = false)
    (hoff : traceOff s (c / 8) 2) : (s.xferRecorded c t).mem = s.mem := by
  have hpar : (s.xferLeft c t).par (K.TRACE_CFG + c / 8) = s.par (K.TRACE_CFG + c / 8) :=
    (s.xferLeft_paged c t).par_eq _ (by unfold K.TRACE_CFG; omega)
  have hoff' : traceOff (s.xferLeft c t) (c / 8) 2 := by
    rwa [traceOff, State.traceCfg, hpar]
  have hrecorded : s.xferRecorded c t = (s.xferLeft c t).traceDma c t true t.status.code := by
    unfold State.xferRecorded
    rw [if_pos (by simp [hrecord])]
  rw [hrecorded, State.traceDma, State.trace_of_off hoff', s.xferLeft_frame]

/-- A transfer that reads no drawer leaves the other clusters as they are. -/
theorem State.xferRecorded_cl {s : State} {c : Nat} {t : Xfer} (hread : t.dread = []) {d : Nat} (hd : d ≠ c) :
    (s.xferRecorded c t).cl d = s.cl d := by
  rw [(s.xferRecorded_stored c t).cl_eq, State.cl, State.xferLeft, State.drawersDone_clusters _ _ hread]
  exact (State.modCl_cl _ _ _ _).trans (if_neg hd)

/-- A completion that is not silent sends the ADD that the descriptor names (R239). -/
theorem State.completeXfer_eq : s.completeXfer c t false = { s.xferRecorded c t with
      posts := s.posts ++
        addOf t.desc.cscope t.desc.cdie t.desc.ccluster t.desc.cindex t.desc.cvalue t.ctx t.gen (c / 8) } := by
  have hposts : (s.xferRecorded c t).posts = s.posts := by rw [s.xferRecorded_frame]
  have hcomplete : s.completeXfer c t false =
      match semOfC t.desc.cscope t.desc.cdie t.desc.ccluster t.desc.cindex with
      | none => s.xferRecorded c t
      | some r => (s.xferRecorded c t).post ⟨r, false, t.desc.cvalue, t.ctx, t.gen, c / 8⟩ := rfl
  rw [hcomplete, addOf, ← hposts]
  cases semOfC t.desc.cscope t.desc.cdie t.desc.ccluster t.desc.cindex with
  | none => simp
  | some r => rfl

theorem State.completeXfer_xfer : (s.completeXfer c t false).xfer c t.seq = none := by
  rw [State.completeXfer_eq]
  exact ((s.xferRecorded_stored c t).xfer_eq _ _).trans (s.xferLeft_xfer c t)

end

/-! ### A transfer is killed (R240, R428) -/

theorem State.killXfer_xfer (s : State) (c q : Nat) (st : XStatus) : (s.killXfer c q st false).xfer c q = none := by
  unfold State.killXfer
  split
  · assumption
  dsimp only
  split
  next u hu =>
    rw [← State.xfer_seq hu]
    exact State.completeXfer_xfer _ c u
  next hnone => exact hnone

theorem State.killXfer_frame (s : State) (c q : Nat) (st : XStatus) : let u := s.killXfer c q st false
    u.cores = s.cores ∧ u.now = s.now ∧ u.ctxs = s.ctxs := by
  have hended (t : Xfer) : let u := ((s.endStall c t).orphanReqs c q).endXfer c q st
      u = { s with od := u.od, clusters := u.clusters, drawers := u.drawers, links := u.links } := by
    have hstall := (State.Paged.endStall s c t).frame
    dsimp only
    rw [State.endXfer, State.modXfer, State.modCl, State.setCl, State.orphanReqs, hstall]
  unfold State.killXfer
  split
  · exact ⟨rfl, rfl, rfl⟩
  next t _ =>
    have h := hended t
    dsimp only at *
    generalize ((s.endStall c t).orphanReqs c q).endXfer c q st = u at *
    split
    · rw [State.completeXfer_eq, State.xferRecorded_frame, h]
      exact ⟨rfl, rfl, rfl⟩
    · rw [h]
      exact ⟨rfl, rfl, rfl⟩

/-! ### The failure of a step leaves the engines (R332, R351) -/

/-- From `s` to `t` the time and the transfers of every engine stand. -/
structure State.EnginesKept (s t : State) : Prop where
  now_eq : t.now = s.now
  xfers_eq : ∀ c, (t.cl c).xfers = (s.cl c).xfers

theorem State.Noted.enginesKept {s t : State} (h : s.Noted t) : s.EnginesKept t where
  now_eq := by rw [h.frame]
  xfers_eq c := by
    rw [h.frame]
    rfl

namespace State.EnginesKept

theorem refl (s : State) : s.EnginesKept s := ⟨rfl, fun _ => rfl⟩

theorem trans {s t u : State} (hst : s.EnginesKept t) (htu : t.EnginesKept u) : s.EnginesKept u where
  now_eq := htu.now_eq.trans hst.now_eq
  xfers_eq c := (htu.xfers_eq c).trans (hst.xfers_eq c)

theorem foldl {α : Type} {f : State → α → State} (hf : ∀ (s : State) (a : α), s.EnginesKept (f s a)) (as : List α)
    (s : State) : s.EnginesKept (as.foldl f s) := by
  induction as generalizing s with
  | nil => exact refl s
  | cons a as ih => exact (hf s a).trans (ih (f s a))

theorem of_clusters {s t : State} (hnow : t.now = s.now) (hclusters : t.clusters = s.clusters) : s.EnginesKept t where
  now_eq := hnow
  xfers_eq c := by rw [State.cl, hclusters, State.cl]

/-- A wait that is granted is no transfer. -/
theorem grantAll (s : State) : s.EnginesKept s.grantAll where
  now_eq := by
    obtain ⟨c, x, h⟩ := State.HangKept.grantAll_waits s
    rw [h]
  xfers_eq c := by
    simp only [State.grantAll, State.cl]
    rw [Tbl.get_foldl_range (f := fun (l : Cluster) =>
      { l with wait := l.wait.map (fun w => w.test w.sem (s.sem w.sem)) }) ?_]
    · split <;> rfl
    · intro t k
      split
      next hnone => exact .inl ⟨rfl, Cluster.mapWait_of_none (Option.isNone_iff_eq_none.mp hnone) _⟩
      next => exact .inr rfl

theorem restoreSems (s : State) (x : Nat) (t : Step) : s.EnginesKept (s.restoreSems x t) := by
  refine trans ?_ (grantAll _)
  exact of_clusters rfl rfl

theorem emptyQueues (s : State) (c : Nat) : s.EnginesKept (s.emptyQueues c) := by
  obtain ⟨y, hy⟩ := s.emptyQueues_cores c
  rw [hy]
  exact of_clusters rfl rfl

theorem sealReplay (s : State) (x : Nat) (t : Step) : s.EnginesKept (s.sealReplay x t) := by
  unfold State.sealReplay
  extract_lets w v clear restored emptied left
  have hrestored : s.EnginesKept restored := restoreSems s x t
  have hemptied : restored.EnginesKept emptied := foldl (fun s c => emptyQueues s c) _ _
  have hleft : emptied.EnginesKept left := of_clusters rfl rfl
  split
  exact ((hrestored.trans hemptied).trans hleft).trans (State.Noted.recordReplay _ _ _ _).enginesKept

theorem failStep (s : State) (x cause : Nat) : s.EnginesKept (s.failStep x cause) := by
  unfold State.failStep
  split
  next => exact (State.Noted.sealStep s x _).enginesKept
  next =>
    split
    next =>
      split
      · exact sealReplay s x _
      · exact refl s
    next => exact refl s

theorem xfer_eq {s t : State} (h : s.EnginesKept t) (c q : Nat) : t.xfer c q = s.xfer c q := by
  rw [State.xfer, h.xfers_eq, State.xfer]

end State.EnginesKept

/-! ### The two ends of a transfer -/

/-- A transfer with no write on its way has none to make visible. -/
theorem State.flushXfer_of_none {s : State} {c q : Nat} (h : s.accesses.all (fun a => a.owner ≠ .xfer c q) = true) :
    s.flushXfer c q = s := by
  have howner (a : Access) (ha : a ∈ s.accesses) : a.owner ≠ .xfer c q := by
    simpa using List.all_eq_true.1 h a ha
  have hmine : s.accesses.filter (fun a => a.owner = .xfer c q && !a.heldUndo && a.heldCopy.isNone) = [] :=
    List.filter_eq_nil_iff.2 fun a ha => by simp [howner a ha]
  have hothers :
      s.accesses.filter (fun a => !(a.owner = .xfer c q && !a.heldUndo && a.heldCopy.isNone)) = s.accesses :=
    List.filter_eq_self.2 fun a ha => by simp [howner a ha]
  unfold State.flushXfer
  dsimp only
  rw [hmine, hothers]
  rfl

theorem State.dmaComplete_eq {s : State} {c q : Nat} {x : Xfer} (hx : s.xfer c q = some x)
    (h : s.accesses.all (fun a => a.owner ≠ .xfer c q) = true) : s.dmaComplete c q =
      if s.xferDone c x && !s.recordAsleep x then ((s.completeXfer c x false).settle c).regather else s.regather := by
  unfold State.dmaComplete
  rw [hx]
  dsimp only
  rw [State.flushXfer_of_none h, hx]

/-- The state in which a transfer whose deadline has come is ended and counted (R240). -/
def State.xferExpired (s : State) (c q : Nat) (x : Xfer) : State :=
  ((s.reach (x.start + x.limit + x.stalled)).killXfer c q .timeout false).bump K.DMA_TIMEOUTS 1

/-- Its context's step has failed and the end is reported (R332). -/
def State.xferTimedOut (s : State) (c q : Nat) (x : Xfer) : State :=
  ((s.xferExpired c q x).failStep x.ctx 4).reportCtx 0x04 x.ctx (x.descIdx + (x.core / 64) <<< 20
    + (x.core / 8 % 8) <<< 22 + (x.core % 8) <<< 25 + x.seq <<< 28)

section
variable {s : State} {c q : Nat}

theorem State.dmaTimeout_of_kept {x : Xfer} (hx : s.xfer c q = some x)
    (h : s.xferDone c x = true ∨ x.stall.isSome = true) : s.dmaTimeout c q = s := by
  unfold State.dmaTimeout
  rw [hx]
  exact if_pos (by obtain h | h := h <;> simp [h])

theorem State.dmaTimeout_of_due {x : Xfer} (hx : s.xfer c q = some x) (hdone : s.xferDone c x = false)
    (hstall : x.stall = none)
    (hheld : s.accesses.any (fun a => a.owner = .xfer c q && (a.heldUndo || a.heldCopy.isSome)) = false) :
    s.dmaTimeout c q = (s.xferTimedOut c q x).settle c := by
  unfold State.dmaTimeout
  rw [hx]
  exact if_neg (by simp [hdone, hstall, hheld])

end

section
variable (s : State) (c q : Nat) (x : Xfer)

theorem State.xferExpired_frame : let u := s.xferExpired c q x
    u.cores = s.cores ∧ u.now = max s.now (x.start + x.limit + x.stalled) ∧ u.ctxs = s.ctxs :=
  State.killXfer_frame (s.reach (x.start + x.limit + x.stalled)) c q .timeout

theorem State.xferTimedOut_engines : (s.xferExpired c q x).EnginesKept (s.xferTimedOut c q x) :=
  (State.EnginesKept.failStep _ _ _).trans (State.Reported.reportCtx _ _ _ _).noted.enginesKept

theorem State.xferTimedOut_xfer : (s.xferTimedOut c q x).xfer c q = none :=
  ((s.xferTimedOut_engines c q x).xfer_eq c q).trans (State.killXfer_xfer _ c q .timeout)

theorem State.xferTimedOut_now : (s.xferTimedOut c q x).now = max s.now (x.start + x.limit + x.stalled) := by
  obtain ⟨-, hnow, -⟩ := s.xferExpired_frame c q x
  exact (s.xferTimedOut_engines c q x).now_eq.trans hnow

/-- Without a replay step of its context, no core changes by it. -/
theorem State.xferTimedOut_cores {s : State} {c q : Nat} {x : Xfer} (h : (s.cx x.ctx).replay = none) :
    (s.xferTimedOut c q x).cores = s.cores := by
  obtain ⟨hcores, -, hctxs⟩ := s.xferExpired_frame c q x
  have hreplay : ((s.xferExpired c q x).cx x.ctx).replay = none := by
    rwa [State.cx, hctxs]
  have hnoted : (s.xferExpired c q x).Noted (s.xferTimedOut c q x) :=
    (State.failStep_noted hreplay 4).trans (State.Reported.reportCtx _ _ _ _).noted
  rw [hnoted.frame]
  exact hcores

end

/-- Settles O16, by what a completion leaves (R239, R235) and by the end of a transfer whose deadline has come (R240,
R332). That a deadline's event happens then or later, that a row which is not due changes nothing and that the units
then do all that they can are the model's choices (log 1, log 8, log 9). -/
theorem transfersCompleteOrTimeOut : Obligations.TransfersCompleteOrTimeOut := by
  refine ⟨fun cl q s x hx hacc => ⟨fun hdone hawake => ?completes, fun hmore => ?waits⟩,
    fun cl q s => ⟨fun hx => ?absent, fun x hx hkept => ?kept, fun x hx hdone hstall hheld => ?due⟩⟩
  case completes =>
    have hseq := State.xfer_seq hx
    have hframe := s.xferRecorded_frame cl x
    refine ⟨s.completeXfer cl x false,
      congrArg s.ends ((State.dmaComplete_eq hx hacc).trans (if_pos (by simp [hdone, hawake]))),
      hseq ▸ s.completeXfer_xfer cl x, ?_⟩
    rw [State.completeXfer_eq]
    refine ⟨rfl, ?_, ?_, ?_, fun hread c hc => State.xferRecorded_cl hread hc,
      fun hrecord hoff => State.xferRecorded_mem cl.isLt hrecord hoff⟩
    all_goals
      dsimp only at *
      rw [hframe]
  case waits =>
    refine congrArg s.ends ((State.dmaComplete_eq hx hacc).trans (if_neg ?_))
    obtain h | h := hmore <;> simp [h]
  case absent =>
    refine exec_next_of_eq rfl ?_ rfl rfl
    unfold State.dmaTimeout
    rw [hx]
  case kept => exact exec_next_of_eq rfl (State.dmaTimeout_of_kept hx hkept) rfl rfl
  case due =>
    exact ⟨s.xferTimedOut cl q.toNat x, congrArg s.ends (State.dmaTimeout_of_due hx hdone hstall hheld),
      s.xferTimedOut_xfer _ _ x, fun hreplay => State.xferTimedOut_cores hreplay, s.xferTimedOut_now _ _ x⟩

end Sys2Proof.Machine
end

section
/-!
PROOFS. What spill copies, page grants and stall timeouts of drawers leave; a statement of
spec/09_backward_and_pipeline.md.
-/

namespace Sys2Proof.Machine

open Sys2Proof.Claims

/-! ### The counters of spilled pages and of stall timeouts (R275, R281) -/

/-- The two counters of chapter 09 that only a spill copy and a stall's timeout count. -/
def drawerCounter (k : Nat) : Bool := k = K.DRAWER_PAGES_SPILLED || k = K.STASH_TIMEOUTS

/-- Both counters stand where `n` gives them. -/
def State.Counting (s : State) (n : Nat → Nat) : Prop := ∀ k, drawerCounter k = true → s.par k = n k

namespace State.Counting
variable {s t : State} {n : Nat → Nat}

theorem refl (s : State) : s.Counting s.par := fun _ _ => rfl

theorem trans (ht : t.Counting s.par) (hs : s.Counting n) : t.Counting n :=
  fun k hk => (ht k hk).trans (hs k hk)

theorem bump (h : s.Counting n) {k m : Nat} (hk : drawerCounter k = false := by decide) :
    (s.bump k m).Counting n := by
  intro i hi
  have hne : i ≠ k := fun he => by simp [he, hk] at hi
  rw [State.bump_par, if_neg hne]
  exact h i hi

theorem modCx (h : s.Counting n) (x : Nat) (f : Ctx → Ctx) : (s.modCx x f).Counting n := h

theorem modXfer (h : s.Counting n) (c q : Nat) (f : Xfer → Xfer) : (s.modXfer c q f).Counting n := h

theorem setDrawer (h : s.Counting n) (x d : Nat) (w : Drawer) : (s.setDrawer x d w).Counting n := h

theorem ite {p : Prop} [Decidable p] (hs : s.Counting n) (ht : t.Counting n) : (if p then s else t).Counting n := by
  split
  · exact hs
  · exact ht

theorem foldl {α : Type} {f : State → α → State} (hf : ∀ (s : State) (a : α), s.Counting n → (f s a).Counting n)
    (h : s.Counting n) (as : List α) : (as.foldl f s).Counting n := by
  induction as generalizing s with
  | nil => exact h
  | cons a as ih => exact ih (hf s a h)

theorem writeSpace (h : s.Counting n) (space a : Nat) (bs : List Nat) : (s.writeSpace space a bs).Counting n := by
  unfold State.writeSpace
  split <;> exact h

theorem countBursts (h : s.Counting n) (cls a m : Nat) : (s.countBursts cls a m).Counting n := by
  have hk : drawerCounter (K.HBM_BURSTS_P0 + cls) = false := by
    unfold K.HBM_BURSTS_P0
    simp only [drawerCounter, Bool.or_eq_false_iff, decide_eq_false_iff_not]
    unfold K.DRAWER_PAGES_SPILLED K.STASH_TIMEOUTS
    omega
  exact .ite h (h.bump hk)

theorem countRmw (h : s.Counting n) (a m : Nat) (hdr : Bool) : (s.countRmw a m hdr).Counting n :=
  .ite h h.bump

end State.Counting

/-! ### What a copy into the spill region writes (R275, R277) -/

/-- `t` is `s` after writes to HBM, with what they and the checks of the blocks count, charge and trace. -/
structure State.HbmWritten (s t : State) : Prop where
  frame : t = { s with free := t.free, od := t.od, ctxs := t.ctxs, mem := t.mem, rings := t.rings,
                       traces := t.traces }
  shelf_eq : t.mem.shelf = s.mem.shelf
  service_eq : t.mem.service = s.mem.service
  counting : t.Counting s.par

namespace State.HbmWritten

theorem refl (s : State) : s.HbmWritten s := ⟨rfl, rfl, rfl, .refl s⟩

theorem trans {s t u : State} (hst : s.HbmWritten t) (htu : t.HbmWritten u) : s.HbmWritten u where
  frame := by rw [htu.frame, hst.frame]
  shelf_eq := htu.shelf_eq.trans hst.shelf_eq
  service_eq := htu.service_eq.trans hst.service_eq
  counting := htu.counting.trans hst.counting

theorem ite {s t u : State} {p : Prop} [Decidable p] (ht : s.HbmWritten t) (hu : s.HbmWritten u) :
    s.HbmWritten (if p then t else u) := by
  split
  · exact ht
  · exact hu

theorem foldl {α : Type} {f : State → α → State} (hf : ∀ (s : State) (a : α), s.HbmWritten (f s a)) (as : List α)
    (s : State) : s.HbmWritten (as.foldl f s) := by
  induction as generalizing s with
  | nil => exact refl s
  | cons a as ih => exact (hf s a).trans (ih (f s a))

theorem bump (s : State) {k m : Nat} (hk : drawerCounter k = false := by decide) : s.HbmWritten (s.bump k m) :=
  ⟨rfl, rfl, rfl, (State.Counting.refl s).bump hk⟩

theorem modCx (s : State) (x : Nat) (f : Ctx → Ctx) : s.HbmWritten (s.modCx x f) := ⟨rfl, rfl, rfl, .refl s⟩

theorem writeTraces (s : State) (x : Tbl TraceSt) : s.HbmWritten { s with traces := x } := ⟨rfl, rfl, rfl, .refl s⟩

theorem writeRings (s : State) (x : Tbl Ring) : s.HbmWritten { s with rings := x } := ⟨rfl, rfl, rfl, .refl s⟩

theorem writeHbm (s : State) (a : Nat) (bs : List Nat) : s.HbmWritten (s.writeSpace 0 a bs) :=
  ⟨rfl, rfl, rfl, .refl s⟩

theorem countBursts (s : State) (cls a m : Nat) : s.HbmWritten (s.countBursts cls a m) where
  frame := by rw [(State.Traced.countBursts s cls a m).frame]
  shelf_eq := by rw [State.countBursts_mem]
  service_eq := by rw [State.countBursts_mem]
  counting := (State.Counting.refl s).countBursts cls a m

theorem countRmw (s : State) (a m : Nat) (hdr : Bool) : s.HbmWritten (s.countRmw a m hdr) where
  frame := by rw [(State.Traced.countRmw s a m hdr).frame]
  shelf_eq := by rw [State.countRmw_mem]
  service_eq := by rw [State.countRmw_mem]
  counting := (State.Counting.refl s).countRmw a m hdr

theorem trace (s : State) (d cls : Nat) (ev : BitVec 128) : s.HbmWritten (s.trace d cls ev) := by
  unfold State.trace
  refine ite (refl s) ?_
  extract_lets t w used len overrun t' a counted noted off
  have hcounted : s.HbmWritten counted := (writeTraces s _).trans (bump _)
  have hnoted : counted.HbmWritten noted := ite (bump _) (refl _)
  have hwritten := ((writeHbm noted a (toBytes 16 ev.toNat)).trans (countBursts _ 3 a 16)).trans
    (countRmw _ a 16 false)
  exact ite ((writeTraces s _).trans (bump _)) ((hcounted.trans hnoted).trans (ite (bump _) hwritten))

theorem event (s : State) (u code detail : Nat) : s.HbmWritten (s.event u code detail) := by
  unfold State.event
  extract_lets r ev m r' placed counted
  have hcounted : s.HbmWritten counted := (writeRings s _).trans (ite (bump _) (refl _))
  exact ite (hcounted.trans (trace _ _ _ _)) hcounted

theorem checkBlock (s : State) (cl x src : Nat) (log : Bool) (b : Block) :
    s.HbmWritten (s.checkBlock cl x src log b).1 := by
  unfold State.checkBlock
  split
  · exact ite (modCx s _ _) (refl s)
  split
  · exact refl s
  · exact ((bump s).trans (modCx _ _ _)).trans (event _ _ _ _)

theorem bumpFree (s : State) {k : Nat} (hk : drawerCounter k = false := by decide) : s.HbmWritten (s.bumpFree k) :=
  ⟨rfl, rfl, rfl, State.Counting.bump (s := s.draw.2) (fun _ _ => rfl) hk⟩

theorem spillPut (s : State) (x : Nat) (w : Drawer) (i : Nat) (b : Block) : s.HbmWritten (s.spillPut x w i b) := by
  unfold State.spillPut
  extract_lets e a h m
  exact ite (bump s) (ite (bump s)
    ((((writeHbm s _ _).trans (writeHbm _ _ _)).trans (countBursts _ _ _ _)).trans (countRmw _ _ _ _)))

end State.HbmWritten

section
variable (s : State) (x d : Nat) (p : DrawerPage) (i : Nat)

/-- One block of a page is checked and written into the spill region. -/
def State.copyBlock (w : Drawer) (r : Nat × Nat) : State :=
  let c := s.checkBlock (8 * d) x w.key false (s.drawerBlock x d p.entry (32 * p.page + r.1))
  (c.1.bumpFree K.SHELF_BANK_WAIT_CYCLES).spillPut x w (32 * i + r.1) c.2.1

theorem State.copyBlock_written (w : Drawer) (r : Nat × Nat) : s.HbmWritten (s.copyBlock x d p i w r) :=
  ((State.HbmWritten.checkBlock _ _ _ _ _ _).trans (.bumpFree _)).trans (.spillPut _ _ _ _ _)

/-- The blocks of a page are copied, before its drawer knows it as spilled. -/
def State.blocksCopied : State := p.reads.foldl (fun t r => t.copyBlock x d p i (s.drawer x d) r) s

theorem State.blocksCopied_written : s.HbmWritten (s.blocksCopied x d p i) :=
  .foldl (fun t r => t.copyBlock_written x d p i _ r) _ s

/-- A drawer whose page lies in a page of its spill region now. -/
def Drawer.spilledTo (w : Drawer) (p : DrawerPage) (i : Nat) : Drawer := { w with
  held := w.held.map (fun q =>
    if q.entry = p.entry && q.page = p.page then { q with spilled := true, slot := i } else q) }

theorem State.copyPage_eq : s.copyPage x d p i =
    ((s.blocksCopied x d p i).setDrawer x d ((s.drawer x d).spilledTo p i)).bump K.DRAWER_PAGES_SPILLED 1 := rfl

theorem State.setDrawer_drawer (w : Drawer) : (s.setDrawer x d w).drawer x d = w := Tbl.get_put_same _ _ _ _

theorem State.copyPage_drawer : (s.copyPage x d p i).drawer x d = (s.drawer x d).spilledTo p i :=
  State.setDrawer_drawer _ x d _

theorem State.copyPage_counted : counted s (s.copyPage x d p i) K.DRAWER_PAGES_SPILLED 1 := by
  rw [counted, State.copyPage_eq, State.bump_par_same]
  exact congrArg (fun n => (n + 1) % 2 ^ 64) ((s.blocksCopied_written x d p i).counting _ (by decide))

/-- Beside the drawer, only what the blocks' copies write has changed. -/
theorem State.copyPage_frame : let t := s.copyPage x d p i
    t = { s with free := t.free, od := t.od, ctxs := t.ctxs, mem := t.mem, rings := t.rings, traces := t.traces,
                 drawers := t.drawers } := by
  dsimp only
  rw [State.copyPage_eq, (s.blocksCopied_written x d p i).frame]
  rfl

end

/-! ### The bytes of a spilled page -/

/-- The oldest page that a drawer copies is a resident one. -/
theorem Drawer.spillNext_resident {w : Drawer} {p : DrawerPage} (h : w.spillNext = some p) : p.spilled = false := by
  refine List.foldlRecOn (motive := fun o => ∀ q, o = some q → q.spilled = false) _ _ nofun
    (fun best hbest a ha q hq => ?_) p h
  have hresident : a.spilled = false := by simpa using List.of_mem_filter ha
  split at hq
  next => exact Option.some.inj hq ▸ hresident
  next r =>
    split at hq
    · exact Option.some.inj hq ▸ hresident
    · exact hbest q hq

/-- A block whose check it passes, or that is marked already, is delivered as it is (R233). -/
theorem State.checkBlock_of_ok (s : State) {b : Block} (h : b.h.bad = true ∨ b.crcOk = true) (cl x src : Nat) :
    s.checkBlock cl x src false b = (s, b, false) := by
  unfold State.checkBlock
  split
  · rfl
  next hbad => rw [if_pos (h.resolve_left hbad)]

/-- The bytes that a write into the spill region leaves depend on memory, keys, stacks and part alone. -/
theorem State.spillPut_mem_congr {s t : State} (hmem : t.mem = s.mem) (hpart : t.part = s.part)
    (hkeys : t.keys = s.keys) (hhbm : t.hbm = s.hbm) (x : Nat) (w : Drawer) (i : Nat) (b : Block) :
    (t.spillPut x w i b).mem = (s.spillPut x w i b).mem := by
  have hkey : t.key w.skey = s.key w.skey := by rw [State.key, hkeys, State.key]
  have hoff (a n : Nat) : t.offSites a 0 n = s.offSites a 0 n := by
    unfold State.offSites State.sitesAt State.siteOff State.stack
    rw [hpart, hhbm]
  unfold State.spillPut
  dsimp only
  rw [hkey, hoff, hoff]
  split_ifs
  · exact hmem
  · exact hmem
  · simp only [State.countRmw_mem, State.countBursts_mem]
    have hdata := State.writeSpace_mem_congr hmem hpart 0 (w.sbase + 2048 * i) (toBytes 2048 b.data.toNat)
    exact State.writeSpace_mem_congr hdata hpart _ _ _

section
variable {s : State} {x d : Nat} {p : DrawerPage}

/-- A resident block stands in the shelf, which a write to HBM does not reach. -/
theorem State.HbmWritten.drawerBlock_eq {t : State} (h : s.HbmWritten t) {b : Nat}
    (hpage : (s.drawer x d).page p.entry b = some p) (hp : p.spilled = false) :
    t.drawerBlock x d p.entry b = s.drawerBlock x d p.entry b := by
  have hdrawer : t.drawer x d = s.drawer x d := by
    rw [h.frame]
    rfl
  simp only [State.drawerBlock, hdrawer, hpage, Drawer.place, hp, Bool.false_eq_true, if_false, State.readSpace,
    h.shelf_eq]

/-- Blocks that pass their checks are written as they stand, one after another. -/
theorem State.foldl_copyBlock_mem {i : Nat} (hp : p.spilled = false)
    (hpage : (s.drawer x d).page p.entry (32 * p.page) = some p) {l : List (Nat × Nat)}
    (hl : ∀ r ∈ l, r.1 < 32 ∧ ((s.drawerBlock x d p.entry (32 * p.page + r.1)).h.bad = true ∨
      (s.drawerBlock x d p.entry (32 * p.page + r.1)).crcOk = true))
    {t u : State} (ht : s.HbmWritten t) (hu : s.HbmWritten u) (hmem : t.mem = u.mem) :
    (l.foldl (fun t r => t.copyBlock x d p i (s.drawer x d) r) t).mem =
      (l.foldl (fun u r => u.spillPut x (s.drawer x d) (32 * i + r.1)
        (s.drawerBlock x d p.entry (32 * p.page + r.1))) u).mem := by
  induction l generalizing t u with
  | nil => exact hmem
  | cons r l ih =>
    obtain ⟨⟨hr, hok⟩, hl⟩ := List.forall_mem_cons.1 hl
    have hsame : (s.drawer x d).page p.entry (32 * p.page + r.1) = some p := by
      rwa [Drawer.page, show (32 * p.page + r.1) / 32 = 32 * p.page / 32 by omega]
    have hcopy : t.copyBlock x d p i (s.drawer x d) r = (t.bumpFree K.SHELF_BANK_WAIT_CYCLES).spillPut x
        (s.drawer x d) (32 * i + r.1) (s.drawerBlock x d p.entry (32 * p.page + r.1)) := by
      rw [State.copyBlock, ht.drawerBlock_eq hsame hp, State.checkBlock_of_ok _ hok]
    have hpart : t.part = u.part := by rw [ht.frame, hu.frame]
    have hkeys : t.keys = u.keys := by rw [ht.frame, hu.frame]
    have hhbm : t.hbm = u.hbm := by rw [ht.frame, hu.frame]
    have hput := State.spillPut_mem_congr (t := t.bumpFree K.SHELF_BANK_WAIT_CYCLES) hmem hpart hkeys hhbm x
      (s.drawer x d) (32 * i + r.1) (s.drawerBlock x d p.entry (32 * p.page + r.1))
    exact ih hl (ht.trans (t.copyBlock_written x d p i _ r)) (hu.trans (.spillPut _ _ _ _ _))
      ((congrArg State.mem hcopy).trans hput)

end

/-! ### When a page is copied (R275, R373) -/

section
variable {s : State} {x d : Nat}

theorem State.spillCopy_of_full (h : ((s.drawer x d).spillNext = none ∨ (s.drawer x d).freePage true = none) ∨
    s.par K.DRAWER_SPILL_MARK ≤ (s.drawer x d).free false) : s.spillCopy x d = s := by
  unfold State.spillCopy
  dsimp only
  split
  next hnext hfree =>
    obtain (hnone | hnone) | hmark := h
    · exact absurd (hnext.symm.trans hnone) (Option.some_ne_none _)
    · exact absurd (hfree.symm.trans hnone) (Option.some_ne_none _)
    · exact if_neg (by simp [Nat.not_lt.2 hmark])
  next => rfl

variable {i : Nat} (hfree : (s.drawer x d).freePage true = some i)
include hfree

theorem State.spillCopy_of_asleep (h : s.asleepSites ((s.drawer x d).sbase + 65536 * i) 0 65536 = true) :
    s.spillCopy x d = s := by
  unfold State.spillCopy
  dsimp only
  split
  next hslot =>
    obtain rfl := Option.some.inj (hfree.symm.trans hslot)
    exact if_neg (by simp [h])
  next => rfl

theorem State.spillCopy_of_due {p : DrawerPage} (hnext : (s.drawer x d).spillNext = some p)
    (hmark : (s.drawer x d).free false < s.par K.DRAWER_SPILL_MARK)
    (hawake : s.asleepSites ((s.drawer x d).sbase + 65536 * i) 0 65536 = false) :
    s.spillCopy x d = s.copyPage x d p i := by
  unfold State.spillCopy
  simp [hfree, hnext, hmark, hawake]

end

/-! ### Pages for waiting writes (R278, R279) -/

section
variable {s : State} {x d : Nat}

theorem State.pageGrant_of_none
    (h : (s.drawer x d).stalled.find? (s.needsPage x d) = none ∨ (s.drawer x d).freePage false = none) :
    s.pageGrant x d = s.serveWaiting x d := by
  unfold State.pageGrant
  dsimp only
  split
  next hneeds hfree => simp [hneeds, hfree] at h
  next => rfl

theorem State.pageGrant_of_noWaiting (h : (s.drawer x d).stalled = []) : s.pageGrant x d = s := by
  rw [State.pageGrant_of_none (.inl (by rw [h]; rfl)), State.serveWaiting, h]
  rfl

/-- The drawer after a resident page is given to the write that a transfer offers. -/
def Drawer.granted (w : Drawer) (u : Xfer) (i : Nat) : Drawer :=
  w.allocate (drawerAt (u.offer.getD 0)).1 (drawerAt (u.offer.getD 0)).2 i u.step

theorem State.pageGrant_of_some {c q i : Nat} {u : Xfer}
    (hneeds : (s.drawer x d).stalled.find? (s.needsPage x d) = some (c, q))
    (hfree : (s.drawer x d).freePage false = some i) (hu : s.xfer c q = some u) :
    s.pageGrant x d = (s.setDrawer x d ((s.drawer x d).granted u i)).serveWaiting x d := by
  unfold State.pageGrant
  simp only [hneeds, hfree, hu]
  rfl

/-- What needs a page is a write that its transfer offers, in a page that the drawer does not hold. -/
theorem State.page_of_needsPage {c q : Nat} {u : Xfer} (hu : s.xfer c q = some u)
    (h : s.needsPage x d (c, q) = true) :
    (s.drawer x d).page (drawerAt (u.offer.getD 0)).1 (drawerAt (u.offer.getD 0)).2 = none := by
  unfold State.needsPage at h
  simp only [hu, Option.bind_some] at h
  cases hoffer : u.offer with
  | none => simp [hoffer] at h
  | some a =>
    simp only [hoffer, Bool.and_eq_true, Option.isNone_iff_eq_none] at h
    exact h.1

/-- A page that is given to a block is the one that holds it. -/
theorem Drawer.allocate_page {w : Drawer} {e b : Nat} (h : w.page e b = none) (i : Nat) (step : Option Nat) :
    (w.allocate e b i step).page e b = some ⟨e, b / 32, false, i, [], 0⟩ := by
  have hheld : (w.openEntries [e] step).held = w.held := by
    unfold Drawer.openEntries
    dsimp only
    split <;> rfl
  unfold Drawer.page at h ⊢
  simp [Drawer.allocate, hheld, List.find?_append, h]

theorem State.needsPage_of_page {c q : Nat} {u : Xfer} (hu : s.xfer c q = some u) {g : DrawerPage}
    (h : (s.drawer x d).page (drawerAt (u.offer.getD 0)).1 (drawerAt (u.offer.getD 0)).2 = some g) :
    s.needsPage x d (c, q) = false := by
  unfold State.needsPage
  simp only [hu, Option.bind_some]
  cases hoffer : u.offer with
  | none => rfl
  | some a =>
    rw [hoffer, Option.getD_some] at h
    simp [h]

end

/-! ### What the end of a transfer and the failure of a step count -/

namespace State.Counting
variable {s : State} {n : Nat → Nat} (h : s.Counting n)
include h

theorem trace (d cls : Nat) (ev : BitVec 128) : (s.trace d cls ev).Counting n :=
  (State.HbmWritten.trace s d cls ev).counting.trans h

theorem stopStall (c : Nat) (t : Xfer) : (s.stopStall c t).Counting n := by
  unfold State.stopStall
  split
  · exact h
  · exact h.bump

theorem endStall (c : Nat) (t : Xfer) : (s.endStall c t).Counting n := by
  unfold State.endStall State.unstall
  split <;> exact h.stopStall c t

theorem rejudge (x d : Nat) : (s.rejudge x d).Counting n := by
  unfold State.rejudge
  refine .ite h (.ite (.foldl (fun s q hs => ?_) h _) (.foldl (fun _ _ hs => hs.modXfer _ _ _) (h.setDrawer _ _ _) _))
  split
  · exact (hs.stopStall _ _).bump
  · exact hs

theorem drawerReadDone (t : Xfer) : (s.drawerReadDone t).Counting n := by
  unfold State.drawerReadDone
  split
  · exact h
  · exact ((h.setDrawer _ _ _).setDrawer _ _ _).rejudge _ _

theorem drawerWriteDone (c : Nat) (t : Xfer) : (s.drawerWriteDone c t).Counting n := by
  unfold State.drawerWriteDone
  split <;> exact h

theorem bursts (cls k off m : Nat) : (s.bursts cls k off m).Counting n :=
  .ite h (.ite (h.countBursts _ _ _) (.ite (.bump (s := s.draw.2) h) h))

theorem put (cls k off : Nat) (bs : List Nat) (hdr : Option (BitVec 128)) : (s.put cls k off bs hdr).Counting n := by
  have hdata := (h.writeSpace (s.key k).space ((s.key k).base + off) bs).bursts cls k off bs.length
  unfold State.put
  extract_lets e data written
  have hwritten : written.Counting n := by
    unfold written
    split
    · exact hdata.writeSpace _ _ _
    · exact hdata
  exact .ite (hwritten.countRmw _ _ _) hwritten

theorem putChecked (cls x k off : Nat) (bs : List Nat) (hdr : Option (BitVec 128)) :
    (s.putChecked cls x k off bs hdr).Counting n :=
  .ite h.bump (.ite h.bump (h.put _ _ _ _ _))

theorem xferRecorded (c : Nat) (t : Xfer) : (s.xferRecorded c t).Counting n := by
  have hremoved : (s.modCl c (fun l =>
      { l with xfers := l.xfers.filter (fun u => u.seq ≠ t.seq), progress := true })).Counting n := h
  have hleft : (s.xferLeft c t).Counting n := (hremoved.drawerReadDone t).drawerWriteDone c t
  have htraced : ((s.xferLeft c t).traceDma c t true t.status.code).Counting n := hleft.trace _ _ _
  exact .ite htraced (.ite (htraced.putChecked _ _ _ _ _ _) htraced.bump)

theorem killXfer (c q : Nat) (st : XStatus) : (s.killXfer c q st false).Counting n := by
  unfold State.killXfer
  split
  next => exact h
  next t _ =>
    have hended : (((s.endStall c t).orphanReqs c q).endXfer c q st).Counting n := h.endStall c t
    dsimp only
    split
    · rw [State.completeXfer_eq]
      exact hended.xferRecorded c _
    · exact hended

theorem log (x num rcd : Nat) (blk : Option Block) : (s.log x num rcd blk).Counting n := by
  have hentry : (s.logEntry x num rcd blk).2.Counting n := by
    unfold State.logEntry
    dsimp only
    split
    · exact h
    split
    · exact h
    refine modCx (writeSpace ?_ _ _ _) _ _
    split
    · exact .ite ((h.writeSpace _ _ _).writeSpace _ _ _) (h.writeSpace _ _ _)
    · exact h
  have hunlogged := hentry.modCx x (f := fun c => { c with
    steps := c.steps.map (fun t => if t.num = num && t.st = .opened then { t with unlogged := true } else t) })
  exact .ite hentry (.ite hunlogged.bump hunlogged)

theorem sendVerdict (x e : Nat) (m : VMsg) : (s.sendVerdict x e m).Counting n := by
  obtain ⟨l, hl⟩ := s.sendMask_links (epPorts 0 (s.ep 0 e)) (Msg.make (s.stamp (s.ep 0 e) x (s.cx x).gen 2 1 0)
    ((List.range 4).map (fun i => BitVec.ofNat 128 (m.bytes >>> (128 * i)))))
  refine .ite ?_ h
  rw [hl]
  exact h

theorem issueVerdict (x : Nat) (v : VMsg) : (s.issueVerdict x v).Counting n :=
  (foldl (fun _ e hs => hs.sendVerdict x e v) h (s.children x)).modCx _ _

theorem tryHealth (x num attempt : Nat) : (s.tryHealth x num attempt).Counting n := by
  unfold State.tryHealth
  dsimp only
  split
  next => exact h
  next => exact .ite h (.ite ((h.sendVerdict _ _ _).modCx _ _) (.ite (h.modCx _ _) ((h.modCx _ _).issueVerdict _ _)))

theorem tryReplay (x num attempt : Nat) : (s.tryReplay x num attempt).Counting n := by
  unfold State.tryReplay
  dsimp only
  split
  next => exact h
  next => exact .ite h (.ite ((h.modCx _ _).sendVerdict _ _ _) ((h.modCx _ _).issueVerdict _ _))

theorem recordReplay (x num : Nat) (isMatch : Bool) : (s.recordReplay x num isMatch).Counting n := by
  unfold State.recordReplay
  extract_lets replayed missed
  have hreplayed : replayed.Counting n := h.bump
  have hmissed : missed.Counting n := .ite hreplayed hreplayed.bump
  split
  next => exact hmissed
  next => exact (hmissed.modCx _ _).tryReplay _ _ _

theorem sealStep (x : Nat) (t : Step) : (s.sealStep x t).Counting n := by
  unfold State.sealStep
  extract_lets logged unl t₁ t₂ w checked charged sealed base sent
  have hlogged : logged.Counting n := foldl (fun _ _ hs => .ite hs (hs.log _ _ _ _)) h _
  have hcharged : charged.Counting n := .ite (.ite hlogged hlogged) (.ite hlogged hlogged)
  have hsealed : sealed.Counting n := hcharged.modCx _ _
  exact (hsealed.sendVerdict _ _ _).tryHealth _ _ _

theorem grantAll : s.grantAll.Counting n := by
  obtain ⟨c, y, hy⟩ := State.HangKept.grantAll_waits s
  rw [hy]
  exact h

theorem restoreSems (x : Nat) (t : Step) : (s.restoreSems x t).Counting n := by
  unfold State.restoreSems
  refine grantAll ?_
  exact h

theorem emptyQueues (c : Nat) : (s.emptyQueues c).Counting n := by
  obtain ⟨y, hy⟩ := s.emptyQueues_cores c
  rw [hy]
  exact h

theorem sealReplay (x : Nat) (t : Step) : (s.sealReplay x t).Counting n := by
  unfold State.sealReplay
  extract_lets w v clear restored emptied left
  have hrestored : restored.Counting n := h.restoreSems x t
  have hemptied : emptied.Counting n := foldl (fun _ c hs => hs.emptyQueues c) hrestored _
  split
  exact (hemptied.modCx _ _).recordReplay _ _ _

theorem failStep (x cause : Nat) : (s.failStep x cause).Counting n := by
  unfold State.failStep
  split
  next => exact h.sealStep x _
  next =>
    split
    next => exact .ite (h.sealReplay x _) h
    next => exact h

theorem reportCtx (kind x detail : Nat) : (s.reportCtx kind x detail).Counting n := by
  unfold State.reportCtx State.report
  extract_lets seq tail rcd full counted un noted
  have hnoted : noted.Counting n := ite (p := full) h.bump h
  unfold State.sendReport
  extract_lets addr hdr
  refine .ite hnoted ?_
  split
  next => exact hnoted.bump
  next p _ =>
    obtain ⟨l, hl⟩ := noted.toPort_links p (mgmtMsg addr 0 hdr (toBytes 32 rcd.toNat))
    rw [hl]
    exact bump (s := { noted with links := l }) hnoted

end State.Counting

/-! ### A stall times out (R281) -/

section
variable {s : State} {x d : Nat}

/-- A waiting write that is stalled, with its transfer and the time at which its STASH_TIMEOUT ends. -/
def State.stallOf (s : State) (p : Nat × Nat) : Option ((Nat × Nat) × Xfer × Nat) :=
  (s.xfer p.1 p.2).bind (fun t => t.stall.map (fun u => (p, t, u.1 + u.2)))

theorem State.stallOf_eq_some {p : Nat × Nat} {v : Xfer} {a b : Nat} (hv : s.xfer p.1 p.2 = some v)
    (hstall : v.stall = some (a, b)) : s.stallOf p = some (p, v, a + b) := by
  simp [State.stallOf, hv, hstall]

theorem State.exists_of_stallOf {p : Nat × Nat} {r : (Nat × Nat) × Xfer × Nat} (h : s.stallOf p = some r) :
    ∃ v a b, s.xfer p.1 p.2 = some v ∧ v.stall = some (a, b) ∧ r = (p, v, a + b) := by
  obtain ⟨v, hv, hr⟩ := Option.bind_eq_some_iff.1 h
  obtain ⟨⟨a, b⟩, hstall, rfl⟩ := Option.map_eq_some_iff.1 hr
  exact ⟨v, a, b, hv, hstall, rfl⟩

/-- The stalls of a drawer's waiting writes. -/
def State.writeStalls (s : State) (x d : Nat) : List ((Nat × Nat) × Xfer × Nat) :=
  (s.drawer x d).stalled.filterMap s.stallOf

/-- The stall that ends first, the first of equal ones. -/
def State.firstStall (s : State) (x d : Nat) : Option ((Nat × Nat) × Xfer × Nat) :=
  (s.writeStalls x d).find? (fun p => (s.writeStalls x d).all (fun r => p.2.2 ≤ r.2.2))

theorem State.firstStall_eq_none
    (h : ∀ p ∈ (s.drawer x d).stalled, ∀ v, s.xfer p.1 p.2 = some v → v.stall = none) :
    s.firstStall x d = none := by
  have hnil : s.writeStalls x d = [] := by
    refine List.filterMap_eq_nil_iff.2 fun p hp => ?_
    cases hv : s.xfer p.1 p.2 with
    | none => simp [State.stallOf, hv]
    | some v => simp [State.stallOf, hv, h p hp v hv]
  rw [State.firstStall, hnil]
  rfl

theorem State.firstStall_eq_some {c q since limit : Nat} {l r : List (Nat × Nat)} {u : Xfer}
    (hlist : (s.drawer x d).stalled = l ++ (c, q) :: r) (hu : s.xfer c q = some u)
    (hstall : u.stall = some (since, limit))
    (hbefore : ∀ p ∈ l, ∀ v a b, s.xfer p.1 p.2 = some v → v.stall = some (a, b) → since + limit < a + b)
    (hafter : ∀ p ∈ r, ∀ v a b, s.xfer p.1 p.2 = some v → v.stall = some (a, b) → since + limit ≤ a + b) :
    s.firstStall x d = some ((c, q), u, since + limit) := by
  have hlater (e : (Nat × Nat) × Xfer × Nat) (he : e ∈ l.filterMap s.stallOf) : since + limit < e.2.2 := by
    obtain ⟨p, hp, hpe⟩ := List.mem_filterMap.1 he
    obtain ⟨v, a, b, hv, hab, rfl⟩ := State.exists_of_stallOf hpe
    exact hbefore p hp v a b hv hab
  have hnotSooner (e : (Nat × Nat) × Xfer × Nat) (he : e ∈ r.filterMap s.stallOf) : since + limit ≤ e.2.2 := by
    obtain ⟨p, hp, hpe⟩ := List.mem_filterMap.1 he
    obtain ⟨v, a, b, hv, hab, rfl⟩ := State.exists_of_stallOf hpe
    exact hafter p hp v a b hv hab
  have hstalls : s.writeStalls x d = l.filterMap s.stallOf ++ ((c, q), u, since + limit) :: r.filterMap s.stallOf := by
    rw [State.writeStalls, hlist, List.filterMap_append, List.filterMap_cons_some (State.stallOf_eq_some hu hstall)]
  rw [State.firstStall, hstalls, List.find?_append, List.find?_eq_none.2, Option.none_or, List.find?_cons_of_pos]
  · simp only [List.all_eq_true, List.mem_append, List.mem_cons, decide_eq_true_eq]
    rintro e (he | rfl | he)
    · exact (hlater e he).le
    · exact le_rfl
    · exact hnotSooner e he
  · intro e he hall
    simp only [List.all_eq_true, decide_eq_true_eq] at hall
    exact (hlater e he).not_ge (hall ((c, q), u, since + limit) (by simp))

/-- The state in which a transfer whose stall has ended is killed, recorded, flagged and counted. -/
def State.stallExpired (s : State) (x d c q : Nat) (u : Xfer) (due : Nat) : State :=
  ((((s.reach due).killXfer c q .timeout false).hangRecord x 3 0 ⟨c, 5, u.pc, none⟩ d
    (drawerAt (u.offer.getD 0)).1).syncFlag (16 + x)).bump K.STASH_TIMEOUTS 1

/-- Its context's step has failed, and the end is reported where the context held no hang record. -/
def State.stallTimedOut (s : State) (x d c q : Nat) (u : Xfer) (due : Nat) : State :=
  let t := (s.stallExpired x d c q u due).failStep x 2
  if !bit (s.cx x).hang.toNat 0 then t.reportCtx 0x03 x (c + (drawerAt (u.offer.getD 0)).1 <<< 6 + d <<< 16) else t

theorem State.stashTimeout_of_none (h : s.firstStall x d = none) : s.stashTimeout x d = s := by
  unfold State.firstStall State.writeStalls State.stallOf at h
  simp only [State.stashTimeout, h]

theorem State.stashTimeout_of_first {c q due : Nat} {u : Xfer} (h : s.firstStall x d = some ((c, q), u, due)) :
    s.stashTimeout x d = if ((s.drawer x d).freePage false).isSome then (s.reach due).pageGrant x d
      else (s.stallTimedOut x d c q u due).settle c := by
  unfold State.firstStall State.writeStalls State.stallOf at h
  simp only [State.stashTimeout, h]
  rfl

end

section
variable (s : State) (x d c q : Nat) (u : Xfer) (due : Nat)

theorem State.stallExpired_frame : let t := s.stallExpired x d c q u due
    t = { (s.reach due).killXfer c q .timeout false with od := t.od, ctxs := t.ctxs } := by
  dsimp only
  unfold State.stallExpired State.syncFlag
  rw [State.hangRecord_frame]
  rfl

theorem State.stallExpired_counted : counted s (s.stallExpired x d c q u due) K.STASH_TIMEOUTS 1 := by
  have hkilled := State.Counting.killXfer (s := s.reach due) (State.Counting.refl s) c q .timeout
  rw [counted, State.stallExpired, State.bump_par_same, State.syncFlag_par _ _ (by decide), State.hangRecord_frame,
    ← hkilled _ (by decide)]
  rfl

theorem State.stallExpired_sync : bit ((s.stallExpired x d c q u due).par K.SYNC_STATUS) (16 + x) = true := by
  rw [State.stallExpired, State.bump_par, if_neg (by decide), State.syncFlag_bit]

theorem State.stallExpired_xfer : (s.stallExpired x d c q u due).xfer c q = none := by
  rw [State.stallExpired_frame]
  exact State.killXfer_xfer (s.reach due) c q .timeout

theorem State.stallExpired_now : (s.stallExpired x d c q u due).now = max s.now due := by
  obtain ⟨-, hnow, -⟩ := State.killXfer_frame (s.reach due) c q .timeout
  rw [State.stallExpired_frame]
  exact hnow

/-- The report that follows the failure of the step. -/
theorem State.stallTimedOut_reported :
    ((s.stallExpired x d c q u due).failStep x 2).Reported (s.stallTimedOut x d c q u due) :=
  .ite (.reportCtx _ _ _ _)

theorem State.stallTimedOut_engines : (s.stallExpired x d c q u due).EnginesKept (s.stallTimedOut x d c q u due) :=
  (State.EnginesKept.failStep _ _ _).trans (s.stallTimedOut_reported x d c q u due).noted.enginesKept

theorem State.stallTimedOut_xfer : (s.stallTimedOut x d c q u due).xfer c q = none :=
  ((s.stallTimedOut_engines x d c q u due).xfer_eq c q).trans (s.stallExpired_xfer x d c q u due)

theorem State.stallTimedOut_now : (s.stallTimedOut x d c q u due).now = max s.now due :=
  (s.stallTimedOut_engines x d c q u due).now_eq.trans (s.stallExpired_now x d c q u due)

theorem State.stallTimedOut_counted : counted s (s.stallTimedOut x d c q u due) K.STASH_TIMEOUTS 1 := by
  have hfailed := (State.Counting.refl (s.stallExpired x d c q u due)).failStep x 2
  have hreported : (s.stallTimedOut x d c q u due).Counting (s.stallExpired x d c q u due).par :=
    .ite (hfailed.reportCtx _ _ _) hfailed
  rw [counted, hreported _ (by decide), State.stallExpired_counted]

theorem State.stallTimedOut_sync : bit ((s.stallTimedOut x d c q u due).par K.SYNC_STATUS) (16 + x) = true := by
  have hkept := (State.HangKept.failStep (s.stallExpired x d c q u due) x 2).trans
    (s.stallTimedOut_reported x d c q u due).noted.hangKept
  rw [hkept.par_eq _ (by decide), State.stallExpired_sync]

end

/-- Settles O28, by what the copies of a page's blocks write (R275, R277), by the page that a grant gives (R278, R279)
and by the end of a transfer whose stall has lasted (R281). That a write to a spill region which may not take it is
dropped while its page moves all the same, that the writes which still wait are judged again, that a timeout happens at
its deadline or later and that a row which is not due changes nothing are the model's choices (log 123, log 139, log 1,
log 8). -/
theorem drawersSpillGrantAndTimeOut : Obligations.DrawersSpillGrantAndTimeOut := by
  refine ⟨fun x d s => ⟨fun hfull => ?full, fun i hfree hasleep => ?asleep,
      fun p i hnext hfree hmark hawake => ?copied, fun hnone => ?noWaiting, fun hnone => ?noGrant,
      fun c q i u hneeds hfree hu => ?granted⟩,
    fun x d s => ⟨fun hnone => ?noStall, fun c q since limit l r u hlist hu hstall hbefore hafter => ?stalled⟩⟩
  case full => exact exec_next_of_eq rfl (State.spillCopy_of_full hfull) rfl rfl
  case asleep => exact exec_next_of_eq rfl (State.spillCopy_of_asleep hfree hasleep) rfl rfl
  case copied =>
    have hframe := s.copyPage_frame x d p i
    have hwritten := s.blocksCopied_written x d p i
    refine ⟨s.copyPage x d p i, exec_next_of_eq rfl (State.spillCopy_of_due hfree hnext hmark hawake) ?_ ?_,
      s.copyPage_drawer x d p i, ?_, ?_, ?_, ?_, hwritten.shelf_eq, hwritten.service_eq,
      s.copyPage_counted x d p i, fun hpage hok =>
        State.foldl_copyBlock_mem (Drawer.spillNext_resident hnext) hpage hok (.refl s) (.refl s) rfl⟩
    all_goals rw [hframe]
  case noWaiting => exact exec_next_of_eq rfl (State.pageGrant_of_noWaiting hnone) rfl rfl
  case noGrant => exact congrArg s.ends (State.pageGrant_of_none hnone)
  case granted =>
    have hpage := Drawer.allocate_page (State.page_of_needsPage hu (List.find?_some hneeds)) i u.step
    rw [← State.setDrawer_drawer s x d (Drawer.allocate _ _ _ _ _)] at hpage
    exact ⟨congrArg s.ends (State.pageGrant_of_some hneeds hfree hu), State.needsPage_of_page hu hpage, hpage⟩
  case noStall => exact exec_next_of_eq rfl (State.stashTimeout_of_none (State.firstStall_eq_none hnone)) rfl rfl
  case stalled =>
    have hfirst := State.firstStall_eq_some hlist hu hstall hbefore hafter
    have hdue := State.stashTimeout_of_first hfirst
    exact ⟨fun hfree => congrArg s.ends (hdue.trans (if_pos hfree)),
      fun hfree => ⟨s.stallTimedOut x d c q u (since + limit),
        congrArg s.ends (hdue.trans (if_neg (by simp [hfree]))), s.stallTimedOut_xfer _ _ _ _ _ _,
        s.stallTimedOut_now _ _ _ _ _ _, s.stallTimedOut_counted _ _ _ _ _ _, s.stallTimedOut_sync _ _ _ _ _ _⟩⟩

end Sys2Proof.Machine
end

section
/-!
PROOFS. What the engines of the plans leave of the time, the semaphores, the plans and their counters; a statement of
spec/10_sharding_and_update.md.
-/

namespace Sys2Proof.Machine

open Sys2Proof.Claims

/-! ### The work of an engine beside its plans -/

/-- A message that an endpoint entry takes or refuses changes nothing but the links (R422). -/
theorem State.sendEp_links (s : State) (io e x mtype vc : Nat) (body : List (BitVec 128)) :
    ∃ l, s.sendEp io e x mtype vc body = { s with links := l } := by
  unfold State.sendEp
  dsimp only
  split
  · exact s.sendMask_links _ _
  · exact ⟨s.links, rfl⟩

/-- The two counters of chapter 10 that only the ends of COLLECTIVE_TIMEOUT and stale blocks count (R301, R311). -/
def collectiveCounter (k : Nat) : Bool := k = K.GATHER_STALE_UNITS || k = K.COLLECTIVE_TIMEOUTS

/-- `t` is `s` after an engine has written memory, counted, charged, logged, reported, sent or posted: the time, the
plans and the semaphores stand, and so do the two counters. -/
structure State.Works (s t : State) : Prop where
  frame : t = { s with free := t.free, od := t.od, ctxs := t.ctxs, posts := t.posts, mem := t.mem, rings := t.rings,
                       traces := t.traces, links := t.links, reports := t.reports, defence := t.defence }
  par_eq : ∀ k, collectiveCounter k = true → t.par k = s.par k

namespace State.Works

theorem refl (s : State) : s.Works s := ⟨rfl, fun _ _ => rfl⟩

theorem trans {s t u : State} (hst : s.Works t) (htu : t.Works u) : s.Works u where
  frame := by rw [htu.frame, hst.frame]
  par_eq k hk := (htu.par_eq k hk).trans (hst.par_eq k hk)

theorem ite {s t u : State} {p : Prop} [Decidable p] (ht : s.Works t) (hu : s.Works u) :
    s.Works (if p then t else u) := by
  split
  · exact ht
  · exact hu

theorem foldl {α : Type} {f : State → α → State} (hf : ∀ (s : State) (a : α), s.Works (f s a)) (as : List α)
    (s : State) : s.Works (as.foldl f s) := by
  induction as generalizing s with
  | nil => exact refl s
  | cons a as ih => exact (hf s a).trans (ih (f s a))

theorem foldl_fst {α β : Type} {f : State × β → α → State × β} (hf : ∀ (p : State × β) a, p.1.Works (f p a).1)
    (as : List α) (p : State × β) : p.1.Works (as.foldl f p).1 := by
  induction as generalizing p with
  | nil => exact refl p.1
  | cons a as ih => exact (hf p a).trans (ih (f p a))

theorem bump (s : State) {k n : Nat} (hk : collectiveCounter k = false := by decide) : s.Works (s.bump k n) where
  frame := rfl
  par_eq i hi := by
    have hne : i ≠ k := fun h => by simp [h, hk] at hi
    rw [State.bump_par, if_neg hne]

/-- A counter that rises only where there is something to count. -/
theorem bumpUnless (s : State) {p : Prop} [Decidable p] {k n : Nat}
    (hk : collectiveCounter k = false := by decide) : s.Works (if p then s else s.bump k n) :=
  ite (refl s) (bump s hk)

theorem modCx (s : State) (x : Nat) (f : Ctx → Ctx) : s.Works (s.modCx x f) := ⟨rfl, fun _ _ => rfl⟩

theorem post (s : State) (p : Post) : s.Works (s.post p) := ⟨rfl, fun _ _ => rfl⟩

theorem health (s : State) (c : Charge) (n : Nat) : s.Works (s.health c n) := ⟨rfl, fun _ _ => rfl⟩

/-! ### Writes to memory (R228, R365, R367, R373) -/

theorem writeSpace (s : State) (space a : Nat) (bs : List Nat) : s.Works (s.writeSpace space a bs) := by
  unfold State.writeSpace
  split <;> exact ⟨rfl, fun _ _ => rfl⟩

theorem countBursts (s : State) (cls a n : Nat) : s.Works (s.countBursts cls a n) := by
  have hk : collectiveCounter (K.HBM_BURSTS_P0 + cls) = false := by
    unfold K.HBM_BURSTS_P0
    simp only [collectiveCounter, Bool.or_eq_false_iff, decide_eq_false_iff_not]
    unfold K.GATHER_STALE_UNITS K.COLLECTIVE_TIMEOUTS
    omega
  exact bumpUnless s hk

theorem countRmw (s : State) (a n : Nat) (hdr : Bool) : s.Works (s.countRmw a n hdr) := bumpUnless s

theorem bursts (s : State) (cls k off n : Nat) : s.Works (s.bursts cls k off n) := by
  have hfree : s.Works (s.bumpFree K.SHELF_BANK_WAIT_CYCLES) :=
    trans (t := s.draw.2) ⟨rfl, fun _ _ => rfl⟩ (bump _)
  exact ite (refl s) (ite (countBursts s _ _ _) (ite hfree (refl s)))

theorem put (s : State) (cls k off : Nat) (bs : List Nat) (hdr : Option (BitVec 128)) :
    s.Works (s.put cls k off bs hdr) := by
  have hdata := (writeSpace s (s.key k).space ((s.key k).base + off) bs).trans (bursts _ cls k off bs.length)
  unfold State.put
  extract_lets e data written
  have hwritten : s.Works written := by
    unfold written
    split
    · exact hdata.trans (writeSpace _ _ _ _)
    · exact hdata
  exact ite (hwritten.trans (countRmw _ _ _ _)) hwritten

theorem enginePut (s : State) (x k off : Nat) (b : Block) : s.Works (s.enginePut x k off b) :=
  ite (bump s) (ite (bump s) (put s _ _ _ _ _))

/-! ### Events, reports and messages (R422, R491, R518) -/

theorem trace (s : State) (d cls : Nat) (ev : BitVec 128) : s.Works (s.trace d cls ev) := by
  unfold State.trace
  refine ite (refl s) ?_
  extract_lets t w used len overrun t' a counted noted off
  have htraces (x : Tbl TraceSt) : s.Works { s with traces := x } := ⟨rfl, fun _ _ => rfl⟩
  have hnoted : s.Works noted := ((htraces _).trans (bump _)).trans (ite (bump _) (refl _))
  have hwritten := ((writeSpace noted 0 a (toBytes 16 ev.toNat)).trans (countBursts _ 3 a 16)).trans
    (countRmw _ a 16 false)
  exact ite ((htraces _).trans (bump _)) (hnoted.trans (ite (bump _) hwritten))

theorem event (s : State) (u code detail : Nat) : s.Works (s.event u code detail) := by
  unfold State.event
  extract_lets r ev n r' placed counted
  have hplaced : s.Works placed := ⟨rfl, fun _ _ => rfl⟩
  have hcounted : s.Works counted := hplaced.trans (ite (bump _) (refl _))
  exact ite (hcounted.trans (trace _ _ _ _)) hcounted

theorem sendEp (s : State) (io e x mtype vc : Nat) (body : List (BitVec 128)) :
    s.Works (s.sendEp io e x mtype vc body) := by
  obtain ⟨l, hl⟩ := s.sendEp_links io e x mtype vc body
  rw [hl]
  exact ⟨rfl, fun _ _ => rfl⟩

theorem reportCtx (s : State) (kind x detail : Nat) : s.Works (s.reportCtx kind x detail) := by
  unfold State.reportCtx State.report
  extract_lets seq tail rcd full counted un noted
  have hcounted : s.Works counted := ite (p := full) (bump s) (refl s)
  have hnoted : s.Works noted := hcounted.trans ⟨rfl, fun _ _ => rfl⟩
  unfold State.sendReport
  extract_lets addr hdr
  refine ite hnoted ?_
  split
  next => exact hnoted.trans (bump _)
  next q _ =>
    obtain ⟨l, hl⟩ := noted.toPort_links q (mgmtMsg addr 0 hdr (toBytes 32 rcd.toNat))
    rw [hl]
    exact hnoted.trans (trans (t := { noted with links := l }) ⟨rfl, fun _ _ => rfl⟩ (bump _))

/-! ### The seal of a step (R328, R333 to R341, R352) -/

theorem log (s : State) (x n rcd : Nat) (blk : Option Block) : s.Works (s.log x n rcd blk) := by
  have hentry : s.Works (s.logEntry x n rcd blk).2 := by
    unfold State.logEntry
    dsimp only
    split
    · exact refl s
    split
    · exact refl s
    dsimp only
    refine trans (trans ?_ (writeSpace _ _ _ _)) (modCx _ x _)
    split
    · exact (writeSpace s _ _ _).trans (ite (writeSpace _ _ _ _) (refl _))
    · exact refl s
  have hunlogged := hentry.trans (modCx _ x fun c => { c with
    steps := c.steps.map (fun t => if t.num = n && t.st = .opened then { t with unlogged := true } else t) })
  exact ite hentry (ite (hunlogged.trans (bump _)) hunlogged)

theorem issueVerdict (s : State) (x : Nat) (v : VMsg) : s.Works (s.issueVerdict x v) := by
  unfold State.issueVerdict
  exact (foldl (f := fun s e => s.sendVerdict x e v) (fun s _ => sendEp s _ _ _ _ _ _) _ s).trans (modCx _ x _)

theorem tryHealth (s : State) (x num attempt : Nat) : s.Works (s.tryHealth x num attempt) := by
  unfold State.tryHealth
  dsimp only
  split
  · exact refl s
  · exact ite (refl s) (ite ((sendEp s _ _ _ _ _ _).trans (modCx _ x _))
      (ite (modCx s x _) ((modCx s x _).trans (issueVerdict _ x _))))

theorem tryReplay (s : State) (x num attempt : Nat) : s.Works (s.tryReplay x num attempt) := by
  unfold State.tryReplay
  dsimp only
  split
  · exact refl s
  · exact ite (refl s) (ite ((modCx s x _).trans (sendEp _ _ _ _ _ _ _))
      ((modCx s x _).trans (issueVerdict _ x _)))

theorem recordReplay (s : State) (x num : Nat) (isMatch : Bool) : s.Works (s.recordReplay x num isMatch) := by
  unfold State.recordReplay
  extract_lets replayed missed
  have hmissed : s.Works missed := (bump s).trans (ite (p := isMatch) (refl replayed) (bump replayed))
  split
  · exact hmissed
  · exact (hmissed.trans (modCx _ x _)).trans (tryReplay _ x _ _)

theorem sealStep (s : State) (x : Nat) (t : Step) : s.Works (s.sealStep x t) := by
  unfold State.sealStep
  extract_lets logged unl t₁ t₂ w checked charged sealed base sent
  have hlogged : s.Works logged := foldl (fun s _ => ite (refl s) (log s x _ _ none)) _ s
  have hcharged : s.Works charged :=
    (hlogged.trans (ite (health _ _ _) (refl _))).trans (ite (health _ _ _) (refl _))
  exact ((hcharged.trans (modCx _ x _)).trans (sendEp _ _ _ _ _ _ _)).trans (tryHealth _ x _ _)

/-! ### The arithmetic of the engines (R232, R302, R307, R312, R437) -/

theorem engineNonfinite (s : State) (x n : Nat) : s.Works (s.engineNonfinite x n) :=
  ite (refl s) ((bump s).trans (modCx _ x _))

theorem checkBlock (s : State) (cl x src : Nat) (l : Bool) (b : Block) :
    s.Works (s.checkBlock cl x src l b).1 := by
  unfold State.checkBlock
  split
  · exact ite (modCx s x _) (refl s)
  split
  · exact refl s
  · exact ((bump s).trans (modCx _ x _)).trans (event _ _ _ _)

theorem voted (s : State) (f : Fmt) (rs : List Nat) : s.Works (s.voted f rs).1 := by
  unfold State.voted
  extract_lets n here rest copy out d taken
  have htaken : s.Works taken := ⟨rfl, fun _ _ => rfl⟩
  exact htaken.trans (ite (refl _) ((bump _).trans (health _ _ _)))

theorem toE4M3 (s : State) (x tensor step : Nat) (bl : List Block) : s.Works (s.toE4M3 x tensor step bl).1 := by
  unfold State.toE4M3
  exact ((((voted s _ _).trans (bumpUnless _)).trans (bumpUnless _)).trans (bumpUnless _)).trans
    (engineNonfinite _ _ _)

theorem addVoted (s : State) (x : Nat) (a b : List (BitVec 32)) : s.Works (s.addVoted x a b).1 := by
  unfold State.addVoted
  exact ((voted s _ _).trans (bumpUnless _)).trans (engineNonfinite _ _ _)

theorem judgeGather (s : State) (f : PlanF) (g : HeldGather) : s.Works (s.judgeGather f g).1 := by
  refine foldl_fst (fun acc b => ?_) _ (s, g)
  obtain ⟨s, g⟩ := acc
  dsimp only
  split
  · exact refl s
  split
  · dsimp only
    exact bursts s _ _ _ _
  · dsimp only
    exact (bursts s _ _ _ _).trans (bump _)
  · exact refl s
  · split
    · exact refl s
    · exact bump s

theorem sendPartial (s : State) (f : PlanF) (p : Nat) (r : Reduction) (dest : Nat) :
    s.Works (s.sendPartial f p r dest) :=
  (((bump s).trans (engineNonfinite _ _ _)).trans (bumpUnless _)).trans
    (foldl (fun s _ => sendEp s _ _ _ _ _ _) _ _)

theorem accumulate (s : State) (f : PlanF) (u : UnitSum) : s.Works (s.accumulate f u) := by
  unfold State.accumulate
  extract_lets off old added r counted
  have hadded : s.Works r.1 := by
    unfold r
    split
    · exact refl s
    · exact ((bursts s _ _ _ _).trans (engineNonfinite _ _ _)).trans (addVoted _ _ _ _)
  exact (hadded.trans (engineNonfinite _ _ _)).trans (foldl (fun s _ => enginePut s _ _ _ _) _ _)

variable {s t : State} (h : s.Works t)
include h

theorem now_eq : t.now = s.now := by rw [h.frame]

theorem plan_eq (p : Nat) : t.plan p = s.plan p := by rw [h.frame]; rfl

end State.Works

/-! ### What an engine keeps of the plans and the semaphores -/

theorem State.setPlan_plan (s : State) (p : Nat) (q : PlanSt) (i : Nat) :
    (s.setPlan p q).plan i = if i = p then q else s.plan i := Tbl.get_put _ _ _ _ _

/-- Units that a plan has taken (R294). -/
def PlanSt.taken (q : PlanSt) : Nat := q.count.taken

/-- Submissions that a plan has taken and completed (R304, R305), and the gathers that wait at it (R299). -/
def PlanSt.submitted (q : PlanSt) : Nat × Nat × List HeldGather := (q.count.taken, q.count.done, q.held)

/-- From `s` to `t` the semaphores stand, and what `view` sees of every plan. -/
structure State.Runs {α : Type} (view : PlanSt → α) (s t : State) : Prop where
  side_eq : t.side = s.side
  pkg_eq : t.pkg = s.pkg
  view_eq : ∀ p, view (t.plan p) = view (s.plan p)

namespace State.Runs
variable {α : Type} {view : PlanSt → α}

theorem of_works {s t : State} (h : s.Works t) : s.Runs view t where
  side_eq := by rw [h.frame]
  pkg_eq := by rw [h.frame]
  view_eq p := congrArg view (h.plan_eq p)

theorem refl (s : State) : s.Runs view s := of_works (.refl s)

theorem trans {s t u : State} (hst : s.Runs view t) (htu : t.Runs view u) : s.Runs view u where
  side_eq := htu.side_eq.trans hst.side_eq
  pkg_eq := htu.pkg_eq.trans hst.pkg_eq
  view_eq p := (htu.view_eq p).trans (hst.view_eq p)

theorem ite {s t u : State} {p : Prop} [Decidable p] (ht : s.Runs view t) (hu : s.Runs view u) :
    s.Runs view (if p then t else u) := by
  split
  · exact ht
  · exact hu

theorem works {s t u : State} (h : s.Runs view t) (hu : t.Works u) : s.Runs view u := h.trans (of_works hu)

theorem setPlan {s t : State} (h : s.Runs view t) {p : Nat} {q : PlanSt} (hq : view q = view (t.plan p) := by rfl) :
    s.Runs view (t.setPlan p q) where
  side_eq := h.side_eq
  pkg_eq := h.pkg_eq
  view_eq i := by
    rw [State.setPlan_plan]
    split
    next hi => rw [hq, hi, h.view_eq]
    next => exact h.view_eq i

theorem planPost {s t : State} (h : s.Runs view t) {f : PlanF} {i : Nat} : s.Runs view (t.planPost f i) :=
  h.works (.post _ _)

/-! ### Gathers (R295, R297, R298 to R303) -/

theorem gatherRun (f : PlanF) (p n : Nat) (s : State) : s.Runs PlanSt.taken (State.gatherRun f p n s) := by
  induction n generalizing s with
  | zero => exact refl s
  | succ n ih =>
    rw [State.gatherRun]
    dsimp only
    split
    · exact refl s
    · exact ite (refl s) ((refl s).setPlan.planPost.trans (ih _))

end State.Runs

/-- A unit's blocks and scales are written into its window slot (R303, R312). -/
def State.unitWritten (s : State) (f : PlanF) (u : GatherUnit) (bl : List Block) : State :=
  let slot := u.k % f.wunits
  let n := if f.wfmt = 0 then 8 else 4
  let scales := (bl.getD 4 Block.null).data.toNat
  let scale (i : Nat) : Nat := if f.wfmt = 0 then 0x7F else elemCode .e8m0 scales i
  let s := s.engineNonfinite f.ctx ((bl.take n).map (badElems f.wfmt)).sum
  let s := ((bl.take n).zipIdx).foldl (fun s b =>
    s.enginePut f.ctx f.wkey (f.woff + 2048 * (n * slot + b.2))
      (engineBlock u.tensor b.2 f.wfmt b.1.h.bad u.version b.1.data.toNat (fun g => scale (64 * b.2 + g)))) s
  if f.wfmt = 0 then s else
    let b := bl.getD 4 Block.null
    s.putScales f slot u.tensor u.version b.h.bad ((toBytes 2048 b.data.toNat).take 256)

section
variable (s : State) (f : PlanF) (p : Nat) (u : GatherUnit) (bl : List Block)

theorem State.unitWritten_works : s.Works (s.unitWritten f u bl) := by
  unfold State.unitWritten
  extract_lets slot n scales scale counted landed b
  have hlanded : s.Works landed :=
    (State.Works.engineNonfinite s _ _).trans (.foldl (fun s _ => .enginePut s _ _ _ _) _ _)
  exact .ite hlanded (hlanded.trans (.enginePut _ _ _ _ _))

/-- Landing writes the unit, marks it as complete and lets the run of complete units go on. -/
theorem State.landUnit_eq : s.landUnit f p u bl =
    let t := s.unitWritten f u bl
    let v := t.setPlan p { t.plan p with
      units := (t.plan p).units.map (fun v => if v.k = u.k then { v with done := true } else v) }
    State.gatherRun f p (v.plan p).units.length v := rfl

theorem State.gatherRun_frame (n : Nat) : let t := State.gatherRun f p n s
    t = { s with planSt := t.planSt, posts := t.posts } := by
  induction n generalizing s with
  | zero => rfl
  | succ n ih =>
    rw [State.gatherRun]
    dsimp only
    split
    · rfl
    split
    · rfl
    · rw [ih]
      rfl

theorem State.landUnit_frame : let t := s.landUnit f p u bl
    t = { s.unitWritten f u bl with planSt := t.planSt, posts := t.posts } := by
  dsimp only
  rw [State.landUnit_eq, State.gatherRun_frame]
  rfl

theorem State.landUnit_now : (s.landUnit f p u bl).now = s.now := by
  rw [State.landUnit_frame]
  exact (s.unitWritten_works f u bl).now_eq

theorem State.landUnit_part : (s.landUnit f p u bl).part = s.part := by
  rw [State.landUnit_frame, (s.unitWritten_works f u bl).frame]

theorem State.landUnit_pending : (s.landUnit f p u bl).pending = s.pending := by
  rw [State.landUnit_frame, (s.unitWritten_works f u bl).frame]

theorem State.landUnit_par {k : Nat} (hk : collectiveCounter k = true) : (s.landUnit f p u bl).par k = s.par k := by
  rw [State.landUnit_frame, ← (s.unitWritten_works f u bl).par_eq k hk]
  rfl

end

namespace State.Runs
variable (s : State) (f : PlanF) (p : Nat)

theorem landUnit (u : GatherUnit) (bl : List Block) : s.Runs PlanSt.taken (s.landUnit f p u bl) := by
  rw [State.landUnit_eq]
  exact (of_works (s.unitWritten_works f u bl)).setPlan.trans (gatherRun f p _ _)

theorem landStale (u : GatherUnit) : s.Runs PlanSt.taken (s.landStale f p u) := by
  have hcounted : s.Runs PlanSt.taken (s.bump K.GATHER_STALE_UNITS 1) := ⟨rfl, rfl, fun _ => rfl⟩
  exact (hcounted.trans (of_works (.modCx _ _ _))).trans (landUnit _ f p u _)

theorem unitBlocksIn (entry tensor unit : Nat) (l : List (Nat × Block)) :
    s.Runs PlanSt.taken (s.unitBlocksIn f p entry tensor unit l) := by
  unfold State.unitBlocksIn
  dsimp only
  split
  · exact refl s
  · exact ite (refl s).setPlan (ite ((refl s).setPlan.trans (landUnit _ f p _ _))
      ((refl s).setPlan.trans (landStale _ f p _)))

theorem replyGather (g : HeldGather) : s.Runs PlanSt.taken (s.replyGather f p g) := by
  unfold State.replyGather
  extract_lets bl stale served
  have hserved : s.Works served := .bump s
  split
  next v out hout =>
    have hmade : s.Works (v, out).1 := by
      rw [← hout]
      split
      · exact hserved
      split
      · exact hserved
      · exact hserved.trans (.toE4M3 _ _ _ _ _)
    exact ite ((of_works hmade).trans (unitBlocksIn v f p _ _ _ _))
      ((of_works hmade).works (.foldl (fun s _ => .sendEp s _ _ _ _ _ _) _ _))

theorem serveGather (g : HeldGather) : s.Runs PlanSt.taken (s.serveGather f p g) := by
  unfold State.serveGather
  extract_lets off judged
  have hjudged : s.Runs PlanSt.taken judged.1 := of_works (.judgeGather s f g)
  clear_value judged
  exact ite (of_works (.bump s)) (ite (hjudged.trans (replyGather _ f p _)) hjudged.setPlan)

/-! ### Reductions (R304 to R310) -/

theorem readyRun (owned : List (Nat × Nat × Nat)) (n : Nat) (s : State) :
    s.Runs PlanSt.submitted (State.readyRun f p owned n s) := by
  induction n generalizing s with
  | zero => exact refl s
  | succ n ih =>
    rw [State.readyRun]
    dsimp only
    split
    · exact refl s
    · exact ite (refl s) ((refl s).setPlan.planPost.trans (ih _))

theorem addSums (n : Nat) (s : State) : s.Runs PlanSt.submitted (State.addSums f p n s) := by
  induction n generalizing s with
  | zero => exact refl s
  | succ n ih =>
    rw [State.addSums]
    dsimp only
    split
    · exact refl s
    · exact ((((refl s).setPlan.works (.accumulate _ f _)).works (.bump _)).trans (readyRun f p _ _ _)).trans (ih _)

theorem runReduction (n : Nat) (s : State) (r : Reduction) :
    s.Runs PlanSt.submitted (State.runReduction f p n s r) := by
  induction n generalizing s r with
  | zero => exact refl s
  | succ n ih =>
    rw [State.runReduction]
    dsimp only
    refine ite ((refl s).setPlan.trans (addSums f p _ _)) (ite (of_works (.sendPartial s f p r _)) (ite ?_ (ih s _)))
    split
    · exact (refl s).setPlan
    · exact ((refl s).setPlan.works (.addVoted _ _ _ _)).trans (ih _ _)

end State.Runs

/-! ### The next unit of a plan (R290, R294, R328) -/

/-- Unit `u` of list entry `i` is the next one of plan `p`, which is `f`, and may be taken: its context is OPEN with the
open step `t`, and GOSEM is reached. -/
structure State.MayTake (s : State) (p : Nat) (f : PlanF) (t : Step) (i u : Nat) : Prop where
  valid : s.planF p = some f
  live : s.live = true
  opened : (s.cx f.ctx).st = .opened
  step : (s.cx f.ctx).curStep = some t
  go : waitGe (s.sem (.pkg f.io f.go)) ((s.plan p).count.taken + 1) = true
  unit : findUnit s f f.lcount 0 ((s.plan p).count.taken % max 1 (s.listUnits f)) = some (i, u)

/-- Which results of an engine's copies will be wrong (R437) decides nothing about a plan's list. -/
theorem State.withFaults_findUnit (s : State) (f : PlanF) (fs : List CopyFault) (n j pos : Nat) :
    findUnit (s.withFaults fs) f n j pos = findUnit s f n j pos := by
  induction n generalizing j pos with
  | zero => rfl
  | succ n ih =>
    rw [findUnit, findUnit, ih]
    rfl

theorem State.MayTake.withFaults {s : State} {p : Nat} {f : PlanF} {t : Step} {i u : Nat} (h : s.MayTake p f t i u)
    (fs : List CopyFault) : (s.withFaults fs).MayTake p f t i u :=
  { h with unit := (s.withFaults_findUnit f fs _ _ _).trans h.unit }

/-! ### A fetch (R294, R295, R298) -/

/-- The unit that a GATHER plan takes next, as it stands among those in flight. -/
def State.nextFetch (s : State) (p : Nat) (t : Step) (tensor u : Nat) : GatherUnit :=
  ⟨(s.plan p).count.taken, tensor, u, s.now, s.parMs K.COLLECTIVE_TIMEOUT, t.num, (t.num + 2 ^ 16 - 1) % 2 ^ 16, [],
    false⟩

/-- A plan's state once it has taken a unit. -/
def PlanSt.fetching (q : PlanSt) (g : GatherUnit) : PlanSt :=
  { q with count := { q.count with taken := q.count.taken + 1 }, units := q.units ++ [g] }

section
variable (s : State) (f : PlanF) (p : Nat) (t : Step) (i u : Nat)

/-- The plan has taken its next unit, which the open step's log will name (R328). -/
def State.unitTaken : State :=
  let g := s.nextFetch p t (s.listEntry f i).tensor u
  (s.setPlan p ((s.plan p).fetching g)).modCx f.ctx (fun c => c.charge (fun t =>
    let r := Tbl.get t.gathers ((s.plan p).count.taken, 0) p
    { t with gathers := Tbl.put t.gathers (0, 0) p (r.1, r.2 + 1) }))

/-- The unit taken is served by this part, when it owns it, or asked of its owner. -/
def State.unitFetched : State :=
  let e := s.listEntry f i
  let own := f.owner u e.tensor
  let v := s.unitTaken f p t i u
  if own = f.rank then v.serveGather f p ⟨f.rank, i, e.tensor, u, (s.nextFetch p t e.tensor u).version, [], []⟩
  else v.sendEp f.io (f.epBase + own) f.ctx 7 5 (collSlots (v.identity f.ctx) p i u 0 0 0 f.hash e.tensor)

theorem State.unitTaken_plan :
    (s.unitTaken f p t i u).plan p = (s.plan p).fetching (s.nextFetch p t (s.listEntry f i).tensor u) := by
  rw [State.unitTaken, State.plan, State.modCx_planSt, ← State.plan, State.setPlan_plan, if_pos rfl]

/-- Serving or asking keeps the number of units taken. -/
theorem State.unitFetched_runs : (s.unitTaken f p t i u).Runs PlanSt.taken (s.unitFetched f p t i u) :=
  .ite (.serveGather _ _ _ _) (.of_works (.sendEp _ _ _ _ _ _ _))

theorem State.unitFetched_taken : ((s.unitFetched f p t i u).plan p).count.taken = (s.plan p).count.taken + 1 := by
  have hkept := (s.unitFetched_runs f p t i u).view_eq p
  rw [State.unitTaken_plan] at hkept
  exact hkept

theorem State.unitFetched_of_remote (hown : f.owner u (s.listEntry f i).tensor ≠ f.rank) :
    ∃ l, s.unitFetched f p t i u = { s.unitTaken f p t i u with links := l } := by
  unfold State.unitFetched
  dsimp only
  rw [if_neg hown]
  exact State.sendEp_links _ _ _ _ _ _ _

end

theorem State.gatherFetch_of_due {s : State} {p : Nat} {f : PlanF} {t : Step} {i u : Nat} (h : s.MayTake p f t i u)
    (hgather : f.reduce = false) (hroom : ((s.plan p).units.filter (fun u => !u.done)).length < 64) :
    s.gatherFetch p = s.unitFetched f p t i u := by
  unfold State.gatherFetch
  simp only [h.valid, h.step, h.unit]
  rw [if_neg]
  · rfl
  · simp [h.live, hgather, h.opened, h.go, hroom]

/-! ### A submission (R294, R304, R305) -/

/-- A plan's state once it has taken and completed a submission. -/
def PlanSt.submitting (q : PlanSt) : PlanSt :=
  { q with count := { q.count with taken := q.count.taken + 1, done := q.count.taken + 1 } }

section
variable {s : State} {p : Nat} {f : PlanF} {t : Step} {i u : Nat} (h : s.MayTake p f t i u) (hreduce : f.reduce = true)
include h hreduce

/-- A submission is read and checked, and then taken and completed; what follows keeps both counts. -/
theorem State.reduceSubmission_runs :
    ∃ v, s.Works v ∧ (v.setPlan p (s.plan p).submitting).Runs PlanSt.submitted (s.reduceSubmission p) := by
  unfold State.reduceSubmission
  rw [h.valid]
  dsimp -zeta only
  extract_lets q k c lu n base counted read charged count taken posted dec els fl flushed judged
  rw [show c.curStep = some t from h.step, show findUnit s f f.lcount 0 (k % lu) = some (i, u) from h.unit]
  dsimp -zeta only
  rw [if_neg]
  · have hread : counted.Works read.1 := by
      refine .foldl_fst (fun acc b => ?_) _ (counted, [])
      exact .checkBlock _ _ _ _ _ _
    have hcharged : s.Works charged := ((State.Works.bursts s _ _ _ _).trans hread).trans (.modCx _ _ _)
    have hposted : taken.Runs PlanSt.submitted posted := .of_works (.post _ _)
    have hjudged : taken.Runs PlanSt.submitted judged :=
      (hposted.works (.bumpUnless _)).works (.engineNonfinite _ _ _)
    exact ⟨charged, hcharged, .ite hposted (hjudged.trans (.runReduction _ _ _ _ _))⟩
  · simp [c, k, q, h.live, hreduce, h.opened, h.go]

theorem State.reduceSubmission_counts : let t := s.reduceSubmission p
    (t.plan p).count.taken = (s.plan p).count.taken + 1 ∧ (t.plan p).count.done = (s.plan p).count.taken + 1 := by
  obtain ⟨v, -, hruns⟩ := State.reduceSubmission_runs h hreduce
  have hcounts := hruns.view_eq p
  rw [State.setPlan_plan, if_pos rfl] at hcounts
  exact ⟨congrArg (·.1) hcounts, congrArg (·.2.1) hcounts⟩

theorem State.reduceSubmission_sems :
    (s.reduceSubmission p).side = s.side ∧ (s.reduceSubmission p).pkg = s.pkg := by
  obtain ⟨v, hv, hruns⟩ := State.reduceSubmission_runs h hreduce
  have hv' : s.Runs PlanSt.taken v := .of_works hv
  exact ⟨hruns.side_eq.trans hv'.side_eq, hruns.pkg_eq.trans hv'.pkg_eq⟩

theorem State.reduceSubmission_held (r : Nat) : ((s.reduceSubmission p).plan r).held = (s.plan r).held := by
  obtain ⟨v, hv, hruns⟩ := State.reduceSubmission_runs h hreduce
  have htaken : v.Runs PlanSt.held (v.setPlan p (s.plan p).submitting) :=
    (State.Runs.refl v).setPlan (congrArg PlanSt.held (hv.plan_eq p)).symm
  calc ((s.reduceSubmission p).plan r).held
      = ((v.setPlan p (s.plan p).submitting).plan r).held := congrArg (·.2.2) (hruns.view_eq r)
    _ = (v.plan r).held := htaken.view_eq r
    _ = (s.plan r).held := congrArg PlanSt.held (hv.plan_eq r)

end

/-! ### A unit in flight times out (R301) -/

section
variable {s : State} {p : Nat} {f : PlanF}

/-- Held requests of this part for a unit are forgotten. -/
def State.requestDropped (s : State) (p : Nat) (f : PlanF) (u : GatherUnit) : State :=
  s.setPlan p { s.plan p with held := (s.plan p).held.filter (fun g => !(g.rank = f.rank && g.unit = u.unit
    && g.tensor = u.tensor && g.version = u.version)) }

theorem State.gatherTimeout_of_idle (h : (s.plan p).units.filter (fun u => !u.done) = []) : s.gatherTimeout p = s := by
  unfold State.gatherTimeout
  simp only [h, firstDue, List.find?_nil]
  split <;> rfl

theorem State.gatherTimeout_of_due {u : GatherUnit} (hf : s.planF p = some f) (hgather : f.reduce = false)
    (hdue : firstDue ((s.plan p).units.filter (fun u => !u.done)) (fun u => u.start + u.limit) = some u) :
    s.gatherTimeout p = ((s.reach (u.start + u.limit)).requestDropped p f u).landStale f p u := by
  unfold State.gatherTimeout
  simp only [hf, hdue, hgather]
  rfl

end

/-- A unit that has gone stale is charged to the step, and no time passes. -/
theorem State.landStale_now (s : State) (f : PlanF) (p : Nat) (u : GatherUnit) : (s.landStale f p u).now = s.now :=
  State.landUnit_now _ f p u _

theorem State.landStale_counted (s : State) (f : PlanF) (p : Nat) (u : GatherUnit) :
    counted s (s.landStale f p u) K.GATHER_STALE_UNITS 1 := by
  unfold State.landStale
  rw [counted, State.landUnit_par _ _ _ _ _ (by decide)]
  exact State.bump_par_same s _ 1

/-! ### A reduction times out (R311, R332) -/

/-- From `s` to `t` the time and the plans stand, and the two counters; the semaphores and queues may not. -/
structure State.PlansKept (s t : State) : Prop where
  frame : t = { s with free := t.free, od := t.od, ctxs := t.ctxs, clusters := t.clusters, cores := t.cores,
                       side := t.side, pkg := t.pkg, posts := t.posts, mem := t.mem, rings := t.rings,
                       traces := t.traces, links := t.links, reports := t.reports, defence := t.defence }
  par_eq : ∀ k, collectiveCounter k = true → t.par k = s.par k

namespace State.PlansKept

theorem of_works {s t : State} (h : s.Works t) : s.PlansKept t where
  frame := by rw [h.frame]
  par_eq := h.par_eq

theorem refl (s : State) : s.PlansKept s := of_works (.refl s)

theorem trans {s t u : State} (hst : s.PlansKept t) (htu : t.PlansKept u) : s.PlansKept u where
  frame := by rw [htu.frame, hst.frame]
  par_eq k hk := (htu.par_eq k hk).trans (hst.par_eq k hk)

theorem plan_eq {s t : State} (h : s.PlansKept t) (p : Nat) : t.plan p = s.plan p := by rw [h.frame]; rfl

theorem restoreSems (s : State) (x : Nat) (t : Step) : s.PlansKept (s.restoreSems x t) := by
  unfold State.restoreSems
  extract_lets inSide stream inPkg merge
  obtain ⟨c, y, h⟩ := State.HangKept.grantAll_waits
    { s with side := merge s.side t.shadowSide inSide, pkg := merge s.pkg t.shadowPkg inPkg }
  rw [h]
  exact ⟨rfl, fun _ _ => rfl⟩

theorem emptyQueues (s : State) (cs : List Nat) : s.PlansKept (cs.foldl (fun s c => s.emptyQueues c) s) := by
  induction cs generalizing s with
  | nil => exact refl s
  | cons c cs ih =>
    obtain ⟨y, hy⟩ := s.emptyQueues_cores c
    rw [List.foldl_cons, hy]
    exact trans (t := { s with cores := y }) ⟨rfl, fun _ _ => rfl⟩ (ih _)

theorem sealReplay (s : State) (x : Nat) (t : Step) : s.PlansKept (s.sealReplay x t) := by
  unfold State.sealReplay
  extract_lets w v clear restored emptied left
  have hemptied : s.PlansKept emptied := (restoreSems s x t).trans (emptyQueues _ _)
  split
  exact hemptied.trans (of_works ((State.Works.modCx _ x _).trans (.recordReplay _ _ _ _)))

theorem failStep (s : State) (x cause : Nat) : s.PlansKept (s.failStep x cause) := by
  unfold State.failStep
  split
  · exact of_works (.sealStep s x _)
  split
  · split
    · exact sealReplay s x _
    · exact refl s
  · exact refl s

end State.PlansKept

/-- The reduction is no longer waited for; its end is counted, and recorded as an event. -/
def State.reductionEnded (s : State) (p : Nat) (f : PlanF) (r : Reduction) (unit round : Nat) : State :=
  (((s.reach (r.start + r.limit)).setPlan p { s.plan p with reds := (s.plan p).reds.erase r }).bump
    K.COLLECTIVE_TIMEOUTS 1).event ringIO0 0x12 (f.ctx <<< 52 + p <<< 45 + unit <<< 21 + round <<< 13
      + f.absRank r.unit r.tensor (f.rel r.unit r.tensor + 2 ^ r.level))

section
variable {s : State} {p unit round : Nat} {f : PlanF} {r : Reduction}

theorem State.collTimeout_of_idle
    (h : (s.plan p).reds.filter (fun r => r.unit = unit && r.round = round) = []) : s.collTimeout p unit round = s := by
  unfold State.collTimeout
  simp only [h, firstDue, List.find?_nil]
  split <;> rfl

end

section
variable (s : State) (p : Nat) (f : PlanF) (r : Reduction) (unit round : Nat)

/-- The reduction has ended, the step has failed, and the end is reported. -/
def State.reductionTimedOut : State :=
  ((s.reductionEnded p f r unit round).failStep f.ctx 3).reportCtx 0x05 f.ctx
    (p + unit <<< 7 + round <<< 31 + f.absRank r.unit r.tensor (f.rel r.unit r.tensor + 2 ^ r.level) <<< 39)

theorem State.reductionEnded_works : (((s.reach (r.start + r.limit)).setPlan p { s.plan p with
    reds := (s.plan p).reds.erase r }).bump K.COLLECTIVE_TIMEOUTS 1).Works (s.reductionEnded p f r unit round) :=
  .event _ _ _ _

theorem State.reductionEnded_now : (s.reductionEnded p f r unit round).now = max s.now (r.start + r.limit) :=
  (s.reductionEnded_works p f r unit round).now_eq

theorem State.reductionEnded_reds : ((s.reductionEnded p f r unit round).plan p).reds = (s.plan p).reds.erase r := by
  rw [(s.reductionEnded_works p f r unit round).plan_eq, State.plan, State.bump_planSt, ← State.plan,
    State.setPlan_plan, if_pos rfl]

theorem State.reductionEnded_counted : counted s (s.reductionEnded p f r unit round) K.COLLECTIVE_TIMEOUTS 1 := by
  rw [counted, (s.reductionEnded_works p f r unit round).par_eq _ (by decide), State.bump_par_same]
  rfl

theorem State.reductionTimedOut_kept :
    (s.reductionEnded p f r unit round).PlansKept (s.reductionTimedOut p f r unit round) :=
  (State.PlansKept.failStep _ _ _).trans (.of_works (.reportCtx _ _ _ _))

theorem State.reductionTimedOut_pending : (s.reductionTimedOut p f r unit round).pending = s.pending := by
  rw [(s.reductionTimedOut_kept p f r unit round).frame, (s.reductionEnded_works p f r unit round).frame]
  rfl

theorem State.reductionTimedOut_part : (s.reductionTimedOut p f r unit round).part = s.part := by
  rw [(s.reductionTimedOut_kept p f r unit round).frame, (s.reductionEnded_works p f r unit round).frame]
  rfl

theorem State.reductionTimedOut_now : (s.reductionTimedOut p f r unit round).now = max s.now (r.start + r.limit) := by
  rw [(s.reductionTimedOut_kept p f r unit round).frame]
  exact s.reductionEnded_now p f r unit round

theorem State.reductionTimedOut_reds :
    ((s.reductionTimedOut p f r unit round).plan p).reds = (s.plan p).reds.erase r := by
  rw [(s.reductionTimedOut_kept p f r unit round).plan_eq]
  exact s.reductionEnded_reds p f r unit round

theorem State.reductionTimedOut_counted :
    counted s (s.reductionTimedOut p f r unit round) K.COLLECTIVE_TIMEOUTS 1 := by
  rw [counted, (s.reductionTimedOut_kept p f r unit round).par_eq _ (by decide)]
  exact s.reductionEnded_counted p f r unit round

end

theorem State.collTimeout_of_due {s : State} {p unit round : Nat} {f : PlanF} {r : Reduction} (hf : s.planF p = some f)
    (hdue : firstDue ((s.plan p).reds.filter (fun r => r.unit = unit && r.round = round)) (fun r => r.start + r.limit)
      = some r) :
    s.collTimeout p unit round = s.reductionTimedOut p f r unit round := by
  unfold State.collTimeout
  simp only [hf, hdue]
  rfl

/-! ### The statement -/

section
variable {s : State} {p : Nat} (h : s.planF p = none)
include h

theorem State.gatherFetch_of_invalid : s.gatherFetch p = s := by
  unfold State.gatherFetch
  rw [h]

theorem State.gatherTimeout_of_invalid : s.gatherTimeout p = s := by
  unfold State.gatherTimeout
  rw [h]

theorem State.collTimeout_of_invalid (unit round : Nat) : s.collTimeout p unit round = s := by
  unfold State.collTimeout
  rw [h]

end

/-- Settles O34. After a unit or a submission is taken, what an engine does keeps the semaphores and the counts of every
plan; what the timeouts do beside the plans keeps the time and the two counters. That a completed run of units posts its
ADDs, which take effect later (log 49), that a timeout happens at its deadline or later and that a row which is not due
changes nothing are the model's choices (log 1, log 8). -/
theorem gathersAndReductionsAdvance : Obligations.GathersAndReductionsAdvance := by
  refine fun p s => ⟨fun hnone v u => ?invalid,
    fun f st i u hf hlive hopen hstep hgo hunit => ⟨fun hgather hroom => ?fetch, fun hreduce hheld fs => ?submission⟩,
    fun hdone => ?unitsIdle, fun f u hf hgather hdue => ?unitDue, fun u v hother => ?reductionsIdle,
    fun f r u v hf hdue => ?reductionDue⟩
  case invalid =>
    exact ⟨exec_next_of_eq rfl (State.gatherFetch_of_invalid hnone) rfl rfl,
      exec_next_of_eq rfl (State.gatherTimeout_of_invalid hnone) rfl rfl,
      exec_next_of_eq rfl (State.collTimeout_of_invalid hnone _ _) rfl rfl⟩
  case fetch =>
    have hdue := State.gatherFetch_of_due ⟨hf, hlive, hopen, hstep, hgo, hunit⟩ hgather hroom
    have hruns := s.unitFetched_runs f p st i u
    refine ⟨_, congrArg s.ends hdue, s.unitFetched_taken f p st i u, hruns.side_eq, hruns.pkg_eq, fun hown => ?_⟩
    obtain ⟨l, hl⟩ := s.unitFetched_of_remote f p st i u hown
    rw [hl]
    exact ⟨rfl, s.unitTaken_plan f p st i u⟩
  case submission =>
    have hmay := State.MayTake.withFaults ⟨hf, hlive, hopen, hstep, hgo, hunit⟩ fs
    have hnone := State.regather_of_none fun r => (State.reduceSubmission_held hmay hreduce r).trans (hheld r)
    obtain ⟨htaken, hdone⟩ := State.reduceSubmission_counts hmay hreduce
    exact ⟨_, congrArg s.ends hnone, htaken, hdone, State.reduceSubmission_sems hmay hreduce⟩
  case unitsIdle =>
    have hnone : (s.plan p).units.filter (fun u => !u.done) = [] := by
      simpa [List.filter_eq_nil_iff] using hdone
    exact exec_next_of_eq rfl (State.gatherTimeout_of_idle hnone) rfl rfl
  case unitDue =>
    refine ⟨_, exec_next_of_eq rfl (State.gatherTimeout_of_due hf hgather hdue) ?_ ?_, State.landStale_now _ _ _ _,
      State.landStale_counted _ _ _ _⟩
    · exact State.landUnit_pending _ _ _ _ _
    · exact State.landUnit_part _ _ _ _ _
  case reductionsIdle =>
    have hnone : (s.plan p).reds.filter (fun r => r.unit = u.toNat && r.round = v.toNat) = [] := by
      simpa [List.filter_eq_nil_iff, imp_iff_not_or] using hother
    exact exec_next_of_eq rfl (State.collTimeout_of_idle hnone) rfl rfl
  case reductionDue =>
    exact ⟨_, exec_next_of_eq rfl (State.collTimeout_of_due hf hdue) (s.reductionTimedOut_pending _ _ _ _ _)
      (s.reductionTimedOut_part _ _ _ _ _), s.reductionTimedOut_now _ _ _ _ _, s.reductionTimedOut_reds _ _ _ _ _,
      s.reductionTimedOut_counted _ _ _ _ _⟩

end Sys2Proof.Machine
end

section
/-!
PROOFS. A step takes the command at the front of the queue, and on an empty queue counts the time base; statements of
spec/95_what_each_step_holds.md and spec/17_observability.md.
-/

namespace Sys2Proof.Machine

/-- Settles O1: `step` is defined by the queue's front. -/
theorem stepRunsTheFrontCommand : Obligations.StepRunsTheFrontCommand := by
  intro s c rest hfront
  rw [step, hfront]

/-- The ways in which the time base counts (R498, R502): it stands without its input or clock, and otherwise counts one
unit, or one more or less while it slews. -/
theorem State.tick_cases (s : State) :
    ((s.power.aoOn = false ∨ s.power.refclk = false) ∧ s.tick = s) ∨
      (s.power.aoOn = true ∧ s.power.refclk = true ∧ ∃ (n : Nat) (u : TimeSync),
        s.tick = { s with now := s.now + n, service := { s.service with time := u } } ∧ n ≤ 2 ∧
          (s.service.time.slew = 0 → n = 1)) := by
  unfold State.tick
  dsimp only
  split_ifs with hclock hsteady hahead
  · exact .inl ⟨by simpa [or_iff_not_imp_left] using hclock, rfl⟩
  all_goals
    simp only [Bool.or_eq_true, Bool.not_eq_true', not_or, Bool.not_eq_false] at hclock
    refine .inr ⟨hclock.1, hclock.2, ?_⟩
  · exact ⟨1, _, rfl, by decide, fun _ => rfl⟩
  · exact ⟨2, _, rfl, by decide, fun hzero => by omega⟩
  · exact ⟨0, _, rfl, by decide, fun hzero => by simp [hzero] at hsteady⟩

/-- Settles O2. That an idle step is a tick of the time base is the model's choice (log 1). -/
theorem idleStepCountsTheTimeBase : Obligations.IdleStepCountsTheTimeBase := by
  intro s hidle
  have hstep : step s = .next s.tick := by rw [step, hidle]
  rw [hstep]
  obtain ⟨hstopped, htick⟩ | ⟨hao, hclock, n, u, htick, hle, hone⟩ := s.tick_cases
  · rw [htick]
    refine ⟨0, s.service.time, rfl, by decide, fun hao hclock _ => ?_, fun _ => rfl⟩
    simp [hao, hclock] at hstopped
  · exact ⟨n, u, congrArg _ htick, hle, fun _ _ => hone, fun hstopped => by simp [hao, hclock] at hstopped⟩

end Sys2Proof.Machine
end

section
/-!
PROOFS. What a port that sends, a message that is taken and a report leave of the ports, of the links and of the counters;
support for the statements of chapters 13 to 18.
-/

namespace Sys2Proof.Machine

open Sys2Proof.Claims

/-! ### A port that sends (R391, R393, R402, R403) -/

/-- `q` is the port `p` after it has sent: only what waits to leave, the flits sent and the credits have moved on. -/
def Port.Sent (p q : Port) : Prop :=
  q = { p with out := q.out, txSeq := q.txSeq, retry := q.retry, txPart := q.txPart, line := q.line,
               sentSlots := q.sentSlots, vc0 := q.vc0, served := q.served, credits := q.credits }

namespace Port.Sent

theorem refl (p : Port) : p.Sent p := rfl

theorem trans {p q r : Port} (hpq : p.Sent q) (hqr : q.Sent r) : p.Sent r := by
  unfold Port.Sent at *
  rw [hqr, hpq]

theorem flit (p : Port) : p.Sent p.flit := rfl

theorem start (w : List Nat) (p : Port) (m : Msg) : p.Sent (p.start w m) := rfl

theorem pump (w : List Nat) (n : Nat) (p : Port) : p.Sent (Port.pump w n p) := by
  induction n generalizing p with
  | zero => exact refl p
  | succ n ih =>
    have hflit : p.Sent (Port.pump w n p.flit) := trans (flit p) (ih p.flit)
    rw [Port.pump]
    split
    · exact refl p
    · split
      · exact hflit
      · split
        · next m _ => exact trans (start w p m) (ih _)
        · split
          · exact refl p
          · exact hflit

end Port.Sent

/-! ### Messages that leave (R416) -/

section
variable (s : State) (q : Nat) (p : Port) (m : Msg)

theorem State.sendOn_frame : let t := s.sendOn q p
    t = { s with links := { s.links with ports := t.links.ports, reqs := t.links.reqs } } := by
  unfold State.sendOn
  dsimp only
  split_ifs <;> rfl

theorem State.sendOn_port (j : Nat) :
    (s.sendOn q p).port j = if j = q then Port.pump s.vcWeights p.turns p else s.port j := by
  have hset := s.setPort_port q (Port.pump s.vcWeights p.turns p) j
  unfold State.sendOn
  dsimp only
  split_ifs with hnone hj
  · rw [hset, if_pos hj]
  · rw [hset, if_neg hj]
  · exact hset.trans (if_pos ‹_›)
  · exact hset.trans (if_neg ‹_›)

theorem State.toPort_frame : let t := s.toPort q m
    t = { s with links := { s.links with ports := t.links.ports, reqs := t.links.reqs } } := s.sendOn_frame q _

theorem State.toPort_port (j : Nat) : ∃ n, (s.toPort q m).port j =
    if j = q then Port.pump s.vcWeights n { s.port q with out := (s.port q).out ++ [m] } else s.port j :=
  ⟨_, s.sendOn_port q _ j⟩

end

/-- A message leaves by an ACTIVE port (R416). -/
theorem State.choosePort_active {s : State} {mask vc p : Nat} (h : s.choosePort mask vc = some p) :
    (s.port p).mode = .active := by
  have hchosen : ∀ (l : List Nat) (best : Option Nat) (f : Option Nat → Nat → Option Nat),
      (∀ b q, f b q = some q ∨ f b q = b) → (∀ q ∈ l, (s.port q).mode = .active) →
      (∀ q, best = some q → (s.port q).mode = .active) → ∀ q, l.foldl f best = some q → (s.port q).mode = .active := by
    intro l best f hf
    induction l generalizing best with
    | nil => exact fun _ hbest => hbest
    | cons a l ih =>
      refine fun hl hbest => ih _ (fun q hq => hl q (.tail _ hq)) fun q hq => ?_
      obtain hnew | hold := hf best a
      · rw [hnew] at hq
        exact Option.some.inj hq ▸ hl a (.head _)
      · exact hbest q (hold ▸ hq)
  refine hchosen _ _ _ (fun b q => ?_) (fun q hq => ?_) (fun _ hq => by simp at hq) p h
  · cases b with
    | none => exact .inl rfl
    | some b =>
      dsimp only
      split_ifs
      · exact .inl rfl
      · exact .inr rfl
  · simp only [List.mem_filter, Bool.and_eq_true, decide_eq_true_eq] at hq
    exact hq.2.2

/-- `t` is `s` after messages have left by ports, or wait for an ACTIVE one. -/
structure State.Sent (s t : State) : Prop where
  frame : t = { s with links := { s.links with ports := t.links.ports, reqs := t.links.reqs, parked := t.links.parked } }
  ports : ∀ q, (s.port q).Sent (t.port q)

namespace State.Sent

theorem refl (s : State) : s.Sent s := ⟨rfl, fun _ => rfl⟩

theorem trans {s t u : State} (hst : s.Sent t) (htu : t.Sent u) : s.Sent u where
  frame := by rw [htu.frame, hst.frame]
  ports q := (hst.ports q).trans (htu.ports q)

theorem foldl {α : Type} {f : State → α → State} (hf : ∀ (s : State) (a : α), s.Sent (f s a)) (as : List α)
    (s : State) : s.Sent (as.foldl f s) := by
  induction as generalizing s with
  | nil => exact refl s
  | cons a as ih => exact (hf s a).trans (ih (f s a))

theorem sendOn (s : State) {q : Nat} {p : Port} (hp : (s.port q).Sent p) : s.Sent (s.sendOn q p) where
  frame := by rw [s.sendOn_frame q p]
  ports j := by
    rw [s.sendOn_port]
    split_ifs with hj
    · rw [hj]
      exact hp.trans (.pump _ _ _)
    · exact .refl _

theorem toPort (s : State) (q : Nat) (m : Msg) : s.Sent (s.toPort q m) := sendOn s rfl

theorem pumpPort (s : State) (q : Nat) : s.Sent (s.pumpPort q) := sendOn s rfl

theorem sendMask (s : State) (mask : Nat) (m : Msg) : s.Sent (s.sendMask mask m) := by
  unfold State.sendMask
  split
  · exact toPort s _ _
  · exact ⟨rfl, fun _ => rfl⟩

theorem unpark (s : State) : s.Sent s.unpark := by
  have hnone : s.Sent { s with links := { s.links with parked := [] } } := ⟨rfl, fun _ => rfl⟩
  exact hnone.trans (foldl (fun s (p : Nat × Msg) => sendMask s p.1 p.2) _ _)

variable {s t : State} (h : s.Sent t)
include h

theorem par_eq (k : Nat) : t.par k = s.par k := by rw [h.frame]; rfl

end State.Sent

/-! ### Messages that are taken (R402, R330) -/

/-- `q` is the port `p` after credits have been given back or withheld. -/
def Port.Credited (p q : Port) : Prop := q = { p with owed := q.owed, withheld := q.withheld }

theorem Port.free_credited (p : Port) (x vc n : Nat) : p.Credited (p.free x vc n) := by
  unfold Port.free
  split_ifs <;> rfl

section
variable (s : State) (m : Msg)

theorem State.takeMsg_frame : let t := s.takeMsg m
    t = { s with links := { s.links with ports := t.links.ports, inbox := t.links.inbox } } := by
  unfold State.takeMsg
  split <;> rfl

theorem State.takeMsg_port (j : Nat) : (s.port j).Credited ((s.takeMsg m).port j) := by
  unfold State.takeMsg
  split
  · rfl
  · next p _ =>
    rw [State.setPort_port]
    split_ifs with hj
    · subst hj
      exact Port.free_credited _ _ _ _
    · rfl

theorem State.takeMsg_par (k : Nat) : (s.takeMsg m).par k = s.par k := by rw [s.takeMsg_frame m]; rfl

theorem State.takeMsg_choosePort (mask vc : Nat) : (s.takeMsg m).choosePort mask vc = s.choosePort mask vc := by
  have hport := s.takeMsg_port m
  have hpart : (s.takeMsg m).part = s.part := by rw [s.takeMsg_frame m]
  have hmode : ∀ j, ((s.takeMsg m).port j).mode = (s.port j).mode := fun j => by rw [hport j]
  have hcredits : ∀ j, ((s.takeMsg m).port j).credits = (s.port j).credits := fun j => by rw [hport j]
  simp only [State.choosePort, hpart, hmode, hcredits]

theorem State.takeMsg_route (daddr : Nat) : (s.takeMsg m).route daddr = s.route daddr := by
  rw [State.route, s.takeMsg_frame m]
  rfl

end

/-! ### Reports (R491 to R493) -/

/-- The counters of reports and of notifications that find no port. -/
def reportCounter (k : Nat) : Bool := k = K.REPORTS_OVERWRITTEN || k = K.MGMT_SEND_DROPS || k = K.REPORTS_SENT

/-- `t` is `s` after reports have been made: records have joined the ring and left by ports. -/
structure State.Told (s t : State) : Prop where
  frame : t = { s with od := t.od, links := { s.links with ports := t.links.ports, reqs := t.links.reqs },
                       reports := t.reports }
  ports : ∀ q, (s.port q).Sent (t.port q)
  idle : ∀ q, (s.port q).mode ≠ .active → t.port q = s.port q
  par_eq : ∀ k, reportCounter k = false → t.par k = s.par k

namespace State.Told

theorem refl (s : State) : s.Told s := ⟨rfl, fun _ => rfl, fun _ _ => rfl, fun _ _ => rfl⟩

theorem trans {s t u : State} (hst : s.Told t) (htu : t.Told u) : s.Told u where
  frame := by rw [htu.frame, hst.frame]
  ports q := (hst.ports q).trans (htu.ports q)
  idle q hq := by
    have hst' := hst.idle q hq
    rw [htu.idle q (by rwa [hst']), hst']
  par_eq k hk := (htu.par_eq k hk).trans (hst.par_eq k hk)

theorem bump (s : State) {k : Nat} (n : Nat) (hk : reportCounter k = true) : s.Told (s.bump k n) where
  frame := rfl
  ports _ := rfl
  idle _ _ := rfl
  par_eq i hi := by
    have hne : i ≠ k := fun h => by simp [h, hk] at hi
    rw [State.bump_par, if_neg hne]

theorem toPort {s : State} {q : Nat} (hq : (s.port q).mode = .active) (m : Msg) : s.Told (s.toPort q m) where
  frame := by rw [s.toPort_frame q m]
  ports := (State.Sent.toPort s q m).ports
  idle j hj := by
    obtain ⟨n, hport⟩ := s.toPort_port q m j
    have hne : j ≠ q := fun h => hj (h ▸ hq)
    rw [hport, if_neg hne]
  par_eq _ _ := (State.Sent.toPort s q m).par_eq _

end State.Told

section
variable (s : State) (kind : Nat) (c : Option (Nat × Nat)) (detail : Nat)

theorem State.sendReport_told (r : BitVec 256) :
    s.Told (s.sendReport r) ∧ (s.sendReport r).reports = s.reports := by
  unfold State.sendReport
  dsimp only
  split_ifs
  · exact ⟨.refl s, rfl⟩
  · split
    · exact ⟨.bump s 1 (by decide), rfl⟩
    · next p hp =>
      obtain ⟨mask, -, hchosen⟩ := Option.bind_eq_some_iff.mp hp
      refine ⟨(State.Told.toPort (State.choosePort_active hchosen) _).trans (.bump _ 1 (by decide)), ?_⟩
      rw [State.bump_reports, s.toPort_frame]

theorem State.report_told : s.Told (s.report kind c detail) := by
  unfold State.report
  extract_lets seq tail rcd full counted un recorded
  have hcounted : s.Told counted := by
    unfold counted
    split_ifs
    · exact .bump s 1 (by decide)
    · exact .refl s
  have hrecorded : counted.Told recorded := ⟨rfl, fun _ => rfl, fun _ _ => rfl, fun _ _ => rfl⟩
  exact (hcounted.trans hrecorded).trans (recorded.sendReport_told rcd).1

/-- The record takes the place of its SEQ in the ring, and the number moves on. -/
theorem State.report_ring : ∃ r un, (s.report kind c detail).reports =
    ⟨(s.reports.next + 1) % 2 ^ 32, Tbl.put s.reports.ring 0 (s.reports.next % 64) r, un⟩ ∧
      (c = none → r = BitVec.ofNat 256 ((s.now % 2 ^ 64) <<< 192 + (s.reports.next % 2 ^ 32) <<< 160 + kind <<< 152 + 0
        + (s.par K.JOB_MEMBERSHIP % 2 ^ 16) <<< 68 + detail % 2 ^ 64)) := by
  unfold State.report
  extract_lets seq tail rcd full counted un recorded
  have hring : counted.reports.ring = s.reports.ring := by
    unfold counted
    split_ifs <;> rfl
  refine ⟨rcd, un ++ [(seq, counted.now + counted.parMs K.REPORT_RESEND)], ?_, fun hnone => ?_⟩
  · rw [(State.sendReport_told _ _).2, ← hring]
  · subst hnone
    rfl

theorem State.report_next : (s.report kind c detail).reports.next = (s.reports.next + 1) % 2 ^ 32 := by
  obtain ⟨r, un, hreports, -⟩ := s.report_ring kind c detail
  rw [hreports]

theorem State.report_reported (hkind : kind < 2 ^ 8) : reported s (s.report kind none detail) kind detail := by
  obtain ⟨r, un, hreports, hr⟩ := s.report_ring kind none detail
  unfold reported
  rw [hreports, hr rfl]
  simp only [Tbl.get_put_same, BitVec.toNat_ofNat, bits, Nat.shiftLeft_eq, Nat.shiftRight_eq_div_pow]
  refine ⟨?_, ?_, ?_, trivial⟩ <;> omega

end

end Sys2Proof.Machine
end

section
/-!
PROOFS. How a port detects, trains, retrains and fails; a statement of spec/13_ryuryn_links.md.
-/

namespace Sys2Proof.Machine

open Sys2Proof.Claims

/-! ### One port changes -/

theorem State.setPort_other {s : State} {q : Nat} (p : Port) {j : Nat} (hj : j ≠ q) : (s.setPort q p).port j = s.port j := by
  rw [State.setPort_port, if_neg hj]

/-- A command that ends with one port replaced by `p`. -/
theorem exec_next_of_setPort {i : Instr} {s t : State} {q : Nat} {p : Port} (hexec : exec i s = s.ends t)
    (ht : t = s.setPort q p) : ∃ t, exec i s = .next t ∧ t.port q = p ∧ (∀ j, j ≠ q → t.port j = s.port j) ∧
      t = { s with links := { s.links with ports := t.links.ports } } :=
  ⟨s.setPort q p, exec_next_of_eq hexec ht rfl rfl, s.setPort_port_same q p, fun _ => State.setPort_other p, rfl⟩

/-! ### Retraining (R394, R397) -/

section
variable {s : State} {q : Nat}

theorem State.retrainPort_of_other (h : (s.port q).mode ≠ .active) : s.retrainPort q = s := by
  simp [State.retrainPort, h]

theorem State.retrainPort_of_active (h : (s.port q).mode = .active) :
    s.retrainPort q = (s.setPort q (retrained (s.port q))).bump K.PORT_RETRAINS 1 := by
  simp [State.retrainPort, h]
  rfl

/-- A command that ends with the retraining of a port. -/
theorem exec_next_of_retrain {i : Instr} {t : State} (hexec : exec i s = s.ends t) (ht : t = s.retrainPort q)
    (h : (s.port q).mode = .active) : ∃ t, exec i s = .next t ∧ t.port q = retrained (s.port q) ∧
      (∀ j, j ≠ q → t.port j = s.port j) ∧ counted s t K.PORT_RETRAINS 1 ∧
      t = { s with od := t.od, links := { s.links with ports := t.links.ports } } :=
  ⟨(s.setPort q (retrained (s.port q))).bump K.PORT_RETRAINS 1,
    exec_next_of_eq hexec (ht.trans (State.retrainPort_of_active h)) rfl rfl,
    s.setPort_port_same q _, fun _ => State.setPort_other _, State.bump_par_same _ _ _, rfl⟩

/-- Each row of retraining retrains its port when its condition holds, and otherwise does nothing. -/
theorem exec_retrainRow (q : Fin 27) {r : Instr × Prop} (hr : r ∈ retrainRows s q) :
    (r.2 → exec r.1 s = s.ends (s.retrainPort q)) ∧ (¬ r.2 → exec r.1 s = .next s) := by
  simp only [retrainRows, List.mem_cons, List.not_mem_nil, or_false] at hr
  obtain rfl | rfl | rfl := hr
  case inl => exact ⟨fun _ => rfl, fun h => absurd trivial h⟩
  case inr.inl =>
    exact ⟨fun h => congrArg s.ends (if_pos (by simpa using h)), fun h => congrArg s.ends (if_neg (by simpa using h))⟩
  case inr.inr => exact ⟨fun h => congrArg s.ends (if_pos h), fun h => congrArg s.ends (if_neg h)⟩

/-! ### PORT_CTRL and detection (R395, R398) -/

theorem State.portCtrl_of_off (h : (s.answering && s.portOn q) = false) : s.portCtrl q = s := by
  rw [State.portCtrl, if_pos (by simpa [imp_iff_not_or] using h)]

theorem State.portCtrl_of_on (h : (s.answering && s.portOn q) = true) : s.portCtrl q =
    match (s.port q).mode with
    | .active => s.retrainPort q
    | .failed => s.setPort q { s.port q with mode := .training, fails := 0 }
    | _ => s.setPort q { s.port q with fails := 0 } := by
  rw [Bool.and_eq_true] at h
  rw [State.portCtrl, if_neg (by simp [h])] <;> rfl

theorem State.portCtrl_of_active (h : (s.answering && s.portOn q) = true) (hmode : (s.port q).mode = .active) :
    s.portCtrl q = s.retrainPort q := by
  rw [State.portCtrl_of_on h, hmode]

theorem State.portCtrl_of_failed (h : (s.answering && s.portOn q) = true) (hmode : (s.port q).mode = .failed) :
    s.portCtrl q = s.setPort q { s.port q with mode := .training, fails := 0 } := by
  rw [State.portCtrl_of_on h, hmode]

theorem State.portCtrl_of_other (h : (s.answering && s.portOn q) = true) (hactive : (s.port q).mode ≠ .active)
    (hfailed : (s.port q).mode ≠ .failed) : s.portCtrl q = s.setPort q { s.port q with fails := 0 } := by
  rw [State.portCtrl_of_on h]
  split
  · next hmode => exact absurd hmode hactive
  · next hmode => exact absurd hmode hfailed
  · rfl

theorem State.signalFound_of_shut (h : (s.answering && s.portOn q) = false ∨ (s.port q).mode ≠ .detect) :
    s.signalFound q = s := by
  refine if_neg fun hopen => ?_
  rw [Bool.and_eq_true, decide_eq_true_eq] at hopen
  obtain h | h := h
  · exact absurd hopen.1 (by simp [h])
  · exact h hopen.2

theorem State.signalFound_of_detect (h : (s.answering && s.portOn q) = true) (hmode : (s.port q).mode = .detect) :
    s.signalFound q = s.setPort q { s.port q with mode := .training } :=
  if_pos (by rw [h, hmode]; rfl)

/-! ### The end of a training (R396, R399, R400) -/

section
variable {lanes cause rtt : Nat} {host : Bool}

theorem State.trainCause_of_passed {w : Nat} (hwidth : s.trainedWidth q lanes = some w) (hcause : cause = 0)
    (hrtt : rtt ≤ 2300) (hhost : host = bit (s.par K.PORT_HOST) q) : s.trainCause q lanes cause rtt host = 0 := by
  simp [State.trainCause, hwidth, hcause, hhost, hrtt.not_gt]

theorem State.trainingEnd_of_idle (h : (s.answering && s.portOn q) = false ∨
      ((s.port q).mode ≠ .training ∧ (s.port q).mode ≠ .retraining) ∨ 3 ≤ (s.port q).fails) :
    s.trainingEnd q lanes cause rtt host = s := by
  refine if_pos ?_
  simp only [Bool.or_eq_true, Bool.and_eq_true, Bool.not_eq_true', decide_eq_true_eq]
  rw [Bool.and_eq_false_iff] at h
  tauto

section
variable (hon : (s.answering && s.portOn q) = true)
  (hmode : (s.port q).mode = .training ∨ (s.port q).mode = .retraining) (hfails : (s.port q).fails < 3)
include hon hmode hfails

theorem State.trainingEnd_goesOn : (!s.answering || !s.portOn q ||
    (decide ((s.port q).mode ≠ .training) && decide ((s.port q).mode ≠ .retraining)) ||
    decide (3 ≤ (s.port q).fails)) = false := by
  rw [Bool.and_eq_true] at hon
  obtain hmode | hmode := hmode <;> simp [hon, hmode, hfails]

theorem State.trainingEnd_of_failed (hcause : s.trainCause q lanes cause rtt host ≠ 0) :
    s.trainingEnd q lanes cause rtt host = s.setPort q { s.port q with
      fails := (s.port q).fails + 1, cause := s.trainCause q lanes cause rtt host } := by
  unfold State.trainingEnd
  dsimp only
  rw [if_neg (by rw [State.trainingEnd_goesOn hon hmode hfails]; decide), if_pos hcause]

/-- A training that succeeds makes the port ACTIVE, counts what it sends again and sends what waits. -/
theorem State.trainingEnd_of_passed (hcause : s.trainCause q lanes cause rtt host = 0) {w : Nat}
    (hwidth : s.trainedWidth q lanes = some w) : ∃ p u, s.trainingEnd q lanes cause rtt host = u ∧
      ((s.setPort q p).bump K.FLIT_RETRIES (s.port q).retry.length).Sent u ∧ p.mode = .active ∧ p.width = w ∧
      p.host = host ∧ p.rtt = rtt ∧ p.fails = 0 ∧ p.resentFlits = (s.port q).resentFlits + (s.port q).retry.length := by
  unfold State.trainingEnd
  dsimp only
  rw [if_neg (by rw [State.trainingEnd_goesOn hon hmode hfails]; decide), if_neg (by simp [hcause]), hwidth]
  exact ⟨_, _, rfl, (State.Sent.unpark _).trans (.pumpPort _ _), rfl, rfl, rfl, rfl, rfl, rfl⟩

end

end

/-! ### A port that fails (R398, R399) -/

theorem State.portFailed_of_idle
    (h : ((s.port q).mode ≠ .training ∧ (s.port q).mode ≠ .retraining) ∨ (s.port q).fails < 3) : s.portFailed q = s := by
  refine if_pos ?_
  simpa only [Bool.or_eq_true, Bool.and_eq_true, decide_eq_true_eq] using h

theorem State.portFailed_of_due (hmode : (s.port q).mode = .training ∨ (s.port q).mode = .retraining)
    (hfails : 3 ≤ (s.port q).fails) :
    s.portFailed q = (s.losePort q .failed).report 0x10 none (q + (s.port q).cause <<< 5) := by
  refine if_neg ?_
  obtain hmode | hmode := hmode <;> simp [hmode, hfails]

theorem State.losePort_port (mode : PortMode) :
    ((s.losePort q mode).port q).mode = mode ∧ ((s.losePort q mode).port q).retry = [] := by
  have hport : (s.losePort q mode).port q = _ := s.setPort_port_same q _
  rw [hport]
  exact ⟨rfl, rfl⟩

theorem State.losePort_counted (mode : PortMode) :
    counted s (s.losePort q mode) K.PORT_FLITS_LOST (s.port q).retry.length := State.bump_par_same _ _ _

end

/-- Settles O40. Where a row's condition does not hold nothing changes (the model's choice, log 8). -/
theorem portsTrainRetrainAndFail : Obligations.PortsTrainRetrainAndFail := by
  refine fun q s => ⟨fun r hr => ⟨fun hno => ?noRetrain, fun hmode hdue => ?retrain⟩, fun on hon => ⟨fun hoff => ?off,
    fun htrue => ?ctrl, fun htrue hmode => ?noSignal, fun htrue hmode => ?signal, fun lanes cause rtt host =>
      ⟨fun hidle => ?idle, fun htrue hmode hfails => ⟨fun c hc hcause => ?failedOnce, fun w hwidth hcause hrtt hhost => ?passed⟩⟩⟩,
    fun hmode hfails hcause => ?failed, fun hidle => ?notFailed⟩
  case noRetrain =>
    obtain ⟨hdo, hskip⟩ := exec_retrainRow q hr
    by_cases hdue : r.2
    · have hmode := hno.resolve_right (not_not.mpr hdue)
      exact exec_next_of_eq (hdo hdue) (State.retrainPort_of_other hmode) rfl rfl
    · exact hskip hdue
  case retrain => exact exec_next_of_retrain ((exec_retrainRow q hr).1 hdue) rfl hmode
  case off =>
    subst hoff
    exact ⟨exec_next_of_eq rfl (State.portCtrl_of_off hon.symm) rfl rfl,
      exec_next_of_eq rfl (State.signalFound_of_shut (.inl hon.symm)) rfl rfl⟩
  case ctrl =>
    subst htrue
    by_cases hactive : (s.port q).mode = .active
    · obtain ⟨t, hexec, hport, hother, hcount, hframe⟩ :=
        exec_next_of_retrain (i := .portCtrlRetrain q) rfl (State.portCtrl_of_active hon.symm hactive) hactive
      exact ⟨t, hexec, hother, hframe, fun _ => ⟨hport, hcount⟩, fun h => (by simp [hactive] at h), fun h => absurd hactive h⟩
    by_cases hfailed : (s.port q).mode = .failed
    · obtain ⟨t, hexec, hport, hother, hframe⟩ :=
        exec_next_of_setPort (i := .portCtrlRetrain q) rfl (State.portCtrl_of_failed hon.symm hfailed)
      have hod : t.od = s.od := by rw [hframe]
      refine ⟨t, hexec, hother, ?_, fun h => absurd h hactive, fun _ => ⟨hport, hod⟩, fun _ h => absurd hfailed h⟩
      rw [hod]
      exact hframe
    · obtain ⟨t, hexec, hport, hother, hframe⟩ :=
        exec_next_of_setPort (i := .portCtrlRetrain q) rfl (State.portCtrl_of_other hon.symm hactive hfailed)
      have hod : t.od = s.od := by rw [hframe]
      refine ⟨t, hexec, hother, ?_, fun h => absurd h hactive, fun h => absurd h hfailed, fun _ _ => ⟨hport, hod⟩⟩
      rw [hod]
      exact hframe
  case noSignal => exact exec_next_of_eq rfl (State.signalFound_of_shut (.inr hmode)) rfl rfl
  case signal =>
    exact exec_next_of_setPort rfl (State.signalFound_of_detect (hon.symm.trans htrue) hmode)
  case idle => exact exec_next_of_eq rfl (State.trainingEnd_of_idle (hon ▸ hidle)) rfl rfl
  case failedOnce =>
    subst hc
    exact exec_next_of_setPort rfl (State.trainingEnd_of_failed (hon.symm.trans htrue) hmode hfails hcause)
  case passed =>
    have hcause := State.trainCause_of_passed hwidth hcause hrtt hhost
    obtain ⟨p, u, htrained, hsent, hactive, hw, hh, hr, hzero, hresent⟩ :=
      State.trainingEnd_of_passed (hon.symm.trans htrue) hmode hfails hcause hwidth
    have hport := hsent.ports q
    rw [State.bump_port, State.setPort_port_same] at hport
    have hframe := hsent.frame
    refine ⟨u, exec_next_of_eq rfl htrained ?_ ?_, ?_, ?_, ?_, ?_, ?_, ?_, ?_, fun j hj => ?_, ?_⟩
    · rw [hframe]; rfl
    · rw [hframe]; rfl
    · rw [hport]; exact hactive
    · rw [hport]; exact hw
    · rw [hport]; exact hh
    · rw [hport]; exact hr
    · rw [hport]; exact hzero
    · rw [hport]; exact hresent
    · exact (hsent.par_eq _).trans (State.bump_par_same _ _ _)
    · have hother := hsent.ports j
      rw [State.bump_port, State.setPort_other _ hj] at hother
      rw [hother]
    · rw [hframe]; rfl
  case failed =>
    have htold := (s.losePort q .failed).report_told 0x10 none (q + (s.port q).cause <<< 5)
    obtain ⟨hmode', hretry⟩ := State.losePort_port (s := s) (q := q) .failed
    have hport := htold.idle q (by rw [hmode']; decide)
    refine ⟨_, exec_next_of_eq rfl (State.portFailed_of_due hmode hfails) ?_ ?_, ?_, ?_, ?_, ?_⟩
    · rw [htold.frame]; rfl
    · rw [htold.frame]; rfl
    · rw [hport]; exact hmode'
    · rw [hport]; exact hretry
    · exact (htold.par_eq _ (by decide)).trans (State.losePort_counted _)
    · have hreport := (s.losePort q .failed).report_reported 0x10 (q + (s.port q).cause <<< 5) (by decide)
      rwa [Nat.shiftLeft_eq] at hreport ⊢
  case notFailed => exact exec_next_of_eq rfl (State.portFailed_of_idle hidle) rfl rfl

end Sys2Proof.Machine
end

section
/-!
PROOFS. The score's decay, the request to be expelled with its answers, and observation; a statement of
spec/14_silent_error_defence.md.
-/

namespace Sys2Proof.Machine

open Sys2Proof.Claims

/-! ### The decay of the score (R446, R447) -/

theorem State.scored_frame (s : State) (new : Nat) : let t := s.scored new
    t = { s with defence := t.defence } ∧ t.defence.score = new ∧ t.defence.decayed = s.defence.decayed :=
  ⟨rfl, rfl, rfl⟩

/-- The time of the next decay. -/
def State.nextDecay (s : State) : Nat :=
  (s.defence.decayed / max 1 (s.parMs K.HEALTH_DECAY_INTERVAL) + 1) * max 1 (s.parMs K.HEALTH_DECAY_INTERVAL)

/-- The part at a decay, before the score changes. -/
def State.atDecay (s : State) (n : Nat) : State :=
  { s with now := max s.now n, defence := { s.defence with decayed := n } }

/-- The score before the changes of the time of a decay (R447). -/
theorem State.atDecay_cycleStart (s : State) (n : Nat) : (s.atDecay n).cycleStart.1 =
    if s.defence.cycle.1 = max s.now n then s.defence.cycle.2.1 else s.defence.score := by
  rw [State.cycleStart]
  show (ite (s.defence.cycle.1 = max s.now n) _ _ : Nat × Bool × Option Nat).1 = _
  split_ifs <;> rfl

theorem State.atDecay_score (s : State) (n : Nat) : (s.atDecay n).defence.score = s.defence.score := rfl

theorem State.decay_eq (s : State) : ∃ n, s.decay = (s.atDecay s.nextDecay).scored n ∧
    n = min 0xFFFF ((s.atDecay s.nextDecay).cycleStart.1 - ceilDiv (s.atDecay s.nextDecay).cycleStart.1 16
      + ((s.atDecay s.nextDecay).defence.score - (s.atDecay s.nextDecay).cycleStart.1)) := ⟨_, rfl, rfl⟩

theorem State.decay_frame (s : State) : s.decay.defence.decayed = s.nextDecay ∧
    s.decay.now = max s.now s.nextDecay ∧ s.decay = { s with now := s.decay.now, defence := s.decay.defence } :=
  ⟨rfl, rfl, rfl⟩

theorem State.decay_score (s : State) :
    let was := if s.defence.cycle.1 = max s.now s.nextDecay then s.defence.cycle.2.1 else s.defence.score
    s.decay.defence.score = min 0xFFFF (was - (was + 15) / 16 + (s.defence.score - was)) := by
  intro was
  obtain ⟨n, hdecay, hn⟩ := s.decay_eq
  have hceil : ceilDiv was 16 = (was + 15) / 16 := by simp [ceilDiv]
  rw [State.atDecay_score, State.atDecay_cycleStart, hceil] at hn
  rw [hdecay, ← hn]
  rfl

theorem State.dvd_nextDecay (s : State) : max 1 (s.parMs K.HEALTH_DECAY_INTERVAL) ∣ s.nextDecay :=
  Dvd.intro_left _ rfl

theorem State.decayed_lt_nextDecay (s : State) : s.defence.decayed < s.nextDecay := by
  have hpos : 0 < max 1 (s.parMs K.HEALTH_DECAY_INTERVAL) := by omega
  rw [State.nextDecay, mul_comm]
  exact Nat.lt_mul_div_succ _ hpos

/-! ### The request to be expelled (R451, R452) -/

theorem sum_map_range_eight (g : Nat → Nat) :
    ((List.range 8).map g).sum = g 0 + (g 1 + (g 2 + (g 3 + (g 4 + (g 5 + (g 6 + g 7)))))) := by
  simp [List.range_succ]

section
variable (s : State) (u : Nat)

/-- The record of the request that is made at a time (R451). -/
def State.requestWord (now : Nat) : BitVec 256 :=
  BitVec.ofNat 256 ((now % 2 ^ 64) <<< 192 + ((s.defence.seq + 1) % 2 ^ 16) <<< 176 + s.defence.score <<< 160
    + ((List.range 8).map (fun i => s.defence.counts.getD i 0 <<< (144 - 16 * i))).sum + 1)

/-- The defence once a request has been made. -/
def State.requested : Defence :=
  { s.defence with
    holdoff := none
    seq := (s.defence.seq + 1) % 2 ^ 16
    request := s.requestWord (max s.now u)
    asked := max s.now u
    wait := s.parMs K.EXPEL_ANSWER_WAIT
    counts := [0, 0, 0, 0, 0, 0, 0, 0] }

/-- The part once a request has been made, before its report. -/
def State.requesting : State :=
  ({ s.reach u with defence := s.requested u } : State).bump K.EXPEL_REQUESTS 1

variable {s u}

theorem State.requestWord_fields (hscore : s.defence.score < 2 ^ 16) (hcounts : ∀ n ∈ s.defence.counts, n < 2 ^ 16)
    (now : Nat) : bits (s.requestWord now).toNat 1 0 = 1 ∧
      bits (s.requestWord now).toNat 191 176 = (s.defence.seq + 1) % 2 ^ 16 ∧
      bits (s.requestWord now).toNat 175 160 = s.defence.score := by
  have hcount : ∀ i, s.defence.counts.getD i 0 < 2 ^ 16 := by
    intro i
    rw [List.getD_eq_getElem?_getD]
    cases h : s.defence.counts[i]? with
    | none => decide
    | some n => exact hcounts n (List.mem_of_getElem? h)
  have h0 := hcount 0
  have h1 := hcount 1
  have h2 := hcount 2
  have h3 := hcount 3
  have h4 := hcount 4
  have h5 := hcount 5
  have h6 := hcount 6
  have h7 := hcount 7
  obtain ⟨low, hlow, hlt⟩ : ∃ low, ((List.range 8).map (fun i => s.defence.counts.getD i 0 <<< (144 - 16 * i))).sum =
      4 * low ∧ 4 * low + 1 < 2 ^ 160 := by
    rw [sum_map_range_eight]
    simp only [Nat.shiftLeft_eq]
    refine ⟨_, (Nat.mul_div_cancel' (Nat.dvd_of_mod_eq_zero ?_)).symm, ?_⟩ <;> omega
  rw [State.requestWord, BitVec.toNat_ofNat, hlow]
  simp only [bits, Nat.shiftLeft_eq, Nat.shiftRight_eq_div_pow, Nat.reduceAdd, Nat.reduceSub, Nat.reducePow]
    at hlt ⊢
  refine ⟨?_, ?_, ?_⟩ <;> omega

theorem State.holdoffEnd_of_none (h : s.defence.holdoff = none) : s.holdoffEnd = s := by
  rw [State.holdoffEnd, h]

theorem State.holdoffEnd_of_kept (h : s.defence.holdoff = some u)
    (hkept : s.defence.score < s.par K.EXPEL_THRESHOLD ∨ s.defence.requestState = 1 ∨ s.defence.barred = true) :
    s.holdoffEnd = { s with now := max s.now u, defence := { s.defence with holdoff := none } } := by
  have hcond : (decide (s.defence.score < s.par K.EXPEL_THRESHOLD) || decide (s.defence.requestState = 1)
      || s.defence.barred) = true := by
    simpa only [Bool.or_eq_true, decide_eq_true_eq, or_assoc] using hkept
  rw [State.holdoffEnd, h]
  exact if_pos hcond

theorem State.holdoffEnd_of_due (h : s.defence.holdoff = some u) (hscore : s.par K.EXPEL_THRESHOLD ≤ s.defence.score)
    (hstate : s.defence.requestState ≠ 1) (hbarred : s.defence.barred = false) : s.holdoffEnd =
      (s.requesting u).report 0x0A none ((s.defence.seq + 1) % 2 ^ 16 + s.defence.score <<< 16) := by
  have hcond : ¬ (decide (s.defence.score < s.par K.EXPEL_THRESHOLD) || decide (s.defence.requestState = 1)
      || s.defence.barred) = true := by
    simp [hscore, hstate, hbarred]
  rw [State.holdoffEnd, h]
  exact if_neg hcond

theorem State.requesting_counted : counted s (s.requesting u) K.EXPEL_REQUESTS 1 := State.bump_par_same _ _ _

/-! ### Answers (R452, R453) -/

theorem Defence.setRequest_state (d : Defence) {n : Nat} (hn : n < 4) : (d.setRequest n).requestState = n := by
  have hsmall : setBits d.request.toNat 1 0 n % 2 ^ 256 % 4 = setBits d.request.toNat 1 0 n % 4 :=
    Nat.mod_mod_of_dvd _ (by decide)
  have hbits : setBits d.request.toNat 1 0 n % 4 = n := by
    simp only [setBits, Nat.shiftLeft_eq, Nat.shiftRight_eq_div_pow]
    omega
  rw [Defence.requestState, Defence.setRequest, BitVec.toNat_ofNat]
  exact hsmall.trans hbits

theorem State.expelAccept_of_named {n : Nat} (hstate : s.defence.requestState = 1) (hseq : s.defence.seq = n) :
    s.expelAccept n = { s with defence := { s.defence.setRequest 2 with barred := true } } :=
  if_pos (by simp [State.answers, hstate, hseq])

theorem State.expelDefer_of_named {n : Nat} (hstate : s.defence.requestState = 1) (hseq : s.defence.seq = n) :
    s.expelDefer n = s.deferRequest :=
  if_pos (by simp [State.answers, hstate, hseq])

theorem State.answers_of_other {n : Nat} (h : s.defence.requestState ≠ 1 ∨ s.defence.seq ≠ n) : ¬ s.answers n = true := by
  simpa [State.answers, imp_iff_not_or] using h

theorem State.expelAccept_of_other {n : Nat} (h : s.defence.requestState ≠ 1 ∨ s.defence.seq ≠ n) :
    s.expelAccept n = s.bump K.EXPEL_ANSWER_DROPS 1 := if_neg (State.answers_of_other h)

theorem State.expelDefer_of_other {n : Nat} (h : s.defence.requestState ≠ 1 ∨ s.defence.seq ≠ n) :
    s.expelDefer n = s.bump K.EXPEL_ANSWER_DROPS 1 := if_neg (State.answers_of_other h)

theorem State.deferRequest_counted : counted s s.deferRequest K.EXPEL_DEFERRALS 1 := State.bump_par_same _ _ _

theorem State.answerExpired_of_none (h : s.defence.requestState ≠ 1) : s.answerExpired = s := if_pos h

theorem State.answerExpired_of_pending (h : s.defence.requestState = 1) :
    s.answerExpired = (s.reach (s.defence.asked + s.defence.wait)).deferRequest := if_neg (not_not.mpr h)

end

theorem State.whenLive_of_live {s : State} (h : s.live = true) (f : State → State) : s.whenLive f = f s := if_pos h

/-- Settles O43. The times of the decay, of the end of the hold-off and of the wait for an answer are the model's choice
(log 1), and so is that a row whose condition does not hold changes nothing (log 8). -/
theorem scoreExpulsionAndObservation : Obligations.ScoreExpulsionAndObservation := by
  intro s hlive
  have hrun := State.whenLive_of_live hlive
  refine ⟨?decay, fun hnone => ?noHoldoff, fun u hu => ⟨fun hkept => ?kept, fun hscore hstate hbarred hlt hcounts => ?made⟩,
    fun n => ⟨fun hstate hseq => ⟨?accepted, ?deferred⟩, fun hother c hc => ?dropped⟩, fun hnone => ?noAnswer,
    fun hpending => ?expired, fun on c hc => ?observation⟩
  case decay =>
    obtain ⟨hdecayed, hnow, hframe⟩ := s.decay_frame
    refine ⟨s.decay, exec_next_of_eq rfl (hrun State.decay) rfl rfl, ?_, ?_, ?_, ?_, hframe⟩
    · rw [hnow]; exact s.decay_score
    · rw [hdecayed]; exact s.dvd_nextDecay
    · rw [hdecayed]; exact s.decayed_lt_nextDecay
    · rw [hdecayed, hnow]
  case noHoldoff => exact exec_next_of_eq rfl ((hrun _).trans (State.holdoffEnd_of_none hnone)) rfl rfl
  case kept => exact exec_next_of_eq rfl ((hrun _).trans (State.holdoffEnd_of_kept hu hkept)) rfl rfl
  case made =>
    have htold := (s.requesting u).report_told 0x0A none ((s.defence.seq + 1) % 2 ^ 16 + s.defence.score <<< 16)
    have hdefence : ((s.requesting u).report 0x0A none ((s.defence.seq + 1) % 2 ^ 16 + s.defence.score <<< 16)).defence =
        s.requested u := by rw [htold.frame]; rfl
    obtain ⟨hone, hnumber, hvalue⟩ := State.requestWord_fields hlt hcounts (max s.now u)
    refine ⟨_, exec_next_of_eq rfl ((hrun _).trans (State.holdoffEnd_of_due hu hscore hstate hbarred)) ?_ ?_, ?_⟩
    · rw [htold.frame]; rfl
    · rw [htold.frame]; rfl
    rw [hdefence]
    refine ⟨hone, rfl, rfl, hnumber, hvalue, rfl, rfl, (htold.par_eq _ (by decide)).trans State.requesting_counted, ?_⟩
    have hreport := (s.requesting u).report_reported 0x0A
      ((s.defence.seq + 1) % 2 ^ 16 + s.defence.score <<< 16) (by decide)
    rw [Nat.shiftLeft_eq] at hreport ⊢
    exact hreport
  case accepted =>
    exact ⟨_, exec_next_of_eq rfl ((hrun _).trans (State.expelAccept_of_named hstate hseq)) rfl rfl,
      Defence.setRequest_state _ (by decide), rfl, rfl⟩
  case deferred =>
    exact ⟨_, exec_next_of_eq rfl ((hrun _).trans (State.expelDefer_of_named hstate hseq)) rfl rfl,
      Defence.setRequest_state _ (by decide), State.deferRequest_counted, rfl, rfl⟩
  case dropped =>
    have hdrop : exec c s = .next (s.bump K.EXPEL_ANSWER_DROPS 1) := by
      obtain rfl | rfl := hc
      · exact exec_next_of_eq rfl ((hrun _).trans (State.expelAccept_of_other hother)) rfl rfl
      · exact exec_next_of_eq rfl ((hrun _).trans (State.expelDefer_of_other hother)) rfl rfl
    exact ⟨_, hdrop, State.bump_par_same _ _ _, rfl⟩
  case noAnswer => exact exec_next_of_eq rfl ((hrun _).trans (State.answerExpired_of_none hnone)) rfl rfl
  case expired =>
    exact ⟨_, exec_next_of_eq rfl ((hrun _).trans (State.answerExpired_of_pending hpending)) rfl rfl, rfl,
      Defence.setRequest_state _ (by decide), rfl, State.deferRequest_counted⟩
  case observation =>
    have hset : exec c s = .next (s.setObserving on) := by
      obtain ⟨rfl, rfl⟩ | ⟨rfl, rfl⟩ := hc
      · exact exec_next_of_eq rfl (hrun _) rfl rfl
      · exact exec_next_of_eq rfl (hrun _) rfl rfl
    refine ⟨_, hset, rfl, ?_, fun hcycle => if_neg hcycle⟩
    simp only [State.setObserving, Bool.or_eq_true, Bool.and_eq_true, decide_eq_true_eq, and_assoc]

end Sys2Proof.Machine
end

section
/-!
PROOFS. The checks on a message that arrives, in their order, and what a message does that lands; statements of
spec/13_ryuryn_links.md and spec/11_step_transactions.md.
-/

namespace Sys2Proof.Machine

open Sys2Proof.Claims

/-! ### The checks of R423 -/

section
variable {s : State} {io : Nat} {m : Msg}

/-- A message that is dropped under a counter. -/
def State.dropsUnder (s : State) (m : Msg) (k : Nat) : State := (s.takeMsg m).bump k 1

theorem State.judge_of_invalid (h : admitsNothing s io (Msg.common m).dep) :
    s.judge io m = .ended (s.dropsUnder m K.EP_INVALID_DROPS) :=
  if_pos (by simpa [admitsNothing] using h)

theorem State.not_invalid (h : ¬ admitsNothing s io (Msg.common m).dep) :
    ¬ ((!bit (s.ep io (Msg.common m).dep) 0 || decide ((Msg.common m).dep = 0x3FFFF)) = true) := by
  simpa [admitsNothing] using h

theorem State.not_outsider (hjoined : bit (s.ep io (Msg.common m).dep) 40 = true ∨
    (Msg.common m).membership = s.par K.JOB_MEMBERSHIP) : ¬ ((!bit (s.ep io (Msg.common m).dep) 40 &&
    decide ((Msg.common m).membership ≠ s.par K.JOB_MEMBERSHIP)) = true) := by
  obtain h | h := hjoined <;> simp [h]

section
variable (hvalid : ¬ admitsNothing s io (Msg.common m).dep)
include hvalid

theorem State.judge_of_key (hkey : (Msg.common m).key ≠ bits (s.ep io (Msg.common m).dep) 85 70) :
    s.judge io m = .ended (s.dropsUnder m K.EP_KEY_DROPS) := by
  unfold State.judge
  dsimp only
  rw [if_neg (State.not_invalid hvalid), if_pos hkey]
  rfl

variable (hkey : (Msg.common m).key = bits (s.ep io (Msg.common m).dep) 85 70)
include hkey

theorem State.judge_of_membership (hhost : bit (s.ep io (Msg.common m).dep) 40 = false)
    (hother : (Msg.common m).membership ≠ s.par K.JOB_MEMBERSHIP) :
    s.judge io m = .ended (s.dropsUnder m K.MEMBERSHIP_DROPS) := by
  unfold State.judge
  dsimp only
  rw [if_neg (State.not_invalid hvalid), if_neg (not_not.mpr hkey), if_pos (by simp [hhost, hother])]
  rfl

variable (hjoined : bit (s.ep io (Msg.common m).dep) 40 = true ∨ (Msg.common m).membership = s.par K.JOB_MEMBERSHIP)
include hjoined

theorem State.judge_of_stale (hstale : staleRemote s io m) :
    s.judge io m = .ended (s.dropsUnder m K.STALE_REMOTE_DROPS) := by
  unfold State.judge
  dsimp only
  rw [if_neg (State.not_invalid hvalid), if_neg (not_not.mpr hkey), if_neg (State.not_outsider hjoined),
    if_pos (by simpa [staleRemote, or_assoc] using hstale)]
  rfl

theorem State.judge_of_late (hfresh : ¬ staleRemote s io m) (htype : (Msg.common m).mtype = 6)
    (hgen : bits (Msg.slot m 1) 102 91 ≠ (s.cx (bits (s.ep io (Msg.common m).dep) 60 57)).gen) :
    s.judge io m = .ended (s.dropsUnder m K.LATE_REPLY_DROPS) := by
  unfold State.judge
  dsimp only
  rw [if_neg (State.not_invalid hvalid), if_neg (not_not.mpr hkey), if_neg (State.not_outsider hjoined),
    if_neg (by simpa [staleRemote, or_assoc] using hfresh), if_pos (by simp [htype, hgen])]
  rfl

end

/-! ### What the checks leave -/

theorem State.dropsUnder_frame (k : Nat) : let t := s.dropsUnder m k
    t = { s with links := (s.takeMsg m).links, od := t.od } := by
  rw [State.dropsUnder, State.bump, State.setPar, s.takeMsg_frame m]

theorem State.dropsUnder_counted (k : Nat) : (s.dropsUnder m k).par k = (s.par k + 1) % 2 ^ 64 := by
  rw [State.dropsUnder, State.bump_par_same, State.takeMsg_par]

theorem State.dropsUnder_par {k j : Nat} (h : j ≠ k) : (s.dropsUnder m k).par j = s.par j := by
  rw [State.dropsUnder, State.bump_par, if_neg h, State.takeMsg_par]

theorem State.withhold_frame (x : Nat) : let t := s.withhold x m
    t = { s with links := t.links } := by
  unfold State.withhold
  dsimp only
  split
  · rfl
  · split_ifs <;> rfl

/-- Whatever becomes of a message at the checks, only the links and counters have changed when it has been judged. -/
def Admit.state : Admit → State
  | .ended t => t
  | .lands t _ _ _ _ => t

/-- `t` is `s` after links and counters have changed. -/
def State.Linked (s t : State) : Prop := t = { s with od := t.od, links := t.links }

theorem State.takeMsg_linked (s : State) (m : Msg) : s.Linked (s.takeMsg m) := by
  rw [State.Linked, s.takeMsg_frame m]

theorem State.Linked.withLinks {s t : State} (h : s.Linked t) (l : Links) : s.Linked { t with links := l } := by
  unfold State.Linked
  rw [h]

theorem State.dropsUnder_linked (s : State) (m : Msg) (k : Nat) : s.Linked (s.dropsUnder m k) := by
  rw [State.Linked, State.dropsUnder_frame k]

theorem State.stepCheck_linked (s : State) (io e x : Nat) (m : Msg) : s.Linked (s.stepCheck io e x m).state := by
  unfold State.stepCheck
  extract_lets c live host id drop
  have hdrop : s.Linked drop.state := s.dropsUnder_linked m _
  split
  · split
    · exact s.takeMsg_linked m
    · exact hdrop
  · split
    · exact s.takeMsg_linked m
    · split
      · exact hdrop
      · dsimp only
        split
        · split
          · rw [Admit.state, State.Linked, s.withhold_frame x]
          · exact (s.takeMsg_linked m).withLinks _
        · exact hdrop

theorem State.judge_linked (s : State) (io : Nat) (m : Msg) : s.Linked (s.judge io m).state := by
  unfold State.judge
  extract_lets c e w x q drop
  have hdrop (k : Nat) : s.Linked (drop k).state := s.dropsUnder_linked m k
  split_ifs
  · exact hdrop _
  · exact hdrop _
  · exact hdrop _
  · exact hdrop _
  · exact hdrop _
  · exact s.stepCheck_linked _ _ _ _
  · exact s.takeMsg_linked m

end

/-! ### Messages of one type -/

section
variable {s : State} {io n : Nat} {m : Msg} {act : Landing}

section
variable (hio : s.ioOf m = some io) (hlive : s.live = true) (htype : (Msg.common m).mtype = n)
include hio hlive htype

theorem State.receive_of_malformed (h : Msg.wellFormed m = false) :
    s.receive n m act = s.dropsUnder m K.BAD_MESSAGES := by
  unfold State.receive
  rw [hio]
  simp [hlive, htype, h, State.dropsUnder]

theorem State.receive_of_crossing (hform : Msg.wellFormed m = true) (hcross : crossesInDeep s io m = true) :
    s.receive n m act = s.dropsUnder m K.DEEP_CROSSING_DROPS := by
  unfold State.receive
  rw [hio]
  dsimp only
  rw [if_neg (by simp [hlive, htype]), if_neg (by simp [hform])]
  exact if_pos hcross

theorem State.receive_of_judged (hform : Msg.wellFormed m = true) (hcross : crossesInDeep s io m = false) :
    s.receive n m act = match s.judge io m with
      | .ended t => t
      | .lands t io e x step => act t io e x step := by
  unfold State.receive
  rw [hio]
  dsimp only
  rw [if_neg (by simp [hlive, htype]), if_neg (by simp [hform])]
  exact if_neg (Bool.eq_false_iff.mp hcross)

theorem State.receive_of_ended (hform : Msg.wellFormed m = true) (hcross : crossesInDeep s io m = false) {t : State}
    (ht : s.judge io m = .ended t) : s.receive n m act = t := by
  rw [State.receive_of_judged hio hlive htype hform hcross, ht]

theorem State.receive_of_lands (hform : Msg.wellFormed m = true) (hcross : crossesInDeep s io m = false) {t : State}
    {i e x : Nat} {q : Option (Nat × Nat)} (ht : s.judge io m = .lands t i e x q) :
    s.receive n m act = act t i e x q := by
  rw [State.receive_of_judged hio hlive htype hform hcross, ht]

end

theorem State.planSt_plan {s t : State} (h : t.planSt = s.planSt) (p : Nat) : t.plan p = s.plan p := by
  rw [State.plan, State.plan, h]

/-- Where no gather waits, judging them again may as well be done by what a message does where it lands. -/
theorem State.receive_regather (h : ∀ p, (s.plan p).held = []) :
    (s.receive n m act).regather = s.receive n m (fun t io e x st => (act t io e x st).regather) := by
  have hkept {t : State} (ht : t.planSt = s.planSt) : t.regather = t :=
    State.regather_of_none fun p => by rw [State.planSt_plan ht, h p]
  have hdrop (k : Nat) : ((s.takeMsg m).bump k 1).regather = (s.takeMsg m).bump k 1 :=
    hkept (by rw [State.bump_planSt, s.takeMsg_frame m])
  unfold State.receive
  split
  · exact hkept rfl
  · next i _ =>
    split
    · exact hkept rfl
    split
    · exact hdrop _
    split
    · exact hdrop _
    split
    · next t ht =>
      refine hkept ?_
      have hlinked := s.judge_linked i m
      rw [ht] at hlinked
      rw [show t = _ from hlinked]
    · rfl

end

/-! ### The commands of messages -/

theorem State.withFaults_nil (s : State) : s.withFaults [] = s := by simp [State.withFaults]

/-- Each command of messages judges its message in the state with the faults that it brings. -/
theorem exec_arrivalRow {m : List (BitVec 128)} {faults : List CopyFault} {s : State}
    {r : Instr × Nat × List CopyFault × Landing} (hr : r ∈ arrivalRows m faults) (hheld : ∀ p, (s.plan p).held = []) :
    exec r.1 s = s.ends ((s.withFaults r.2.2.1).receive r.2.1 m r.2.2.2) := by
  simp only [arrivalRows, List.mem_cons, List.not_mem_nil, or_false] at hr
  obtain rfl | rfl | rfl | rfl | rfl | rfl := hr
  case inr.inr.inr.inr.inr =>
    have hland := State.receive_regather (s := s.withFaults faults) (n := 9) (m := m)
      (act := fun t => t.landPartial m) hheld
    show s.ends (((s.withFaults faults).receive 9 m fun t => t.landPartial m).regather) = _
    rw [hland]
  all_goals
    rw [State.withFaults_nil]
    rfl

/-- Settles O31: each check of R423 is one branch of `State.judge`, behind those before it. -/
theorem messagesAreCheckedBeforeTheyAct : Obligations.MessagesAreCheckedBeforeTheyAct := by
  intro m faults s0 r io hr hio hlive htype hheld s w formed admitted keyed joined
  have hexec := exec_arrivalRow hr hheld
  have hdropped {k : Nat} (h : s.receive r.2.1 m r.2.2.2 = s.dropsUnder m k) : droppedAs s m k (exec r.1 s0) := by
    refine ⟨_, exec_next_of_eq hexec h ?_ ?_, State.dropsUnder_frame k, State.dropsUnder_counted k,
      fun j => State.dropsUnder_par⟩
    · rw [State.dropsUnder_frame]; rfl
    · rw [State.dropsUnder_frame]; rfl
  have hended {t : State} (hformed : formed) (ht : s.judge io m = .ended t) : s.receive r.2.1 m r.2.2.2 = t :=
    State.receive_of_ended (s := s) hio hlive htype hformed.1 hformed.2 ht
  refine ⟨fun hform => hdropped (State.receive_of_malformed (s := s) hio hlive htype hform),
    fun hform hcross => hdropped (State.receive_of_crossing (s := s) hio hlive htype hform hcross),
    fun hformed h => hdropped (hended hformed (State.judge_of_invalid h)),
    fun h hkey => hdropped (hended h.1 (State.judge_of_key h.2 hkey)),
    fun h hhost hother => hdropped (hended h.1.1 (State.judge_of_membership h.1.2 h.2 hhost hother)),
    fun h hstale => hdropped (hended h.1.1.1 (State.judge_of_stale h.1.1.2 h.1.2 h.2 hstale)),
    fun h hfresh hresp hgen => hdropped (hended h.1.1.1 (State.judge_of_late h.1.1.2 h.1.2 h.2 hfresh hresp hgen)),
    fun hformed => ⟨fun t ht => ?_, fun t io' e' x step ht => ?_⟩⟩
  · rw [hexec, hended hformed ht]
    rfl
  · rw [hexec, State.receive_of_lands (s := s) hio hlive htype hformed.1 hformed.2 ht]
    rfl

end Sys2Proof.Machine
end

section
/-!
PROOFS. Verdict messages and the step that they name (spec/11_step_transactions.md R339, R342, R349, R352, R354).
-/

namespace Sys2Proof.Machine
open Sys2Proof.Claims

/-! ### What the bookkeeping of verdicts keeps of a step -/

/-- The words of a step that its name, its state and its messages stand in are the same: `sent` marks, verdicts and
counts of replays may differ. -/
structure Step.Carried (w u : Step) : Prop where
  num : u.num = w.num
  attempt : u.attempt = w.attempt
  st : u.st = w.st
  childHealth : u.childHealth = w.childHealth
  childReplay : u.childReplay = w.childReplay
  partner : u.partner = w.partner

theorem Step.Carried.refl (w : Step) : w.Carried w := ⟨rfl, rfl, rfl, rfl, rfl, rfl⟩

theorem Step.Carried.trans {w u v : Step} (hwu : w.Carried u) (huv : u.Carried v) : w.Carried v :=
  ⟨huv.num.trans hwu.num, huv.attempt.trans hwu.attempt, huv.st.trans hwu.st, huv.childHealth.trans hwu.childHealth,
    huv.childReplay.trans hwu.childReplay, huv.partner.trans hwu.partner⟩

/-- From `s` to `t` every step of context `x` is carried along, in its place. -/
def State.Carried (x : Nat) (s t : State) : Prop :=
  ∃ g : Step → Step, (t.cx x).steps = (s.cx x).steps.map g ∧ ∀ w : Step, w.Carried (g w)

/-- Changes one step by name, as `Ctx.modStep` does. -/
def Step.modNamed (num attempt : Nat) (f : Step → Step) (w : Step) : Step :=
  if w.num = num && w.attempt = attempt then f w else w

theorem Ctx.modStep_steps (c : Ctx) (num attempt : Nat) (f : Step → Step) :
    (c.modStep num attempt f).steps = c.steps.map (Step.modNamed num attempt f) := rfl

namespace State.Carried

variable {x : Nat} {s t u : State}

theorem of_steps (h : (t.cx x).steps = (s.cx x).steps) : State.Carried x s t :=
  ⟨id, by simpa using h, Step.Carried.refl⟩

theorem refl (s : State) : State.Carried x s s := of_steps rfl

theorem trans (hst : State.Carried x s t) (htu : State.Carried x t u) : State.Carried x s u := by
  obtain ⟨g, hg, hgc⟩ := hst
  obtain ⟨k, hk, hkc⟩ := htu
  exact ⟨k ∘ g, by rw [hk, hg, List.map_map], fun w => (hgc w).trans (hkc (g w))⟩

theorem ite {p : Prop} [Decidable p] (ht : State.Carried x s t) (hu : State.Carried x s u) :
    State.Carried x s (if p then t else u) := by
  split <;> assumption

theorem modStep (s : State) (num attempt : Nat) {f : Step → Step} (hf : ∀ w : Step, w.Carried (f w)) :
    State.Carried x s (s.modCx x fun c => c.modStep num attempt f) := by
  refine ⟨Step.modNamed num attempt f, by rw [State.modCx_cx_same, Ctx.modStep_steps], fun w => ?_⟩
  unfold Step.modNamed
  split
  · exact hf w
  · exact Step.Carried.refl w

theorem sendVerdict (s : State) (e : Nat) (m : VMsg) : State.Carried x s (s.sendVerdict x e m) := by
  refine ite ?_ (refl s)
  obtain ⟨l, hl⟩ := s.sendMask_links (epPorts 0 (s.ep 0 e)) (Msg.make (s.stamp (s.ep 0 e) x (s.cx x).gen 2 1 0)
    ((List.range 4).map (fun i => BitVec.ofNat 128 (m.bytes >>> (128 * i)))))
  exact of_steps (by rw [hl]; rfl)

theorem sendVerdicts (v : VMsg) (es : List Nat) (s : State) :
    State.Carried x s (es.foldl (fun s e => s.sendVerdict x e v) s) := by
  induction es generalizing s with
  | nil => exact refl s
  | cons e es ih => exact (sendVerdict s e v).trans (ih _)

theorem issueVerdict (s : State) (v : VMsg) : State.Carried x s (s.issueVerdict x v) :=
  (sendVerdicts v _ s).trans (modStep _ _ _ fun _ => ⟨rfl, rfl, rfl, rfl, rfl, rfl⟩)

theorem tryHealth (s : State) (num attempt : Nat) : State.Carried x s (s.tryHealth x num attempt) := by
  unfold State.tryHealth
  dsimp only
  split
  next => exact refl s
  next =>
    refine ite (refl s) (ite ?parent (ite ?held ?root))
    case parent => exact (sendVerdict s _ _).trans (modStep _ _ _ fun _ => ⟨rfl, rfl, rfl, rfl, rfl, rfl⟩)
    case held => exact modStep s _ _ fun _ => ⟨rfl, rfl, rfl, rfl, rfl, rfl⟩
    case root =>
      refine (modStep s _ _ ?_).trans (issueVerdict _ _)
      exact fun _ => ⟨rfl, rfl, rfl, rfl, rfl, rfl⟩

theorem tryReplay (s : State) (num attempt : Nat) : State.Carried x s (s.tryReplay x num attempt) := by
  unfold State.tryReplay
  dsimp only
  split
  next => exact refl s
  next =>
    have hsent := modStep (x := x) s num attempt (f := fun t => { t with replaySent := true })
      fun _ => ⟨rfl, rfl, rfl, rfl, rfl, rfl⟩
    exact ite (refl s) (ite (hsent.trans (sendVerdict _ _ _)) (hsent.trans (issueVerdict _ _)))

theorem recordMiss (s : State) (num : Nat) : State.Carried x s (s.recordMiss x num) := by
  unfold State.recordMiss
  dsimp only
  split
  next => exact of_steps rfl
  next =>
    refine (of_steps rfl : State.Carried x s (s.bump K.REPLAY_MISSES 1)).trans
      ((modStep _ _ _ ?_).trans (tryReplay _ _ _))
    exact fun _ => ⟨rfl, rfl, rfl, rfl, rfl, rfl⟩

theorem announceReplay (s : State) : State.Carried x s (s.announceReplay x) := by
  have htaken : State.Carried x s (s.modCx x fun c => { c with logArrived := none }) :=
    of_steps (by rw [State.modCx_cx_same])
  unfold State.announceReplay
  dsimp only
  split
  next => exact ite (refl s) (ite (htaken.trans (of_steps rfl)) (ite (htaken.trans (recordMiss _ _)) (refl s)))
  next => exact refl s

end State.Carried

/-- A step of a name after the bookkeeping is one of that name before it, carried along. -/
theorem State.Carried.stepsNamed {x num attempt : Nat} {s t : State} (h : State.Carried x s t) {u : Step}
    (hu : u ∈ stepsNamed t x num attempt) : ∃ w ∈ stepsNamed s x num attempt, w.Carried u := by
  obtain ⟨g, hg, hgc⟩ := h
  rw [Claims.stepsNamed, List.mem_filter, hg, List.mem_map] at hu
  obtain ⟨⟨w, hw, rfl⟩, hname⟩ := hu
  rw [(hgc w).num, (hgc w).attempt] at hname
  exact ⟨w, List.mem_filter.2 ⟨hw, hname⟩, hgc w⟩

/-- Of the name that a change is made for, every step is one that the change was made to. -/
theorem stepsNamed_of_modNamed {x num attempt : Nat} {f : Step → Step} {s t : State}
    (ht : (t.cx x).steps = (s.cx x).steps.map (Step.modNamed num attempt f)) {u : Step}
    (hu : u ∈ stepsNamed t x num attempt) : ∃ w, u = f w := by
  rw [Claims.stepsNamed, List.mem_filter, ht, List.mem_map] at hu
  obtain ⟨⟨w, hw, rfl⟩, hname⟩ := hu
  unfold Step.modNamed at hname ⊢
  split at hname
  next hw => exact ⟨w, if_pos hw⟩
  next hw => exact absurd hname hw

/-! ### What the messages leave -/

section
variable {s : State} {e x n : Nat} {v : VMsg} {st w : Step}

theorem State.takeHealth_childHealth (hn : s.childOf x e = some n)
    (hw : w ∈ stepsNamed (s.takeHealth e x v st) x st.num st.attempt) : Tbl.get w.childHealth none n = some v := by
  unfold State.takeHealth at hw
  rw [hn] at hw
  obtain ⟨u, hu, hcarried⟩ := (State.Carried.tryHealth _ _ _).stepsNamed hw
  obtain ⟨u', rfl⟩ := stepsNamed_of_modNamed (s := s) (by rw [State.modCx_cx_same]; rfl) hu
  rw [hcarried.childHealth]
  exact Tbl.get_put_same u'.childHealth none n (some v)

theorem State.takeResult_childReplay (hn : s.childOf x e = some n)
    (hw : w ∈ stepsNamed (s.takeResult e x v st) x st.num st.attempt) : Tbl.get w.childReplay none n = some v := by
  unfold State.takeResult at hw
  rw [hn] at hw
  obtain ⟨u, hu, hcarried⟩ := (State.Carried.tryReplay _ _ _).stepsNamed hw
  obtain ⟨u', rfl⟩ := stepsNamed_of_modNamed (s := s) (by rw [State.modCx_cx_same]; rfl) hu
  rw [hcarried.childReplay]
  exact Tbl.get_put_same u'.childReplay none n (some v)

theorem State.takePartner_partner (hw : w ∈ stepsNamed (s.takePartner x v st) x st.num st.attempt) :
    w.partner = some (cleanHealth v.word) := by
  unfold State.takePartner at hw
  extract_lets ranks owes t at hw
  have hcarried : State.Carried x t (if (owes && ranks.contains (t.jobRank x)) = true then t.recordMiss x st.num
      else t.announceReplay x) :=
    .ite (.recordMiss _ _) (.announceReplay _)
  obtain ⟨u, hu, hcarried⟩ := hcarried.stepsNamed hw
  obtain ⟨u', rfl⟩ := stepsNamed_of_modNamed (s := s) (by rw [State.modCx_cx_same]; rfl) hu
  rw [hcarried.partner]

end

/-! ### Which step a message acts on -/

/-- What a verdict message does where it lands (R342, R354). -/
def State.landVerdict (v : VMsg) (act : VerdictAct) : Landing := fun s _ e x _ =>
  let c := s.cx x
  if c.orphaned then s.bump K.LATE_VERDICT_DROPS 1
  else
    match awaited s x v with
    | none => s.bump K.VERDICT_MESSAGE_DROPS 1
    | some t =>
      if v.membership ≠ s.par K.JOB_MEMBERSHIP || !v.known then s.bump K.VERDICT_MESSAGE_DROPS 1
      else act s e x v t

section
variable {s : State} {io i e x : Nat} {v : VMsg} {act : VerdictAct} {st : Step}

theorem State.landVerdict_of_orphaned (h : (s.cx x).orphaned = true) (q : Option (Nat × Nat)) :
    State.landVerdict v act s i e x q = s.bump K.LATE_VERDICT_DROPS 1 := if_pos h

theorem State.landVerdict_of_awaited (h : (s.cx x).orphaned = false) (hmember : v.membership = s.par K.JOB_MEMBERSHIP)
    (hknown : v.known = true) (hst : awaited s x v = some st) (q : Option (Nat × Nat)) :
    State.landVerdict v act s i e x q = act s e x v st := by
  unfold State.landVerdict
  dsimp only
  rw [if_neg (Bool.eq_false_iff.1 h), hst]
  exact if_neg (by simp [hmember, hknown])

theorem State.landVerdict_of_unawaited (h : (s.cx x).orphaned = false)
    (hno : awaited s x v = none ∨ v.membership ≠ s.par K.JOB_MEMBERSHIP ∨ v.known = false) (q : Option (Nat × Nat)) :
    State.landVerdict v act s i e x q = s.bump K.VERDICT_MESSAGE_DROPS 1 := by
  unfold State.landVerdict
  dsimp only
  rw [if_neg (Bool.eq_false_iff.1 h)]
  split
  · rfl
  next st hst =>
    have hother : v.membership ≠ s.par K.JOB_MEMBERSHIP ∨ v.known = false := hno.resolve_left (by simp [hst])
    exact if_pos (by simpa using hother)

end

theorem State.verdictMsg_of_other {s : State} {m : List (BitVec 128)} {n : Nat} (act : VerdictAct)
    (hknown : (Msg.verdict m).known = true) (htyp : (Msg.verdict m).typ ≠ n) : s.verdictMsg m n act = s := by
  unfold State.verdictMsg
  exact if_pos (by simp [htyp, hknown])

theorem State.verdictMsg_of_own {s : State} {m : List (BitVec 128)} {n : Nat} (act : VerdictAct)
    (hown : (Msg.verdict m).typ = n ∨ (Msg.verdict m).known = false) :
    s.verdictMsg m n act = s.receive 2 m (State.landVerdict (Msg.verdict m) act) := by
  unfold State.verdictMsg
  exact if_neg (by rcases hown with h | h <;> simp [h])

/-- Each command of verdict messages is the arrival of a message of its TYPE. -/
theorem exec_verdictRow {m : List (BitVec 128)} {r : Instr × Nat × VerdictAct} (hr : r ∈ verdictRows m) (s : State) :
    exec r.1 s = s.ends (s.verdictMsg m r.2.1 r.2.2) := by
  simp only [verdictRows, List.mem_cons, List.not_mem_nil, or_false] at hr
  obtain rfl | rfl | rfl | rfl := hr <;> rfl

/-- Settles O37: the checks of R423 admit the message, and `State.landVerdict` then finds its step or drops it. -/
theorem verdictMessagesFindTheirStep : Obligations.VerdictMessagesFindTheirStep := by
  intro m s t r io i e x q hr hio hlive htype hform hcross hlands v
  have hexec := exec_verdictRow hr s
  have hland (hown : v.typ = r.2.1 ∨ v.known = false) :
      exec r.1 s = s.ends (State.landVerdict v r.2.2 t i e x q) := by
    rw [hexec, State.verdictMsg_of_own r.2.2 hown, State.receive_of_lands hio hlive htype hform hcross hlands]
  have hpart : t.part = s.part := by
    have hlinked := s.judge_linked io m
    rw [hlands] at hlinked
    rw [show t = _ from hlinked]
  refine ⟨fun hknown htyp => ?other, fun hown horphan => ?orphan, fun hown horphan hno => ?dropped,
    fun htyp hknown horphan hmember st hst => ⟨?acts, fun n hn => ⟨fun w => State.takeHealth_childHealth hn,
      fun w => State.takeResult_childReplay hn⟩, fun w => State.takePartner_partner⟩⟩
  case other =>
    rw [hexec, State.verdictMsg_of_other r.2.2 hknown htyp]
    rfl
  case orphan =>
    refine ⟨_, (hland hown).trans (congrArg s.ends (State.landVerdict_of_orphaned horphan q)), rfl, ?_⟩
    rw [← hpart]
    exact State.bump_par_same t _ 1
  case dropped =>
    refine ⟨_, (hland hown).trans (congrArg s.ends (State.landVerdict_of_unawaited horphan hno q)), rfl, ?_⟩
    rw [← hpart]
    exact State.bump_par_same t _ 1
  case acts =>
    rw [hland (.inl htyp), State.landVerdict_of_awaited horphan hmember hknown hst]
    rfl

end Sys2Proof.Machine
end

section
/-!
PROOFS. What events, checks of blocks, log entries, reports and answers leave of the state: the time, the semaphores, the
engines and what waits; support for the statements of chapters 11 to 16.
-/

namespace Sys2Proof.Machine

open Sys2Proof.Claims

/-! ### Requests that ports transmit (R428) -/

/-- From `s` to `t` the outstanding requests stand in their places; some of them have been transmitted at `s`'s time. -/
def State.Resent (s t : State) : Prop :=
  ∃ g : Req → Req, t.links.reqs = s.links.reqs.map g ∧ ∀ r, g r = r ∨ g r = { r with sent := s.now }

namespace State.Resent

variable {s t u : State}

theorem of_reqs (h : t.links.reqs = s.links.reqs) : s.Resent t := ⟨id, by simpa using h, fun _ => .inl rfl⟩

theorem refl (s : State) : s.Resent s := of_reqs rfl

theorem trans (hst : s.Resent t) (htu : t.Resent u) (hnow : t.now = s.now) : s.Resent u := by
  obtain ⟨g, hg, hgr⟩ := hst
  obtain ⟨k, hk, hkr⟩ := htu
  refine ⟨k ∘ g, by rw [hk, hg, List.map_map], fun r => ?_⟩
  rw [Function.comp_apply]
  rcases hgr r with hr | hr <;> rcases hkr (g r) with hs | hs <;> rw [hs, hr]
  · exact .inl rfl
  · exact .inr (by rw [hnow])
  · exact .inr rfl
  · exact .inr (by rw [hnow])

theorem sendOn (s : State) (q : Nat) (p : Port) : s.Resent (s.sendOn q p) := by
  unfold State.sendOn
  extract_lets p' left t
  split
  · exact refl s
  · refine ⟨fun r => if left.contains r.msg then { r with sent := s.now } else r, rfl, fun r => ?_⟩
    by_cases h : left.contains r.msg
    · exact .inr (if_pos h)
    · exact .inl (if_neg h)

theorem sendMask (s : State) (mask : Nat) (m : Msg) : s.Resent (s.sendMask mask m) := by
  unfold State.sendMask
  split
  · exact sendOn s _ _
  · exact refl s

theorem timeless (h : s.Resent t) : t.links.reqs.map timeless = s.links.reqs.map timeless := by
  obtain ⟨g, hg, hgr⟩ := h
  rw [hg, List.map_map]
  refine List.map_congr_left fun r _ => ?_
  rcases hgr r with hr | hr <;> rw [Function.comp_apply, hr] <;> rfl

/-- A request that was transmitted at this time still stands so. -/
theorem exists_sent (h : s.Resent t) {r : Req} (hr : r ∈ s.links.reqs) (hsent : r.sent = s.now) :
    ∃ q ∈ t.links.reqs, Claims.timeless q = Claims.timeless r ∧ q.sent = s.now := by
  obtain ⟨g, hg, hgr⟩ := h
  refine ⟨g r, hg ▸ List.mem_map_of_mem hr, ?_⟩
  rcases hgr r with h | h <;> rw [h]
  · exact ⟨rfl, hsent⟩
  · exact ⟨rfl, rfl⟩

end State.Resent

/-! ### What is noticed: events, failed checks, logs, reports, answers -/

/-- The counters of what is noticed: events and traces, checks of blocks, the log, reports. -/
def noticeCounter (k : Nat) : Bool :=
  [K.EVENTS_OVERWRITTEN, K.TRACE_DROPS, K.TRACE_RECORDS, K.TRACE_OVERRUNS, K.HBM_OFFLINE_ACCESSES, K.HBM_RMW_WRITES,
    K.HBM_BURSTS_P0 + 3, K.BLOCK_CHECK_FAILS, K.CHEST_OVERFLOW_BLOCKS, K.REPORTS_OVERWRITTEN, K.MGMT_SEND_DROPS,
    K.REPORTS_SENT].contains k

/-- `t` is `s` after something has been noticed: written into rings, traces and logs, charged to steps, reported, sent. -/
structure State.Noticed (s t : State) : Prop where
  frame : t = { s with od := t.od, ctxs := t.ctxs, mem := t.mem, rings := t.rings, traces := t.traces,
                       links := { s.links with ports := t.links.ports, tags := t.links.tags, reqs := t.links.reqs,
                                               parked := t.links.parked }
                       reports := t.reports, defence := t.defence }
  resent : s.Resent t
  par_eq : ∀ k, noticeCounter k = false → t.par k = s.par k
  cx_eq : ∀ y, t.cx y = { s.cx y with steps := (t.cx y).steps, replay := (t.cx y).replay, logNext := (t.cx y).logNext }

namespace State.Noticed

theorem refl (s : State) : s.Noticed s := ⟨rfl, .refl s, fun _ _ => rfl, fun _ => rfl⟩

theorem trans {s t u : State} (hst : s.Noticed t) (htu : t.Noticed u) : s.Noticed u where
  frame := by rw [htu.frame, hst.frame]
  resent := hst.resent.trans htu.resent (by rw [hst.frame])
  par_eq k hk := (htu.par_eq k hk).trans (hst.par_eq k hk)
  cx_eq y := by rw [htu.cx_eq y, hst.cx_eq y]

theorem ite {s t u : State} {p : Prop} [Decidable p] (ht : s.Noticed t) (hu : s.Noticed u) :
    s.Noticed (if p then t else u) := by
  split <;> assumption

theorem foldl {α : Type} {f : State → α → State} (hf : ∀ (s : State) (a : α), s.Noticed (f s a)) (as : List α)
    (s : State) : s.Noticed (as.foldl f s) := by
  induction as generalizing s with
  | nil => exact refl s
  | cons a as ih => exact (hf s a).trans (ih (f s a))

theorem bump (s : State) {k n : Nat} (hk : noticeCounter k = true := by decide) : s.Noticed (s.bump k n) where
  frame := rfl
  resent := .refl s
  par_eq i hi := by
    have hne : i ≠ k := fun h => by simp [h, hk] at hi
    rw [State.bump_par, if_neg hne]
  cx_eq _ := rfl

theorem modCx (s : State) (x : Nat) {f : Ctx → Ctx}
    (hf : ∀ c, f c = { c with steps := (f c).steps, replay := (f c).replay, logNext := (f c).logNext }) :
    s.Noticed (s.modCx x f) where
  frame := rfl
  resent := .of_reqs rfl
  par_eq _ _ := rfl
  cx_eq y := by
    rw [State.modCx_cx]
    split
    next hy => rw [hy]; exact hf _
    next => rfl

theorem charge (s : State) (x : Nat) (f : Step → Step) : s.Noticed (s.modCx x fun c => c.charge f) := by
  refine modCx s x fun c => ?_
  unfold Ctx.charge
  split <;> rfl

/-! ### Memory, traces and rings (R518 to R520) -/

theorem writeSpace (s : State) (space a : Nat) (bs : List Nat) : s.Noticed (s.writeSpace space a bs) := by
  unfold State.writeSpace
  split <;> exact ⟨rfl, .of_reqs rfl, fun _ _ => rfl, fun _ => rfl⟩

theorem writeBlock (s : State) (k b : Nat) (x : Block) : s.Noticed (s.writeBlock k b x) :=
  (writeSpace s _ _ _).trans (ite (writeSpace _ _ _ _) (refl _))

theorem countBursts (s : State) (a n : Nat) : s.Noticed (s.countBursts 3 a n) := ite (refl s) (bump s)

theorem countRmw (s : State) (a n : Nat) (hdr : Bool) : s.Noticed (s.countRmw a n hdr) := ite (refl s) (bump s)

theorem writeTraces (s : State) (x : Tbl TraceSt) : s.Noticed { s with traces := x } :=
  ⟨rfl, .of_reqs rfl, fun _ _ => rfl, fun _ => rfl⟩

theorem writeRings (s : State) (x : Tbl Ring) : s.Noticed { s with rings := x } :=
  ⟨rfl, .of_reqs rfl, fun _ _ => rfl, fun _ => rfl⟩

theorem trace (s : State) (d cls : Nat) (ev : BitVec 128) : s.Noticed (s.trace d cls ev) := by
  unfold State.trace
  refine ite (refl s) ?_
  extract_lets t w used len overrun t' a counted noted off
  have hnoted : s.Noticed noted := ((writeTraces s _).trans (bump _)).trans (ite (bump _) (refl _))
  have hwritten := ((writeSpace noted 0 a (toBytes 16 ev.toNat)).trans (countBursts _ a 16)).trans
    (countRmw _ a 16 false)
  exact ite ((writeTraces s _).trans (bump _)) (hnoted.trans (ite (bump _) hwritten))

theorem event (s : State) (u code detail : Nat) : s.Noticed (s.event u code detail) := by
  unfold State.event
  extract_lets r ev n r' placed counted
  have hcounted : s.Noticed counted := (writeRings s _).trans (ite (bump _) (refl _))
  exact ite (hcounted.trans (trace _ _ _ _)) hcounted

/-! ### Blocks that are checked, and the log (R232, R233, R328, R329) -/

theorem checkBlock (s : State) (cl x src : Nat) (l : Bool) (b : Block) : s.Noticed (s.checkBlock cl x src l b).1 := by
  unfold State.checkBlock
  split
  · exact ite (charge s x _) (refl s)
  split
  · exact refl s
  · exact ((bump s).trans (charge _ x _)).trans (event _ _ _ _)

theorem log (s : State) (x n rcd : Nat) (blk : Option Block) : s.Noticed (s.log x n rcd blk) := by
  have hentry : s.Noticed (s.logEntry x n rcd blk).2 := by
    unfold State.logEntry
    dsimp only
    split
    · exact refl s
    split
    · exact refl s
    dsimp only
    refine trans (trans ?_ (writeSpace _ _ _ _)) (modCx _ x fun _ => rfl)
    split
    · exact writeBlock s _ _ _
    · exact refl s
  have hunlogged := hentry.trans (modCx _ x (f := fun c => { c with
    steps := c.steps.map (fun t => if t.num = n && t.st = .opened then { t with unlogged := true } else t) })
    fun _ => rfl)
  exact ite hentry (ite (hunlogged.trans (bump _)) hunlogged)

theorem logUnder (s : State) (x : Nat) (step : Option Nat) (rcd : Nat → Nat) (blk : Option Block) :
    s.Noticed (s.logUnder x step rcd blk) := by
  unfold State.logUnder
  split
  · exact refl s
  · exact log s _ _ _ _

/-! ### Messages and reports (R410, R422, R491) -/

theorem sendMask (s : State) (mask : Nat) (m : Msg) : s.Noticed (s.sendMask mask m) where
  frame := by rw [(State.Sent.sendMask s mask m).frame]
  resent := .sendMask s mask m
  par_eq k _ := (State.Sent.sendMask s mask m).par_eq k
  cx_eq _ := by rw [(State.Sent.sendMask s mask m).frame]; rfl

theorem setTags (s : State) (io e : Nat) (t : EpTags) : s.Noticed (s.setTags io e t) :=
  ⟨rfl, .of_reqs rfl, fun _ _ => rfl, fun _ => rfl⟩

theorem answer (s : State) (io e : Nat) (slot : BitVec 128) (status blocks : Nat) :
    s.Noticed (s.answer io e slot status blocks) :=
  ite (refl s) ((setTags s _ _ _).trans (sendMask _ _ _))

theorem toPort (s : State) (q : Nat) (m : Msg) : s.Noticed (s.toPort q m) where
  frame := by rw [s.toPort_frame q m]
  resent := .sendOn s q _
  par_eq _ _ := by rw [s.toPort_frame q m]; rfl
  cx_eq _ := by rw [s.toPort_frame q m]; rfl

theorem report (s : State) (kind : Nat) (c : Option (Nat × Nat)) (detail : Nat) :
    s.Noticed (s.report kind c detail) := by
  unfold State.report
  extract_lets seq tail rcd full counted un recorded
  have hrecorded : s.Noticed recorded :=
    (ite (p := full) (bump s) (refl s) : s.Noticed counted).trans
      ⟨rfl, .of_reqs rfl, fun _ _ => rfl, fun _ => rfl⟩
  unfold State.sendReport
  extract_lets addr hdr
  refine ite hrecorded ?_
  split
  next => exact hrecorded.trans (bump _)
  next q _ => exact hrecorded.trans ((toPort _ q _).trans (bump _))

theorem reportCtx (s : State) (kind x detail : Nat) : s.Noticed (s.reportCtx kind x detail) := report s _ _ _

/-! ### What stands -/

variable {s t : State} (h : s.Noticed t)
include h

theorem now_eq : t.now = s.now := by rw [h.frame]
theorem part_eq : t.part = s.part := by rw [h.frame]
theorem pending_eq : t.pending = s.pending := by rw [h.frame]
theorem gen_eq (x : Nat) : (t.cx x).gen = (s.cx x).gen := by rw [h.cx_eq x]
theorem side_eq : t.side = s.side := by rw [h.frame]
theorem pkg_eq : t.pkg = s.pkg := by rw [h.frame]
theorem posts_eq : t.posts = s.posts := by rw [h.frame]
theorem moves_eq : t.moves = s.moves := by rw [h.frame]
theorem accesses_eq : t.accesses = s.accesses := by rw [h.frame]
theorem cores_eq : t.cores = s.cores := by rw [h.frame]
theorem key_eq (k : Nat) : t.key k = s.key k := by rw [h.frame]; rfl

end State.Noticed

end Sys2Proof.Machine
end

section
/-!
PROOFS. Requests of other parts that land, and requests of this part that stay without an answer
(spec/13_ryuryn_links.md R408, R411, R425 to R429, spec/07_synchronisation.md R203).
-/

namespace Sys2Proof.Machine
open Sys2Proof.Claims

/-! ### Blocks that arrive -/

section
variable (s : State) (io x src : Nat) (l : List Block)

theorem State.checkArrived_noticed : s.Noticed (s.checkArrived io x src l).1 := by
  unfold State.checkArrived
  refine List.foldlRecOn (motive := fun acc : State × List Block => s.Noticed acc.1) l _ (.refl s) fun acc h b _ => ?_
  exact h.trans (.checkBlock _ _ _ _ _ _)

theorem State.checkArrived_length : (s.checkArrived io x src l).2.length = l.length := by
  have hlength (p : State × List Block) : (l.foldl (fun acc b =>
      ((acc.1.checkBlock (32 + io) x src false b).1, acc.2 ++ [(acc.1.checkBlock (32 + io) x src false b).2.1]))
      p).2.length = p.2.length + l.length := by
    induction l generalizing p with
    | nil => rfl
    | cons b l ih =>
      rw [List.foldl_cons, ih, List.length_append, List.length_singleton, List.length_cons]
      omega
  simpa [State.checkArrived] using hlength (s, [])

end

/-! ### A request that acts for the first time (R429) -/

/-- `s` with other tags seen. -/
def State.withTags (s : State) (l : Tbl EpTags) : State := { s with links := { s.links with tags := l } }

theorem State.once_of_unseen {s : State} {io e : Nat} {m : Msg} (h : (s.tags io e).seen (Msg.common m).tag = false)
    (act : State → State) : ∃ l, s.once io e m act = act (s.withTags l) := by
  unfold State.once
  extract_lets tag t
  split
  · exact ⟨s.links.tags, rfl⟩
  · rw [if_neg (Bool.eq_false_iff.1 h)]
    exact ⟨_, rfl⟩

theorem State.withTags_noticed (s : State) (l : Tbl EpTags) : s.Noticed (s.withTags l) :=
  ⟨rfl, .of_reqs rfl, fun _ _ => rfl, fun _ => rfl⟩

/-! ### WRITE to memory (R408, R409) -/

/-- The write of one block of a WRITE message, on its way to its memory controller. -/
def State.remoteWrite (s : State) (io e x : Nat) (step : Option (Nat × Nat)) (m : Msg) (b : Block × Nat) : Access where
  owner := .remote io e (m.headD 0)
  ctx := x
  gen := (s.cx x).gen
  key := bits (m.slot 1) 105 90
  off := bits (m.slot 1) 89 50 + 2048 * b.2
  bytes := toBytes 2048 b.1.data.toNat
  hdr := if (s.key (bits (m.slot 1) 105 90)).check then some b.1.hdr else none
  came := some b.1.hdr
  step := step.map (·.1)

section
variable {s : State} {io e x : Nat} {step : Option (Nat × Nat)} {m : Msg}

theorem State.writeMemory_of_allowed (hdrawer : (s.drawerDie x (bits (m.slot 1) 105 90)).isSome = false)
    (hspill : s.isSpillKey x (bits (m.slot 1) 105 90) = false)
    (hkey : s.keyOk x (bits (m.slot 1) 105 90) false true = true) (haligned : bits (m.slot 1) 89 50 % 2048 = 0)
    (hfits : bits (m.slot 1) 89 50 + 2048 * Machine.writeBlocks (m.headD 0) ≤ (s.key (bits (m.slot 1) 105 90)).length) :
    s.writeMemory io e x step m = let r := s.checkArrived io x (bits (m.slot 1) 105 90) (m.blocks 2)
      { r.1 with accesses := r.1.accesses ++ r.2.zipIdx.map (r.1.remoteWrite io e x step m) } := by
  unfold State.writeMemory
  dsimp only
  rw [if_neg (by simp [hdrawer, hspill]), if_neg (by rw [hkey, haligned]; simpa using hfits)]
  rfl

theorem toBytes_length (n v : Nat) : (toBytes n v).length = n := by
  induction n generalizing v with
  | zero => rfl
  | succ n ih => rw [toBytes, List.length_cons, ih]

/-- Each block is one write of 2,048 bytes, at rising offsets. -/
theorem State.remoteWrites_get (l : List Block) (as : List Access) {j : Nat} (hj : j < l.length) :
    ∃ a, (as ++ l.zipIdx.map (s.remoteWrite io e x step m))[as.length + j]? = some a ∧ a.ctx = x ∧
      a.key = bits (m.slot 1) 105 90 ∧ a.off = bits (m.slot 1) 89 50 + 2048 * j ∧ a.bytes.length = 2048 := by
  refine ⟨s.remoteWrite io e x step m (l[j], j), ?_, rfl, rfl, rfl, toBytes_length _ _⟩
  rw [List.getElem?_append_right (Nat.le_add_right _ _), Nat.add_sub_cancel_left, List.getElem?_map,
    List.getElem?_zipIdx, List.getElem?_eq_getElem hj]
  simp

/-! ### WRITE to a queue (R408, R192) -/

/-- The blocks of a WRITE message on their way to a queue, judged already. -/
def State.remoteFlight (s : State) (io e x : Nat) (step : Option (Nat × Nat)) (m : Msg) (l : List Block) :
    MoveFlight where
  src := 0xFFFF
  id := 0
  no := 0
  ctx := x
  gen := (s.cx x).gen
  dst := bits (m.slot 1) 89 82
  dq := bits (m.slot 1) 81 76
  blocks := l
  step := step.map (·.1)
  judged := some false
  remote := some (io, e, m.headD 0)

theorem State.writeQueue_of_queue (hheld : s.holds x (bits (m.slot 1) 89 82 / 8) = true)
    (hfused : s.part.isFused (bits (m.slot 1) 89 82) = false)
    (hqueue : bits (m.slot 1) 81 76 = 63 ∨
      ((s.co (bits (m.slot 1) 89 82)).queue (bits (m.slot 1) 81 76)).size ≠ 0) :
    s.writeQueue io e x step m =
      let r := s.checkArrived io x (1 <<< 19 + (bits (m.slot 1) 89 82) <<< 6 + bits (m.slot 1) 81 76) (m.blocks 2)
      State.settle { r.1 with moves := r.1.moves ++ [r.1.remoteFlight io e x step m r.2] }
        (bits (m.slot 1) 89 82 / 8) := by
  unfold State.writeQueue
  dsimp only
  rw [if_neg (by simp [hheld]), if_neg (by simp [hfused]), if_neg (by simpa [imp_iff_not_or] using hqueue)]
  rfl

/-! ### SEM_OP (R203, R411) -/

/-- The post that a SEM_OP asks for. -/
def State.remotePost (s : State) (io x : Nat) (m : Msg) : Post :=
  ⟨.pkg (bits (m.slot 1) 105 104) (bits (m.slot 1) 103 90), bit (m.slot 1) 106, bits (m.slot 1) 89 66, x,
    (s.cx x).gen, 4 + io⟩

/-- A SEM_OP that lands in a step is logged. -/
def State.logRemote (s : State) (e x : Nat) (step : Option (Nat × Nat)) (m : Msg) : State :=
  s.logUnder x (step.map (·.1)) (logRecord e 2 (bits (m.slot 1) 103 90)
    (b2n (bit (m.slot 1) 106) <<< 24 + bits (m.slot 1) 89 66) 0 0 (bits (m.slot 1) 105 104) 0) none

/-- A SEM_OP in range posts, beside what its log entry and its answer change. -/
theorem State.landSemOp_of_range (hio : bits (m.slot 1) 105 104 < s.part.ioDies)
    (hrange : s.inPkgRange x (bits (m.slot 1) 103 90) = true)
    (hunseen : (s.tags io e).seen (Msg.common m).tag = false) :
    ∃ t, s.Noticed t ∧ (t.post (t.remotePost io x m)).Noticed (s.landSemOp m io e x step) := by
  unfold State.landSemOp
  dsimp only
  rw [if_neg (by simp [hio, hrange])]
  obtain ⟨l, hl⟩ := State.once_of_unseen hunseen fun t =>
    ((t.logRemote e x step m).post ((t.logRemote e x step m).remotePost io x m)).answer io e (m.headD 0) 1 0
  refine ⟨(s.withTags l).logRemote e x step m, (s.withTags_noticed l).trans (.logUnder _ _ _ _ _), ?_⟩
  have hanswered := State.Noticed.answer
    (((s.withTags l).logRemote e x step m).post (((s.withTags l).logRemote e x step m).remotePost io x m)) io e
    (m.headD 0) 1 0
  rw [← hl] at hanswered
  exact hanswered

theorem State.landSemOp_of_outside
    (hout : s.part.ioDies ≤ bits (m.slot 1) 105 104 ∨ s.inPkgRange x (bits (m.slot 1) 103 90) = false)
    (hunseen : (s.tags io e).seen (Msg.common m).tag = false) :
    (s.bump K.SEM_RANGE_DROPS 1).Noticed (s.landSemOp m io e x step) := by
  unfold State.landSemOp
  dsimp only
  rw [if_pos (by simpa [hunseen] using hout)]
  exact .event _ _ _ _

/-! ### RESP (R410, R425) -/

theorem State.landResp_of_none (h : s.req io e (Msg.common m).tag = none) : s.landResp m io e x step = s := by
  unfold State.landResp
  dsimp only
  rw [State.req] at h
  rw [h]

theorem State.landResp_of_req {r : Req} (h : s.req io e (Msg.common m).tag = some r) :
    s.landResp m io e x step =
      (State.reqAnswered { s with links := { s.links with reqs := s.links.reqs.erase r } } r
        (bits (m.slot 1) 106 103) (bits (m.slot 1) 90 88)).pumpEntry io e := by
  unfold State.landResp
  dsimp only
  rw [State.req] at h
  rw [h]

end

/-- Settles O32: a message that lands acts on the state that the checks have left, once. -/
theorem remoteRequestsTakeEffect : Obligations.RemoteRequestsTakeEffect := by
  intro m s t io i e x step hio hlive hform hcross hlands
  have hpart : t.part = s.part := by
    have hlinked := s.judge_linked io m
    rw [hlands] at hlinked
    rw [show t = _ from hlinked]
  refine ⟨fun htype hmem hunseen hdrawer hspill hkey haligned hfits => ?memory, fun htype hqueue hunseen => ?queue,
    fun htype hunseen => ⟨fun hn hrange => ?post, fun hout => ?drop⟩,
    fun htype => ⟨fun hnone => ?late, fun r hr => ?answered⟩⟩
  case memory =>
    have hexec : exec (.write m) s = s.ends (t.landWrite m i e x step) :=
      congrArg s.ends (State.receive_of_lands hio hlive htype hform hcross hlands)
    obtain ⟨l, hl⟩ := State.once_of_unseen hunseen fun t =>
      if bit (Msg.slot m 1) 106 then t.writeQueue i e x step m else t.writeMemory i e x step m
    rw [if_neg (by simp [hmem]), State.writeMemory_of_allowed (s := t.withTags l) hdrawer hspill hkey haligned hfits] at hl
    have hchecked := (t.withTags_noticed l).trans
      (State.checkArrived_noticed (t.withTags l) i x (bits (Msg.slot m 1) 105 90) (Msg.blocks m 2))
    have hlength := State.checkArrived_length (t.withTags l) i x (bits (Msg.slot m 1) 105 90) (Msg.blocks m 2)
    have haccesses := hchecked.accesses_eq
    refine ⟨_, hexec.trans (congrArg s.ends hl), ?_, ?_, ?_, fun j hj => ?_⟩
    · exact hchecked.side_eq
    · exact hchecked.pkg_eq
    · simp [haccesses, hlength]
    · rw [← hlength] at hj
      rw [← show _ = t.accesses from haccesses]
      exact State.remoteWrites_get _ _ hj
  case queue =>
    intro k q hheld hfused hconf
    have hexec : exec (.write m) s = s.ends (t.landWrite m i e x step) :=
      congrArg s.ends (State.receive_of_lands hio hlive htype hform hcross hlands)
    obtain ⟨l, hl⟩ := State.once_of_unseen hunseen fun t =>
      if bit (Msg.slot m 1) 106 then t.writeQueue i e x step m else t.writeMemory i e x step m
    rw [if_pos hqueue, State.writeQueue_of_queue (s := t.withTags l) hheld hfused hconf] at hl
    have hchecked := (t.withTags_noticed l).trans
      (State.checkArrived_noticed (t.withTags l) i x (1 <<< 19 + k <<< 6 + q) (Msg.blocks m 2))
    refine ⟨_, _, hexec.trans (congrArg s.ends hl), ?_, ?_, ?_, ?_, rfl, rfl, rfl, rfl,
      State.checkArrived_length _ _ _ _ _, rfl⟩
    · exact hchecked.moves_eq
    · exact hchecked.cores_eq
    · exact hchecked.side_eq
    · exact hchecked.pkg_eq
  case post =>
    have hexec : exec (.semOp m) s = s.ends (t.landSemOp m i e x step) :=
      congrArg s.ends (State.receive_of_lands hio hlive htype hform hcross hlands)
    obtain ⟨u, hu, hposted⟩ := State.landSemOp_of_range (io := i) (e := e) (x := x) (step := step) hn hrange hunseen
    refine ⟨_, hexec, ?_, ?_, ?_⟩
    · exact hposted.side_eq.trans hu.side_eq
    · exact hposted.pkg_eq.trans hu.pkg_eq
    · refine hposted.posts_eq.trans ?_
      show u.posts ++ [u.remotePost i x m] = _
      rw [State.remotePost, hu.gen_eq x, hu.posts_eq]
  case drop =>
    have hexec : exec (.semOp m) s = s.ends (t.landSemOp m i e x step) :=
      congrArg s.ends (State.receive_of_lands hio hlive htype hform hcross hlands)
    have hdropped := State.landSemOp_of_outside (io := i) (e := e) (x := x) (step := step) hout hunseen
    refine ⟨_, hexec, ?_, ?_, ?_, ?_⟩
    · exact hdropped.side_eq
    · exact hdropped.pkg_eq
    · exact hdropped.posts_eq
    have hcounted : (t.landSemOp m i e x step).par K.SEM_RANGE_DROPS = (t.par K.SEM_RANGE_DROPS + 1) % 2 ^ 64 := by
      rw [hdropped.par_eq _ (by decide), State.bump_par_same]
    rw [← hcounted, ← hpart, ← show _ = t.part from hdropped.part_eq]
    rfl
  all_goals
    have hexec : exec (.resp m) s = s.ends (t.landResp m i e x step) :=
      congrArg s.ends (State.receive_of_lands hio hlive htype hform hcross hlands)
  case late =>
    rw [hexec, State.landResp_of_none hnone]
    rfl
  case answered =>
    intro u v
    rw [hexec, State.landResp_of_req hr]
    rfl

end Sys2Proof.Machine
end

section
/-!
PROOFS. What sleep, self-tests, trainings and the clearing of hardware leave of the state; support for the statements of
chapters 14, 16 and 19.
-/

namespace Sys2Proof.Machine

open Sys2Proof.Claims

/-- An event goes into a ring and a trace. -/
theorem State.event_frame (s : State) (u code detail : Nat) : let t := s.event u code detail
    t = { s with od := t.od, mem := t.mem, rings := t.rings, traces := t.traces } := by
  unfold State.event
  extract_lets r ev n r' placed counted t
  have hcounted : counted = { s with od := counted.od, rings := counted.rings } := by
    unfold counted
    split <;> rfl
  unfold t
  split
  · rw [(State.Traced.trace counted (u / 8) 0 ev).frame, hcounted]
  · rw [hcounted]

/-! ### The hardware that is put to sleep, tested, trained and cleared -/

/-- The counters of self-tests and trainings, with those of what is noticed by them. -/
def serviceCounter (k : Nat) : Bool :=
  noticeCounter k || [K.SELFTEST_RUNS, K.SELFTEST_FAILS, K.HBM_RETRAINS].contains k

/-- `t` is `s` after hardware has been put to sleep, tested, trained or cleared. -/
structure State.Serviced (s t : State) : Prop where
  frame : t = { s with od := t.od, clusters := t.clusters, cores := t.cores, side := t.side, mem := t.mem, hbm := t.hbm,
                       drawers := t.drawers, rings := t.rings, traces := t.traces, defence := t.defence }
  par_eq : ∀ k, serviceCounter k = false → t.par k = s.par k

namespace State.Serviced

theorem refl (s : State) : s.Serviced s := ⟨rfl, fun _ _ => rfl⟩

theorem trans {s t u : State} (hst : s.Serviced t) (htu : t.Serviced u) : s.Serviced u where
  frame := by rw [htu.frame, hst.frame]
  par_eq k hk := (htu.par_eq k hk).trans (hst.par_eq k hk)

theorem ite {s t u : State} {p : Prop} [Decidable p] (ht : s.Serviced t) (hu : s.Serviced u) :
    s.Serviced (if p then t else u) := by
  split <;> assumption

theorem foldl {α : Type} {f : State → α → State} (hf : ∀ (s : State) (a : α), s.Serviced (f s a)) (as : List α)
    (s : State) : s.Serviced (as.foldl f s) := by
  induction as generalizing s with
  | nil => exact refl s
  | cons a as ih => exact (hf s a).trans (ih (f s a))

theorem bump (s : State) {k n : Nat} (hk : serviceCounter k = true := by decide) : s.Serviced (s.bump k n) where
  frame := rfl
  par_eq i hi := by
    have hne : i ≠ k := fun h => by simp [h, hk] at hi
    rw [State.bump_par, if_neg hne]

theorem modCl (s : State) (c : Nat) (f : Cluster → Cluster) : s.Serviced (s.modCl c f) := ⟨rfl, fun _ _ => rfl⟩

theorem setCl (s : State) (c : Nat) (l : Cluster) : s.Serviced (s.setCl c l) := ⟨rfl, fun _ _ => rfl⟩

theorem modCo (s : State) (k : Nat) (f : Core → Core) : s.Serviced (s.modCo k f) := ⟨rfl, fun _ _ => rfl⟩

theorem setCo (s : State) (k : Nat) (o : Core) : s.Serviced (s.setCo k o) := ⟨rfl, fun _ _ => rfl⟩

theorem setStack (s : State) (h : Nat) (x : Stack) : s.Serviced (s.setStack h x) := ⟨rfl, fun _ _ => rfl⟩

theorem setDrawer (s : State) (x d : Nat) (w : Drawer) : s.Serviced (s.setDrawer x d w) := ⟨rfl, fun _ _ => rfl⟩

theorem setMem (s : State) (m : Memory) : s.Serviced { s with mem := m } := ⟨rfl, fun _ _ => rfl⟩

theorem health (s : State) (c : Charge) (n : Nat) : s.Serviced (s.health c n) := ⟨rfl, fun _ _ => rfl⟩

theorem event (s : State) (u code detail : Nat) : s.Serviced (s.event u code detail) where
  frame := by rw [s.event_frame u code detail]
  par_eq k hk := by
    rw [serviceCounter, Bool.or_eq_false_iff] at hk
    exact (State.Noticed.event s u code detail).par_eq k hk.1

/-! ### Sleep, self-tests and trainings (R372, R378, R440, R441, R564) -/

theorem modCos (s : State) (f : Core → Core) (ks : List Nat) : s.Serviced (ks.foldl (fun s k => s.modCo k f) s) :=
  foldl (fun s k => modCo s k f) ks s

theorem putToSleep (s : State) (c : Nat) : s.Serviced (s.putToSleep c) := by
  unfold State.putToSleep
  exact (modCos s _ _).trans (modCl _ _ _)

theorem testFailed (s : State) (c : Nat) (rcd : BitVec 128) : s.Serviced (s.testFailed c rcd) := by
  unfold State.testFailed
  extract_lets low r noted failed
  have hdefence (d : Defence) : s.Serviced { s with defence := d } := ⟨rfl, fun _ _ => rfl⟩
  have hfailed : s.Serviced failed := hdefence _
  have hevent := (hfailed.trans (bump _)).trans (event (failed.bump K.SELFTEST_FAILS 1) c 8 (bits low 63 16 <<< 8))
  exact hevent.trans (health _ _ _)

theorem runTests (s : State) (c en : Nat) (fails : List (BitVec 128)) : s.Serviced (s.runTests c en fails) := by
  unfold State.runTests
  extract_lets n emptied levelled
  have hemptied : s.Serviced emptied := (bump s).trans (modCos _ _ _)
  have hlevelled : emptied.Serviced levelled := ite (foldl (fun s k => modCo s k _) _ _) (refl _)
  exact (hemptied.trans hlevelled).trans (foldl (fun s r => testFailed s _ r) _ _)

theorem testDie (s : State) (b : BootIn) (d : Nat) : s.Serviced (s.testDie b d) :=
  foldl (fun s _ => (runTests s _ _ _).trans (modCl _ _ _)) _ s

theorem trainStack (s : State) (h n : Nat) : s.Serviced (s.trainStack h n) :=
  (bump s).trans (setStack _ _ _)

theorem trainStacks (s : State) (b : BootIn) (sites : List Nat) (cold : Bool) :
    s.Serviced (s.trainStacks b sites cold) :=
  foldl (fun s h => ite (refl s) ((ite (p := cold) (setStack s h _) (refl s)).trans (trainStack _ _ _))) _ s

/-! ### Clearing (R482) -/

theorem clearCore (s : State) (k : Nat) : s.Serviced (s.clearCore k) := setCo s k {}

theorem setSide (s : State) (x : Tbl (BitVec 24)) : s.Serviced { s with side := x } := ⟨rfl, fun _ _ => rfl⟩

theorem clearCluster (s : State) (c : Nat) : s.Serviced (s.clearCluster c) := by
  unfold State.clearCluster
  exact ((foldl (fun s n => clearCore s (8 * c + n)) _ s).trans (setCl _ _ _)).trans (setSide _ _)

theorem clearDie (s : State) (d : Nat) : s.Serviced (s.clearDie d) := by
  have hclusters := foldl (f := fun s c => s.clearCluster (8 * d + c)) (fun s c => clearCluster s (8 * d + c))
    (List.range 8) s
  exact ((hclusters.trans (setMem _ _)).trans (foldl (fun s x => setDrawer s x d {}) _ _)).trans
    (foldl (fun s h => ite (refl s) (setStack s h _)) _ _)

/-! ### What stands -/

variable {s t : State} (h : s.Serviced t)
include h

theorem now_eq : t.now = s.now := by rw [h.frame]
theorem part_eq : t.part = s.part := by rw [h.frame]
theorem power_eq : t.power = s.power := by rw [h.frame]
theorem service_eq : t.service = s.service := by rw [h.frame]
theorem cx_eq (x : Nat) : t.cx x = s.cx x := by rw [h.frame]; rfl

end State.Serviced

/-! ### A cluster that sleeps (R564) -/

section
variable (s : State) (c : Nat)

/-- A core whose array is at level 0. -/
def Core.lowest (o : Core) : Core := { o with level := 0, ramp := .steady }

/-- A cluster asleep. -/
def Cluster.sleeping (l : Cluster) : Cluster := { l with asleep := true, stretched := false }

theorem State.putToSleep_frame : let t := s.putToSleep c
    t = { s with clusters := t.clusters, cores := t.cores } := by
  obtain ⟨x, hx⟩ := State.foldl_modCo_cores Core.lowest (s.coresOf c) s
  rw [show s.putToSleep c = ((s.coresOf c).foldl (fun s k => s.modCo k Core.lowest) s).modCl c Cluster.sleeping from rfl,
    hx]
  rfl

theorem State.putToSleep_cl (i : Nat) : (s.putToSleep c).cl i = if i = c then (s.cl c).sleeping else s.cl i := by
  obtain ⟨x, hx⟩ := State.foldl_modCo_cores Core.lowest (s.coresOf c) s
  rw [show s.putToSleep c = ((s.coresOf c).foldl (fun s k => s.modCo k Core.lowest) s).modCl c Cluster.sleeping from rfl,
    hx, State.modCl_cl]
  rfl

theorem State.putToSleep_co (k : Nat) :
    (s.putToSleep c).co k = if k ∈ s.coresOf c then (s.co k).lowest else s.co k :=
  State.foldl_modCo_co Core.lowest (s.nodup_coresOf c) s k

end

/-! ### The stacks (R372, R567) -/

section
variable {s : State}

theorem State.setStack_stack (h : Nat) (x : Stack) (i : Nat) :
    (s.setStack h x).stack i = if i = h then x else s.stack i := by
  simp [State.stack, State.setStack, Tbl.get_put]

/-- A change made to the stacks of some sites. -/
theorem State.foldl_setStack_stack {f : Stack → Stack} (hf : ∀ x, f (f x) = f x) (hs : List Nat) (s : State) (i : Nat) :
    (hs.foldl (fun s h => s.setStack h (f (s.stack h))) s).stack i = if i ∈ hs then f (s.stack i) else s.stack i := by
  induction hs generalizing s with
  | nil => rfl
  | cons h hs ih =>
    rw [List.foldl_cons, ih, State.setStack_stack]
    by_cases hi : i = h
    · subst hi
      simp [hf]
    · simp [hi]

end

end Sys2Proof.Machine
end

section
/-!
PROOFS. Droop, sleep and the package's states (spec/19_power_and_clocks.md R559, R564, R567, R569, R572).
-/

namespace Sys2Proof.Machine
open Sys2Proof.Claims

/-! ### Droop and sleep (R559, R564) -/

section
variable {s : State} {c : Nat}

theorem State.droop_of_stretched (h : (s.cl c).stretched = true) : s.droop c = s := if_pos h

theorem State.droop_of_nominal (h : (s.cl c).stretched = false) :
    s.droop c = (s.draw.2.bump K.DROOP_STRETCH_CYCLES s.draw.1).modCl c (fun l => { l with stretched := true }) :=
  if_neg (Bool.eq_false_iff.1 h)

theorem State.droopEnd_of_stretched (h : (s.cl c).stretched = true) :
    s.droopEnd c = s.modCl c (fun l => { l with stretched := false }) := if_pos h

theorem State.droopEnd_of_nominal (h : (s.cl c).stretched = false) : s.droopEnd c = s := if_neg (Bool.eq_false_iff.1 h)

theorem State.sleep_of_awake (h : (s.cl c).running = true ∨ (s.cl c).asleep = true ∨ (s.cl c).testing = true ∨
    (s.cl c).testDue = true ∨ s.power.state ≠ .active) : s.sleep c = s := by
  unfold State.sleep
  exact if_pos (by simpa [or_assoc] using h)

theorem State.sleep_of_idle (hrun : (s.cl c).running = false) (hsleep : (s.cl c).asleep = false)
    (htest : (s.cl c).testing = false) (hdue : (s.cl c).testDue = false) (hactive : s.power.state = .active) :
    s.sleep c = (s.reach ((s.cl c).idleSince + 4000 * (s.cl c).delay.getD (s.par K.CLUSTER_SLEEP_DELAY))).putToSleep c := by
  unfold State.sleep
  exact if_neg (by simp [hrun, hsleep, htest, hdue, hactive])

end

/-! ### RETAIN and DEEP are entered (R567) -/

/-- Every cluster asleep. -/
def State.sleepAll (s : State) : State := (List.range 32).foldl (fun s c => s.putToSleep c) s

theorem State.sleepAll_frame (s : State) : let t := s.sleepAll
    t = { s with clusters := t.clusters, cores := t.cores } := by
  refine List.foldlRecOn (motive := fun t : State => t = { s with clusters := t.clusters, cores := t.cores }) _ _ rfl
    fun t ht c _ => ?_
  rw [t.putToSleep_frame c, ht]

theorem State.sleepAll_asleep (s : State) {c : Nat} (hc : c < 32) : (s.sleepAll.cl c).asleep = true := by
  obtain ⟨-, hcl⟩ := foldl_each (P := fun _ : State => True) (get := State.cl) (g := State.putToSleep)
    (f := fun _ l => l.sleeping) (List.nodup_range (n := 32)) (fun _ _ _ _ => trivial)
    (fun k _ t _ i => t.putToSleep_cl k i) (s := s) trivial
  rw [show s.sleepAll = (List.range 32).foldl State.putToSleep s from rfl, hcl, if_pos (List.mem_range.2 hc)]
  rfl

/-- A stack in service goes into self-refresh. -/
def Stack.refreshing (x : Stack) : Stack := if x.mode = .inService then { x with mode := .selfRefresh } else x

/-- The stacks of some sites, those in service of them, go into self-refresh. -/
def State.refreshStacks (s : State) (sites : List Nat) : State :=
  sites.foldl (fun s h =>
    if (s.stack h).mode = .inService then s.setStack h { s.stack h with mode := .selfRefresh } else s) s

theorem State.refreshStacks_frame (s : State) (sites : List Nat) : let t := s.refreshStacks sites
    t = { s with hbm := t.hbm } := by
  refine List.foldlRecOn (motive := fun t : State => t = { s with hbm := t.hbm }) _ _ rfl fun t ht h _ => ?_
  split
  · rw [State.setStack, ht]
  · exact ht

theorem Stack.refreshing_mode (x : Stack) : x.refreshing.mode ≠ .inService := by
  unfold Stack.refreshing
  split
  · simp
  · assumption

/-- One stack goes into self-refresh where it is in service. -/
def State.refreshStack (s : State) (h : Nat) : State :=
  if (s.stack h).mode = .inService then s.setStack h { s.stack h with mode := .selfRefresh } else s

theorem State.refreshStack_stack (s : State) (h i : Nat) :
    (s.refreshStack h).stack i = if i = h then (s.stack h).refreshing else s.stack i := by
  unfold State.refreshStack Stack.refreshing
  split
  · rw [State.setStack_stack]
  · split
    next hi => rw [hi]
    next => rfl

theorem State.refreshStacks_mode (s : State) {sites : List Nat} (hs : sites.Nodup) {h : Nat} (hh : h ∈ sites) :
    ((s.refreshStacks sites).stack h).mode ≠ .inService := by
  obtain ⟨-, hstack⟩ := foldl_each (P := fun _ : State => True) (get := State.stack) (g := State.refreshStack)
    (f := fun _ x => x.refreshing) hs (fun _ _ _ _ => trivial) (fun k _ t _ i => t.refreshStack_stack k i) (s := s)
    trivial
  rw [show s.refreshStacks sites = sites.foldl State.refreshStack s from rfl, hstack, if_pos hh]
  exact Stack.refreshing_mode _

theorem Part.hbmSites_nodup (p : Part) : p.hbmSites.Nodup := by
  unfold Part.hbmSites
  split_ifs <;> decide

theorem State.enterPower_of_refused {s : State} (h : s.powerRefused = true) (g : PkgState) : s.enterPower g = s := if_pos h

/-- The clusters asleep and the stacks in self-refresh: what a package state other than ACTIVE begins with. -/
def State.rested (s : State) : State := s.sleepAll.refreshStacks s.sleepAll.part.hbmSites

theorem State.rested_frame (s : State) : let t := s.rested
    t = { s with clusters := t.clusters, cores := t.cores, hbm := t.hbm } := by
  dsimp only
  rw [State.rested, State.refreshStacks_frame, s.sleepAll_frame]

theorem State.rested_asleep (s : State) {c : Nat} (hc : c < 32) : (s.rested.cl c).asleep = true := by
  rw [State.rested, State.refreshStacks_frame]
  exact s.sleepAll_asleep hc

theorem State.rested_mode (s : State) {h : Nat} (hh : h ∈ s.part.hbmSites) :
    (s.rested.stack h).mode ≠ .inService := by
  refine State.refreshStacks_mode _ (Part.hbmSites_nodup _) ?_
  rw [s.sleepAll_frame]
  exact hh

theorem State.enterPower_of_allowed {s : State} (h : s.powerRefused = false) (g : PkgState) :
    s.enterPower g = s.rested.modPower
      (fun p => { p with target := some g, began := s.rested.now, wake := false }) :=
  if_neg (Bool.eq_false_iff.1 h)

/-! ### ACTIVE is written (R572) -/

section
variable {s : State} {g : PkgState}

theorem State.wakePower_of_waking (h : s.power.target = some .active) : s.wakePower = s := by
  unfold State.wakePower
  dsimp only
  rw [h]

theorem State.wakePower_of_entering (h : s.power.target = some g) (hg : g ≠ .active) :
    s.wakePower = s.modPower (fun p => { p with wake := true }) := by
  unfold State.wakePower
  dsimp only
  rw [h]
  cases g
  · exact absurd rfl hg
  · rfl
  · rfl

theorem State.wakePower_of_active (h : s.power.target = none) (hactive : s.power.state = .active) : s.wakePower = s := by
  unfold State.wakePower
  dsimp only
  rw [h]
  exact if_pos hactive

theorem State.wakePower_of_low (h : s.power.target = none) (hlow : s.power.state ≠ .active) :
    s.wakePower = s.modPower (fun p => { p with target := some .active, began := s.now }) := by
  unfold State.wakePower
  dsimp only
  rw [h]
  exact if_neg hlow

end

/-! ### The end of a transition (R569, R572) -/

/-- The hardware as the end of a transition leaves it. -/
def State.goneOver (s : State) (b : BootIn) : PkgState → State
  | .deep => s.loseDies
  | .retain => s
  | .active =>
    let u := s.refreshEnd b (s.power.state = PkgState.deep)
    if s.power.state = PkgState.deep then
      (List.range 32).foldl (fun s c => s.putToSleep c) ((List.range 4).foldl (fun s d => s.testDie b d) u)
    else u

/-- The target state is entered, and its transition counted and timed. -/
def State.stateEntered (s : State) (g : PkgState) : State :=
  (s.bump K.POWER_STATE_CHANGES 1).modPower (fun p => { p with state := g, target := none, lasted := s.now - p.began })

/-- A wake that waited for the end of an entry begins. -/
def State.rewake (s : State) : State :=
  if s.power.wake then (s.modPower (fun p => { p with wake := false })).wakePower else s

theorem State.powerEnd_of_none {s : State} (h : s.power.target = none) (b : BootIn) : s.powerEnd b = s := by
  unfold State.powerEnd
  rw [h]

theorem State.powerEnd_of_target {s : State} {g : PkgState} (h : s.power.target = some g) (b : BootIn) :
    s.powerEnd b =
      ((State.goneOver { s with now := s.now + 4000 * b.took.toNat } b g).stateEntered g).rewake := by
  unfold State.powerEnd
  rw [h]
  rfl

/-- The entries that the loss of the compute dies clears: those of keys and contexts (R568). -/
def lostInDeep (k : Nat) : Bool := decide (0x3412 ≤ k / 256) && decide (k / 256 ≤ 0x3418)

/-- Keys and those entries are lost. -/
def State.loseEntries (s : State) : State := { s with keys := [], od := s.od.filter (fun e => !lostInDeep e.1) }

theorem State.loseEntries_par (s : State) {k : Nat} (hk : lostInDeep k = false) : s.loseEntries.par k = s.par k := by
  show Tbl.get (s.od.filter fun e => !lostInDeep e.1) (s.odDflt k) k = _
  rw [Tbl.get_filter s.od _ k fun k => !lostInDeep k, if_pos (by rw [hk]; rfl)]
  rfl

theorem State.loseDies_eq (s : State) : ∃ u, s.Serviced u ∧ s.loseDies = u.loseEntries := by
  refine ⟨_, ?_, rfl⟩
  refine .trans (.trans (.foldl (fun s d => .clearDie s d) _ _) (.foldl (fun s h => ?_) _ _))
    (.foldl (fun s c => .putToSleep s c) _ _)
  exact .ite (.setStack s h _) (.refl s)

/-- What the hardware does at the end of a transition, of keys and entries apart. -/
theorem State.goneOver_kept (s : State) (b : BootIn) (g : PkgState) : let t := s.goneOver b g
    t.pending = s.pending ∧ t.part = s.part ∧ t.now = s.now ∧ t.power = s.power ∧
      t.par K.POWER_STATE_CHANGES = s.par K.POWER_STATE_CHANGES := by
  have hserviced {t : State} (h : s.Serviced t) : t.pending = s.pending ∧ t.part = s.part ∧ t.now = s.now ∧
      t.power = s.power ∧ t.par K.POWER_STATE_CHANGES = s.par K.POWER_STATE_CHANGES :=
    ⟨by rw [h.frame], h.part_eq, h.now_eq, h.power_eq, h.par_eq _ (by decide)⟩
  cases g with
  | retain => exact hserviced (.refl s)
  | active =>
    have hrefreshed : s.Serviced (s.refreshEnd b (s.power.state = PkgState.deep)) := by
      unfold State.refreshEnd
      exact .ite (.trainStacks _ _ _ _) (.foldl (fun s h => .setStack s h _) _ _)
    exact hserviced (.ite ((hrefreshed.trans (.foldl (fun s d => .testDie s b d) _ _)).trans
      (.foldl (fun s c => .putToSleep s c) _ _)) hrefreshed)
  | deep =>
    obtain ⟨u, hu, hdies⟩ := s.loseDies_eq
    obtain ⟨hpending, hpart, hnow, hpower, hcount⟩ := hserviced hu
    rw [State.goneOver, hdies]
    have hcleared := u.loseEntries_par (k := K.POWER_STATE_CHANGES) (by decide)
    exact ⟨hpending, hpart, hnow, hpower, hcleared.trans hcount⟩

theorem State.goneOver_keys (s : State) (b : BootIn) : (s.goneOver b .deep).keys = [] := rfl

theorem State.goneOver_stack {s : State} (hretain : s.power.state = .retain) (b : BootIn) {h : Nat}
    (hh : h ∈ s.part.hbmSites) (hmode : (s.stack h).mode = .selfRefresh) :
    ((s.goneOver b .active).stack h).mode = .inService := by
  have hdeep : ¬ s.power.state = PkgState.deep := by simp [hretain]
  have hgone : s.goneOver b .active = (s.part.hbmSites.filter (fun h => (s.stack h).mode = .selfRefresh)).foldl
      (fun s h => s.setStack h { s.stack h with mode := .inService }) s := by
    simp [State.goneOver, State.refreshEnd, hdeep]
  rw [hgone, State.foldl_setStack_stack (f := fun x => { x with mode := .inService }) (fun _ => rfl),
    if_pos (List.mem_filter.2 ⟨hh, by simpa using hmode⟩)]

/-! ### A wake that waited (R572) -/

section
variable {s : State}

theorem State.rewake_frame : s.rewake = { s with power := s.rewake.power } := by
  unfold State.rewake State.wakePower
  dsimp only
  split
  · split
    · rfl
    · rfl
    · split <;> rfl
  · rfl

theorem State.rewake_power (h : s.power.target = none) : let p := s.rewake.power
    p.state = s.power.state ∧ p.lasted = s.power.lasted ∧ p.wake = false ∧
      p.target = if s.power.wake = true ∧ s.power.state ≠ .active then some .active else none := by
  have hquiet : (s.modPower fun p => { p with wake := false }).power.target = none := h
  unfold State.rewake
  by_cases hwake : s.power.wake = true
  · rw [if_pos hwake]
    by_cases hactive : s.power.state = .active
    · rw [State.wakePower_of_active hquiet hactive, if_neg (by simp [hactive])]
      exact ⟨rfl, rfl, rfl, h⟩
    · rw [State.wakePower_of_low hquiet hactive, if_pos ⟨hwake, hactive⟩]
      exact ⟨rfl, rfl, rfl, rfl⟩
  · rw [if_neg hwake, if_neg (by simp [hwake])]
    exact ⟨rfl, rfl, by simpa using hwake, h⟩

end

/-! ### The state at the end (R569, R572) -/

section
variable {s : State} {g : PkgState} (h : s.power.target = some g) (b : BootIn)

/-- The hardware when a transition ends, at the time of the end. -/
def State.wentOver (s : State) (b : BootIn) (g : PkgState) : State :=
  State.goneOver { s with now := s.now + 4000 * b.took.toNat } b g

include h

theorem State.powerEnd_frame :
    s.powerEnd b = { s.wentOver b g with od := (s.powerEnd b).od, power := (s.powerEnd b).power } := by
  rw [State.powerEnd_of_target h b, State.rewake_frame]
  rfl

theorem State.powerEnd_pending : (s.powerEnd b).pending = s.pending := by
  rw [State.powerEnd_frame h b]
  exact (State.goneOver_kept _ b g).1

theorem State.powerEnd_part : (s.powerEnd b).part = s.part := by
  rw [State.powerEnd_frame h b]
  exact (State.goneOver_kept _ b g).2.1

theorem State.powerEnd_now : (s.powerEnd b).now = s.now + 4000 * b.took.toNat := by
  rw [State.powerEnd_frame h b]
  exact (State.goneOver_kept _ b g).2.2.1

theorem State.powerEnd_counted : counted s (s.powerEnd b) K.POWER_STATE_CHANGES 1 := by
  obtain ⟨-, -, -, -, hcount⟩ := State.goneOver_kept { s with now := s.now + 4000 * b.took.toNat } b g
  have hentered : ((s.wentOver b g).stateEntered g).par K.POWER_STATE_CHANGES = (s.par K.POWER_STATE_CHANGES + 1) % 2 ^ 64 :=
    (State.bump_par_same (s.wentOver b g) _ 1).trans (by rw [State.wentOver, hcount]; rfl)
  rw [counted, State.powerEnd_of_target h b, State.rewake_frame]
  exact hentered

theorem State.powerEnd_power : let p := (s.powerEnd b).power
    p.state = g ∧ p.lasted = (s.powerEnd b).now - s.power.began ∧ p.wake = false ∧
      p.target = if s.power.wake = true ∧ g ≠ .active then some .active else none := by
  obtain ⟨-, -, hnow, hpower, -⟩ := State.goneOver_kept { s with now := s.now + 4000 * b.took.toNat } b g
  obtain ⟨hstate, hlasted, hwake, htarget⟩ := State.rewake_power (s := (s.wentOver b g).stateEntered g) rfl
  have hbegan : (s.wentOver b g).power = s.power := hpower
  rw [State.powerEnd_now h b, State.powerEnd_of_target h b]
  refine ⟨hstate, hlasted.trans ?_, hwake, htarget.trans ?_⟩
  · show (s.wentOver b g).now - (s.wentOver b g).power.began = _
    rw [hbegan, State.wentOver, hnow]
  · show (if (s.wentOver b g).power.wake = true ∧ g ≠ .active then some PkgState.active else none) = _
    rw [hbegan]

end

/-! ### The commands -/

section
variable {s : State} (hlive : s.live = true)
include hlive

theorem exec_droopDetect_of_live (cl : Fin 32) : exec (.droopDetect cl) s = s.ends (s.droop cl) :=
  congrArg s.ends (State.whenLive_of_live hlive _)

theorem exec_droopRecovery_of_live (cl : Fin 32) : exec (.droopRecovery cl) s = s.ends (s.droopEnd cl) :=
  congrArg s.ends (State.whenLive_of_live hlive _)

theorem exec_clusterSleep_of_live (cl : Fin 32) : exec (.clusterSleep cl) s = s.ends (s.sleep cl) :=
  congrArg s.ends (State.whenLive_of_live hlive _)

theorem exec_powerStateActive_of_live : exec .powerStateActive s = s.ends s.wakePower :=
  congrArg s.ends (State.whenLive_of_live hlive _)

theorem exec_powerTransitionEnd_of_live (b : BootIn) : exec (.powerTransitionEnd b) s = s.ends (s.powerEnd b) :=
  congrArg s.ends (State.whenLive_of_live hlive _)

end

/-- A row of R567 that the part allows. -/
theorem exec_powerState_of_allowed {s : State} (h : s.powerRefused = false) {r : Instr × PkgState}
    (hr : r ∈ [(Instr.powerStateRetain, PkgState.retain), (.powerStateDeep, .deep)]) :
    exec r.1 s = .next (s.rested.modPower
      (fun p => { p with target := some r.2, began := s.rested.now, wake := false })) := by
  have hend (g : PkgState) : s.ends (s.enterPower g) = .next (s.rested.modPower
      (fun p => { p with target := some g, began := s.rested.now, wake := false })) := by
    rw [State.enterPower_of_allowed h g]
    apply State.ends_eq_next <;> rw [s.rested_frame] <;> rfl
  simp only [List.mem_cons, List.not_mem_nil, or_false] at hr
  obtain rfl | rfl := hr
  · exact hend .retain
  · exact hend .deep

/-- Settles O53, row by row. -/
theorem clustersSleepAndPackageStatesChange : Obligations.ClustersSleepAndPackageStatesChange := by
  refine ⟨?clusters, fun s => ⟨fun hrefused => ⟨?retain, ?deep⟩, fun hallowed r hr => ?enters, fun hlive =>
      ⟨fun hwaking => ?waking, fun g hg hne => ?waits, fun hnone hactive => ?active, fun hnone hlow => ?wakes⟩⟩,
    fun b s hlive => ⟨fun hnone => ?noEnd, fun g hg => ?ends⟩⟩
  case clusters =>
    intro cl s hlive l
    have hdetect := exec_droopDetect_of_live hlive cl
    have hrecover := exec_droopRecovery_of_live hlive cl
    have hsleep := exec_clusterSleep_of_live hlive cl
    refine ⟨fun hon => ⟨exec_next_of_eq hdetect (State.droop_of_stretched hon) rfl rfl, _,
        exec_next_of_eq hrecover (State.droopEnd_of_stretched hon) rfl rfl, State.modCl_cl_same _ _ _, fun c hc => ?_, rfl⟩,
      fun hoff => ⟨exec_next_of_eq hrecover (State.droopEnd_of_nominal hoff) rfl rfl, _,
        exec_next_of_eq hdetect (State.droop_of_nominal hoff) rfl rfl, State.modCl_cl_same _ _ _, fun c hc => ?_,
        fun k hk => ?_, rfl⟩,
      fun hawake => exec_next_of_eq hsleep (State.sleep_of_awake hawake) rfl rfl, fun hrun hasleep htest hdue hactive => ?_⟩
    · rw [State.modCl_cl, if_neg hc]
    · rw [State.modCl_cl, if_neg hc]
      rfl
    · rw [State.modCl_par, State.bump_par, if_neg hk]
      rfl
    · have hslept := State.sleep_of_idle hrun hasleep htest hdue hactive
      generalize (s.cl cl).idleSince + 4000 * (s.cl cl).delay.getD (s.par K.CLUSTER_SLEEP_DELAY) = due at hslept
      have hframe := (s.reach due).putToSleep_frame cl
      refine ⟨_, exec_next_of_eq hsleep hslept (by rw [hframe]; rfl) (by rw [hframe]; rfl), by rw [hframe]; rfl, ?_,
        fun c hc => ?_, fun k hk => ?_, fun k hk => ?_, by rw [hframe]; rfl⟩
      · rw [State.putToSleep_cl, if_pos rfl]
        rfl
      · rw [State.putToSleep_cl, if_neg hc]
        rfl
      · rw [State.putToSleep_co, if_pos (show k ∈ (s.reach due).coresOf cl from hk)]
        rfl
      · rw [State.putToSleep_co, if_neg (show k ∉ (s.reach due).coresOf cl from hk)]
        rfl
  case retain => exact exec_next_of_eq (i := .powerStateRetain) rfl (State.enterPower_of_refused hrefused _) rfl rfl
  case deep => exact exec_next_of_eq (i := .powerStateDeep) rfl (State.enterPower_of_refused hrefused _) rfl rfl
  case enters =>
    have hframe := s.rested_frame
    refine ⟨_, exec_powerState_of_allowed hallowed hr, ?_, fun c hc => s.rested_asleep hc, fun h hh => s.rested_mode hh,
      ?_, ?_, ?_⟩
    all_goals
      rw [hframe]
      rfl
  case waking =>
    exact exec_next_of_eq (exec_powerStateActive_of_live hlive) (State.wakePower_of_waking hwaking) rfl rfl
  case waits =>
    exact exec_next_of_eq (exec_powerStateActive_of_live hlive) (State.wakePower_of_entering hg hne) rfl rfl
  case active =>
    exact exec_next_of_eq (exec_powerStateActive_of_live hlive) (State.wakePower_of_active hnone hactive) rfl rfl
  case wakes =>
    exact exec_next_of_eq (exec_powerStateActive_of_live hlive) (State.wakePower_of_low hnone hlow) rfl rfl
  case noEnd =>
    exact exec_next_of_eq (exec_powerTransitionEnd_of_live hlive b) (State.powerEnd_of_none hnone b) rfl rfl
  case ends =>
    obtain ⟨hstate, hlasted, hwake, htarget⟩ := State.powerEnd_power hg b
    have hframe := State.powerEnd_frame hg b
    refine ⟨_, exec_next_of_eq (exec_powerTransitionEnd_of_live hlive b) rfl (State.powerEnd_pending hg b)
      (State.powerEnd_part hg b), hstate, State.powerEnd_now hg b, hlasted, hwake, State.powerEnd_counted hg b, htarget,
      ?_, ?_, ?_⟩
    · rintro rfl
      rw [hframe]
      exact State.goneOver_keys { s with now := s.now + 4000 * b.took.toNat } b
    · rintro rfl
      rw [hframe]
      exact ⟨rfl, rfl, rfl⟩
    · rintro rfl hretain h hh hmode
      rw [hframe]
      exact State.goneOver_stack (s := { s with now := s.now + 4000 * b.took.toNat }) hretain b hh hmode

end Sys2Proof.Machine
end

section
/-!
PROOFS. Replies of the management channel, and the end of a commit (spec/18_object_dictionary.md R532, R547 to R549,
spec/20_boot_security_board.md R588).
-/

namespace Sys2Proof.Machine
open Sys2Proof.Claims

/-! ### A reply that leaves (R532) -/

/-- `t` is `s` after a reply has left, or has been dropped and counted. -/
structure State.Replied (s t : State) : Prop where
  frame : t = { s with od := t.od, links := { s.links with ports := t.links.ports, reqs := t.links.reqs } }
  par_eq : ∀ k, k ≠ K.MGMT_SEND_DROPS → t.par k = s.par k

theorem State.sendReply_replied (s : State) (p : Nat) (m : Msg) : s.Replied (s.sendReply p m) := by
  unfold State.sendReply
  split
  · refine ⟨?_, fun k _ => ?_⟩ <;> rw [s.toPort_frame p m]
    rfl
  · exact ⟨rfl, fun k hk => by rw [State.bump_par, if_neg hk]⟩

/-! ### The NV area (R547, R548, R588) -/

section
variable (s : State) (k : Nat) (v : List Nat)

theorem State.storeNv_frame : let t := s.storeNv k v
    t = { s with boot := t.boot, service := { s.service with mgmt := t.service.mgmt } } := rfl

theorem State.storeNv_mgmt : (s.storeNv k v).service.mgmt = { s.service.mgmt with
    nv := Tbl.put s.service.mgmt.nv [] k v
    nvSeq := (s.service.mgmt.nvSeq + 1) % 2 ^ 32
    nvCopy := (s.service.mgmt.nvCopy + 1) % 2 } := rfl

end

/-! ### The end of a commit -/

/-- The first commit is no longer in progress, and is counted. -/
def State.uncommitted (s : State) (l : List Commit) : State :=
  (s.modMgmt (fun m => { m with commits := l })).bump K.NV_COMMITS 1

/-- Its value is stored, or its failure is marked. -/
def State.settled (s : State) (ok : Bool) (c : Commit) : State :=
  if ok then s.storeNv c.key c.value else s.modMgmt (fun m => { m with nvFailed := true })

/-- The request that asked for the commit is answered (R547, R548). -/
def State.answerCommit (s : State) (ok : Bool) (c : Commit) : State :=
  match c.reply with
  | none => s
  | some (p, m) =>
    if ok then s.sendReply p m
    else (s.bump K.MGMT_ERROR_REPLIES 1).sendReply p
      (m.set 1 (BitVec.ofNat 128 (setBits (setBits (Msg.slot m 1) 119 112 0xA) 63 32 0)))

theorem State.answerCommit_frame (s : State) (ok : Bool) (c : Commit) : let t := s.answerCommit ok c
    t = { s with od := t.od, links := t.links } := by
  unfold State.answerCommit
  dsimp only
  split
  · rfl
  · split
    · rw [(s.sendReply_replied _ _).frame]
    · rw [(State.sendReply_replied _ _ _).frame]
      rfl

theorem State.answerCommit_par (s : State) (ok : Bool) (c : Commit) {k : Nat} (hsend : k ≠ K.MGMT_SEND_DROPS)
    (herror : k ≠ K.MGMT_ERROR_REPLIES) : (s.answerCommit ok c).par k = s.par k := by
  unfold State.answerCommit
  split
  · rfl
  · split
    · exact (s.sendReply_replied _ _).par_eq k hsend
    · rw [(State.sendReply_replied _ _ _).par_eq k hsend, State.bump_par, if_neg herror]

section
variable {s : State} {c : Commit} {l : List Commit}

theorem State.commitEnd_of_none (h : s.service.mgmt.commits = []) (ok : Bool) : s.commitEnd ok = s := by
  unfold State.commitEnd
  rw [h]

theorem State.commitEnd_of_cons (h : s.service.mgmt.commits = c :: l) (ok : Bool) :
    s.commitEnd ok = ((s.uncommitted l).settled ok c).answerCommit ok c := by
  unfold State.commitEnd
  rw [h]
  rfl

theorem State.settled_frame (s : State) (ok : Bool) (c : Commit) : let t := s.settled ok c
    t = { s with boot := t.boot, service := { s.service with mgmt := t.service.mgmt } } := by
  cases ok <;> rfl

theorem State.settled_par (s : State) (ok : Bool) (c : Commit) (k : Nat) : (s.settled ok c).par k = s.par k := by
  cases ok <;> rfl

theorem State.commitEnd_frame (h : s.service.mgmt.commits = c :: l) (ok : Bool) : let t := s.commitEnd ok
    t = { s with od := t.od, links := t.links, boot := t.boot,
                 service := { s.service with mgmt := t.service.mgmt } } := by
  dsimp only
  rw [State.commitEnd_of_cons h, State.answerCommit_frame, State.settled_frame]
  rfl

theorem State.commitEnd_par (h : s.service.mgmt.commits = c :: l) (ok : Bool) {k : Nat} (hsend : k ≠ K.MGMT_SEND_DROPS)
    (herror : k ≠ K.MGMT_ERROR_REPLIES) : (s.commitEnd ok).par k = (s.uncommitted l).par k := by
  rw [State.commitEnd_of_cons h, State.answerCommit_par _ _ _ hsend herror, State.settled_par]

theorem State.commitEnd_mgmt (h : s.service.mgmt.commits = c :: l) (ok : Bool) :
    (s.commitEnd ok).service.mgmt = ((s.uncommitted l).settled ok c).service.mgmt := by
  rw [State.commitEnd_of_cons h, State.answerCommit_frame]

theorem State.commitEnd_boot_of_failure (h : s.service.mgmt.commits = c :: l) : (s.commitEnd false).boot = s.boot := by
  rw [State.commitEnd_of_cons h, State.answerCommit_frame]
  rfl

end

/-- Settles O51: the value that the first commit stores goes into the NV area alone. -/
theorem nonVolatileValuesAreCommitted : Obligations.NonVolatileValuesAreCommitted := by
  refine ⟨fun ok s => ⟨fun h => ?none, fun c l hanswer h => ?commit⟩, fun s => ⟨fun hlive hup => ?set, fun h => ?kept⟩⟩
  case none =>
    refine exec_next_of_eq (i := .nvCommitEnd ok) rfl ?_ rfl rfl
    split
    next hanswer => exact State.commitEnd_of_none (h.resolve_left (by simp [hanswer])) ok
    next => rfl
  case commit =>
    have hmgmt := State.commitEnd_mgmt h ok
    have hframe := State.commitEnd_frame h ok
    refine ⟨_, exec_next_of_eq (i := .nvCommitEnd ok) rfl (if_pos hanswer) (by rw [hframe]) (by rw [hframe]), ?_, ?_,
      ?_, ?_, ?_, hframe⟩
    · rw [hmgmt]
      cases ok <;> rfl
    · rw [counted, State.commitEnd_par h ok (by decide) (by decide)]
      exact State.bump_par_same _ _ _
    · rintro rfl
      rw [hmgmt]
      exact ⟨Tbl.get_put_same _ _ _ _, fun k hk => Tbl.get_put_ne _ _ _ hk, rfl, rfl, rfl⟩
    · rintro rfl
      rw [hmgmt]
      exact ⟨rfl, rfl, rfl, State.commitEnd_boot_of_failure h, rfl⟩
    · intro k hcommits herror hsend
      rw [State.commitEnd_par h ok hsend herror]
      exact (State.bump_par _ _ _ _).trans (if_neg hcommits)
  case set =>
    have hon : (s.live && s.service.mgmt.coreUp) = true := by simp [hlive, hup]
    exact ⟨exec_next_of_eq (i := .nvRestoreDefaults) rfl (if_pos hon) rfl rfl,
      exec_next_of_eq (i := .nvRestoreCancel) rfl (if_pos hon) rfl rfl⟩
  case kept =>
    have hoff : ¬ (s.live && s.service.mgmt.coreUp) = true := by
      rcases h with h | h <;> simp [h]
    exact ⟨exec_next_of_eq (i := .nvRestoreDefaults) rfl (if_neg hoff) rfl rfl,
      exec_next_of_eq (i := .nvRestoreCancel) rfl (if_neg hoff) rfl rfl⟩

end Sys2Proof.Machine
end

section
/-!
PROOFS. Quotes, the SMBus and the TAP (spec/20_boot_security_board.md R590 to R592, R595, R596).
-/

namespace Sys2Proof.Machine
open Sys2Proof.Claims

/-! ### Fields of a word, and the bytes of a number (R8) -/

theorem shiftLeft_add_lt {x r lo w n : Nat} (hx : x < 2 ^ w) (hr : r < 2 ^ lo) (hn : w + lo = n) :
    x <<< lo + r < 2 ^ n := by
  rw [Nat.shiftLeft_eq, ← hn, Nat.pow_add]
  calc x * 2 ^ lo + r < x * 2 ^ lo + 2 ^ lo := Nat.add_lt_add_left hr _
    _ = (x + 1) * 2 ^ lo := by rw [Nat.add_mul, Nat.one_mul]
    _ ≤ 2 ^ w * 2 ^ lo := Nat.mul_le_mul_right _ hx

/-- A field that stands above others is read back. -/
theorem bits_shiftLeft_add {x r lo hi : Nat} (hx : x < 2 ^ (hi + 1 - lo)) (hr : r < 2 ^ lo) :
    bits (x <<< lo + r) hi lo = x := by
  rw [bits, Nat.shiftRight_eq_div_pow, Nat.shiftLeft_eq, Nat.mul_comm, Nat.mul_add_div (Nat.two_pow_pos lo),
    Nat.div_eq_of_lt hr, Nat.add_zero, Nat.mod_eq_of_lt hx]

/-- What stands above a field does not show in it. -/
theorem bits_add_shiftLeft {y r lo hi n : Nat} (hlo : lo ≤ hi + 1) (hn : hi + 1 ≤ n) :
    bits (y <<< n + r) hi lo = bits r hi lo := by
  obtain ⟨k, rfl⟩ := Nat.exists_eq_add_of_le hn
  have hsplit : y <<< (hi + 1 + k) = 2 ^ lo * (2 ^ (hi + 1 - lo) * (y * 2 ^ k)) := by
    rw [Nat.shiftLeft_eq, ← Nat.mul_assoc, ← Nat.pow_add, Nat.add_sub_cancel' hlo, Nat.pow_add]
    ring
  rw [bits, bits, Nat.shiftRight_eq_div_pow, Nat.shiftRight_eq_div_pow, hsplit, Nat.mul_add_div (Nat.two_pow_pos lo),
    Nat.mul_add_mod]

theorem ofBytes_toBytes (n v : Nat) : ofBytes (toBytes n v) = v % 256 ^ n := by
  induction n generalizing v with
  | zero => simp [toBytes, ofBytes, Nat.mod_one]
  | succ n ih =>
    rw [toBytes, ofBytes, ih, Nat.pow_succ', Nat.mod_mul, Nat.mod_mod]

theorem ofBytes_lt (l : List Nat) : ofBytes l < 256 ^ l.length := by
  induction l with
  | nil => decide
  | cons b l ih =>
    rw [ofBytes, List.length_cons, Nat.pow_succ']
    have hb : b % 256 < 256 := Nat.mod_lt _ (by decide)
    omega

/-! ### The quote (R592) -/

/-- The fields of a quote below its leaf. -/
def quoteTail (fuse grade step cause score : Nat) : Nat :=
  fuse <<< 272 + (grade <<< 256 + (step <<< 240 + (cause <<< 232 + score <<< 216)))

theorem quoteTail_lt {fuse grade step cause score : Nat} (hfuse : fuse < 2 ^ 16) (hgrade : grade < 2 ^ 16)
    (hstep : step < 2 ^ 16) (hcause : cause < 2 ^ 8) (hscore : score < 2 ^ 16) :
    quoteTail fuse grade step cause score < 2 ^ 288 := by
  have hlow : score <<< 216 < 2 ^ 232 :=
    shiftLeft_add_lt (lo := 216) (r := 0) hscore (Nat.two_pow_pos 216) rfl
  have hcaused := shiftLeft_add_lt (n := 240) hcause hlow rfl
  have hstepped := shiftLeft_add_lt (n := 256) hstep hcaused rfl
  have hgraded := shiftLeft_add_lt (n := 272) hgrade hstepped rfl
  exact shiftLeft_add_lt hfuse hgraded rfl

theorem stepping_lt : stepping < 2 ^ 16 := by
  have hmod : (Config.partWord 2).toNat % 0xFF00 < 0xFF00 := Nat.mod_lt _ (by decide)
  unfold stepping
  omega

theorem serial_lt : ofBytes serialBytes < 2 ^ 128 := by
  refine (ofBytes_lt _).trans_eq ?_
  rw [serialBytes, List.length_map, List.length_range]
  norm_num

/-- The fields of a quote in the order of their places. -/
def State.quoteWord (s : State) (nonce : Nat) : Nat :=
  nonce <<< 768 + (s.boot.fwHash <<< 512 + (ofBytes serialBytes <<< 384 + ((s.now % 2 ^ 64) <<< 320
    + (s.boot.attest.leaf <<< 288 + quoteTail s.boot.attest.fuse s.part.grade stepping s.power.cause
      s.defence.score))))

theorem sum_unnested (a b c d e f g h i j : Nat) :
    a + (b + (c + (d + (e + (f + (g + (h + (i + j)))))))) = a + b + c + d + e + f + g + h + i + j := by
  omega

theorem State.quoteWord_eq (s : State) (nonce : Nat) : s.quoteWord nonce =
    nonce <<< 768 + s.boot.fwHash <<< 512 + ofBytes serialBytes <<< 384 + (s.now % 2 ^ 64) <<< 320
      + s.boot.attest.leaf <<< 288 + s.boot.attest.fuse <<< 272 + s.part.grade <<< 256 + stepping <<< 240
      + s.power.cause <<< 232 + s.defence.score <<< 216 := by
  unfold State.quoteWord quoteTail
  exact sum_unnested _ _ _ _ _ _ _ _ _ _

/-- The signature of a quote's first 128 bytes. -/
def State.quoteSig (s : State) (nonce : Nat) : List Nat :=
  (Config.xmssSign s.boot.attest.fuse s.boot.attest.leaf (asBytes (toBytes 128 (s.quoteWord nonce)))).map (·.toNat)

theorem State.quote_eq (s : State) (nonce : Nat) :
    s.quote nonce = toBytes 128 (s.quoteWord nonce) ++ fitBytes 2820 (s.quoteSig nonce) := by
  rw [State.quoteSig, State.quoteWord_eq, State.quote]

theorem pow_bytes : 256 ^ 128 = 2 ^ 1024 := (Nat.pow_mul 2 8 128).symm

theorem State.quote_word (s : State) (nonce : Nat) :
    ofBytes ((s.quote nonce).take 128) = s.quoteWord nonce % 2 ^ 1024 := by
  rw [State.quote_eq, List.take_left' (toBytes_length 128 _), ofBytes_toBytes, pow_bytes]

theorem State.quote_length (s : State) (nonce : Nat) : (s.quote nonce).length = 2948 := by
  rw [State.quote_eq, List.length_append, toBytes_length, fitBytes, List.length_append, List.length_take, List.length_replicate]
  omega

/-- The nonce and the leaf stand in the quote. -/
theorem State.quote_fields (s : State) (nonce : BitVec 256) (hhash : s.boot.fwHash < 2 ^ 256)
    (hleaf : s.boot.attest.leaf < 2 ^ 32) (hfuse : s.boot.attest.fuse < 2 ^ 16) (hgrade : s.part.grade < 2 ^ 16)
    (hcause : s.power.cause < 2 ^ 8) (hscore : s.defence.score < 2 ^ 16) :
    bits (ofBytes ((s.quote nonce.toNat).take 128)) 1023 768 = nonce.toNat ∧
      bits (ofBytes ((s.quote nonce.toNat).take 128)) 319 288 = s.boot.attest.leaf := by
  have htail := quoteTail_lt hfuse hgrade stepping_lt hcause hscore
  have hnow : s.now % 2 ^ 64 < 2 ^ 64 := Nat.mod_lt _ (Nat.two_pow_pos 64)
  have hleafed := shiftLeft_add_lt (n := 320) hleaf htail rfl
  have htimed := shiftLeft_add_lt (n := 384) hnow hleafed rfl
  have hserial := shiftLeft_add_lt (n := 512) serial_lt htimed rfl
  have hhashed := shiftLeft_add_lt (n := 768) hhash hserial rfl
  have hword : s.quoteWord nonce.toNat < 2 ^ 1024 := by
    unfold State.quoteWord
    exact shiftLeft_add_lt nonce.isLt hhashed rfl
  rw [State.quote_word, Nat.mod_eq_of_lt hword]
  unfold State.quoteWord
  constructor
  · exact bits_shiftLeft_add nonce.isLt hhashed
  · have hle : 288 ≤ 319 + 1 := by decide
    calc
      _ = _ := bits_add_shiftLeft hle (by decide)
      _ = _ := bits_add_shiftLeft hle (by decide)
      _ = _ := bits_add_shiftLeft hle (by decide)
      _ = _ := bits_add_shiftLeft hle (by decide)
      _ = _ := bits_shiftLeft_add hleaf htail

/-! ### Batches that are reserved (R590, R591) -/

/-- `c` is `b` after the flash and the use of attestation batches have changed: its quote and what it waits for stand. -/
def Boot.Reserved (b c : Boot) : Prop :=
  c = { b with flash := c.flash, attest := c.attest } ∧ c.attest.quote = b.attest.quote ∧ c.attest.want = b.attest.want

namespace Boot.Reserved

variable {b c d : Boot}

theorem refl (b : Boot) : b.Reserved b := ⟨rfl, rfl, rfl⟩

theorem trans (hbc : b.Reserved c) (hcd : c.Reserved d) : b.Reserved d := by
  obtain ⟨hc, hquote, hwant⟩ := hbc
  obtain ⟨hd, hquote', hwant'⟩ := hcd
  exact ⟨by rw [hd, hc], hquote'.trans hquote, hwant'.trans hwant⟩

theorem flash (b : Boot) (x : Tbl Nat) : b.Reserved { b with flash := x } := ⟨rfl, rfl, rfl⟩

theorem eraseFlash (b : Boot) (a n : Nat) : b.Reserved (b.eraseFlash a n) := flash b _

theorem writeFlash (b : Boot) (a : Nat) (bs : List Nat) : b.Reserved (b.writeFlash a bs) := flash b _

theorem writeCert (b : Boot) (gen : Nat) : b.Reserved (b.writeCert gen) := by
  unfold Boot.writeCert
  exact (eraseFlash _ _ _).trans (writeFlash _ _ _)

theorem useBatch (b : Boot) (r : Nat) : b.Reserved (b.useBatch r) := by
  unfold Boot.useBatch
  exact ⟨rfl, rfl, rfl⟩

theorem begun (b : Boot) (f : Nat) :
    b.Reserved { b with attest := { b.attest with fuse := f, building := true } } := ⟨rfl, rfl, rfl⟩

theorem ended (b : Boot) : b.Reserved { b with attest := { b.attest with ended := true } } := ⟨rfl, rfl, rfl⟩

theorem handover (b : Boot) : b.Reserved b.handover := by
  unfold Boot.handover
  dsimp only
  split
  · exact ended b
  · exact ((((begun b _).trans (eraseFlash _ _ _)).trans (writeFlash _ _ _)).trans (writeCert _ _)).trans (useBatch _ _)

theorem reserve (b : Boot) : b.Reserved b.reserve := by
  unfold Boot.reserve
  dsimp only
  split
  · exact handover b
  · split
    · exact ((eraseFlash b _ _).trans (writeFlash _ _ _)).trans (useBatch _ _)
    · exact (writeFlash b _ _).trans (useBatch _ _)

end Boot.Reserved

/-- The boot state when a quote has been signed with the next leaf, before a reservation. -/
def Boot.signed (b : Boot) (q : List Nat) : Boot :=
  { b with attest := { b.attest with quote := q, want := none, leaf := b.attest.leaf + 1 } }

section
variable (s : State) (n : Nat)

theorem State.sign_frame : s.sign n = { s with boot := (s.sign n).boot } := rfl

theorem State.sign_attest : (s.sign n).boot.attest.quote = s.quote n ∧ (s.sign n).boot.attest.want = none := by
  have hboot : (s.sign n).boot = if (s.boot.signed (s.quote n)).attest.leaf < (s.boot.signed (s.quote n)).attest.stop
      then s.boot.signed (s.quote n) else (s.boot.signed (s.quote n)).reserve := rfl
  obtain ⟨-, hquote, hwant⟩ := Boot.Reserved.reserve (s.boot.signed (s.quote n))
  rw [hboot]
  split
  · exact ⟨rfl, rfl⟩
  · exact ⟨hquote, hwant⟩

end

section
variable {s : State}

theorem State.attest_of_refused (h : s.attestRefused = true) (n : Nat) : s.attest n = s := if_pos h

theorem State.attest_of_building (h : s.attestRefused = false) (hbuild : s.boot.attest.building = true) (n : Nat) :
    s.attest n = s.modBoot (fun b => { b with attest := { b.attest with want := some (BitVec.ofNat 256 n) } }) := by
  rw [State.attest, if_neg (Bool.eq_false_iff.1 h), if_pos hbuild]

theorem State.attest_of_built (h : s.attestRefused = false) (hbuild : s.boot.attest.building = false) (n : Nat) :
    s.attest n = s.sign n := by
  rw [State.attest, if_neg (Bool.eq_false_iff.1 h), if_neg (Bool.eq_false_iff.1 hbuild)]

/-- The node cache is built. -/
def State.built (s : State) : State := s.modBoot (fun b => { b with attest := { b.attest with building := false } })

theorem State.attestBuilt_of_idle (h : s.live = false ∨ s.boot.attest.building = false) : s.attestBuilt = s := by
  unfold State.attestBuilt
  exact if_pos (by simpa using h)

theorem State.attestBuilt_of_none (hlive : s.live = true) (hbuild : s.boot.attest.building = true)
    (hwant : s.boot.attest.want = none) : s.attestBuilt = s.built := by
  unfold State.attestBuilt
  rw [if_neg (by simp [hlive, hbuild])]
  dsimp only
  split
  next => rfl
  next n hn => exact absurd (hn.symm.trans hwant) (Option.some_ne_none n)

theorem State.attestBuilt_of_some (hlive : s.live = true) (hbuild : s.boot.attest.building = true) {n : BitVec 256}
    (hwant : s.boot.attest.want = some n) : s.attestBuilt = s.built.sign n.toNat := by
  unfold State.attestBuilt
  rw [if_neg (by simp [hlive, hbuild])]
  dsimp only
  split
  next hn => exact absurd (hwant.symm.trans hn) (Option.some_ne_none n)
  next m hm =>
    obtain rfl : m = n := Option.some.inj (hm.symm.trans hwant)
    rfl

end

/-! ### The SMBus (R595) -/

theorem State.temperatures_free (s : State) : s.temperatures.1 = { s with free := s.temperatures.1.free } := by
  refine List.foldlRecOn (motive := fun acc : State × List Nat => acc.1 = { s with free := acc.1.free }) _ _ rfl
    fun acc hacc i _ => ?_
  dsimp only
  split
  · show acc.1.draw.2 = { s with free := acc.1.draw.2.free }
    rw [State.draw, hacc]
  · exact hacc

/-- A BLOB or STRING entry, of the counters of a running cluster apart, is read with free values at most. -/
theorem State.readBlob_free (s : State) {k : Nat} (hk : k / 256 ≠ 0x8210) :
    (s.readBlob k).1 = { s with free := (s.readBlob k).1.free } := by
  unfold State.readBlob
  dsimp only
  split
  case h_3 => exact s.temperatures_free
  case h_23 h => exact absurd h hk
  case h_27 => split <;> rfl
  all_goals rfl

/-- An entry that the SMBus may read is read with free values at most. -/
theorem State.readEntry_free (s : State) {k : Nat} (hk : smbusOk k = true) :
    (s.readEntry k).1 = { s with free := (s.readEntry k).1.free } := by
  have hblob : k / 256 ≠ 0x8210 := by
    intro h
    simp [smbusOk, h] at hk
  unfold State.readEntry
  split
  · rfl
  split
  · rfl
  split
  · exact s.readBlob_free hblob
  · exact s.readBlob_free hblob
  · split <;> rfl

section
variable {s : State} (h : s.answering = true)
include h

theorem State.smbusBlock_of_closed (hk : smbusOk s.boot.smbus.entry = false) :
    s.smbusBlock = s.modSmbus (fun b => { b with out := [0] }) := by
  unfold State.smbusBlock
  dsimp only
  rw [if_neg (by simp [h]), if_pos (by simp [hk])]

theorem State.smbusBlock_of_open (hk : smbusOk s.boot.smbus.entry = true) :
    s.smbusBlock = (s.readEntry s.boot.smbus.entry).1.modSmbus (fun b => { b with
      out := if 32 < (s.readEntry s.boot.smbus.entry).2.length then [0]
        else (s.readEntry s.boot.smbus.entry).2.length :: (s.readEntry s.boot.smbus.entry).2 }) := by
  unfold State.smbusBlock
  dsimp only
  rw [if_neg (by simp [h]), if_neg (by simp [hk])]

end

/-! ### The TAP (R596) -/

section
variable {s : State} {i : TapIns}

/-- The TAP with an instruction taken. -/
def State.tapped (s : State) (i : TapIns) : State :=
  s.modBoot (fun b => { b with tap := ⟨i, if i = .idcode then s.idcode else 0⟩ })

theorem State.tapTake_of_off (h : s.power.aoOn = false) : s.tapTake i = s := if_pos (by simp [h])

theorem State.tapTake_of_on (h : s.power.aoOn = true) : s.tapTake i = s.tapped i := if_neg (by simp [h])

theorem State.idcode_fields (hgrade : s.part.grade < 2 ^ 16) :
    bits s.idcode.toNat 27 12 = s.part.grade ∧ bit s.idcode.toNat 0 = true := by
  unfold State.idcode
  simp only [BitVec.toNat_ofNat, bits, bit, Nat.shiftLeft_eq, Nat.shiftRight_eq_div_pow, beq_iff_eq]
  constructor <;> omega

theorem State.tapped_acting_of_running (h : s.boot.mode = .running) :
    (s.tapped i).tapActing = if i ∈ [.idcode, .samplePreload] then i else .bypass := by
  cases i <;> simp [State.tapActing, State.tapActs, State.tapped, State.modBoot, h]

theorem State.tapped_acting_of_hold (h : s.boot.mode = .hold) : (s.tapped i).tapActing = i := by
  cases i <;> simp [State.tapActing, State.tapActs, State.tapped, State.modBoot, h]

end

/-- Each TAP command takes its instruction. -/
theorem exec_tap {r : Instr × TapIns} (hr : r ∈ [(Instr.bypass, TapIns.bypass), (.idcode, .idcode),
    (.samplePreload, .samplePreload), (.extest, .extest), (.clamp, .clamp), (.highz, .highz),
    (.extestPulse, .extestPulse), (.extestTrain, .extestTrain)]) (s : State) :
    exec r.1 s = s.ends (s.tapTake r.2) := by
  simp only [List.mem_cons, List.not_mem_nil, or_false] at hr
  obtain rfl | rfl | rfl | rfl | rfl | rfl | rfl | rfl := hr <;> rfl

/-- Settles O55: a quote takes the next leaf, the SMBus reads with free values at most, the TAP is a register. -/
theorem quotesSmbusAndTap : Obligations.QuotesSmbusAndTap := by
  refine ⟨?quotes, fun n sub s hanswer => ⟨?select, fun hk => ?closed, fun hk => ?readable⟩, fun s r hr =>
    ⟨fun hoff => ?off, fun hon => ?on⟩⟩
  case quotes =>
    intro nonce s quoted
    have hquoted {t : State} (n : BitVec 256) (ht : t.boot.attest.quote = s.quote n.toNat) : quoted n t := by
      intro hhash hleaf hfuse hgrade hcause hscore
      rw [ht]
      exact s.quote_fields n hhash hleaf hfuse hgrade hcause hscore
    refine ⟨fun hrefused => ?_, fun hopen hbuild => ?_, fun hopen hbuild => ?_, fun hidle => ?_,
      fun hlive hbuild => ⟨fun hwant => ?_, fun n hwant => ?_⟩⟩
    · exact exec_next_of_eq (i := .attestRequest nonce) rfl (State.attest_of_refused hrefused _) rfl rfl
    · refine exec_next_of_eq (i := .attestRequest nonce) rfl ((State.attest_of_building hopen hbuild _).trans ?_) rfl rfl
      rw [BitVec.ofNat_toNat, BitVec.setWidth_eq]
      rfl
    · obtain ⟨hquote, -⟩ := s.sign_attest nonce.toNat
      exact ⟨_, exec_next_of_eq (i := .attestRequest nonce) rfl (State.attest_of_built hopen hbuild _) rfl rfl,
        hquoted nonce hquote, by rw [hquote, State.quote_length], s.sign_frame _⟩
    · exact exec_next_of_eq (i := .attestBuildEnd) rfl (State.attestBuilt_of_idle hidle) rfl rfl
    · exact exec_next_of_eq (i := .attestBuildEnd) rfl (State.attestBuilt_of_none hlive hbuild hwant) rfl rfl
    · obtain ⟨hquote, hnone⟩ := s.built.sign_attest n.toNat
      refine ⟨_, exec_next_of_eq (i := .attestBuildEnd) rfl (State.attestBuilt_of_some hlive hbuild hwant) rfl rfl,
        hquoted n (hquote.trans ?_), hnone, ?_⟩
      · rfl
      · exact s.built.sign_frame _
  case select => exact exec_next_of_eq (i := .smbusSelect n sub) rfl (if_pos hanswer) rfl rfl
  case closed => exact exec_next_of_eq (i := .smbusRead) rfl (State.smbusBlock_of_closed hanswer hk) rfl rfl
  case readable =>
    have hfree := s.readEntry_free hk
    refine ⟨_, exec_next_of_eq (i := .smbusRead) rfl (State.smbusBlock_of_open hanswer hk) ?_ ?_, ?_, ?_,
      fun hshort => if_neg (Nat.not_lt.2 hshort), fun hlong => if_pos hlong⟩
    all_goals
      rw [hfree]
      rfl
  case off => exact exec_next_of_eq (exec_tap hr s) (State.tapTake_of_off hoff) rfl rfl
  case on =>
    refine ⟨_, exec_next_of_eq (exec_tap hr s) (State.tapTake_of_on hon) rfl rfl, rfl, rfl, fun hid hgrade => ?_,
      fun hrun => State.tapped_acting_of_running hrun, fun hhold => State.tapped_acting_of_hold hhold⟩
    have hdr : (s.tapped r.2).boot.tap.dr = s.idcode := if_pos hid
    rw [hdr]
    exact State.idcode_fields hgrade

end Sys2Proof.Machine
end

section
/-!
PROOFS. Self-tests: their start, their end and the failures that they record (spec/14_silent_error_defence.md R438, R440,
R441, spec/19_power_and_clocks.md R565).
-/

namespace Sys2Proof.Machine
open Sys2Proof.Claims

/-! ### A failure (R441) -/

/-- The record of a failure at a time: its time stamp, the record's own fields and VALID. -/
def failRecord (now : Nat) (rcd : BitVec 128) : BitVec 128 :=
  BitVec.ofNat 128 ((now % 2 ^ 64) <<< 64 + (bits rcd.toNat 63 52 <<< 52 + bits rcd.toNat 47 16 <<< 16 + 1))

theorem failRecord_fields (now : Nat) (rcd : BitVec 128) : let w := (failRecord now rcd).toNat
    bits w 127 64 = now % 2 ^ 64 ∧ bits w 63 52 = bits rcd.toNat 63 52 ∧ bits w 51 48 = 0 ∧
      bits w 47 16 = bits rcd.toNat 47 16 ∧ bits w 15 0 = 1 := by
  simp only [failRecord, BitVec.toNat_ofNat, bits, Nat.shiftLeft_eq, Nat.shiftRight_eq_div_pow]
  refine ⟨?_, ?_, ?_, ?_, ?_⟩ <;> omega

section
variable (s : State) (c d : Nat) (rcd w : BitVec 128)

/-- The record of a failure stands, the failure is counted and its event written. -/
def State.failNoted (s : State) (c d : Nat) (w : BitVec 128) : State :=
  (State.bump { s with defence := { s.defence with lastFail := w } } K.SELFTEST_FAILS 1).event c 0x08 d

theorem State.testFailed_eq : ∃ d, s.testFailed c rcd = (s.failNoted c d (failRecord s.now rcd)).health .selftest 1 :=
  ⟨_, rfl⟩

theorem State.failNoted_frame : s.failNoted c d w = { s with
    od := (s.failNoted c d w).od, mem := (s.failNoted c d w).mem, rings := (s.failNoted c d w).rings,
    traces := (s.failNoted c d w).traces, defence := { s.defence with lastFail := w } } :=
  State.event_frame (State.bump { s with defence := { s.defence with lastFail := w } } K.SELFTEST_FAILS 1) c 0x08 d

theorem State.failNoted_counted : (s.failNoted c d w).par K.SELFTEST_FAILS = (s.par K.SELFTEST_FAILS + 1) % 2 ^ 64 :=
  ((State.Noticed.event _ c 0x08 d).par_eq _ (by decide)).trans
    (State.bump_par_same { s with defence := { s.defence with lastFail := w } } _ _)

/-- Of failures only counters, events, traces and the defence state tell. -/
def State.TestedTo (s t : State) : Prop :=
  t = { s with od := t.od, mem := t.mem, rings := t.rings, traces := t.traces, defence := t.defence }

theorem State.testFailed_frame : s.TestedTo (s.testFailed c rcd) := by
  obtain ⟨d, hd⟩ := s.testFailed_eq c rcd
  generalize failRecord s.now rcd = w at hd
  rw [State.TestedTo, hd, State.health, State.failNoted_frame]
  rfl

theorem State.testFailed_lastFail : (s.testFailed c rcd).defence.lastFail = failRecord s.now rcd := by
  obtain ⟨d, hd⟩ := s.testFailed_eq c rcd
  generalize failRecord s.now rcd = w at hd
  have hkept : ((s.failNoted c d w).health .selftest 1).defence.lastFail = (s.failNoted c d w).defence.lastFail := rfl
  rw [hd, hkept, State.failNoted_frame]

theorem State.testFailed_counted : (s.testFailed c rcd).par K.SELFTEST_FAILS = (s.par K.SELFTEST_FAILS + 1) % 2 ^ 64 := by
  obtain ⟨d, hd⟩ := s.testFailed_eq c rcd
  generalize failRecord s.now rcd = w at hd
  have hkept : ((s.failNoted c d w).health .selftest 1).par K.SELFTEST_FAILS
      = (s.failNoted c d w).par K.SELFTEST_FAILS := rfl
  rw [hd, hkept, State.failNoted_counted]

theorem State.testFailed_par {k : Nat} (hfails : k ≠ K.SELFTEST_FAILS) (hk : noticeCounter k = false) :
    (s.testFailed c rcd).par k = s.par k := by
  obtain ⟨d, hd⟩ := s.testFailed_eq c rcd
  generalize failRecord s.now rcd = w at hd
  have hkept : ((s.failNoted c d w).health .selftest 1).par k = (s.failNoted c d w).par k := rfl
  rw [hd, hkept, State.failNoted, (State.Noticed.event _ _ _ _).par_eq k hk, State.bump_par, if_neg hfails]
  rfl

end

/-! ### The failures of a test -/

section
variable (s : State) (c : Nat) (fails : List (BitVec 128))

/-- The failures of a test, in turn. -/
def State.testFails (s : State) (c : Nat) (fails : List (BitVec 128)) : State :=
  fails.foldl (fun s r => s.testFailed c r) s

theorem State.testFails_cons (r : BitVec 128) :
    s.testFails c (r :: fails) = (s.testFailed c r).testFails c fails := List.foldl_cons ..

theorem State.testFails_frame : s.TestedTo (s.testFails c fails) := by
  induction fails generalizing s with
  | nil => exact (rfl : s.TestedTo s)
  | cons r fails ih =>
    have hfirst : s.TestedTo (s.testFailed c r) := s.testFailed_frame c r
    have hrest := ih (s.testFailed c r)
    rw [State.testFails_cons]
    unfold State.TestedTo at *
    rw [hrest, hfirst]

theorem State.testFails_counted (h : s.par K.SELFTEST_FAILS < 2 ^ 64) :
    counted s (s.testFails c fails) K.SELFTEST_FAILS fails.length := by
  induction fails generalizing s with
  | nil => exact (Nat.mod_eq_of_lt h).symm
  | cons r fails ih =>
    have hnext := s.testFailed_counted c r
    have hrest := ih (s.testFailed c r) (hnext ▸ Nat.mod_lt _ (Nat.two_pow_pos 64))
    rw [counted, State.testFails, List.foldl_cons, ← State.testFails, hrest, hnext, List.length_cons]
    omega

theorem State.testFails_lastFail {r : BitVec 128} (hr : fails.getLast? = some r) :
    (s.testFails c fails).defence.lastFail = failRecord s.now r := by
  obtain ⟨l, rfl⟩ := List.getLast?_eq_some_iff.1 hr
  have hlast : s.testFails c (l ++ [r]) = (s.testFails c l).testFailed c r := List.foldl_append
  rw [hlast, State.testFailed_lastFail, State.testFails_frame]

theorem State.testFails_par {k : Nat} (hfails : k ≠ K.SELFTEST_FAILS) (hk : noticeCounter k = false) :
    (s.testFails c fails).par k = s.par k := by
  induction fails generalizing s with
  | nil => rfl
  | cons r fails ih => rw [State.testFails_cons, ih, State.testFailed_par s c r hfails hk]

end

/-! ### The end of a test (R439 to R441) -/

/-- A core with its queues empty and unconfigured. -/
def Core.Emptied (o : Core) : Prop := o.queues = [] ∧ o.half = []

/-- The arrays of a cluster at their level cap, in a gap, where the ARRAY test ran. -/
def State.testLevels (s : State) (c en : Nat) : State :=
  if bit en 0 then (s.coresOf c).foldl (fun s k => s.modCo k (fun o => { o with
      level := s.levelCap (c / 8), ramp := .steady, hold := 0, holdTill := 0, since := s.now,
      fillGap := s.par K.ARRAY_FILL_GAP })) s
  else s

theorem State.testLevels_frame (s : State) (c en : Nat) : let t := s.testLevels c en
    t = { s with cores := t.cores } := by
  unfold State.testLevels
  split
  · exact List.foldlRecOn (motive := fun t : State => t = { s with cores := t.cores }) _ _ rfl
      fun t ht k _ => by rw [State.modCo, State.setCo, ht]
  · rfl

theorem State.testLevels_queues (s : State) (c en k : Nat) : ((s.testLevels c en).co k).queues = (s.co k).queues ∧
    ((s.testLevels c en).co k).half = (s.co k).half := by
  unfold State.testLevels
  split
  · refine List.foldlRecOn (motive := fun t : State => (t.co k).queues = (s.co k).queues ∧
      (t.co k).half = (s.co k).half) _ _ ⟨rfl, rfl⟩ fun t ht i _ => ?_
    rw [State.modCo_co]
    split
    next hk => rw [← hk]; exact ht
    next => exact ht
  · exact ⟨rfl, rfl⟩

/-- The number of self-tests enabled. -/
def testsOf (en : Nat) : Nat := ((List.range 4).filter (fun i => bit en i)).length

theorem State.runTests_eq (s : State) (c en : Nat) (fails : List (BitVec 128)) : s.runTests c en fails =
    ((((s.bump K.SELFTEST_RUNS (testsOf en)).emptyQueues c).testLevels c en).testFails c fails) := rfl

section
variable (s : State) (c en : Nat) (fails : List (BitVec 128))

/-- The queues of a cluster empty and its arrays at their levels, before the failures are recorded. -/
def State.testRun (s : State) (c en : Nat) : State :=
  ((s.bump K.SELFTEST_RUNS (testsOf en)).emptyQueues c).testLevels c en

theorem State.testRun_frame : s.testRun c en = { s with od := (s.testRun c en).od, cores := (s.testRun c en).cores } := by
  obtain ⟨x, hx⟩ := State.emptyQueues_cores (s.bump K.SELFTEST_RUNS (testsOf en)) c
  rw [State.testRun, State.testLevels_frame, hx]
  rfl

theorem State.testRun_par (k : Nat) : (s.testRun c en).par k = (s.bump K.SELFTEST_RUNS (testsOf en)).par k := by
  obtain ⟨x, hx⟩ := State.emptyQueues_cores (s.bump K.SELFTEST_RUNS (testsOf en)) c
  rw [State.testRun, State.testLevels_frame, hx]
  rfl

theorem State.testRun_queues {k : Nat} (hk : k ∈ s.coresOf c) :
    ((s.testRun c en).co k).queues = [] ∧ ((s.testRun c en).co k).half = [] := by
  obtain ⟨hqueues, hhalf⟩ := State.testLevels_queues ((s.bump K.SELFTEST_RUNS (testsOf en)).emptyQueues c) c en k
  have hempty := State.foldl_modCo_co (fun co => { co with queues := [], half := [] }) (s.nodup_coresOf c)
    (s.bump K.SELFTEST_RUNS (testsOf en)) k
  rw [if_pos hk] at hempty
  rw [State.testRun, hqueues, hhalf,
    show ((s.bump K.SELFTEST_RUNS (testsOf en)).emptyQueues c).co k = _ from hempty]
  exact ⟨rfl, rfl⟩

/-- The cluster after its test. -/
def Cluster.afterTest (l : Cluster) (now : Nat) : Cluster :=
  { l with testing := false, tested := now, runSince := none, idleSince := now, delay := none }

/-- The time for which a test has held a program back is counted. -/
def State.delayCounted (s : State) (c : Nat) : State :=
  match (s.cl c).runSince with
  | some t => s.bump K.SELFTEST_DELAY_TIME (s.now - t)
  | none => s

theorem State.delayCounted_frame : s.delayCounted c = { s with od := (s.delayCounted c).od } := by
  unfold State.delayCounted
  split <;> rfl

theorem State.delayCounted_par {k : Nat} (hk : k ≠ K.SELFTEST_DELAY_TIME) : (s.delayCounted c).par k = s.par k := by
  unfold State.delayCounted
  split
  · rw [State.bump_par, if_neg hk]
  · rfl

/-- That time is counted, and the test is over. -/
def State.testOver (s : State) (c : Nat) : State :=
  (s.delayCounted c).modCl c (fun l => l.afterTest (s.delayCounted c).now)

theorem State.testOver_frame :
    s.testOver c = { s with od := (s.testOver c).od, clusters := (s.testOver c).clusters } := by
  rw [State.testOver, State.delayCounted_frame]
  rfl

theorem State.testOver_par {k : Nat} (hk : k ≠ K.SELFTEST_DELAY_TIME) : (s.testOver c).par k = s.par k := by
  rw [State.testOver, State.modCl_par, State.delayCounted_par s c hk]

theorem State.testOver_cl (i : Nat) :
    (s.testOver c).cl i = if i = c then (s.cl c).afterTest s.now else s.cl i := by
  rw [State.testOver, State.modCl_cl, State.delayCounted_frame]
  rfl

theorem State.endTest_of_testing (h : (s.cl c).testing = true) : s.endTest c fails =
    ((s.testOver c).testRun c (s.par K.SELFTEST_ENABLE)).testFails c fails := by
  have hend : s.endTest c fails = (s.testOver c).runTests c ((s.testOver c).par K.SELFTEST_ENABLE) fails := by
    unfold State.endTest
    dsimp only
    rw [if_neg (by simp [h])]
    rfl
  rw [hend, State.runTests_eq, State.testOver_par s c (by decide)]
  rfl

theorem State.endTest_of_idle (h : (s.cl c).testing = false) : s.endTest c fails = s := if_pos (by simp [h])

end

/-! ### The start of a test (R438, R565) -/

section
variable {s : State} {c : Nat}

/-- The time of a test that is not due yet is reached. -/
def State.testTime (s : State) (c : Nat) : State :=
  if (s.cl c).testDue then s else s.reach ((s.cl c).tested + s.testInterval)

theorem State.testTime_frame (s : State) (c : Nat) : s.testTime c = { s with now := (s.testTime c).now } := by
  unfold State.testTime
  split <;> rfl

theorem State.startTest_of_busy (h : (s.cl c).testing = true ∨ s.power.state ≠ .active) : s.startTest c = s :=
  if_pos (by simpa using h)

section
variable (htest : (s.cl c).testing = false) (hactive : s.power.state = .active)
include htest hactive

theorem State.startTest_of_running (hrun : (s.cl c).running = true) :
    s.startTest c = (s.testTime c).modCl c (fun l => { l with testDue := true }) := by
  unfold State.startTest
  dsimp only
  rw [if_neg (by simp [htest, hactive]), if_pos hrun]
  rfl

theorem State.startTest_of_idle (hrun : (s.cl c).running = false) :
    s.startTest c = ((s.testTime c).wakeCluster c).modCl c (fun l => { l with testDue := false, testing := true }) := by
  unfold State.startTest
  dsimp only
  rw [if_neg (by simp [htest, hactive]), if_neg (Bool.eq_false_iff.1 hrun)]
  rfl

end

theorem State.wakeCluster_counted (h : (s.cl c).asleep = true) : counted s (s.wakeCluster c) K.CLUSTER_WAKES 1 := by
  have hwake : s.wakeCluster c = (s.bump K.CLUSTER_WAKES 1).modCl c
      (fun l => { l with asleep := false, idleSince := s.now, delay := none }) := if_neg (by simp [h])
  rw [counted, hwake, State.modCl_par, State.bump_par_same]

end

/-- Settles O42: the start and the end of a test, each with what it leaves of the cluster. -/
theorem selftestsRunAndFailuresAreCounted : Obligations.SelftestsRunAndFailuresAreCounted := by
  intro cl s l
  have hstart (hlive : s.live = true) : exec (.selftestStart cl) s = s.ends (s.startTest cl) :=
    congrArg s.ends (State.whenLive_of_live hlive _)
  have hend (fails : List (BitVec 128)) (hlive : s.live = true) :
      exec (.selftestEnd cl fails) s = s.ends (s.endTest cl fails) := congrArg s.ends (State.whenLive_of_live hlive _)
  refine ⟨fun hbusy => ?busy, fun hlive htest hactive => ?starts, fun fails => ⟨fun hidle => ?idle,
    fun hlive htest hcount => ?ends⟩⟩
  case busy =>
    by_cases hlive : s.live = true
    · exact exec_next_of_eq (hstart hlive) (State.startTest_of_busy (hbusy.resolve_left (by simp [hlive]))) rfl rfl
    · exact exec_next_of_eq (i := .selftestStart cl) rfl (if_neg hlive) rfl rfl
  case idle =>
    by_cases hlive : s.live = true
    · exact exec_next_of_eq (hend fails hlive)
        (State.endTest_of_idle s cl fails (hidle.resolve_left (by simp [hlive]))) rfl rfl
    · exact exec_next_of_eq (i := .selftestEnd cl fails) rfl (if_neg hlive) rfl rfl
  case starts =>
    have htime := s.testTime_frame cl
    have hnow : (l.testDue = true → (s.testTime cl).now = s.now) ∧ (l.testDue = false → (s.testTime cl).now =
        max s.now (l.tested + (if s.defence.observing then s.parMs K.OBSERVE_SELFTEST_INTERVAL
          else s.parMs K.SELFTEST_INTERVAL))) := by
      constructor
      · intro hdue
        rw [State.testTime, if_pos hdue]
      · intro hdue
        rw [State.testTime, if_neg (Bool.eq_false_iff.1 hdue)]
        rfl
    have hcl (c : Nat) : (s.testTime cl).cl c = s.cl c := by rw [htime]; rfl
    by_cases hrun : l.running = true
    · refine ⟨_, exec_next_of_eq (hstart hlive) (State.startTest_of_running htest hactive hrun) (by rw [htime]; rfl)
        (by rw [htime]; rfl), hnow.1, hnow.2, fun _ => ?_, fun h => ?_, fun c hc => ?_, ?_⟩
      · rw [State.modCl_cl_same, hcl]
      · exact absurd (hrun.symm.trans h) (by simp)
      · rw [State.modCl_cl, if_neg hc, hcl]
      · rw [htime]
        rfl
    · have hwake := (s.testTime cl).wakeCluster_frame cl
      have hidle := State.startTest_of_idle htest hactive (by simpa using hrun)
      have hwaked : ((s.testTime cl).wakeCluster cl).now = (s.testTime cl).now := by rw [hwake]
      refine ⟨_, exec_next_of_eq (hstart hlive) hidle (by rw [hwake, htime]; rfl) (by rw [hwake, htime]; rfl),
        fun h => hwaked.trans (hnow.1 h), fun h => hwaked.trans (hnow.2 h), fun h => absurd h hrun,
        fun _ => ⟨?_, ?_, ?_, fun hasleep => ?_⟩, fun c hc => ?_, ?_⟩
      · rw [State.modCl_cl_same]
      · rw [State.modCl_cl_same]
      · rw [State.modCl_cl_same]
        exact (State.wakeCluster_awake _ _).1
      · refine (State.wakeCluster_counted (s := s.testTime cl) (by rw [hcl]; exact hasleep)).trans ?_
        rw [htime]
        rfl
      · rw [State.modCl_cl, if_neg hc, State.wakeCluster_cl _ _ hc, hcl]
      · rw [hwake, htime]
        rfl
  case ends =>
    have hover := s.testOver_frame cl
    have hrun := (s.testOver cl).testRun_frame cl (s.par K.SELFTEST_ENABLE)
    have hfails := ((s.testOver cl).testRun cl (s.par K.SELFTEST_ENABLE)).testFails_frame cl fails
    have hcl (c : Nat) : (((s.testOver cl).testRun cl (s.par K.SELFTEST_ENABLE)).testFails cl fails).cl c =
        (s.testOver cl).cl c := by
      rw [hfails, hrun]
      rfl
    have hnow : ((s.testOver cl).testRun cl (s.par K.SELFTEST_ENABLE)).now = s.now := by rw [hrun, hover]
    have hfailed (k : Nat) (hruns : k ≠ K.SELFTEST_RUNS) (hdelay : k ≠ K.SELFTEST_DELAY_TIME) :
        ((s.testOver cl).testRun cl (s.par K.SELFTEST_ENABLE)).par k = s.par k := by
      rw [State.testRun_par, State.bump_par, if_neg hruns, State.testOver_par s cl hdelay]
    have hcounted := State.testFails_counted ((s.testOver cl).testRun cl (s.par K.SELFTEST_ENABLE)) cl fails
      (by rw [hfailed _ (by decide) (by decide)]; exact hcount)
    refine ⟨_, exec_next_of_eq (hend fails hlive) (State.endTest_of_testing s cl fails htest)
      (by rw [hfails, hrun, hover]) (by rw [hfails, hrun, hover]), ?_, ?_, ?_, ?_, fun k hk => ?_, ?_, fun r hr => ?_, ?_,
      fun c hc => ?_⟩
    · rw [hcl, State.testOver_cl, if_pos rfl]
      rfl
    · rw [hcl, State.testOver_cl, if_pos rfl]
      rfl
    · rw [hfails]
      exact hnow
    · rw [counted, hcounted, hfailed _ (by decide) (by decide)]
    · have hcores : k ∈ (s.testOver cl).coresOf cl := by rw [hover]; exact hk
      rw [hfails]
      exact State.testRun_queues _ _ _ hcores
    · rintro rfl
      show ((s.testOver cl).testRun cl (s.par K.SELFTEST_ENABLE)).defence = s.defence
      rw [hrun, hover]
    · rw [State.testFails_lastFail _ _ _ hr, hnow]
      exact failRecord_fields s.now r
    · rw [counted, State.testFails_par _ _ _ (by decide) (by decide), State.testRun_par, State.bump_par_same,
        State.testOver_par s cl (by decide)]
      rfl
    · rw [hcl, State.testOver_cl, if_neg hc]

end Sys2Proof.Machine
end

section
/-!
PROOFS. The alignment of the time base (spec/17_observability.md R498 to R503).
-/

namespace Sys2Proof.Machine
open Sys2Proof.Claims

/-! ### The TIME_SYNC message (R500) -/

theorem Common.word_timeSync (tag : Nat) (h : tag < 2 ^ 16) :
    (Common.word ⟨3, 1, 2, 0, 0, 0, 0, 0, 0, 0, tag⟩).toNat = 3 * 2 ^ 123 + 2 ^ 120 + 2 * 2 ^ 110 + tag := by
  simp only [Common.word, BitVec.toNat_ofNat, Nat.shiftLeft_eq]
  omega

theorem timeMsg_common (tag t turn kind : Nat) (h : tag < 2 ^ 16) :
    Msg.common (timeMsg tag t turn kind) = ⟨3, 1, 2, 0, 0, 0, 0, 0, 0, 0, tag⟩ := by
  have hslot : Msg.slot (timeMsg tag t turn kind) 0 = 3 * 2 ^ 123 + 2 ^ 120 + 2 * 2 ^ 110 + tag :=
    Common.word_timeSync tag h
  simp only [Msg.common, hslot, bits, Nat.shiftRight_eq_div_pow, Common.mk.injEq]
  omega

/-! ### Requests that leave (R501) -/

section
variable (s : State)

/-- The alignment after a request has been made at the time `now`. -/
def State.timeAsked (now : Nat) : TimeSync :=
  { s.service.time with
    tag := (s.service.time.tag + 1) % 2 ^ 16
    t1 := some now
    due := now + s.parMs K.TIME_SYNC_INTERVAL
    misses := if s.service.time.t1 = none then s.service.time.misses else s.service.time.misses + 1 }

/-- The state in which a request has been made. -/
def State.asking : State :=
  { s with now := max s.now s.service.time.due,
           service := { s.service with time := s.timeAsked (max s.now s.service.time.due) } }

/-- The request that then leaves. -/
def State.timeRequest : Msg := timeMsg ((s.service.time.tag + 1) % 2 ^ 16) s.asking.now 0 0

theorem State.timeRequest_common :
    Msg.common s.timeRequest = ⟨3, 1, 2, 0, 0, 0, 0, 0, 0, 0, (s.service.time.tag + 1) % 2 ^ 16⟩ :=
  timeMsg_common _ _ _ _ (Nat.mod_lt _ (Nat.two_pow_pos 16))

variable {s}

theorem State.timeInterval_of_off (h : s.answering = false ∨ s.par K.TIME_SOURCE_PORT = 0x1F) : s.timeInterval = s :=
  if_pos (by simpa using h)

theorem State.timeInterval_of_on (hanswers : s.answering = true) (hport : s.par K.TIME_SOURCE_PORT ≠ 0x1F) :
    s.timeInterval =
      if s.part.hasPort (s.par K.TIME_SOURCE_PORT) && (s.port (s.par K.TIME_SOURCE_PORT)).mode = .active
      then s.asking.toPort (s.par K.TIME_SOURCE_PORT) s.timeRequest else s.asking := by
  have hmisses : (if s.service.time.t1.isSome = true then s.service.time.misses + 1 else s.service.time.misses) =
      if s.service.time.t1 = none then s.service.time.misses else s.service.time.misses + 1 := by
    cases s.service.time.t1 <;> rfl
  have hasked : (s.reach s.service.time.due).modTime (fun t => { t with
      misses := if t.t1.isSome then t.misses + 1 else t.misses
      tag := (s.service.time.tag + 1) % 2 ^ 16
      t1 := some (s.reach s.service.time.due).now
      due := (s.reach s.service.time.due).now + (s.reach s.service.time.due).parMs K.TIME_SYNC_INTERVAL }) = s.asking := by
    unfold State.asking State.timeAsked State.modTime
    rw [← hmisses]
    rfl
  unfold State.timeInterval
  rw [if_neg (by simp [hanswers, hport])]
  dsimp only
  rw [← hasked]
  rfl

theorem State.timeInterval_frame (hanswers : s.answering = true) (hport : s.par K.TIME_SOURCE_PORT ≠ 0x1F) :
    let t := s.timeInterval
    t = { s.asking with links := t.links } := by
  rw [State.timeInterval_of_on hanswers hport]
  split_ifs
  · rw [s.asking.toPort_frame]
  · rfl

theorem State.timeHoldover_of_off (h : s.answering = false ∨ s.service.time.misses < 100 ∨ s.service.time.holdover = true) :
    s.timeHoldover = s :=
  if_pos (by simpa [or_assoc] using h)

theorem State.timeHoldover_of_due (hanswers : s.answering = true) (hmisses : 100 ≤ s.service.time.misses)
    (hholdover : s.service.time.holdover = false) :
    s.timeHoldover = (s.modTime (fun t => { t with holdover := true })).bump K.TIME_HOLDOVERS 1 :=
  if_neg (by simp [hanswers, hmisses, hholdover])

end

/-! ### Messages that arrive (R500 to R502) -/

section
variable {s : State} {q : Nat} {m : Msg} {kind : Nat}

/-- A TIME_SYNC message of the KIND that its command takes is taken from the receive buffer and acts. -/
theorem State.timeMessage_acts (act : State → State) (hanswers : s.answering = true) (hport : s.part.hasPort q = true)
    (hactive : (s.port q).mode = .active) (htype : (Msg.common m).mtype = 3) (hform : Msg.wellFormed m = true)
    (hkind : bits (Msg.slot m 1) 0 0 = kind) : s.timeMessage q m kind act = act (s.takeMsg m) := by
  unfold State.timeMessage
  rw [if_neg (by simp [hanswers, hport, hactive, Msg.timeKind, htype, hkind]), if_neg (by simp [hform])]

/-- The difference of R501 between a reply's times. -/
def syncDiff (t1 t2 turn now : Nat) : Int :=
  ((t2 : Int) - (t1 : Int)) - (((now % 2 ^ 64 : Nat) : Int) - ((t2 : Int) + (turn : Int)))

theorem State.offset_spec (s : State) (t1 t2 turn : Nat) : ∃ n th, s.offset t1 t2 turn = ({ s with free := n }, th) ∧
    syncDiff t1 t2 turn s.now - 1 ≤ 2 * th ∧ 2 * th ≤ syncDiff t1 t2 turn s.now + 1 := by
  have hdiff : syncDiff t1 t2 turn s.now =
      (Int.ofNat t2 - Int.ofNat t1) - (Int.ofNat (s.now % 2 ^ 64) - (Int.ofNat t2 + Int.ofNat turn)) := rfl
  unfold State.offset
  dsimp only
  rw [← hdiff]
  generalize syncDiff t1 t2 turn s.now = d
  split_ifs with heven hround
  · exact ⟨s.free, d / 2, rfl, by omega, by omega⟩
  · exact ⟨s.free + 1, d / 2, rfl, by omega, by omega⟩
  · exact ⟨s.free + 1, d / 2 + 1, rfl, by omega, by omega⟩

/-- The state in which a reply has been measured. -/
def State.measured (s : State) (n : Nat) (th : Int) : State :=
  ({ s with free := n } : State).modTime (fun t => { t with t1 := none, misses := 0, holdover := false, theta := th })

/-- The correction of a measured offset: at once, or by slewing (R502). -/
def State.corrected (s : State) (n : Nat) (th : Int) : State :=
  if !s.service.time.locked && !s.anyOpen && 0 ≤ th then
    ({ s.measured n th with now := s.now + th.toNat } : State).modTime (fun t => { t with locked := true, slew := 0 })
  else
    (s.measured n th).modTime (fun t => { t with
      slew := th, locked := t.locked || (decide (-8 ≤ th) && decide (th ≤ 8)) })

theorem State.timeCorrect_of_other {t1 : Nat} (hasked : s.service.time.t1 = some t1)
    (h : q ≠ s.par K.TIME_SOURCE_PORT ∨ (Msg.common m).tag ≠ s.service.time.tag) : State.timeCorrect q m s = s := by
  unfold State.timeCorrect
  dsimp only
  rw [hasked]
  exact if_pos (by simpa using h)

theorem State.timeCorrect_of_last {t1 : Nat} (hasked : s.service.time.t1 = some t1)
    (hport : q = s.par K.TIME_SOURCE_PORT) (htag : (Msg.common m).tag = s.service.time.tag) : ∃ n th,
    State.timeCorrect q m s = s.corrected n th ∧
      syncDiff (t1 % 2 ^ 64) (bits (Msg.slot m 1) 127 64) (bits (Msg.slot m 1) 63 32) s.now - 1 ≤ 2 * th ∧
      2 * th ≤ syncDiff (t1 % 2 ^ 64) (bits (Msg.slot m 1) 127 64) (bits (Msg.slot m 1) 63 32) s.now + 1 := by
  obtain ⟨n, th, hoffset, hlow, hhigh⟩ :=
    s.offset_spec (t1 % 2 ^ 64) (bits (Msg.slot m 1) 127 64) (bits (Msg.slot m 1) 63 32)
  refine ⟨n, th, ?_, hlow, hhigh⟩
  unfold State.timeCorrect
  dsimp only
  rw [hasked]
  dsimp only
  rw [if_neg (by simp [hport, htag]), hoffset]
  rfl

/-- What a correction sets, and what it leaves. -/
theorem State.corrected_frame (s : State) (n : Nat) (th : Int) : let t := s.corrected n th
    t.service.time.theta = th ∧ t.service.time.t1 = none ∧ t.service.time.misses = 0 ∧ t.service.time.holdover = false ∧
      t = { s with now := t.now, free := t.free, service := { s.service with time := t.service.time } } := by
  unfold State.corrected
  split_ifs <;> exact ⟨rfl, rfl, rfl, rfl, rfl⟩

theorem State.corrected_stepped {n : Nat} {th : Int} (hlocked : s.service.time.locked = false) (hopen : s.anyOpen = false)
    (hth : 0 ≤ th) : let t := s.corrected n th
    t.now = s.now + th.toNat ∧ t.service.time.locked = true ∧ t.service.time.slew = 0 := by
  unfold State.corrected
  rw [if_pos (by simp [hlocked, hopen, hth])]
  exact ⟨rfl, rfl, rfl⟩

theorem State.corrected_slewed {n : Nat} {th : Int}
    (h : s.service.time.locked = true ∨ s.anyOpen = true ∨ th < 0) : let t := s.corrected n th
    t.now = s.now ∧ t.service.time.slew = th ∧
      (t.service.time.locked = true ↔ s.service.time.locked = true ∨ (-8 ≤ th ∧ th ≤ 8)) := by
  have hslew : ¬ (!s.service.time.locked && !s.anyOpen && decide (0 ≤ th)) = true := by
    obtain h | h | h := h
    · simp [h]
    · simp [h]
    · simp [Int.not_le.mpr h]
  unfold State.corrected
  rw [if_neg hslew]
  refine ⟨rfl, rfl, ?_⟩
  simp [State.measured, State.modTime]

end

/-! ### The statement -/

/-- Settles O48. Which side an odd difference is rounded to is a free value (log 72), and the times are those of the
model's deadlines (log 1). -/
theorem timeBaseIsAligned : Obligations.TimeBaseIsAligned := by
  refine ⟨fun s => ⟨fun hoff => ?_, fun hanswers hport => ?_, fun hoff => ?_, fun hanswers hmisses hholdover => ?_⟩,
    fun q m turn s hanswers hport hactive htype hform => ?_⟩
  · exact exec_next_of_eq rfl (State.timeInterval_of_off hoff) rfl rfl
  · have hframe := State.timeInterval_frame hanswers hport
    refine ⟨s.timeInterval, exec_next_of_eq rfl rfl ?_ ?_, ?_, ?_, ?_, fun hexists hactive => ?_⟩
    · rw [hframe]
      rfl
    · rw [hframe]
      rfl
    · exact congrArg State.now hframe
    · rw [hframe]
      rfl
    · rw [hframe]
      rfl
    · have hleaves : s.timeInterval = s.asking.toPort (s.par K.TIME_SOURCE_PORT) s.timeRequest := by
        rw [State.timeInterval_of_on hanswers hport, if_pos (by simp [hexists, hactive])]
      obtain ⟨n, hsent⟩ := s.asking.toPort_port (s.par K.TIME_SOURCE_PORT) s.timeRequest (s.par K.TIME_SOURCE_PORT)
      rw [if_pos rfl, ← hleaves] at hsent
      refine ⟨n, _, _, ?_, s.timeRequest_common, hsent⟩
      rw [hframe]
      rfl
  · exact exec_next_of_eq rfl (State.timeHoldover_of_off hoff) rfl rfl
  · exact ⟨_, exec_next_of_eq rfl (State.timeHoldover_of_due hanswers hmisses hholdover) rfl rfl,
      State.bump_par_same _ _ _, rfl⟩
  · intro o
    have hframe := s.takeMsg_frame m
    have hfields : o.now = s.now ∧ o.pending = s.pending ∧ o.part = s.part ∧ o.service = s.service ∧ o.anyOpen = s.anyOpen := by
      rw [show o = s.takeMsg m from rfl, hframe]
      exact ⟨rfl, rfl, rfl, rfl, rfl⟩
    obtain ⟨hnow, hpending, hpart, hservice, hopen⟩ := hfields
    refine ⟨fun hkind => ?_, fun hkind t1 hasked => ⟨fun hother => ?_, fun hsource htag => ?_⟩⟩
    · have hacts := State.timeMessage_acts (State.timeAnswer q.val m turn.toNat) hanswers hport hactive htype hform hkind
      obtain ⟨n, hsent⟩ := (o.reach (o.now + turn.toNat)).toPort_port q.val
        (timeMsg (Msg.common m).tag o.now turn.toNat 1) q.val
      have hanswer := (o.reach (o.now + turn.toNat)).toPort_frame q.val (timeMsg (Msg.common m).tag o.now turn.toNat 1)
      rw [if_pos rfl] at hsent
      refine ⟨_, n, exec_next_of_eq rfl hacts ?_ ?_, ?_, ?_, ?_⟩
      · exact (congrArg State.pending hanswer).trans hpending
      · exact (congrArg State.part hanswer).trans hpart
      · rw [State.timeAnswer, hanswer, State.reach_now, hnow, Nat.max_eq_right (Nat.le_add_right _ _)]
      · rw [← hnow]
        exact hsent
      · rw [State.timeAnswer, hanswer]
        rfl
    · have hacts := State.timeMessage_acts (State.timeCorrect q.val m) hanswers hport hactive htype hform hkind
      refine exec_next_of_eq rfl (hacts.trans (State.timeCorrect_of_other (hservice ▸ hasked) ?_)) hpending hpart
      rw [State.takeMsg_par]
      exact hservice ▸ hother
    · have hacts := State.timeMessage_acts (State.timeCorrect q.val m) hanswers hport hactive htype hform hkind
      obtain ⟨n, th, hcorrect, hlow, hhigh⟩ := State.timeCorrect_of_last (s := o) (q := q.val) (m := m) (hservice ▸ hasked)
        (hsource.trans (State.takeMsg_par s m _).symm) (hservice ▸ htag)
      obtain ⟨htheta, ht1, hmisses, hholdover, hcorrected⟩ := o.corrected_frame n th
      rw [hnow] at hlow hhigh
      refine ⟨o.corrected n th, th, exec_next_of_eq rfl (hacts.trans hcorrect) ?_ ?_, ⟨hlow, hhigh⟩, htheta, ht1, hmisses,
        hholdover, ?_, fun hlocked hclosed hth => ?_, fun hslew => ?_⟩
      · exact (congrArg State.pending hcorrected).trans hpending
      · exact (congrArg State.part hcorrected).trans hpart
      · rw [← hservice]
        exact hcorrected
      · rw [← hnow]
        exact State.corrected_stepped (hservice ▸ hlocked) (hopen.trans hclosed) hth
      · rw [← hnow, ← hservice]
        exact State.corrected_slewed (by rwa [hservice, hopen])

end Sys2Proof.Machine
end

section
/-!
PROOFS. What the work of the engines, of copies, plans and drawers, of boundaries and of answers leaves of the state: the
time, the keys, the stacks, power, boot and service state, every setting and some counters and, but for what the cores do,
where each context and its steps stand. One sweep in the order of the model's files, for the statements on rollbacks,
teardowns, resets and requests given up.
-/

namespace Sys2Proof.Machine

open Sys2Proof.Claims

/-- The counters that only the ends of teardowns, dumps and resets count, and every entry that is no counter. -/
def calmKey (k : Nat) : Bool :=
  decide (k < 0x800000) || [K.TEARDOWNS, K.CORE_RESETS, K.CLUSTER_RESETS, K.DIE_RESETS, K.WARM_RESETS,
    K.MGMT_RESETS, K.DUMPS_WRITTEN, K.SPARE_DROPS].contains k

/-- What of a step says where it stands. -/
def Step.stands (u : Step) : Nat × Nat × StepSt := (u.num, u.attempt, u.st)

/-- From `c` to `d` a context and its steps stand where they stood; no replay and no command has come up. -/
structure Ctx.Calm (c d : Ctx) : Prop where
  st_eq : d.st = c.st
  orphaned_eq : d.orphaned = c.orphaned
  lastCommitted_eq : d.lastCommitted = c.lastCommitted
  rolled_eq : d.rolled = c.rolled
  steps_eq : d.steps.map Step.stands = c.steps.map Step.stands
  replay_none : c.replay = none → d.replay = none
  cur_none : c.cur = none → d.cur = none
  running_nil : c.running = [] → d.running = []

namespace Ctx.Calm

theorem refl (c : Ctx) : c.Calm c := ⟨rfl, rfl, rfl, rfl, rfl, id, id, id⟩

theorem trans {c d e : Ctx} (hcd : c.Calm d) (hde : d.Calm e) : c.Calm e where
  st_eq := hde.st_eq.trans hcd.st_eq
  orphaned_eq := hde.orphaned_eq.trans hcd.orphaned_eq
  lastCommitted_eq := hde.lastCommitted_eq.trans hcd.lastCommitted_eq
  rolled_eq := hde.rolled_eq.trans hcd.rolled_eq
  steps_eq := hde.steps_eq.trans hcd.steps_eq
  replay_none h := hde.replay_none (hcd.replay_none h)
  cur_none h := hde.cur_none (hcd.cur_none h)
  running_nil h := hde.running_nil (hcd.running_nil h)

/-- The steps are changed each in its place. -/
theorem mapSteps {g : Step → Step} (c : Ctx) {d : Ctx} (hg : ∀ u, (g u).stands = u.stands) (hst : d.st = c.st)
    (horphaned : d.orphaned = c.orphaned) (hcommitted : d.lastCommitted = c.lastCommitted) (hrolled : d.rolled = c.rolled)
    (hreplay : c.replay = none → d.replay = none) (hcur : c.cur = none → d.cur = none)
    (hrunning : c.running = [] → d.running = []) (hsteps : d.steps = c.steps.map g := by rfl) : c.Calm d := by
  refine ⟨hst, horphaned, hcommitted, hrolled, ?_, hreplay, hcur, hrunning⟩
  rw [hsteps, List.map_map]
  exact List.map_congr_left fun u _ => hg u

theorem modStep (c : Ctx) (num attempt : Nat) {f : Step → Step} (hf : ∀ u, (f u).stands = u.stands) :
    c.Calm (c.modStep num attempt f) := by
  refine mapSteps (g := Step.modNamed num attempt f) c (fun u => ?_) rfl rfl rfl rfl id id id
  unfold Step.modNamed
  split_ifs
  · exact hf u
  · rfl

theorem charge (c : Ctx) {f : Step → Step} (hf : ∀ u, (f u).stands = u.stands) : c.Calm (c.charge f) := by
  unfold Ctx.charge
  split_ifs
  · refine mapSteps (g := fun t => if t.st = .opened then f t else t) c (fun u => ?_) rfl rfl rfl rfl id id id
    split_ifs
    · exact hf u
    · rfl
  · exact ⟨rfl, rfl, rfl, rfl, rfl, fun hnone => by rw [hnone]; rfl, id, id⟩

end Ctx.Calm

/-- What restored semaphores change of a context. -/
theorem State.grantAll_wait (s : State) (y : Nat) : ∃ w, s.grantAll.cx y = { s.cx y with wait := w } := by
  simp only [State.grantAll, State.cx]
  rw [Tbl.get_foldl_range (f := fun (l : Ctx) =>
    { l with wait := l.wait.map (fun w => w.test w.sem (s.sem w.sem)) }) ?_]
  · split
    · exact ⟨_, rfl⟩
    · exact ⟨_, rfl⟩
  · intro t k
    split
    next hnone => exact .inl ⟨rfl, Ctx.mapWait_of_none (Option.isNone_iff_eq_none.mp hnone) _⟩
    next => exact .inr rfl

/-- The part of a state that stands: the queue, the time, the part, stacks, keys, power, boot and service state. -/
def State.still (s : State) : State :=
  { pending := s.pending, now := s.now, part := s.part, hbm := s.hbm, keys := s.keys, groups := s.groups,
    plans := s.plans, power := s.power, boot := s.boot, service := s.service }

/-- From `r` to `s` the part that stands is as before and, where `C` asks for it, so are the settings and the counters of
`calmKey`, and every context and its steps stand where they stood. What the cores and the engines do needs `C` false. -/
structure State.Calm (r : State) (C : Prop) (s : State) : Prop where
  still_eq : s.still = r.still
  par_eq : C → ∀ k, calmKey k = true → s.par k = r.par k
  cx : C → ∀ y, (r.cx y).Calm (s.cx y)

namespace State.Calm

theorem refl (s : State) (C : Prop) : s.Calm C s := ⟨rfl, fun _ _ _ => rfl, fun _ _ => .refl _⟩

theorem trans {r s t : State} {C : Prop} (hrs : r.Calm C s) (hst : s.Calm C t) : r.Calm C t where
  still_eq := hst.still_eq.trans hrs.still_eq
  par_eq hC k hk := (hst.par_eq hC k hk).trans (hrs.par_eq hC k hk)
  cx hC y := (hrs.cx hC y).trans (hst.cx hC y)

section
variable {r s : State} {C : Prop} (h : r.Calm C s)
include h

theorem weak : r.Calm False s := ⟨h.still_eq, False.elim, False.elim⟩

theorem pending_eq : s.pending = r.pending := (congrArg State.pending h.still_eq :)
theorem now_eq : s.now = r.now := (congrArg State.now h.still_eq :)
theorem part_eq : s.part = r.part := (congrArg State.part h.still_eq :)
theorem hbm_eq : s.hbm = r.hbm := (congrArg State.hbm h.still_eq :)
theorem keys_eq : s.keys = r.keys := (congrArg State.keys h.still_eq :)
theorem power_eq : s.power = r.power := (congrArg State.power h.still_eq :)
theorem boot_eq : s.boot = r.boot := (congrArg State.boot h.still_eq :)
theorem service_eq : s.service = r.service := (congrArg State.service h.still_eq :)

end

variable {r s t : State} {C : Prop}

/-- A change of fields that neither stand nor hold entries or contexts. -/
theorem frame (h : r.Calm C s)
    {free clusters cores side pkg posts moves accesses mem planSt drawers rings traces links mirrors send reports
    defence} :
    r.Calm C { s with free := free, clusters := clusters, cores := cores, side := side, pkg := pkg, posts := posts,
                      moves := moves, accesses := accesses, mem := mem, planSt := planSt, drawers := drawers,
                      rings := rings, traces := traces, links := links, mirrors := mirrors, send := send,
                      reports := reports, defence := defence } :=
  ⟨h.still_eq, h.par_eq, h.cx⟩

theorem ite {c : Prop} {_ : Decidable c} (hs : r.Calm C s) (ht : r.Calm C t) : r.Calm C (if c then s else t) := by
  split <;> assumption

/-- A change made under a condition, or not at all. -/
theorem whenever {c : Prop} {_ : Decidable c} (h : r.Calm C s) (ht : r.Calm C s → r.Calm C t) :
    r.Calm C (if c then t else s) :=
  .ite (ht h) h

theorem whenNot {c : Prop} {_ : Decidable c} (h : r.Calm C s) (ht : r.Calm C s → r.Calm C t) :
    r.Calm C (if c then s else t) :=
  .ite h (ht h)

theorem ite_fst {α : Type} {c : Prop} {_ : Decidable c} {p q : State × α} (hp : r.Calm C p.1) (hq : r.Calm C q.1) :
    r.Calm C (if c then p else q).1 := by
  split <;> assumption

theorem ite_snd {α : Type} {c : Prop} {_ : Decidable c} {p q : α × State} (hp : r.Calm C p.2) (hq : r.Calm C q.2) :
    r.Calm C (if c then p else q).2 := by
  split <;> assumption

theorem foldl {α : Type} {f : State → α → State} {l : List α} (hf : ∀ t a, r.Calm C t → r.Calm C (f t a))
    (h : r.Calm C s) : r.Calm C (l.foldl f s) := by
  induction l generalizing s with
  | nil => exact h
  | cons a l ih => exact ih (hf s a h)

theorem foldl_fst {α β : Type} {f : State × β → α → State × β} {l : List α} {p : State × β}
    (hf : ∀ p a, r.Calm C p.1 → r.Calm C (f p a).1) (h : r.Calm C p.1) : r.Calm C (l.foldl f p).1 := by
  induction l generalizing p with
  | nil => exact h
  | cons a l ih => exact ih (hf p a h)

theorem fst_mk {α : Type} {a : α} (h : r.Calm C s) : r.Calm C (s, a).1 := h

theorem snd_mk {α : Type} {a : α} (h : r.Calm C s) : r.Calm C (a, s).2 := h

/-! ### The functions of Machine/Ops -/

theorem setPar {k v} (hk : calmKey k = false) (h : r.Calm C s) : r.Calm C (s.setPar k v) where
  still_eq := h.still_eq
  par_eq hC i hi := by
    have hne : i ≠ k := fun hik => by rw [hik, hk] at hi; cases hi
    rw [State.setPar_par, if_neg hne, h.par_eq hC i hi]
  cx := h.cx

theorem bump {k n} (hk : calmKey k = false) (h : r.Calm C s) : r.Calm C (s.bump k n) :=
  h.setPar hk

theorem draw (h : r.Calm C s) : r.Calm C (s.draw).2 := by
  unfold State.draw
  exact .snd_mk h.frame

theorem setCl (h : r.Calm C s) {c x} : r.Calm C (s.setCl c x) := h.frame

theorem setCo (h : r.Calm C s) {k x} : r.Calm C (s.setCo k x) := h.frame

theorem modCl (h : r.Calm C s) {c f} : r.Calm C (s.modCl c f) := h.setCl

theorem modCo (h : r.Calm C s) {k f} : r.Calm C (s.modCo k f) := h.setCo

/-- A change of one context, which stands. -/
theorem modCxAt {x f} (hf : C → (s.cx x).Calm (f (s.cx x))) (h : r.Calm C s) : r.Calm C (s.modCx x f) where
  still_eq := h.still_eq
  par_eq := h.par_eq
  cx hC y := by
    rw [State.modCx_cx]
    split_ifs with hy
    · exact (h.cx hC y).trans (hy ▸ hf hC)
    · exact h.cx hC y

theorem modCx {x f} (hf : ∀ c : Ctx, c.Calm (f c)) (h : r.Calm C s) : r.Calm C (s.modCx x f) :=
  h.modCxAt fun _ => hf _

theorem modStep {x num attempt} {f : Step → Step} (hf : ∀ u : Step, (f u).stands = u.stands) (h : r.Calm C s) :
    r.Calm C (s.modCx x fun c => c.modStep num attempt f) :=
  h.modCx fun c => .modStep c num attempt hf

theorem charge {x} {f : Step → Step} (hf : ∀ u : Step, (f u).stands = u.stands) (h : r.Calm C s) :
    r.Calm C (s.modCx x fun c => c.charge f) :=
  h.modCx fun c => .charge c hf

/-- Where nothing is asked of the contexts, they may change. -/
theorem anyCx (h : r.Calm False s) {x f} : r.Calm False (s.modCx x f) := h.modCxAt False.elim

theorem anyBump (h : r.Calm False s) {k n} : r.Calm False (s.bump k n) := ⟨h.still_eq, False.elim, False.elim⟩

/-! ### Partial steps of the cores and engines -/

/-- Every state that a partial step can answer is calm. -/
def Next (r : State) (C : Prop) (o : Option State) : Prop := ∀ u, o = some u → r.Calm C u

namespace Next
variable {o p : Option State}

theorem none : Next r C none := fun u hu => absurd hu.symm (Option.some_ne_none u)

theorem some (h : r.Calm C s) : Next r C (some s) := by
  rintro _ ⟨⟩
  exact h

theorem ite {c : Prop} {_ : Decidable c} (ho : Next r C o) (hp : Next r C p) : Next r C (if c then o else p) := by
  split <;> assumption

theorem map {f : State → State} (ho : Next r C o) (hf : ∀ t, r.Calm C t → r.Calm C (f t)) : Next r C (o.map f) := by
  intro u hu
  obtain ⟨t, ht, rfl⟩ := Option.map_eq_some_iff.1 hu
  exact hf t (ho t ht)

theorem map_fst {α : Type} {q : Option (State × α)} {f : State × α → State} (hq : Next r C (q.map Prod.fst))
    (hf : ∀ p, r.Calm C p.1 → r.Calm C (f p)) : Next r C (q.map f) := by
  intro u hu
  obtain ⟨p, hp, rfl⟩ := Option.map_eq_some_iff.1 hu
  exact hf p (hq _ (by rw [hp]; rfl))

theorem bind {α : Type} {a : Option α} {f : α → Option State} (hf : ∀ x, a = .some x → Next r C (f x)) :
    Next r C (a.bind f) := by
  intro u hu
  obtain ⟨x, hx, hfx⟩ := Option.bind_eq_some_iff.1 hu
  exact hf x hx u hfx

theorem findSome {α : Type} {l : List α} {f : α → Option State} (hf : ∀ x, Next r C (f x)) :
    Next r C (l.findSome? f) := by
  intro u hu
  obtain ⟨x, -, hx⟩ := List.exists_of_findSome?_eq_some hu
  exact hf x u hx

end Next

theorem of_next {o : Option State} (ho : Next r C o) (hs : o = some s) : r.Calm C s := ho s hs

/-! ### The functions of Machine/Ops -/

theorem dropStale (h : r.Calm C s) : r.Calm C s.dropStale :=
  (h.bump (by rfl))

theorem progressCl (h : r.Calm C s) {c} : r.Calm C (s.progressCl c) :=
  h.modCl

theorem progressCx (h : r.Calm C s) {x} : r.Calm C (s.progressCx x) :=
  (h.modCx (by exact fun _ => ⟨rfl, rfl, rfl, rfl, rfl, id, id, id⟩))

theorem writeSpace (h : r.Calm C s) {space a bs} : r.Calm C (s.writeSpace space a bs) := by
  unfold State.writeSpace
  split <;> exact h.frame

theorem countBursts {cls a n} (hcls : calmKey (K.HBM_BURSTS_P0 + cls) = false) (h : r.Calm C s) :
    r.Calm C (s.countBursts cls a n) := by
  unfold State.countBursts
  exact .ite h (h.bump hcls)

theorem countRmw (h : r.Calm C s) {a n hdr} : r.Calm C (s.countRmw a n hdr) := by
  unfold State.countRmw
  exact .ite h (h.bump (by rfl))

theorem bumpFree {k} (hk : calmKey k = false) (h : r.Calm C s) : r.Calm C (s.bumpFree k) := by
  unfold State.bumpFree
  exact h.draw.bump hk

theorem trace (h : r.Calm C s) {d cls ev} : r.Calm C (s.trace d cls ev) := by
  unfold State.trace
  exact .ite h (.ite (h.frame.bump (by rfl)) (.ite (.bump (by rfl) (.whenever (h.frame.bump (by rfl)) fun h => h.bump (by rfl))) (.countRmw (.countBursts (by rfl)
    (.writeSpace (.whenever (h.frame.bump (by rfl)) fun h => h.bump (by rfl)))))))

theorem event (h : r.Calm C s) {u code detail} : r.Calm C (s.event u code detail) := by
  unfold State.event
  exact .whenever (.whenever h.frame fun h => h.bump (by rfl)) fun h => h.trace

theorem setPort (h : r.Calm C s) {p x} : r.Calm C (s.setPort p x) := h.frame

theorem sendOn (h : r.Calm C s) {q p} : r.Calm C (s.sendOn q p) := by
  unfold State.sendOn
  exact .whenNot h.setPort fun h => h.frame

theorem toPort (h : r.Calm C s) {p m} : r.Calm C (s.toPort p m) :=
  h.sendOn

theorem sendMask (h : r.Calm C s) {mask m} : r.Calm C (s.sendMask mask m) := by
  unfold State.sendMask
  dsimp only
  split
  · exact h.toPort
  · exact h.frame

theorem sendReport (h : r.Calm C s) {rcd} : r.Calm C (s.sendReport rcd) := by
  unfold State.sendReport
  dsimp only
  refine .ite h ?_
  split
  · exact (h.bump (by rfl))
  · exact (h.toPort.bump (by rfl))

theorem report (h : r.Calm C s) {kind ctx detail} : r.Calm C (s.report kind ctx detail) := by
  unfold State.report
  extract_lets seq tail rcd full counted un recorded
  have hcounted : r.Calm C counted := h.whenever fun h => h.bump (by rfl)
  exact hcounted.frame.sendReport

theorem grantAll (h : r.Calm C s) : r.Calm C s.grantAll := by
  obtain ⟨c, x, hc⟩ := State.HangKept.grantAll_waits s
  refine ⟨?_, fun hC k hk => ?_, fun hC y => (h.cx hC y).trans ?_⟩
  · rw [hc]
    exact h.still_eq
  · rw [hc]
    exact h.par_eq hC k hk
  · obtain ⟨w, hw⟩ := s.grantAll_wait y
    rw [hw]
    exact ⟨rfl, rfl, rfl, rfl, rfl, id, id, id⟩

theorem post (h : r.Calm C s) {p} : r.Calm C (s.post p) := h.frame

theorem writeKey (h : r.Calm C s) {k off bs} : r.Calm C (s.writeKey k off bs) :=
  h.writeSpace

theorem writeHdr (h : r.Calm C s) {k b h'} : r.Calm C (s.writeHdr k b h') :=
  h.writeSpace

theorem writeBlock (h : r.Calm C s) {k b x} : r.Calm C (s.writeBlock k b x) := by
  unfold State.writeBlock
  exact .whenever h.writeKey fun h => h.writeHdr

theorem scored (h : r.Calm C s) {new} : r.Calm C (s.scored new) := h.frame

theorem health (h : r.Calm C s) {c n} : r.Calm C (s.health c n) := by
  unfold State.health
  exact h.frame.scored

theorem sendEp (h : r.Calm C s) {io e x mtype vc body} : r.Calm C (s.sendEp io e x mtype vc body) := by
  unfold State.sendEp
  exact .ite h.sendMask h

theorem sendVerdict (h : r.Calm C s) {x e m} : r.Calm C (s.sendVerdict x e m) :=
  h.sendEp

theorem logEntry (h : r.Calm C s) {x stepNo rcd blk} : r.Calm C (s.logEntry x stepNo rcd blk).2 := by
  unfold State.logEntry
  dsimp only
  split
  · exact h
  next t _ =>
    refine .ite_snd h (.snd_mk (.modCx (fun c => ?_) (.writeKey ?_)))
    · refine .mapSteps c (fun u => ?_) rfl rfl rfl rfl id id id
      split_ifs <;> rfl
    · split
      · exact h.writeBlock
      · exact h

theorem log (h : r.Calm C s) {x stepNo rcd blk} : r.Calm C (s.log x stepNo rcd blk) := by
  unfold State.log
  refine .whenNot h.logEntry fun h => .whenever (h.modCx fun c => ?_) fun h => h.bump (by rfl)
  refine .mapSteps c (fun u => ?_) rfl rfl rfl rfl id id id
  split_ifs <;> rfl

theorem logUnder (h : r.Calm C s) {x step rcd blk} : r.Calm C (s.logUnder x step rcd blk) := by
  unfold State.logUnder
  split
  · exact h
  · exact h.log

theorem issueVerdict (h : r.Calm C s) {x v} : r.Calm C (s.issueVerdict x v) := by
  unfold State.issueVerdict
  exact .modStep (by exact fun _ => rfl) (.foldl (fun _ _ h => h.sendVerdict) h)

theorem tryHealth (h : r.Calm C s) {x num attempt} : r.Calm C (s.tryHealth x num attempt) := by
  unfold State.tryHealth
  dsimp only
  split
  · exact h
  · exact .ite h (.ite (h.sendVerdict.modStep (by exact fun _ => rfl)) (.ite (h.modStep (by exact fun _ => rfl)) (h.modStep (by exact fun _ => rfl)).issueVerdict))

theorem tryReplay (h : r.Calm C s) {x num attempt} : r.Calm C (s.tryReplay x num attempt) := by
  unfold State.tryReplay
  dsimp only
  split
  · exact h
  · exact .ite h (.ite (h.modStep (by exact fun _ => rfl)).sendVerdict (h.modStep (by exact fun _ => rfl)).issueVerdict)

theorem recordMiss (h : r.Calm C s) {x num} : r.Calm C (s.recordMiss x num) := by
  unfold State.recordMiss
  dsimp only
  split
  · exact (h.bump (by rfl))
  · exact ((h.bump (by rfl)).modStep (by exact fun _ => rfl)).tryReplay

theorem recordReplay (h : r.Calm C s) {x num isMatch} : r.Calm C (s.recordReplay x num isMatch) := by
  unfold State.recordReplay
  dsimp only
  split
  · exact .whenNot (h.bump (by rfl)) fun h => h.bump (by rfl)
  · exact .tryReplay (.modStep (by exact fun _ => rfl) (.whenNot (h.bump (by rfl)) fun h => h.bump (by rfl)))

theorem emptyQueues (h : r.Calm C s) {c} : r.Calm C (s.emptyQueues c) := by
  unfold State.emptyQueues
  exact .foldl (fun _ _ h => h.modCo) h

theorem restoreSems (h : r.Calm C s) {x t} : r.Calm C (s.restoreSems x t) := by
  unfold State.restoreSems
  exact h.frame.grantAll

theorem sealReplay (h : r.Calm C s) {x t} : r.Calm C (s.sealReplay x t) := by
  unfold State.sealReplay
  extract_lets w v clear restored emptied left
  have hemptied : r.Calm C emptied := .foldl (fun _ _ h => h.emptyQueues) h.restoreSems
  have hleft : r.Calm C left := hemptied.modCx fun _ => ⟨rfl, rfl, rfl, rfl, rfl, fun _ => rfl, id, id⟩
  split
  exact hleft.recordReplay

theorem sealStep (h : r.Calm False s) {x t} : r.Calm False (s.sealStep x t) := by
  unfold State.sealStep
  exact .tryHealth (.sendVerdict (.anyCx (.whenever (.whenever (.foldl (fun _ _ h => .ite h h.log) h)
    fun h => h.health) fun h => h.health)))

theorem failStep (h : r.Calm False s) {x cause} : r.Calm False (s.failStep x cause) := by
  unfold State.failStep
  split
  · exact h.sealStep
  · split
    · exact .ite h.sealReplay h
    · exact h

theorem stopCtx (h : r.Calm False s) {x} : r.Calm False (s.stopCtx x) := by
  unfold State.stopCtx
  exact .ite h.anyCx.failStep h

theorem setTags (h : r.Calm C s) {io e t} : r.Calm C (s.setTags io e t) := h.frame

theorem issueReq (h : r.Calm C s) {q} : r.Calm C (s.issueReq q) := by
  unfold State.issueReq
  exact .ite h.frame h.setTags.frame.sendMask

theorem pumpReqs (h : r.Calm C s) {io e} : r.Calm C (s.pumpReqs io e) := by
  unfold State.pumpReqs
  exact .foldl (fun _ _ h => h.issueReq) h.frame

theorem grantHeld (h : r.Calm C s) {x} : r.Calm C (s.grantHeld x) := by
  unfold State.grantHeld
  exact .foldl (fun _ _ h => .ite h h.setPort) h

theorem bursts {cls k off n} (hcls : calmKey (K.HBM_BURSTS_P0 + cls) = false) (h : r.Calm C s) :
    r.Calm C (s.bursts cls k off n) := by
  unfold State.bursts
  exact .ite h (.ite (h.countBursts hcls) (.ite (h.bumpFree (by rfl)) h))

theorem put {cls k off bs hdr} (hcls : calmKey (K.HBM_BURSTS_P0 + cls) = false) (h : r.Calm C s) :
    r.Calm C (s.put cls k off bs hdr) := by
  have hdata : r.Calm C ((s.writeKey k off bs).bursts cls k off bs.length) := h.writeKey.bursts hcls
  unfold State.put
  extract_lets e data written
  have hwritten : r.Calm C written := by
    unfold written
    split
    · exact hdata.writeHdr
    · exact hdata
  exact .whenever hwritten fun h => h.countRmw

theorem putChecked {cls x k off bs hdr} (hcls : calmKey (K.HBM_BURSTS_P0 + cls) = false) (h : r.Calm C s) : r.Calm C (s.putChecked cls x k off bs hdr) := by
  unfold State.putChecked
  exact .ite (h.bump (by rfl)) (.ite (h.bump (by rfl)) (h.put hcls))

theorem modMir (h : r.Calm C s) {x f} : r.Calm C (s.modMir x f) := h.frame

theorem markStore (h : r.Calm C s) {x k off n step} : r.Calm C (s.markStore x k off n step) := by
  unfold State.markStore
  split
  · exact h
  · split
    · exact (h.bump (by rfl))
    · exact h.modMir

theorem setDrawer (h : r.Calm C s) {x d w} : r.Calm C (s.setDrawer x d w) := h.frame

theorem pruneDrawer (h : r.Calm C s) {x d} : r.Calm C (s.pruneDrawer x d) :=
  h.setDrawer

theorem modXfer (h : r.Calm C s) {c seq f} : r.Calm C (s.modXfer c seq f) :=
  h.modCl

theorem answer (h : r.Calm C s) {io entry slot status blocks} : r.Calm C (s.answer io entry slot status blocks) := by
  unfold State.answer
  exact .ite h h.setTags.sendMask

theorem accessDone (h : r.Calm C s) {o st n} : r.Calm C (s.accessDone o st n) := by
  unfold State.accessDone
  dsimp only
  split
  · exact h.modXfer
  · exact .ite h.frame.answer (.ite h h.answer)

theorem waitAt (h : r.Calm C s) {a} : r.Calm C (s.waitAt a) := h.frame

theorem stopStall (h : r.Calm C s) {c t} : r.Calm C (s.stopStall c t) := by
  unfold State.stopStall
  dsimp only
  split
  · exact h
  · exact (h.bump (by rfl)).modXfer

theorem unstall (h : r.Calm C s) {c t} : r.Calm C (s.unstall c t) := by
  unfold State.unstall
  dsimp only
  split
  · exact h
  · exact h.setDrawer

theorem endStall (h : r.Calm C s) {c t} : r.Calm C (s.endStall c t) := by
  unfold State.endStall
  exact h.stopStall.unstall

theorem rejudge (h : r.Calm C s) {x d} : r.Calm C (s.rejudge x d) := by
  unfold State.rejudge
  dsimp only
  refine .ite h (.ite (.foldl (fun _ _ h => ?_) h) (.foldl (fun _ _ h => h.modXfer) h.setDrawer))
  split
  · exact (h.stopStall.bump (by rfl))
  · exact h

theorem drawerJoin (h : r.Calm C s) {x d c seq} : r.Calm C (s.drawerJoin x d c seq) := by
  unfold State.drawerJoin
  exact .ite h (.rejudge (.whenever h.setDrawer fun h => h.bump (by rfl)))

theorem drawerPut (h : r.Calm C s) {x d entry b p a} : r.Calm C (s.drawerPut x d entry b p a) := by
  unfold State.drawerPut
  dsimp only
  refine .bump (by rfl) (.setDrawer (.ite (.countRmw (.countBursts (by rfl) ?_)) (.bumpFree (by rfl) ?_)))
  · split
    · exact h.writeSpace.writeSpace
    · exact h.writeSpace
  · split
    · exact h.writeSpace.writeSpace
    · exact h.writeSpace

theorem drawerArrive (h : r.Calm C s) {d entry b a} : r.Calm C (s.drawerArrive d entry b a) := by
  unfold State.drawerArrive
  dsimp only
  refine .ite ((h.bump (by rfl)).bump (by rfl)).accessDone ?_
  split
  · exact .ite (h.bump (by rfl)).accessDone (.ite h.waitAt h.drawerPut.accessDone)
  · split
    · split
      · exact h.setDrawer.drawerPut.accessDone
      · exact h.setDrawer
    · exact h.modXfer.drawerJoin

theorem logWrite (h : r.Calm C s) {a} : r.Calm C (s.logWrite a) := by
  unfold State.logWrite
  split
  · exact h.logUnder
  · exact h

theorem announceReplay (h : r.Calm C s) {x} : r.Calm C (s.announceReplay x) := by
  unfold State.announceReplay
  dsimp only
  split
  · exact .ite h (.ite (h.modCx (by exact fun _ => ⟨rfl, rfl, rfl, rfl, rfl, id, id, id⟩)).post (.ite (h.modCx (by exact fun _ => ⟨rfl, rfl, rfl, rfl, rfl, id, id, id⟩)).recordMiss h))
  · exact h

theorem replayArrived (h : r.Calm C s) {a} : r.Calm C (s.replayArrived a) := by
  unfold State.replayArrived
  split
  · exact h
  · exact .ite h (.ite (h.modCx (by exact fun _ => ⟨rfl, rfl, rfl, rfl, rfl, id, id, id⟩)).announceReplay (.ite h.announceReplay h))

theorem arrive (h : r.Calm C s) {a} : r.Calm C (s.arrive a) := by
  unfold State.arrive
  dsimp only
  refine .ite h.frame (.ite h.dropStale (.ite (h.bump (by rfl)) (.ite (h.bump (by rfl)).accessDone (.ite (h.bump (by rfl)).accessDone ?_))))
  split
  · exact h.drawerArrive
  · refine .ite (h.bump (by rfl)).accessDone (.ite h.waitAt (.ite (.waitAt (.modMir (.whenever (.ite (h.bump (by rfl)) h) fun h => h.bump (by rfl))))
      (.accessDone (.replayArrived (.logWrite (.ite (.put (by rfl) ?_) (.markStore (.put (by rfl) ?_))))))))
    · split
      · refine .modXfer ?_
        split
        · exact (h.bump (by rfl))
        · exact h
      · split
        · exact (h.bump (by rfl))
        · exact h
    · split
      · refine .modXfer ?_
        split
        · exact (h.bump (by rfl))
        · exact h
      · split
        · exact (h.bump (by rfl))
        · exact h

theorem releaseHeld (h : r.Calm C s) : r.Calm C s.releaseHeld := by
  unfold State.releaseHeld
  exact .foldl (fun _ _ h => h.arrive) h.frame

theorem nonfinite (h : r.Calm False s) {k j e} : r.Calm False (s.nonfinite k j e) := by
  unfold State.nonfinite
  dsimp only
  split
  · exact h.anyBump.anyCx
  · exact .ite h.anyBump.anyCx.anyCx (.whenever h.anyBump.anyCx.anyCx fun h => h.stopCtx)

theorem applyEff (h : r.Calm False s) {k j e} : r.Calm False (State.applyEff k j s e) := by
  unfold State.applyEff
  dsimp only
  split
  · exact h.anyBump
  · exact h.draw.anyBump
  · exact h.draw.anyBump
  · exact h.nonfinite
  · exact h.event
  · exact .whenever h.anyCx fun h => h.stopCtx
  · exact h.modCo

theorem applyEffs (h : r.Calm False s) {k j es} : r.Calm False (s.applyEffs k j es) := by
  unfold State.applyEffs
  exact .foldl (fun _ _ h => h.applyEff) h

theorem stalls (h : r.Calm False s) {k key code} : r.Calm False (s.stalls k key code) := by
  unfold State.stalls
  exact h.draw.anyBump.modCo

theorem traceProduct (h : r.Calm False s) {k j fin} : r.Calm False (s.traceProduct k j fin) :=
  h.trace

theorem enterRows (h : r.Calm False s) {k j} : r.Calm False (s.enterRows k j) := by
  unfold State.enterRows
  exact .ite h (.modCo (.whenever (.ite h.applyEffs h.applyEffs) fun h => h.applyEffs))

theorem runMma (h : r.Calm False s) {k j reads} : r.Calm False (runMma s k j reads) := by
  unfold Sys2Proof.Machine.runMma
  exact .enterRows (.applyEffs (.setCo (.ite h.draw h)))

theorem runVec (h : r.Calm False s) {k j o reads} : r.Calm False (runVec s k j o reads) := by
  unfold Sys2Proof.Machine.runVec
  exact h.modCo.applyEffs

theorem runCvt (h : r.Calm False s) {k j reads} : r.Calm False (runCvt s k j reads) := by
  unfold Sys2Proof.Machine.runCvt
  exact h.modCo.applyEffs

theorem sendMove (h : r.Calm False s) {k j sent bs} : r.Calm False (s.sendMove k j sent bs) := by
  unfold State.sendMove
  exact .ite h (.ite h.frame h.frame)

theorem sendRead (h : r.Calm False s) {k old new reads} : r.Calm False (s.sendRead k old new reads) := by
  unfold State.sendRead
  exact .ite h h.sendMove

theorem discards (h : r.Calm False s) {k j qs} : r.Calm False (s.discards k j qs) := by
  unfold State.discards
  exact .foldl (fun _ _ h => .ite h h.applyEffs) h

theorem runJob (h : r.Calm False s) {k j reads} : r.Calm False (runJob s k j reads) := by
  unfold Sys2Proof.Machine.runJob
  dsimp only
  split
  · exact h.runMma
  · exact h.modCo
  · exact h.runCvt
  · exact h.discards.modCo
  · exact h.discards.modCo
  · refine .ite h.runVec ?_
    split
    · exact h.modCo
    · exact h.modCo
    · exact h.modCo
    · exact h.modCo
  · exact h.modCo

theorem beginJob (h : r.Calm False s) {k j} : r.Calm False (beginJob s k j) := by
  unfold Sys2Proof.Machine.beginJob
  dsimp only
  split
  · exact h.setCo.traceProduct
  · exact h.setCo
  · exact .ite h.setCo h.setCo
  · exact h.setCo

theorem meetHalf (h : r.Calm False s) {k pre j} : r.Calm False (meetHalf k pre s j).1 := by
  unfold Sys2Proof.Machine.meetHalf
  dsimp only
  split
  · exact h
  · exact .ite_fst h (.fst_mk h.setCo)

theorem pushOut {k pre n} {p : State × Job} (h : r.Calm False p.1) : r.Calm False (pushOut k pre n p).1 := by
  induction n generalizing p with
  | zero => exact h
  | succ n ih =>
    rw [Sys2Proof.Machine.pushOut]
    dsimp only
    split
    · exact h
    · exact .ite_fst h (.ite_fst (ih (h.bump (by rfl))) (.ite_fst (ih h.setCo) h))

theorem advanceJob (h : r.Calm False s) {k pre j} : Next r False (Sys2Proof.Machine.advanceJob s k pre j) := by
  unfold Sys2Proof.Machine.advanceJob
  dsimp only
  split
  · exact .ite (.some h.beginJob) .none
  · split
    · split
      · exact .ite .none (.some h.setCo)
      · refine .ite (.some (.runJob (.whenNot (.sendRead h.setCo) fun h => h.progressCl))) (.ite .none (.some ?_))
        exact .whenNot (.sendRead h.setCo) fun h => h.progressCl
    · refine .ite (.some (.progressCl ?_)) (.ite .none (.some (.progressCl (.modCo (.pushOut h.meetHalf)))))
      exact .whenNot (.whenNot (.whenever (.modCo (.pushOut h.meetHalf)) fun h => h.traceProduct) fun h => h.stalls)
        fun h => h.stalls

theorem advanceFirst (h : r.Calm False s) {k} (l pre : List Job) : Next r False (Sys2Proof.Machine.advanceFirst s k pre l) := by
  induction l generalizing pre with
  | nil => exact .none
  | cons j l ih =>
    rw [Sys2Proof.Machine.advanceFirst]
    split
    next hu => exact .some (h.advanceJob _ hu)
    next => exact ih _

theorem advanceCores (h : r.Calm False s) (l : List Nat) : Next r False (Sys2Proof.Machine.advanceCores s l) := by
  induction l with
  | nil => exact .none
  | cons k l ih =>
    rw [Sys2Proof.Machine.advanceCores]
    split
    next hu => exact .some (h.advanceFirst _ _ _ hu)
    next => exact ih

theorem blockFail (h : r.Calm C s) {cl x src b} : r.Calm C (s.blockFail cl x src b) := by
  unfold State.blockFail
  exact ((h.bump (by rfl)).charge (by exact fun _ => rfl)).event

theorem checkBlock (h : r.Calm C s) {cl x src log b} : r.Calm C (s.checkBlock cl x src log b).1 := by
  unfold State.checkBlock
  exact .ite_fst (.fst_mk (.ite (h.charge (by exact fun _ => rfl)) h)) (.ite_fst h (.fst_mk h.blockFail))

theorem placeRead (h : r.Calm False s) {p off n} : r.Calm False (s.placeRead p off n) := by
  unfold State.placeRead
  dsimp only
  split
  · exact (h.bursts (by rfl))
  · exact .whenever (.foldl (fun _ _ h => (h.countBursts (by rfl))) h) fun h => h.bumpFree (by rfl)

theorem checkPlace (h : r.Calm False s) {cl x log p bs} : r.Calm False (s.checkPlace cl x log p bs).1 := by
  unfold State.checkPlace
  exact .foldl_fst (fun _ _ h => .fst_mk h.checkBlock) h

theorem readBlocks (h : r.Calm False s) {cl t p} : r.Calm False (s.readBlocks cl t p).1 := by
  unfold State.readBlocks
  exact .fst_mk (.foldl_fst (fun _ _ h => .ite_fst h (.ite_fst (.fst_mk h.placeRead.checkBlock)
    (.fst_mk h.placeRead))) (.fst_mk (.foldl_fst (fun _ _ h => .ite_fst (.fst_mk h.checkBlock) h)
    (.fst_mk h.placeRead))))

theorem readRows (h : r.Calm False s) {cl t p} : r.Calm False (s.readRows cl t p).1 := by
  unfold State.readRows
  exact .ite_fst (.fst_mk (.ite_fst (.checkPlace (.foldl (fun _ _ h => h.placeRead) h)) (.fst_mk (.foldl
    (fun _ _ h => h.placeRead) h)))) (.ite_fst (.fst_mk (.ite_fst (.checkPlace (.foldl (fun _ _ h => h.placeRead) h))
    (.fst_mk (.foldl (fun _ _ h => h.placeRead) h)))) (.fst_mk (.ite_fst (.checkPlace (.foldl
    (fun _ _ h => h.placeRead) h)) (.fst_mk (.foldl (fun _ _ h => h.placeRead) h)))))

theorem readGather (h : r.Calm False s) {t} : r.Calm False (s.readGather t).1 := by
  unfold State.readGather
  exact .ite_fst (.fst_mk (.foldl (fun _ _ h => .ite (h.bursts (by rfl)) h) (h.bursts (by rfl)))) (.fst_mk (.foldl
    (fun _ _ h => .ite (h.bursts (by rfl)) h) (h.bursts (by rfl))))

theorem launch (h : r.Calm False s) {l} : r.Calm False (s.launch l) := h.frame

theorem writeBuilt (h : r.Calm False s) {c t l} : r.Calm False (s.writeBuilt c t l) :=
  h.launch

theorem writeBlocks (h : r.Calm False s) {c t l} : r.Calm False (s.writeBlocks c t l) :=
  h.writeBuilt

theorem writeBytes (h : r.Calm False s) {c t k off bs} : r.Calm False (s.writeBytes c t k off bs) :=
  h.launch

theorem endXfer (h : r.Calm C s) {c seq st} : r.Calm C (s.endXfer c seq st) :=
  h.modXfer

theorem sendFault (h : r.Calm False s) {c seq} : r.Calm False (s.sendFault c seq) := by
  unfold State.sendFault
  split
  · exact .ite h (h.bump (by rfl)).endXfer
  · exact h

theorem sendBlocks (h : r.Calm False s) {c t blk l} : r.Calm False (s.sendBlocks c t blk l) := by
  unfold State.sendBlocks
  exact .ite h.sendFault (.ite h.anyCx.modXfer h.anyCx.issueReq)

theorem sendAll (h : r.Calm False s) {c t blk l} : r.Calm False (s.sendAll c t blk l) := by
  unfold State.sendAll
  exact .foldl (fun _ _ h => h.sendBlocks) h

theorem setXfer (h : r.Calm False s) {c t} : r.Calm False (s.setXfer c t) :=
  h.modXfer

theorem headerPass (h : r.Calm False s) {c t q} : r.Calm False (s.headerPass c t q) :=
  h.setXfer

theorem placeReading (h : r.Calm False s) {c t q} : r.Calm False (s.placeReading c t q) := by
  unfold State.placeReading
  dsimp only
  split
  · exact (h.bump (by rfl)).setXfer
  · exact .ite (.foldl (fun _ _ h => h.sendBlocks) (h.bump (by rfl)).setXfer.sendAll) (h.bump (by rfl)).setXfer.sendAll.sendAll
  · split
    · exact .whenever ((h.bump (by rfl)).bump (by rfl)).setXfer.writeBlocks fun h => h.writeBlocks
    · exact .foldl (fun _ _ h => h.writeBytes) (.ite ((h.bump (by rfl)).bump (by rfl)).setXfer.writeBuilt (.foldl
        (fun _ _ h => h.writeBytes) ((h.bump (by rfl)).bump (by rfl)).setXfer))

theorem beginXfer (h : r.Calm False s) {c t} : r.Calm False (s.beginXfer c t) := by
  unfold State.beginXfer
  dsimp only
  refine .ite (h.bump (by rfl)).setXfer (.ite (h.bump (by rfl)).endXfer (.ite h (.ite (.headerPass ?_) (.placeReading ?_))))
  · split
    · exact h.readBlocks
    · exact h.readRows
    · exact h.readGather
  · split
    · exact h.readBlocks
    · exact h.readRows
    · exact h.readGather

theorem traceDma (h : r.Calm C s) {c t fin st} : r.Calm C (s.traceDma c t fin st) :=
  h.trace

theorem openWrites (h : r.Calm False s) {c t} : r.Calm False (s.openWrites c t) := by
  unfold State.openWrites
  dsimp only
  split
  · exact h
  · exact h.setDrawer.modXfer

theorem acceptXfer (h : r.Calm False s) {c core j} : r.Calm False (s.acceptXfer c core j) := by
  unfold State.acceptXfer
  dsimp only
  refine .ite ((h.setCl.traceDma.countBursts (by rfl)).bump (by rfl)).endXfer (.ite ((h.setCl.traceDma.countBursts (by rfl)).bump (by rfl)).endXfer
    (.ite (h.setCl.traceDma.countBursts (by rfl)).endXfer (.ite ((h.setCl.traceDma.countBursts (by rfl)).bump (by rfl)).endXfer
    (.ite (h.setCl.traceDma.countBursts (by rfl)).endXfer (.ite ((h.setCl.traceDma.countBursts (by rfl)).bump (by rfl)).endXfer ?_)))))
  split
  · exact (h.setCl.traceDma.countBursts (by rfl)).openWrites.beginXfer
  · split
    · exact ((h.setCl.traceDma.countBursts (by rfl)).bump (by rfl)).event.endXfer
    · exact ((h.setCl.traceDma.countBursts (by rfl)).bump (by rfl)).setDrawer.beginXfer

theorem drawerOffer (h : r.Calm False s) {c t die} : Next r False (s.drawerOffer c t die) := by
  unfold State.drawerOffer
  split
  · exact .none
  · dsimp only
    refine .ite (.some (.launch (.modXfer h.endStall))) (.ite .none ?_)
    split
    · exact .some (.launch (.modXfer (.endStall h.setDrawer)))
    · exact .some h.drawerJoin

theorem drainOne (h : r.Calm False s) {core q} : Next r False ((s.drainOne core q).map Prod.fst) := by
  unfold State.drainOne
  dsimp only
  split_ifs
  · exact .some h
  · exact .none
  · exact .some h.setCo

theorem checkDrained (h : r.Calm False s) {c t q b} : r.Calm False (s.checkDrained c t q b).1 :=
  h.checkBlock

theorem emitBytes (h : r.Calm False s) {c t} : r.Calm False (s.emitBytes c t) := by
  unfold State.emitBytes
  exact .ite (.ite h h.setXfer.sendAll) (.ite (.ite h (.ite h.setXfer h.setXfer.writeBlocks)) (.foldl
    (fun _ _ h => h.writeBytes) h.setXfer))

theorem emitScales (h : r.Calm False s) {c t before} : r.Calm False (s.emitScales c t before) := by
  unfold State.emitScales
  exact .ite (.ite h h.sendAll) (.ite h.modXfer (.foldl (fun _ _ h => h.writeBytes) h))

theorem emitBlock (h : r.Calm False s) {c t b} : r.Calm False (s.emitBlock c t b) := by
  unfold State.emitBlock
  exact .ite (.ite h.setXfer.sendBlocks h.setXfer) (.ite h.setXfer h.setXfer.writeBlocks)

theorem emitScaleBlock (h : r.Calm False s) {c t i b} : r.Calm False (s.emitScaleBlock c t i b) := by
  unfold State.emitScaleBlock
  exact .ite h.sendBlocks (.ite h.setXfer h.writeBlocks)

theorem advanceXfer (h : r.Calm False s) {c pre t} : Next r False (s.advanceXfer c pre t) := by
  unfold State.advanceXfer
  dsimp only
  refine .ite .none ?_
  split
  · exact .ite (.some (.setXfer h.modCo)) .none
  refine .ite ?_ ?_
  · split
    · exact .ite (.some h.beginXfer) .none
    · exact .none
  split
  next hu =>
    refine .some (.of_next (.findSome fun p => ?_) hu)
    exact .ite .none (.ite (.some h.setXfer) (.ite (.some (.endXfer (.setXfer (h.bump (by rfl)))))
      (.ite (.some (.setXfer h.setCo)) .none)))
  split
  next hu =>
    refine .some (.of_next ?_ hu)
    split
    · exact .ite h.drawerOffer .none
    · exact .none
  split
  next hu =>
    refine .some (.of_next (.ite .none (.map_fst h.drainOne fun _ h => ?_)) hu)
    exact .ite h.checkDrained.emitBlock (.emitBytes (.setXfer h.checkDrained))
  refine .ite .none (.ite (.map_fst h.drainOne fun _ h => .emitScales (.emitBytes (.setXfer h.checkDrained))) ?_)
  split
  · exact .none
  · exact .ite .none (.map_fst h.drainOne fun _ h => .emitScaleBlock (.setXfer h.checkDrained))

theorem advanceXfers (h : r.Calm False s) {c} (l pre : List Xfer) : Next r False (s.advanceXfers c pre l) := by
  induction l generalizing pre with
  | nil => exact .none
  | cons t l ih =>
    rw [State.advanceXfers]
    split
    next hu => exact .some (h.advanceXfer _ hu)
    next => exact ih _

theorem acceptNext (h : r.Calm False s) {c} : Next r False (s.acceptNext c) := by
  unfold State.acceptNext
  exact .ite .none (.findSome fun k => .bind fun j _ => .ite .none (.some (.progressCl (.acceptXfer h.modCo))))

theorem moveDone (h : r.Calm False s) {m st} : r.Calm False (s.moveDone m st) := by
  unfold State.moveDone
  split
  · exact h
  · exact h.answer

theorem landMove (h : r.Calm False s) {c} : Next r False (s.landMove c) := by
  unfold State.landMove
  extract_lets gone
  split
  · exact .none
  · refine .ite (.some (.moveDone (.bump (by rfl) h.frame))) ?_
    split
    · exact .some h.frame
    next m _ _ b q _ =>
      extract_lets put logged landed
      have hput : r.Calm False put := .whenNot h fun h => h.modCo
      have hlogged : r.Calm False logged := by
        unfold logged
        split
        · exact hput.logUnder
        · exact hput
      have hlanded : r.Calm False landed := .whenNot hlogged fun h => h.progressCl
      exact .ite (.some (.moveDone hlanded.frame)) (.some hlogged.frame)

theorem advanceCluster (h : r.Calm False s) {c} : Next r False (s.advanceCluster c) := by
  unfold State.advanceCluster
  split
  next hu => exact .some (h.advanceCores _ _ hu)
  split
  next hu => exact .some (h.acceptNext _ hu)
  split
  next hu => exact .some (h.advanceXfers _ _ _ hu).progressCl
  next => exact .map h.landMove fun _ h => h.progressCl

theorem settleFor (h : r.Calm False s) {c} {n : Nat} : r.Calm False (State.settleFor c n s) := by
  induction n generalizing s with
  | zero => exact h
  | succ n ih =>
    rw [State.settleFor]
    split
    · exact h
    next hu => exact ih (h.advanceCluster _ hu)

theorem countStalls (h : r.Calm False s) {c} : r.Calm False (s.countStalls c) := by
  unfold State.countStalls
  exact .foldl (fun _ _ h => .whenever (.ite h.stalls h) fun h => h.stalls) h

theorem settle (h : r.Calm False s) {c} : r.Calm False (s.settle c) := by
  unfold State.settle
  exact h.settleFor.countStalls

theorem drawerReadDone (h : r.Calm C s) {t} : r.Calm C (s.drawerReadDone t) := by
  unfold State.drawerReadDone
  dsimp only
  split
  · exact h
  · exact h.setDrawer.pruneDrawer.rejudge

theorem drawerWriteDone (h : r.Calm C s) {c t} : r.Calm C (s.drawerWriteDone c t) := by
  unfold State.drawerWriteDone
  dsimp only
  split
  · exact h
  · exact h.setDrawer.pruneDrawer

theorem completeXfer (h : r.Calm C s) {c t silent} : r.Calm C (s.completeXfer c t silent) := by
  unfold State.completeXfer
  dsimp only
  split
  · exact .whenNot h.modCl.drawerReadDone.drawerWriteDone.traceDma fun h => .ite (h.putChecked (by rfl)) (h.bump (by rfl))
  · exact .post (.whenNot h.modCl.drawerReadDone.drawerWriteDone.traceDma fun h => .ite (h.putChecked (by rfl)) (h.bump (by rfl)))

theorem orphanReqs (h : r.Calm C s) {c seq} : r.Calm C (s.orphanReqs c seq) := h.frame

theorem setPlan (h : r.Calm C s) {p q} : r.Calm C (s.setPlan p q) := h.frame

theorem planPost (h : r.Calm C s) {f i} : r.Calm C (s.planPost f i) :=
  h.post

theorem gatherRun (h : r.Calm C s) {f p} {n : Nat} : r.Calm C (State.gatherRun f p n s) := by
  induction n generalizing s with
  | zero => exact h
  | succ n ih =>
    rw [State.gatherRun]
    dsimp only
    split
    · exact h
    · exact .ite h (ih (.planPost h.setPlan))

theorem enginePut (h : r.Calm C s) {x k off b} : r.Calm C (s.enginePut x k off b) :=
  (h.putChecked (by rfl))

theorem engineNonfinite (h : r.Calm C s) {x n} : r.Calm C (s.engineNonfinite x n) := by
  unfold State.engineNonfinite
  exact .ite h ((h.bump (by rfl)).charge (by exact fun _ => rfl))

theorem vote (h : r.Calm C s) {n} : r.Calm C (s.vote n) := by
  unfold State.vote
  exact .ite h (h.bump (by rfl)).health

theorem voted (h : r.Calm C s) {f rs} : r.Calm C (s.voted f rs).1 := by
  unfold State.voted
  exact .fst_mk h.frame.vote

theorem toE4M3 (h : r.Calm C s) {x tensor step bl} : r.Calm C (s.toE4M3 x tensor step bl).1 := by
  unfold State.toE4M3
  exact .fst_mk (.engineNonfinite (.whenNot (.whenNot (.whenNot h.voted fun h => h.bump (by rfl)) fun h => h.bump (by rfl))
    fun h => h.bump (by rfl)))

theorem putScales (h : r.Calm C s) {f slot tensor step bad bytes} :
    r.Calm C (s.putScales f slot tensor step bad bytes) :=
  h.enginePut

theorem landUnit (h : r.Calm C s) {f p u bl} : r.Calm C (s.landUnit f p u bl) := by
  unfold State.landUnit
  exact .gatherRun (.setPlan (.whenNot (.foldl (fun _ _ h => h.enginePut) h.engineNonfinite) fun h => h.putScales))

theorem landStale (h : r.Calm C s) {f p u} : r.Calm C (s.landStale f p u) := by
  unfold State.landStale
  exact ((h.bump (by rfl)).charge (by exact fun _ => rfl)).landUnit

theorem unitBlocksIn (h : r.Calm C s) {f p entry tensor unit l} :
    r.Calm C (s.unitBlocksIn f p entry tensor unit l) := by
  unfold State.unitBlocksIn
  dsimp only
  split
  · exact h
  · exact .whenNot h.setPlan fun h => .ite h.landUnit h.landStale

theorem judgeGather (h : r.Calm C s) {f g} : r.Calm C (s.judgeGather f g).1 := by
  unfold State.judgeGather
  dsimp only
  refine .foldl_fst (fun _ _ h => .ite_fst h ?_) h
  split
  · exact .fst_mk (h.bursts (by rfl))
  · exact .fst_mk ((h.bursts (by rfl)).bump (by rfl))
  · exact h
  · exact .ite_fst h (.fst_mk (h.bump (by rfl)))

theorem replyGather (h : r.Calm C s) {f p g} : r.Calm C (s.replyGather f p g) := by
  unfold State.replyGather
  exact .ite (.unitBlocksIn (.ite_fst (.fst_mk (h.bump (by rfl))) (.ite_fst (.fst_mk (h.bump (by rfl))) (h.bump (by rfl)).toE4M3))) (.foldl
    (fun _ _ h => h.sendEp) (.ite_fst (.fst_mk (h.bump (by rfl))) (.ite_fst (.fst_mk (h.bump (by rfl))) (h.bump (by rfl)).toE4M3)))

theorem serveGather (h : r.Calm C s) {f p g} : r.Calm C (s.serveGather f p g) := by
  unfold State.serveGather
  exact .ite (h.bump (by rfl)) (.ite h.judgeGather.replyGather h.judgeGather.setPlan)

theorem regather (h : r.Calm C s) : r.Calm C s.regather := by
  unfold State.regather
  dsimp only
  refine .foldl (fun _ _ h => ?_) h
  split
  · exact h
  · exact .ite h (.foldl (fun _ _ h => h.serveGather) h.setPlan)

theorem releaseWrites (h : r.Calm C s) : r.Calm C s.releaseWrites := by
  unfold State.releaseWrites
  exact h.releaseHeld.regather

theorem setCopy (h : r.Calm C s) {x k c} : r.Calm C (s.setCopy x k c) := by
  unfold State.setCopy
  dsimp only
  split
  · exact h.modMir
  · exact h.modMir
  · exact h.frame
  · exact h.modMir

theorem sendRun (h : r.Calm C s) {x c run} : r.Calm C (s.sendRun x c run) := by
  unfold State.sendRun
  dsimp only
  refine .issueReq ?_
  split
  · exact .bump (by rfl) (.setCopy (.foldl_fst (fun _ _ h => .fst_mk (h.bursts (by rfl)).checkBlock) h))
  · exact .bump (by rfl) (.setCopy (.foldl_fst (fun _ _ h => .fst_mk (h.bursts (by rfl)).checkBlock) h))
  · exact .bump (by rfl) (.setCopy (.foldl_fst (fun _ _ h => .fst_mk (h.bursts (by rfl)).checkBlock) h))
  · exact .setCopy (.foldl_fst (fun _ _ h => .fst_mk (h.bursts (by rfl)).checkBlock) h)

theorem closeCopy (h : r.Calm C s) {x c} : r.Calm C (s.closeCopy x c) := by
  unfold State.closeCopy
  exact h.setCopy.issueReq

theorem pumpCopy (h : r.Calm C s) {x k} {n : Nat} : r.Calm C (State.pumpCopy x k n s) := by
  induction n generalizing s with
  | zero => exact h
  | succ n ih =>
    rw [State.pumpCopy]
    dsimp only
    split
    · exact h
    · exact .ite (.ite h (ih h.sendRun)) (.ite h.closeCopy h)

theorem runCopy (h : r.Calm C s) {x k} : r.Calm C (s.runCopy x k) := by
  unfold State.runCopy
  exact h.pumpCopy.releaseWrites

theorem startMirror (h : r.Calm C s) {x step set} : r.Calm C (s.startMirror x step set) := by
  unfold State.startMirror
  exact h.modMir.runCopy

theorem startCkpt (h : r.Calm C s) {x step} : r.Calm C (s.startCkpt x step) := by
  unfold State.startCkpt
  dsimp only
  split
  · exact h
  · exact h.modMir.runCopy

theorem startIdle (h : r.Calm C s) {x} : r.Calm C (s.startIdle x) := by
  unfold State.startIdle
  exact .ite h (.startCkpt (.ite h.startMirror h))

theorem startAtCommit (h : r.Calm C s) {x step} : r.Calm C (s.startAtCommit x step) := by
  unfold State.startAtCommit
  exact .startCkpt (.whenever h.modMir fun h => h.startMirror)

theorem orphanCopy (h : r.Calm C s) {x k} : r.Calm C (s.orphanCopy x k) := h.frame

theorem startLog (h : r.Calm C s) {x} : r.Calm C (s.startLog x) := by
  unfold State.startLog
  dsimp only
  split
  · exact h
  · exact .ite h h.modMir.runCopy

theorem endCopy (h : r.Calm C s) {x k} : r.Calm C (s.endCopy x k) := by
  unfold State.endCopy
  exact h.orphanCopy.setCopy.releaseWrites.startIdle.startLog

theorem copyComplete (h : r.Calm C s) {x c} : r.Calm C (s.copyComplete x c) := by
  unfold State.copyComplete
  dsimp only
  refine .endCopy ?_
  split
  · exact h.modMir
  · exact h.modMir
  · exact h.frame
  · exact h

theorem copyFail (h : r.Calm C s) {x c status} : r.Calm C (s.copyFail x c status) := by
  unfold State.copyFail
  dsimp only
  refine .endCopy ?_
  split
  · exact (h.bump (by rfl)).modMir.event.report
  · exact h.modMir.event.report
  · exact h.frame.event.report
  · exact h

theorem copyResp (h : r.Calm C s) {x kind closing ok status short} :
    r.Calm C (s.copyResp x kind closing ok status short) := by
  unfold State.copyResp
  dsimp only
  split
  · exact h
  · exact .ite h.copyFail (.ite h.copyComplete h.setCopy.runCopy)

theorem counter (h : r.Calm C s) {l k i} : r.Calm C (s.counter l k i).1 := by
  unfold State.counter
  exact .ite_fst (.fst_mk h.draw) (.ite_fst h (.ite_fst (.fst_mk h.draw) h))

theorem sample (h : r.Calm C s) {c fin} : r.Calm C (s.sample c fin).1 := by
  unfold State.sample
  exact .foldl_fst (fun _ _ h => .foldl_fst (fun _ _ h => .fst_mk h.counter) h) h

theorem writeSample (h : r.Calm C s) {c w} : r.Calm C (s.writeSample c w) := by
  unfold State.writeSample
  exact .ite (h.putChecked (by rfl)) (h.bump (by rfl))

theorem completeCmd (h : r.Calm C s) {x cmd status code sectNo slot add} :
    r.Calm C (s.completeCmd x cmd status code sectNo slot add) := by
  unfold State.completeCmd
  dsimp only
  split
  · exact h.writeSpace.progressCx
  · exact h.writeSpace.progressCx.post

theorem runBoundary (h : r.Calm C s) {x c} : r.Calm C (s.runBoundary x c) := by
  unfold State.runBoundary
  refine .foldl (fun _ _ h => h.completeCmd) (h.modCxAt fun _ => ⟨rfl, rfl, rfl, rfl, rfl, id, id, fun hnil => ?_⟩)
  simp [hnil]

theorem boundary (h : r.Calm C s) {c} : r.Calm C (s.boundary c) := by
  unfold State.boundary
  exact .runBoundary (.modCl (.foldl (fun _ _ h => h.modCo) h.sample.writeSample.emptyQueues))

theorem forceBoundary (h : r.Calm C s) {c} : r.Calm C (s.forceBoundary c) := by
  unfold State.forceBoundary
  exact .ite h.boundary h

theorem undoRestore (h : r.Calm C s) {x num} : r.Calm C (s.undoRestore x num) := by
  unfold State.undoRestore
  exact .foldl (fun _ _ h => .foldl (fun _ _ h => .ite h (.ite (h.bump (by rfl)) (h.put (by rfl)))) h) h

theorem killXfer (h : r.Calm C s) {c seq st silent} : r.Calm C (s.killXfer c seq st silent) := by
  unfold State.killXfer
  dsimp only
  split
  · exact h
  · split
    · exact h.endStall.orphanReqs.endXfer.completeXfer
    · exact h.endStall.orphanReqs.endXfer

theorem closeDrawers (h : r.Calm C s) {x steps} : r.Calm C (s.closeDrawers x steps) := by
  unfold State.closeDrawers
  dsimp only
  refine .foldl (fun _ _ h => .ite h (.rejudge (.foldl (fun _ _ h => ?_) (h.setDrawer.bump (by rfl))))) h
  split
  · exact .ite h.killXfer h
  · exact h

theorem rollPlans (h : r.Calm C s) {x t gone} : r.Calm C (s.rollPlans x t gone) := by
  unfold State.rollPlans
  dsimp only
  refine .foldl (fun _ _ h => ?_) h
  split
  · exact .whenNot h.setPlan fun h => h.gatherRun
  · exact h.setPlan

theorem stopClusters (h : r.Calm C s) {x} : r.Calm C (s.stopClusters x) := by
  unfold State.stopClusters
  exact .foldl (fun _ _ h => .ite h.forceBoundary h) h

end State.Calm

end Sys2Proof.Machine
end

section
/-!
PROOFS. Requests without an answer: sent again, and given up (spec/13_ryuryn_links.md R427, R428).
-/

namespace Sys2Proof.Machine

open Sys2Proof.Claims

section
variable {s : State} {io e tag : Nat} {r : Req}

/-! ### A request is sent again -/

/-- A request as its entry now gives it, once more retransmitted. -/
def State.reissued (s : State) (io e : Nat) (r : Req) : Req :=
  { r with msg := s.restamp io e r.msg, retries := r.retries + 1 }

/-- The state in which a request is sent again. -/
def State.retrying (s : State) (io e : Nat) (r : Req) : State :=
  ({ s.reach (r.sent + r.wait) with
      links := { s.links with
        reqs := s.links.reqs.map (fun q => if q = r then { s.reissued io e r with sent := max s.now (r.sent + r.wait) } else q) } }
    : State).bump K.REQ_RETRANSMITS 1

theorem State.retransmit_of_none (h : s.req io e tag = none) : s.retransmit io e tag = s := by
  rw [State.retransmit, h]

theorem State.retransmit_of_over (hreq : s.req io e tag = some r) (h : r.limit ≤ r.retries ∨ s.unsent r = true) :
    s.retransmit io e tag = s := by
  rw [State.retransmit, hreq]
  exact if_pos (by rw [Bool.or_assoc, Bool.or_eq_true]; exact .inr (by simpa using h))

theorem State.retransmit_of_due (hlive : s.live = true) (hreq : s.req io e tag = some r) (hsent : s.unsent r = false)
    (hleft : r.retries < r.limit) : s.retransmit io e tag =
      (s.retrying io e r).sendMask (epPorts io (s.ep io e)) (s.reissued io e r).msg := by
  rw [State.retransmit, hreq]
  exact if_neg (by simp [hlive, hsent, hleft])

theorem State.retrying_timeless : (s.retrying io e r).links.reqs.map timeless =
    s.links.reqs.map (fun q => timeless (if q = r then s.reissued io e r else q)) := by
  unfold State.retrying
  rw [State.bump_links, List.map_map]
  refine List.map_congr_left fun q _ => ?_
  rw [Function.comp_apply]
  split_ifs <;> rfl

theorem State.mem_retrying (hreq : s.req io e tag = some r) :
    { s.reissued io e r with sent := max s.now (r.sent + r.wait) } ∈ (s.retrying io e r).links.reqs :=
  List.mem_map.mpr ⟨r, List.mem_of_find?_eq_some hreq, if_pos rfl⟩

/-! ### A request is given up -/

theorem State.exhaust_of_none (h : s.req io e tag = none) : s.exhaust io e tag = s := by
  rw [State.exhaust, h]

theorem State.exhaust_of_left (hreq : s.req io e tag = some r) (h : r.retries < r.limit ∨ s.unsent r = true) :
    s.exhaust io e tag = s := by
  rw [State.exhaust, hreq]
  exact if_pos (by rw [Bool.or_assoc, Bool.or_eq_true]; exact .inr (by simpa using h))

/-- The state in which a request has been counted and taken out of the list. -/
def State.withdrawn (s : State) (io e tag : Nat) (r : Req) : State :=
  let u := ((s.reach (r.sent + r.wait)).bump K.REQ_EXHAUSTED 1).event (32 + io) 0x14
    (r.msg.common.ctx <<< 52 + r.msg.common.vc <<< 49 + io <<< 46 + e <<< 28 + tag)
  { u with links := { u.links with reqs := u.links.reqs.erase r } }

/-- Does a report tell that a request has been given up? -/
def Req.told (r : Req) : Bool := match r.owner with | .copy _ _ _ => false | _ => !r.orphan

/-- What a request given up leaves, before the requests that wait go on. -/
def State.abandoned (s : State) (io e tag : Nat) (r : Req) : State :=
  if r.told then ((s.withdrawn io e tag r).giveUp r).reportCtx 0x06 r.msg.common.ctx
      (e + io <<< 18 + tag <<< 20 + r.msg.common.vc <<< 36)
  else (s.withdrawn io e tag r).giveUp r

theorem State.exhaust_of_due (hlive : s.live = true) (hreq : s.req io e tag = some r) (hsent : s.unsent r = false)
    (hleft : r.limit ≤ r.retries) : s.exhaust io e tag = (s.abandoned io e tag r).pumpEntry io e := by
  rw [State.exhaust, hreq]
  exact if_neg (by simp [hlive, hsent, hleft])

end

namespace State.Calm
variable {r s : State}

theorem giveUp (h : r.Calm False s) {q} : r.Calm False (s.giveUp q) := by
  unfold State.giveUp
  refine .ite h ?_
  split
  · exact h.killXfer.settle
  · exact h
  · exact h.copyResp

theorem pumpEntry {C : Prop} (h : r.Calm C s) {io e} : r.Calm C (s.pumpEntry io e) := by
  unfold State.pumpEntry
  refine .whenNot h.pumpReqs fun h => .foldl (fun _ _ h => .foldl (fun _ _ h => ?_) h) h
  split
  · exact .whenever h fun h => h.runCopy
  · exact h

end State.Calm

section
variable {s : State} {io e tag : Nat} {r : Req}

theorem State.withdrawn_calm : (s.reach (r.sent + r.wait)).Calm False (s.withdrawn io e tag r) :=
  (State.Calm.anyBump (.refl _ False)).event.frame

theorem State.abandoned_calm : (s.reach (r.sent + r.wait)).Calm False (s.abandoned io e tag r) :=
  .whenever State.withdrawn_calm.giveUp fun h => h.report

/-- A semaphore operation has no owner to tell. -/
theorem State.abandoned_noticed {x : Nat} (hsem : r.owner = .sem x) :
    (s.withdrawn io e tag r).Noticed (s.abandoned io e tag r) := by
  have hgone : (s.withdrawn io e tag r).giveUp r = s.withdrawn io e tag r := by
    simp [State.giveUp, hsem]
  unfold State.abandoned
  rw [hgone]
  exact .ite (.reportCtx _ _ _ _) (.refl _)

theorem State.withdrawn_links : (s.withdrawn io e tag r).links = { s.links with reqs := s.links.reqs.erase r } := by
  unfold State.withdrawn
  rw [State.event_frame]
  rfl

theorem State.withdrawn_counted :
    (s.withdrawn io e tag r).par K.REQ_EXHAUSTED = (s.par K.REQ_EXHAUSTED + 1) % 2 ^ 64 := by
  have hevent : (s.withdrawn io e tag r).par K.REQ_EXHAUSTED =
      ((s.reach (r.sent + r.wait)).bump K.REQ_EXHAUSTED 1).par K.REQ_EXHAUSTED :=
    (State.Noticed.event _ _ _ _).par_eq K.REQ_EXHAUSTED rfl
  rw [hevent, State.bump_par_same]
  rfl

theorem State.pumpReqs_of_none (h : s.links.waiting = []) : s.pumpReqs io e = s := by
  calc s.pumpReqs io e = { s with links := { s.links with waiting := [] } } := by
        simp only [State.pumpReqs, h, List.filter_nil, List.take_nil, List.foldl_nil]
    _ = { s with links := { s.links with waiting := s.links.waiting } } := by rw [h]

theorem State.pumpEntry_of_none (h : s.links.waiting = []) (hio : io ≠ 0) : s.pumpEntry io e = s := by
  unfold State.pumpEntry
  rw [State.pumpReqs_of_none h]
  exact if_pos hio

theorem State.abandoned_semaphore {x : Nat} (hsem : r.owner = .sem x) (hio : io ≠ 0) (hwaiting : s.links.waiting = []) :
    let t := (s.abandoned io e tag r).pumpEntry io e
    t.links.reqs.map timeless = (s.links.reqs.erase r).map timeless ∧
      t.par K.REQ_EXHAUSTED = (s.par K.REQ_EXHAUSTED + 1) % 2 ^ 64 := by
  have hnoticed : (s.withdrawn io e tag r).Noticed (s.abandoned io e tag r) := State.abandoned_noticed hsem
  have hlinks : (s.withdrawn io e tag r).links = _ := State.withdrawn_links
  have hnone : (s.abandoned io e tag r).links.waiting = [] := by
    rw [hnoticed.frame, hlinks]
    exact hwaiting
  intro t
  have ht : t = s.abandoned io e tag r := State.pumpEntry_of_none hnone hio
  rw [ht]
  refine ⟨?_, ?_⟩
  · rw [hnoticed.resent.timeless, hlinks]
  · rw [hnoticed.par_eq _ rfl, State.withdrawn_counted]

end

/-! ### The statement -/

/-- Settles O33. The times are those of the model's deadlines (log 1), and the rows that find nothing to do leave the state
as it is (log 8). -/
theorem requestsAreRepeatedThenGivenUp : Obligations.RequestsAreRepeatedThenGivenUp := by
  intro io e tag s hlive
  refine ⟨fun hnone => ?_, fun r hreq hunsent => ?_, fun r hreq hsent hleft => ?_, fun r hreq hsent hleft => ?_⟩
  · exact ⟨exec_next_of_eq rfl (State.retransmit_of_none hnone) rfl rfl,
      exec_next_of_eq rfl (State.exhaust_of_none hnone) rfl rfl⟩
  · exact ⟨exec_next_of_eq rfl (State.retransmit_of_over hreq (.inr hunsent)) rfl rfl,
      exec_next_of_eq rfl (State.exhaust_of_left hreq (.inr hunsent)) rfl rfl⟩
  · refine ⟨exec_next_of_eq rfl (State.exhaust_of_left hreq (.inl hleft)) rfl rfl, ?_⟩
    have hresent := State.Resent.sendMask (s.retrying io e.toNat r) (epPorts io (s.ep io e.toNat)) (s.reissued io e.toNat r).msg
    have hnoticed := State.Noticed.sendMask (s.retrying io e.toNat r) (epPorts io (s.ep io e.toNat))
      (s.reissued io e.toNat r).msg
    refine ⟨_, exec_next_of_eq rfl (State.retransmit_of_due hlive hreq hsent hleft) hnoticed.pending_eq hnoticed.part_eq,
      hnoticed.now_eq, ?_, ?_, ?_, hnoticed.side_eq, hnoticed.pkg_eq, hnoticed.cores_eq, ?_, ?_⟩
    · rw [hnoticed.par_eq _ rfl]
      exact State.bump_par_same _ _ _
    · exact hresent.timeless.trans State.retrying_timeless
    · obtain ⟨q, hq, htimeless, hsentq⟩ := hresent.exists_sent (State.mem_retrying hreq) rfl
      exact ⟨q, hq, htimeless, hsentq⟩
    · rw [hnoticed.frame]
      rfl
    · obtain ⟨l, hl⟩ := State.sendMask_links (s.retrying io e.toNat r) (epPorts io (s.ep io e.toNat))
        (s.reissued io e.toNat r).msg
      rw [hl]
      rfl
  · refine ⟨exec_next_of_eq rfl (State.retransmit_of_over hreq (.inl hleft)) rfl rfl, ?_⟩
    have hcalm : (s.reach (r.sent + r.wait)).Calm False ((s.abandoned io e.toNat tag.toNat r).pumpEntry io e.toNat) :=
      State.abandoned_calm.pumpEntry
    exact ⟨_, exec_next_of_eq rfl (State.exhaust_of_due hlive hreq hsent hleft) hcalm.pending_eq hcalm.part_eq,
      hcalm.now_eq, fun x hsem hio hwaiting => State.abandoned_semaphore hsem hio hwaiting⟩

end Sys2Proof.Machine
end

section
/-!
PROOFS. What a teardown leaves (spec/16_hang_reset_recovery.md R479, R480), by its stages.
-/

namespace Sys2Proof.Machine

open Sys2Proof.Claims

/-! ### Entries of a table that are written together -/

section
variable {α : Type} [DecidableEq α]

theorem Tbl.get_foldl_put_other (d : α) (g : α → α) (l t : Tbl α) {k : Nat} (hk : k ∉ l.map (·.1)) :
    Tbl.get (l.foldl (fun u e => Tbl.put u d e.1 (g e.2)) t) d k = Tbl.get t d k := by
  induction l generalizing t with
  | nil => rfl
  | cons e l ih =>
    obtain ⟨hne, hk⟩ := not_or.mp (List.mem_cons.not.mp hk)
    rw [List.foldl_cons, ih _ hk, Tbl.get_put_ne _ _ _ hne]

theorem Tbl.get_foldl_put_mem (d : α) (g : α → α) (l t : Tbl α) (hl : (l.map (·.1)).Nodup) {e : Nat × α} (he : e ∈ l) :
    Tbl.get (l.foldl (fun u e => Tbl.put u d e.1 (g e.2)) t) d e.1 = g e.2 := by
  induction l generalizing t with
  | nil => cases he
  | cons a l ih =>
    obtain ⟨ha, hl⟩ := List.nodup_cons.mp hl
    rw [List.foldl_cons]
    obtain rfl | he := List.mem_cons.mp he
    · rw [Tbl.get_foldl_put_other d g l _ ha, Tbl.get_put_same]
    · exact ih _ hl he

omit [DecidableEq α] in
theorem Tbl.get_of_mem {t : Tbl α} {d : α} (ht : (t.map (·.1)).Nodup) {e : Nat × α} (he : e ∈ t) : Tbl.get t d e.1 = e.2 := by
  induction t with
  | nil => cases he
  | cons a t ih =>
    obtain ⟨ha, ht⟩ := List.nodup_cons.mp ht
    obtain rfl | he := List.mem_cons.mp he
    · exact if_pos rfl
    · have hne : a.1 ≠ e.1 := fun h => ha (List.mem_map.mpr ⟨e, he, h.symm⟩)
      exact (if_neg hne).trans (ih ht he)

omit [DecidableEq α] in
theorem Tbl.mem_of_get_ne {t : Tbl α} {d : α} {k : Nat} (h : Tbl.get t d k ≠ d) : (k, Tbl.get t d k) ∈ t := by
  induction t with
  | nil => exact absurd rfl h
  | cons a t ih =>
    obtain ⟨i, v⟩ := a
    rw [Tbl.get] at h ⊢
    split_ifs at h ⊢ with hi
    · exact hi ▸ .head _
    · exact .tail _ (ih h)

theorem Tbl.nodup_of_wf {t : Tbl α} {d : α} (h : Tbl.wf t d = true) : (t.map (·.1)).Nodup :=
  ((Tbl.wf_iff t d).mp h).1.imp Nat.ne_of_lt

end

/-! ### The keys of a context -/

/-- The key table without the valid bits of the keys of a context (R480). -/
def revokedKeys (keys : Tbl (BitVec 256)) (x : Nat) : Tbl (BitVec 256) :=
  (keys.filter (fun e => bits e.2.toNat 79 76 = x)).foldl
    (fun l e => Tbl.put l 0 e.1 (BitVec.ofNat 256 (setBits e.2.toNat 0 0 0))) keys

theorem keyF_valid_cleared (v : Nat) : (keyF (BitVec.ofNat 256 (setBits v 0 0 0)).toNat).valid = false := by
  simp only [keyF, bit, setBits, BitVec.toNat_ofNat, Nat.shiftRight_eq_div_pow, Nat.shiftLeft_eq, beq_eq_false_iff_ne]
  omega

section
variable {s t : State} {x : Nat} (hkeys : t.keys = revokedKeys s.keys x) (hwf : Tbl.wf s.keys 0 = true)
include hkeys hwf

theorem State.key_of_revoked {k : Nat} (hk : (s.key k).ctx = x) : (t.key k).valid = false := by
  have hnodup : ((s.keys.filter (fun e => bits e.2.toNat 79 76 = x)).map (·.1)).Nodup :=
    (List.filter_sublist.map _).nodup (Tbl.nodup_of_wf hwf)
  rw [State.key, hkeys]
  by_cases hzero : Tbl.get s.keys 0 k = 0
  · have hnone : k ∉ (s.keys.filter (fun e => bits e.2.toNat 79 76 = x)).map (·.1) := by
      intro hmem
      obtain ⟨e, he, rfl⟩ := List.mem_map.mp hmem
      have hin := List.mem_of_mem_filter he
      exact ((Tbl.wf_iff _ _).mp hwf).2 e hin ((Tbl.get_of_mem (Tbl.nodup_of_wf hwf) hin).symm.trans hzero)
    rw [revokedKeys, Tbl.get_foldl_put_other 0 (fun v => BitVec.ofNat 256 (setBits v.toNat 0 0 0)) _ _ hnone, hzero]
    rfl
  · have hmem : (k, Tbl.get s.keys 0 k) ∈ s.keys.filter (fun e => bits e.2.toNat 79 76 = x) :=
      List.mem_filter.mpr ⟨Tbl.mem_of_get_ne hzero, decide_eq_true hk⟩
    rw [revokedKeys, Tbl.get_foldl_put_mem 0 (fun v => BitVec.ofNat 256 (setBits v.toNat 0 0 0)) _ _ hnodup hmem]
    exact keyF_valid_cleared _

theorem State.key_of_kept {k : Nat} (hk : (s.key k).ctx ≠ x) : t.key k = s.key k := by
  have hnone : k ∉ (s.keys.filter (fun e => bits e.2.toNat 79 76 = x)).map (·.1) := by
    intro hmem
    obtain ⟨e, he, rfl⟩ := List.mem_map.mp hmem
    obtain ⟨hin, hctx⟩ := List.mem_filter.mp he
    refine hk ?_
    rw [State.key, Tbl.get_of_mem (Tbl.nodup_of_wf hwf) hin]
    exact of_decide_eq_true hctx
  rw [State.key, hkeys, revokedKeys,
    Tbl.get_foldl_put_other 0 (fun v => BitVec.ofNat 256 (setBits v.toNat 0 0 0)) _ _ hnone, State.key]

end

/-! ### The stages of a teardown (R480) -/

section
variable (s : State) (x : Nat)

/-- The context is no longer open, and its commands are taken out of it. -/
def State.halting : State := (s.dropCmds x).modCx x (fun c => { c with st := .teardown })

/-- Steps 1 and 2: its clusters, copies, commands and plans are stopped. -/
def State.halted : State :=
  let u := (s.cx x).inProgress.foldl (fun s c => s.completeCmd x c 9 0 0 0 false)
    (((s.halting x).stopClusters x).stopCopies x)
  (u.plansOf x).foldl (fun s p => s.setPlan p {}) u

/-- The state without the writes, moves, requests and held messages of a context. -/
def State.dropped : State :=
  { s with
    accesses := s.accesses.filter (fun a => a.ctx ≠ x)
    moves := s.moves.filter (fun m => m.ctx ≠ x)
    links := { s.links with
      reqs := s.links.reqs.filter (fun r => !decide (s.reqCtx r = some x))
      waiting := s.links.waiting.filter (fun r => !decide (s.reqCtx r = some x))
      held := s.links.held.filter (fun h => h.ctx ≠ x) } }

/-- The state without the transfers of a context. -/
def State.untransferred : State :=
  (List.range 32).foldl (fun s k => s.modCl k (fun l => { l with xfers := l.xfers.filter (fun t => t.ctx ≠ x) })) s

/-- Step 3: what it has on its way is dropped. -/
def State.flushed : State :=
  let n := (s.accesses.filter (fun a => a.ctx = x)).length
  let v := (s.dropped x).untransferred x
  (if n = 0 then v else v.bump K.STALE_LOCAL_DROPS n).grantHeld x

/-- Step 4: the stores are restored from the undo blocks of some steps, and the verdict of the first is recorded. -/
def State.unwound (steps : List Step) : State :=
  let u := steps.reverse.foldl (fun s u => s.undoRestore x u.num) s
  match steps with
  | [] => u
  | t :: _ => u.recordVerdict x (u.localVerdict x t.num t.attempt 8)

/-- The context without steps. -/
def State.stepless : State :=
  s.modCx x (fun c => { c with steps := [], replay := none, verdicts := [], aborting := false, orphaned := false })

/-- Steps 5 to 7: its drawers are empty, its keys are no longer valid, and it is closed. -/
def State.shutDown : State :=
  let u := (List.range 4).foldl (fun s d => s.setDrawer x d {}) s
  (({ u with keys := revokedKeys u.keys x } : State).modCx x (fun c => { c with st := .closed })).bump K.TEARDOWNS 1

/-- The state of a context that has been torn down, before the report of a hard teardown. -/
def State.tornDown : State :=
  ((((s.halted x).flushed x).unwound x (s.cx x).steps).stepless x).shutDown x

variable {s x}

theorem State.teardown_of_closed {soft : Bool} {domain : Nat} (h : (s.cx x).st = .closed ∨ (s.cx x).st = .teardown) :
    s.teardown x soft domain = s :=
  if_pos (by simpa using h)

theorem State.teardown_of_open {soft : Bool} {domain : Nat} (h : (s.cx x).st = .opened ∨ (s.cx x).st = .stopped) :
    s.teardown x soft domain =
      if soft then s.tornDown x
      else
        let t := (s.tornDown x).report 0x11 (some (x, (s.cx x).newest)) domain
        if domain = 0 then t else t.startFenceWait x := by
  have hopen : ¬ (decide ((s.cx x).st = .closed) || decide ((s.cx x).st = .teardown)) = true := by
    obtain h | h := h <;> simp [h]
  refine (if_neg hopen).trans ?_
  unfold State.tornDown State.unwound
  cases (s.cx x).steps <;> rfl

/-! ### What the stages leave -/

theorem State.halting_calm {y : Nat} (hy : y ≠ x) : ((s.cx y).Calm ((s.halting x).cx y)) := by
  have hother : (s.halting x).cx y = s.cx y := by
    rw [State.halting, State.dropCmds, State.modCx_cx, if_neg hy, State.modCx_cx, if_neg hy]
  rw [hother]
  exact .refl _

theorem State.halted_calm : (s.halting x).Calm True (s.halted x) := by
  have hstopped : (s.halting x).Calm True (((s.halting x).stopClusters x).stopCopies x) := by
    unfold State.stopCopies
    exact ((State.Calm.refl _ True).stopClusters.modMir (x := x)).whenever fun h => h.frame
  have hcommands := State.Calm.foldl (l := (s.cx x).inProgress) (f := fun s c => s.completeCmd x c 9 0 0 0 false)
    (fun _ _ h => h.completeCmd) hstopped
  exact .foldl (fun _ _ h => h.setPlan) hcommands

theorem State.flushed_calm : s.Calm True (s.flushed x) := by
  unfold State.flushed
  exact .grantHeld (.whenNot (.foldl (fun _ _ h => h.modCl) (State.Calm.refl s True).frame) fun h => h.bump (by rfl))

theorem State.unwound_calm (steps : List Step) : s.Calm True (s.unwound x steps) := by
  have hundone := State.Calm.foldl (l := steps.reverse) (f := fun s u => s.undoRestore x u.num)
    (fun _ _ h => h.undoRestore) (State.Calm.refl s True)
  unfold State.unwound
  cases steps with
  | nil => exact hundone
  | cons t rest => exact hundone.modCx fun _ => ⟨rfl, rfl, rfl, rfl, rfl, id, id, id⟩

theorem State.grantHeld_ports (s : State) (x : Nat) :
    ∃ p, s.grantHeld x = { s with links := { s.links with ports := p } } := by
  unfold State.grantHeld
  generalize List.range 27 = l
  induction l generalizing s with
  | nil => exact ⟨_, rfl⟩
  | cons q l ih =>
    rw [List.foldl_cons]
    dsimp only
    split_ifs
    · exact ih s
    · obtain ⟨p, hp⟩ := ih _
      exact ⟨p, hp⟩

theorem State.stored_foldl {α : Type} {f : State → α → State} (hf : ∀ (s : State) (a : α), s.Stored (f s a)) (as : List α)
    (s : State) : s.Stored (as.foldl f s) := by
  induction as generalizing s with
  | nil => exact .refl s
  | cons a as ih => exact (hf s a).trans (ih (f s a))

theorem State.undoRestore_stored (s : State) (x num : Nat) : s.Stored (s.undoRestore x num) := by
  unfold State.undoRestore
  refine State.stored_foldl (fun s p => ?_) _ _
  refine State.stored_foldl (fun s b => ?_) _ _
  dsimp only
  split_ifs
  · exact .refl s
  · exact .bump _ _ _
  · exact .put _ _ _ _ _ _

/-- Nothing of the context `x` is on its way. -/
structure State.Idle (s : State) (x : Nat) : Prop where
  xfers : ∀ c < 32, (s.cl c).xfers.all (fun u => u.ctx ≠ x) = true
  accesses : s.accesses.all (fun a => a.ctx ≠ x) = true
  moves : s.moves.all (fun m => m.ctx ≠ x) = true
  held : s.links.held.all (fun h => h.ctx ≠ x) = true

theorem State.Idle.of_eq {t : State} (h : s.Idle x) (hclusters : t.clusters = s.clusters) (haccesses : t.accesses = s.accesses)
    (hmoves : t.moves = s.moves) (hheld : t.links.held = s.links.held) : t.Idle x where
  xfers c hc := by
    rw [State.cl, hclusters]
    exact h.xfers c hc
  accesses := haccesses ▸ h.accesses
  moves := hmoves ▸ h.moves
  held := hheld ▸ h.held

theorem State.untransferred_idle : ((s.dropped x).untransferred x).Idle x := by
  obtain ⟨c, hc⟩ := State.foldl_modCl_clusters (fun l => { l with xfers := l.xfers.filter (fun t => t.ctx ≠ x) })
    (List.range 32) (s.dropped x)
  have hframe : (s.dropped x).untransferred x = { s.dropped x with clusters := c } := hc
  refine ⟨fun k hk => ?_, ?_, ?_, ?_⟩
  · have hcl : ((s.dropped x).untransferred x).cl k = _ := State.foldl_modCl_cl _ List.nodup_range (s.dropped x) k
    rw [hcl, if_pos (List.mem_range.mpr hk)]
    simp
  all_goals
    rw [hframe]
    simp [State.dropped]

theorem State.flushed_idle : (s.flushed x).Idle x := by
  unfold State.flushed
  extract_lets n v
  have hv : v.Idle x := State.untransferred_idle
  clear_value v n
  have hcounted : (if n = 0 then v else v.bump K.STALE_LOCAL_DROPS n).Idle x := by
    split_ifs
    · exact hv
    · exact hv.of_eq rfl rfl rfl rfl
  obtain ⟨p, hp⟩ := State.grantHeld_ports (if n = 0 then v else v.bump K.STALE_LOCAL_DROPS n) x
  rw [hp]
  exact hcounted.of_eq rfl rfl rfl rfl

theorem State.unwound_idle (steps : List Step) (h : s.Idle x) : (s.unwound x steps).Idle x := by
  have hundone : s.Stored (steps.reverse.foldl (fun s u => s.undoRestore x u.num) s) :=
    State.stored_foldl (fun s (u : Step) => s.undoRestore_stored x u.num) _ _
  have hidle : (steps.reverse.foldl (fun s u => s.undoRestore x u.num) s).Idle x := by
    rw [hundone]
    exact h.of_eq rfl rfl rfl rfl
  unfold State.unwound
  cases steps with
  | nil => exact hidle
  | cons t rest => exact hidle.of_eq rfl rfl rfl rfl

/-! ### A context that has been torn down -/

/-- Steps 5 to 7 change the context's drawers, its keys, its state and one counter. -/
theorem State.shutDown_eq (s : State) (x : Nat) : ∃ w, s.shutDown x =
    (({ s with drawers := w, keys := revokedKeys s.keys x } : State).modCx x (fun c => { c with st := .closed })).bump
      K.TEARDOWNS 1 := by
  have hdrawers : ∃ w, (List.range 4).foldl (fun s d => s.setDrawer x d {}) s = { s with drawers := w } := by
    generalize List.range 4 = l
    induction l generalizing s with
    | nil => exact ⟨_, rfl⟩
    | cons d l ih =>
      obtain ⟨w, hw⟩ := ih (s.setDrawer x d {})
      exact ⟨w, hw⟩
  obtain ⟨w, hw⟩ := hdrawers
  refine ⟨w, ?_⟩
  unfold State.shutDown
  rw [hw]

theorem State.shutDown_cx (s : State) (x y : Nat) :
    (s.shutDown x).cx y = if y = x then { s.cx x with st := .closed } else s.cx y := by
  obtain ⟨w, hw⟩ := s.shutDown_eq x
  rw [hw]
  exact State.modCx_cx { s with drawers := w, keys := revokedKeys s.keys x } x (fun c => { c with st := .closed }) y

theorem State.shutDown_par (s : State) (x k : Nat) :
    (s.shutDown x).par k = if k = K.TEARDOWNS then (s.par K.TEARDOWNS + 1) % 2 ^ 64 else s.par k := by
  obtain ⟨w, hw⟩ := s.shutDown_eq x
  rw [hw]
  exact State.bump_par _ _ _ _

theorem State.shutDown_still (s : State) (x : Nat) :
    (s.shutDown x).still = { s.still with keys := revokedKeys s.keys x } := by
  obtain ⟨w, hw⟩ := s.shutDown_eq x
  rw [hw]
  rfl

theorem State.stepless_par (s : State) (x k : Nat) : (s.stepless x).par k = s.par k := rfl

theorem State.stepless_still (s : State) (x : Nat) : (s.stepless x).still = s.still := rfl

theorem State.stepless_keys (s : State) (x : Nat) : (s.stepless x).keys = s.keys := rfl

/-- The state after step 4. -/
def State.unwoundAll (s : State) (x : Nat) : State := ((s.halted x).flushed x).unwound x (s.cx x).steps

theorem State.unwoundAll_calm : (s.halting x).Calm True (s.unwoundAll x) :=
  (State.halted_calm.trans State.flushed_calm).trans (State.unwound_calm _)

theorem State.unwoundAll_idle : (s.unwoundAll x).Idle x := State.unwound_idle _ State.flushed_idle

theorem State.tornDown_eq : s.tornDown x = ((s.unwoundAll x).stepless x).shutDown x := rfl

theorem State.halting_cx : (s.halting x).cx x = { s.cx x with cur := none, running := [], wait := none, st := .teardown } := by
  rw [State.halting, State.dropCmds, State.modCx_cx_same, State.modCx_cx_same]

theorem State.tornDown_closed : let c := (s.tornDown x).cx x
    c.st = .closed ∧ c.steps = [] ∧ c.replay = none ∧ c.cur = none ∧ c.running = [] ∧ c.orphaned = false := by
  have hcalm := (State.unwoundAll_calm (s := s) (x := x)).cx trivial x
  rw [State.halting_cx] at hcalm
  rw [State.tornDown_eq, State.shutDown_cx, if_pos rfl, State.stepless, State.modCx_cx_same]
  exact ⟨rfl, rfl, rfl, hcalm.cur_none rfl, hcalm.running_nil rfl, rfl⟩

theorem State.tornDown_other {y : Nat} (hy : y ≠ x) : (s.cx y).Calm ((s.tornDown x).cx y) := by
  rw [State.tornDown_eq, State.shutDown_cx, if_neg hy, State.stepless, State.modCx_cx, if_neg hy]
  exact (State.halting_calm hy).trans (State.unwoundAll_calm.cx trivial y)

theorem State.tornDown_still : (s.tornDown x).still = { s.still with keys := revokedKeys s.keys x } := by
  have hcalm := State.unwoundAll_calm (s := s) (x := x)
  rw [State.tornDown_eq, State.shutDown_still, State.stepless_still, State.stepless_keys, hcalm.still_eq, hcalm.keys_eq]
  rfl

theorem State.tornDown_par {k : Nat} (hk : calmKey k = true) :
    (s.tornDown x).par k = if k = K.TEARDOWNS then (s.par K.TEARDOWNS + 1) % 2 ^ 64 else s.par k := by
  have hcalm := State.unwoundAll_calm (s := s) (x := x)
  rw [State.tornDown_eq, State.shutDown_par, State.stepless_par, State.stepless_par, hcalm.par_eq trivial k hk,
    hcalm.par_eq trivial K.TEARDOWNS rfl]
  rfl

theorem State.tornDown_idle : (s.tornDown x).Idle x := by
  obtain ⟨w, hw⟩ := ((s.unwoundAll x).stepless x).shutDown_eq x
  rw [State.tornDown_eq, hw]
  exact State.unwoundAll_idle.of_eq rfl rfl rfl rfl

end

/-- Settles O23. -/
theorem tearingAContextDown : Obligations.TearingAContextDown := by
  intro x s
  refine ⟨fun hclosed => exec_next_of_eq (u := if s.live then s.teardown x.val true 0 else s) rfl ?_ rfl rfl,
    fun hlive hwf hopen => ?_⟩
  · rw [State.teardown_of_closed (.inl hclosed), ite_self]
  · have hdown : (if s.live then s.teardown x.val true 0 else s) = s.tornDown x := by
      rw [if_pos hlive, State.teardown_of_open hopen, if_pos rfl]
    have hstill := State.tornDown_still (s := s) (x := x)
    have hkeys : (s.tornDown x).keys = revokedKeys s.keys x := (congrArg State.keys hstill :)
    obtain ⟨hst, hsteps, hreplay, hcur, hrunning, -⟩ := State.tornDown_closed (s := s) (x := x)
    have hidle := State.tornDown_idle (s := s) (x := x)
    exact ⟨s.tornDown x, exec_next_of_eq rfl hdown (congrArg State.pending hstill :) (congrArg State.part hstill :), hst, hsteps,
      hreplay, hcur, hrunning, hidle.xfers, hidle.accesses, hidle.moves, hidle.held,
      fun k => State.key_of_revoked hkeys hwf, fun k => State.key_of_kept hkeys hwf,
      (State.tornDown_par rfl).trans (if_pos rfl)⟩

end Sys2Proof.Machine
end

section
/-!
PROOFS. What teardowns leave outside the contexts that they close: the defence state, what the shelves have lost, stacks,
power and resets; support for the statements on resets and fences (spec/16_hang_reset_recovery.md R480, R482, R495).
-/

namespace Sys2Proof.Machine

open Sys2Proof.Claims

/-! ### The defence state and the shelves' losses -/

/-- From `r` to `s` the defence state stands, and no shelf has lost its contents. -/
structure State.Unharmed (r s : State) : Prop where
  defence_eq : s.defence = r.defence
  lost_eq : s.mem.shelf.lost = r.mem.shelf.lost

namespace State.Unharmed

variable {r s t : State}

theorem refl (s : State) : s.Unharmed s := ⟨rfl, rfl⟩

theorem trans (hrs : r.Unharmed s) (hst : s.Unharmed t) : r.Unharmed t where
  defence_eq := hst.defence_eq.trans hrs.defence_eq
  lost_eq := hst.lost_eq.trans hrs.lost_eq

theorem of_eq (h : r.Unharmed s) (hdefence : t.defence = s.defence) (hmem : t.mem = s.mem) : r.Unharmed t where
  defence_eq := hdefence.trans h.defence_eq
  lost_eq := by rw [hmem, h.lost_eq]

theorem ite {c : Prop} {_ : Decidable c} (hs : r.Unharmed s) (ht : r.Unharmed t) : r.Unharmed (if c then s else t) := by
  split <;> assumption

theorem ite_fst {α : Type} {c : Prop} {_ : Decidable c} {p q : State × α} (hp : r.Unharmed p.1) (hq : r.Unharmed q.1) :
    r.Unharmed (if c then p else q).1 := by
  split <;> assumption

theorem foldl {α : Type} {f : State → α → State} {l : List α} (hf : ∀ t a, r.Unharmed t → r.Unharmed (f t a))
    (h : r.Unharmed s) : r.Unharmed (l.foldl f s) := by
  induction l generalizing s with
  | nil => exact h
  | cons a l ih => exact ih (hf s a h)

theorem foldl_fst {α β : Type} {f : State × β → α → State × β} {l : List α} {p : State × β}
    (hf : ∀ p a, r.Unharmed p.1 → r.Unharmed (f p a).1) (h : r.Unharmed p.1) : r.Unharmed (l.foldl f p).1 := by
  induction l generalizing p with
  | nil => exact h
  | cons a l ih => exact ih (hf p a h)

section
variable (h : r.Unharmed s)
include h

theorem bump (k n : Nat) : r.Unharmed (s.bump k n) := h.of_eq rfl rfl

theorem modCx (x : Nat) (f : Ctx → Ctx) : r.Unharmed (s.modCx x f) := h.of_eq rfl rfl

theorem modCo (k : Nat) (f : Core → Core) : r.Unharmed (s.modCo k f) := h.of_eq rfl rfl

theorem modCl (c : Nat) (f : Cluster → Cluster) : r.Unharmed (s.modCl c f) := h.of_eq rfl rfl

theorem writeSpace (space a : Nat) (bs : List Nat) : r.Unharmed (s.writeSpace space a bs) := by
  unfold State.writeSpace
  split <;> exact ⟨h.defence_eq, h.lost_eq⟩

theorem bursts (cls k off n : Nat) : r.Unharmed (s.bursts cls k off n) := by
  unfold State.bursts State.countBursts
  exact .ite h (.ite (.ite h (h.bump _ _)) (.ite (h.of_eq rfl rfl) h))

theorem put (cls k off : Nat) (bs : List Nat) (hdr : Option (BitVec 128)) : r.Unharmed (s.put cls k off bs hdr) := by
  have hdata : r.Unharmed ((s.writeKey k off bs).bursts cls k off bs.length) := (h.writeSpace _ _ _).bursts _ _ _ _
  unfold State.put State.countRmw
  extract_lets e data written
  have hwritten : r.Unharmed written := by
    unfold written
    split
    · exact hdata.writeSpace _ _ _
    · exact hdata
  exact .ite (.ite hwritten (hwritten.bump _ _)) hwritten

theorem undoRestore (x num : Nat) : r.Unharmed (s.undoRestore x num) := by
  unfold State.undoRestore
  exact .foldl (fun _ _ h => .foldl (fun _ _ h => .ite h (.ite (h.bump _ _) (h.put _ _ _ _ _))) h) h

theorem putChecked (cls x k off : Nat) (bs : List Nat) (hdr : Option (BitVec 128)) :
    r.Unharmed (s.putChecked cls x k off bs hdr) := by
  unfold State.putChecked
  exact .ite (h.bump _ _) (.ite (h.bump _ _) (h.put _ _ _ _ _))

theorem sample (c : Nat) (fin : Bool) : r.Unharmed (s.sample c fin).1 := by
  have hcounter (l : Cluster) (k i : Nat) (t : State) (h : r.Unharmed t) : r.Unharmed (t.counter l k i).1 := by
    unfold State.counter
    exact .ite_fst (h.of_eq rfl rfl) (.ite_fst h (.ite_fst (h.of_eq rfl rfl) h))
  unfold State.sample
  exact .foldl_fst (fun _ _ h => .foldl_fst (fun _ _ h => hcounter _ _ _ _ h) h) h

theorem writeSample (c w : Nat) : r.Unharmed (s.writeSample c w) := by
  unfold State.writeSample
  exact .ite (h.putChecked _ _ _ _ _ _) (h.bump _ _)

theorem completeCmd (x : Nat) (cmd : Cmd) (status code sect slot : Nat) (add : Bool) :
    r.Unharmed (s.completeCmd x cmd status code sect slot add) := by
  unfold State.completeCmd
  dsimp only
  split
  · exact (h.writeSpace _ _ _).of_eq rfl rfl
  · exact (h.writeSpace _ _ _).of_eq rfl rfl

theorem boundary (c : Nat) : r.Unharmed (s.boundary c) := by
  have hsample := (h.sample c true).writeSample c (s.sample c true).2
  unfold State.boundary State.runBoundary State.emptyQueues
  refine .foldl (fun _ _ h => h.completeCmd _ _ _ _ _ _ _) (.modCx (.modCl ?_ _ _) _ _)
  exact .foldl (fun _ _ h => h.modCo _ _) (.foldl (fun _ _ h => h.modCo _ _) hsample)

theorem stopClusters (x : Nat) : r.Unharmed (s.stopClusters x) := by
  unfold State.stopClusters State.forceBoundary
  exact .foldl (fun _ _ h => .ite (.ite (h.boundary _) h) h) h

theorem halted (x : Nat) : r.Unharmed (s.halted x) := by
  have hstopped : r.Unharmed (((s.halting x).stopClusters x).stopCopies x) := by
    unfold State.stopCopies
    have hwork : r.Unharmed ((s.halting x).stopClusters x) := .stopClusters ((h.modCx x _).modCx x _) x
    exact .ite (hwork.of_eq rfl rfl) (hwork.of_eq rfl rfl)
  have hcommands := foldl (l := (s.cx x).inProgress) (f := fun s c => s.completeCmd x c 9 0 0 0 false)
    (fun _ _ h => h.completeCmd _ _ _ _ _ _ _) hstopped
  exact .foldl (fun _ _ h => h.of_eq rfl rfl) hcommands

theorem flushed (x : Nat) : r.Unharmed (s.flushed x) := by
  have hfree : r.Unharmed ((s.dropped x).untransferred x) := .foldl (fun _ _ h => h.of_eq rfl rfl) (h.of_eq rfl rfl)
  unfold State.flushed
  obtain ⟨p, hp⟩ := State.grantHeld_ports (if (s.accesses.filter (fun a => a.ctx = x)).length = 0
    then (s.dropped x).untransferred x
    else ((s.dropped x).untransferred x).bump K.STALE_LOCAL_DROPS (s.accesses.filter (fun a => a.ctx = x)).length) x
  dsimp only
  rw [hp]
  exact .of_eq (.ite hfree (hfree.bump _ _)) rfl rfl

theorem unwound (x : Nat) (steps : List Step) : r.Unharmed (s.unwound x steps) := by
  have hundone := foldl (l := steps.reverse) (f := fun s u => s.undoRestore x u.num) (fun _ _ h => h.undoRestore _ _) h
  unfold State.unwound
  cases steps with
  | nil => exact hundone
  | cons t rest => exact hundone.modCx _ _

theorem shutDown (x : Nat) : r.Unharmed (s.shutDown x) := by
  obtain ⟨w, hw⟩ := s.shutDown_eq x
  rw [hw]
  exact h.of_eq rfl rfl

theorem tornDown (x : Nat) : r.Unharmed (s.tornDown x) := by
  have hunwound : r.Unharmed (s.unwoundAll x) := ((h.halted x).flushed x).unwound x _
  exact .shutDown (hunwound.modCx x _) x

theorem report (kind : Nat) (c : Option (Nat × Nat)) (detail : Nat) : r.Unharmed (s.report kind c detail) := by
  refine h.of_eq ?_ ?_
  iterate 2 rw [(s.report_told kind c detail).frame]

theorem startFenceWait (x : Nat) : r.Unharmed (s.startFenceWait x) := by
  unfold State.startFenceWait
  exact .ite h (h.of_eq rfl rfl)

theorem teardown (x : Nat) (soft : Bool) (domain : Nat) : r.Unharmed (s.teardown x soft domain) := by
  by_cases hopen : (s.cx x).st = .opened ∨ (s.cx x).st = .stopped
  · rw [State.teardown_of_open hopen]
    have hreport := (h.tornDown x).report 0x11 (some (x, (s.cx x).newest)) domain
    exact .ite (h.tornDown x) (.ite hreport (hreport.startFenceWait x))
  · rw [State.teardown_of_closed (by cases hst : (s.cx x).st <;> simp_all)]
    exact h

end

end State.Unharmed

/-! ### Several teardowns -/

/-- A context that is not being torn down already is closed. -/
theorem State.teardown_st {s : State} {x domain : Nat} {soft : Bool} (h : (s.cx x).st ≠ .teardown) :
    ((s.teardown x soft domain).cx x).st = .closed := by
  by_cases hopen : (s.cx x).st = .opened ∨ (s.cx x).st = .stopped
  · have htorn : ((s.tornDown x).cx x).st = .closed := State.tornDown_closed.1
    have hreport : (((s.tornDown x).report 0x11 (some (x, (s.cx x).newest)) domain).cx x).st = .closed := by
      rw [State.cx, (State.report_told _ _ _ _).frame]
      exact htorn
    rw [State.teardown_of_open hopen]
    unfold State.startFenceWait
    dsimp only
    split_ifs
    · exact htorn
    · exact hreport
    · exact hreport
    · exact hreport
  · have hclosed : (s.cx x).st = .closed := by cases hst : (s.cx x).st <;> simp_all
    rw [State.teardown_of_closed (.inl hclosed), hclosed]

/-- `t` is `s` after contexts have been torn down. -/
structure State.Shed (s t : State) : Prop where
  still_eq : t.still = { s.still with keys := t.keys, service := { s.service with spare := t.service.spare } }
  par_eq : ∀ k, calmKey k = true → k ≠ K.TEARDOWNS → t.par k = s.par k
  st_eq : ∀ y, (t.cx y).st = (s.cx y).st ∨ (t.cx y).st = .closed
  unharmed : s.Unharmed t

namespace State.Shed

theorem refl (s : State) : s.Shed s := ⟨rfl, fun _ _ _ => rfl, fun _ => .inl rfl, .refl s⟩

theorem trans {r s t : State} (hrs : r.Shed s) (hst : s.Shed t) : r.Shed t where
  still_eq := by
    have hservice : s.service = { r.service with spare := s.service.spare } := (congrArg State.service hrs.still_eq :)
    rw [hst.still_eq, hrs.still_eq, hservice]
  par_eq k hk hne := (hst.par_eq k hk hne).trans (hrs.par_eq k hk hne)
  st_eq y := by
    obtain hclosed | hclosed := hst.st_eq y
    · rw [hclosed]
      exact hrs.st_eq y
    · exact .inr hclosed
  unharmed := hrs.unharmed.trans hst.unharmed

theorem of_calm {s t : State} (h : s.Calm True t) (hunharmed : s.Unharmed t) : s.Shed t where
  still_eq := by
    rw [h.still_eq, h.keys_eq, h.service_eq]
    rfl
  par_eq k hk _ := h.par_eq trivial k hk
  st_eq y := .inl (h.cx trivial y).st_eq
  unharmed := hunharmed

theorem tornDown (s : State) (x : Nat) : s.Shed (s.tornDown x) where
  still_eq := by
    have hstill := State.tornDown_still (s := s) (x := x)
    have hservice : (s.tornDown x).service = s.service := (congrArg State.service hstill :)
    have hkeys : (s.tornDown x).keys = revokedKeys s.keys x := (congrArg State.keys hstill :)
    rw [hstill, hservice, hkeys]
    rfl
  par_eq k hk hne := by rw [State.tornDown_par hk, if_neg hne]
  st_eq y := by
    by_cases hy : y = x
    · subst hy
      exact .inr State.tornDown_closed.1
    · exact .inl (State.tornDown_other hy).st_eq
  unharmed := (State.Unharmed.refl s).tornDown x

theorem report (s : State) (kind : Nat) (c : Option (Nat × Nat)) (detail : Nat) : s.Shed (s.report kind c detail) :=
  of_calm (State.Calm.refl s True).report ((State.Unharmed.refl s).report kind c detail)

theorem startFenceWait (s : State) (x : Nat) : s.Shed (s.startFenceWait x) := by
  unfold State.startFenceWait
  split_ifs
  · exact refl s
  · exact ⟨rfl, fun _ _ _ => rfl, fun _ => .inl rfl, ⟨rfl, rfl⟩⟩

theorem ite {r s t : State} {c : Prop} [Decidable c] (hs : r.Shed s) (ht : r.Shed t) : r.Shed (if c then s else t) := by
  split <;> assumption

theorem teardown (s : State) (x : Nat) (soft : Bool) (domain : Nat) : s.Shed (s.teardown x soft domain) := by
  by_cases hopen : (s.cx x).st = .opened ∨ (s.cx x).st = .stopped
  · rw [State.teardown_of_open hopen]
    have hreport := (tornDown s x).trans (report (s.tornDown x) 0x11 (some (x, (s.cx x).newest)) domain)
    exact ite (tornDown s x) (ite hreport (hreport.trans (startFenceWait _ x)))
  · rw [State.teardown_of_closed (by cases hst : (s.cx x).st <;> simp_all)]
    exact refl s

section
variable {s t : State} (h : s.Shed t)
include h

theorem now_eq : t.now = s.now := (congrArg State.now h.still_eq :)
theorem pending_eq : t.pending = s.pending := (congrArg State.pending h.still_eq :)
theorem part_eq : t.part = s.part := (congrArg State.part h.still_eq :)
theorem hbm_eq : t.hbm = s.hbm := (congrArg State.hbm h.still_eq :)
theorem power_eq : t.power = s.power := (congrArg State.power h.still_eq :)
theorem boot_eq : t.boot = s.boot := (congrArg State.boot h.still_eq :)
theorem service_eq : t.service = { s.service with spare := t.service.spare } := (congrArg State.service h.still_eq :)
theorem resets_eq : t.service.resets = s.service.resets := by rw [h.service_eq]
theorem time_eq : t.service.time = s.service.time := by rw [h.service_eq]

end

/-- The contexts of a list are closed, whoever else is. -/
theorem teardowns (soft : Bool) (domain : Nat) (l : List Nat) (s : State) :
    s.Shed (l.foldl (fun s x => s.teardown x soft domain) s) ∧
      ∀ x ∈ l, (s.cx x).st ≠ .teardown → ((l.foldl (fun s x => s.teardown x soft domain) s).cx x).st = .closed := by
  induction l generalizing s with
  | nil => exact ⟨refl s, fun _ hx => by cases hx⟩
  | cons a l ih =>
    have hfirst := teardown s a soft domain
    obtain ⟨hrest, hclosed⟩ := ih (s.teardown a soft domain)
    refine ⟨hfirst.trans hrest, fun x hx hst => ?_⟩
    have hstays : ((s.teardown a soft domain).cx x).st = .closed →
        ((l.foldl (fun s x => s.teardown x soft domain) (s.teardown a soft domain)).cx x).st = .closed := fun h => by
      obtain heq | heq := hrest.st_eq x
      · rw [heq, h]
      · exact heq
    obtain rfl | hx := List.mem_cons.mp hx
    · exact hstays (State.teardown_st hst)
    · by_cases hdown : ((s.teardown a soft domain).cx x).st = .closed
      · exact hstays hdown
      · refine hclosed x hx ?_
        obtain heq | heq := hfirst.st_eq x
        · rwa [heq]
        · exact absurd heq hdown

end State.Shed

end Sys2Proof.Machine
end

section
/-!
PROOFS. How dumps and resets begin, and what a reset leaves (spec/16_hang_reset_recovery.md R481 to R487).
-/

namespace Sys2Proof.Machine

open Sys2Proof.Claims

/-! ### Dumps begin (R385, R484, R487) -/

section
variable (s : State)

theorem State.wakeAll_frame (l : List Nat) : ∃ o c, l.foldl (fun s c => s.wakeCluster c) s = { s with od := o, clusters := c } := by
  induction l generalizing s with
  | nil => exact ⟨_, _, rfl⟩
  | cons a l ih =>
    obtain ⟨o, c, h⟩ := ih (s.wakeCluster a)
    exact ⟨o, c, h.trans (by rw [s.wakeCluster_frame a])⟩

variable {s} {trigger : Nat} {before : Bool}

theorem State.startDump_of_running {d : DumpRun} (h : s.service.dump = some d) : s.startDump trigger before =
    { s with service := { s.service with dump := some { d with also := d.also ++ [trigger] } } } := by
  rw [State.startDump, h]

theorem State.startDump_of_full (hdump : s.service.dump = none) (hslot : s.dumpSlot = none) :
    s.startDump trigger before = s.bump K.DUMPS_DROPPED 1 := by
  rw [State.startDump, hdump]
  dsimp only
  rw [hslot]

theorem State.startDump_of_slot {n : Nat} (hdump : s.service.dump = none) (hslot : s.dumpSlot = some n) :
    ∃ o c, s.startDump trigger before = { s with
      od := o, clusters := c, service := { s.service with dump := some ⟨trigger, n, s.now, before, []⟩ } } := by
  obtain ⟨o, c, hwake⟩ := s.wakeAll_frame (List.range 32)
  rw [State.startDump, hdump]
  dsimp only
  rw [hslot, hwake]
  dsimp only
  split_ifs
  · exact ⟨o, c, rfl⟩
  · exact ⟨s.od, s.clusters, rfl⟩

/-- A dump that begins touches the clusters that it wakes, its counters and the record of the dump. -/
theorem State.startDump_frame : let t := s.startDump trigger before
    t = { s with od := t.od, clusters := t.clusters, service := { s.service with dump := t.service.dump } } := by
  cases hdump : s.service.dump with
  | some d => rw [State.startDump_of_running hdump]
  | none =>
    cases hslot : s.dumpSlot with
    | none => rw [State.startDump_of_full hdump hslot]; rfl
    | some n =>
      obtain ⟨o, c, h⟩ := State.startDump_of_slot (trigger := trigger) (before := before) hdump hslot
      rw [h]

end

/-! ### A reset begins its work (R482, R490) -/

/-- `t` is `u` after a reset has begun its work: it is in progress, at its first progress mark, and what resets keep
stands. -/
structure State.Begun (u : State) (r : ResetRun) (t : State) : Prop where
  cur_eq : t.service.resets.cur = some { r with phase := 1, mark := u.now, limit := u.parMs K.AO_STALL_TIMEOUT }
  last_eq : t.service.resets.last = u.service.resets.last
  lasted_eq : t.service.resets.lasted = u.service.resets.lasted
  now_eq : t.now = u.now
  pending_eq : t.pending = u.pending
  part_eq : t.part = u.part
  dumpSlot_eq : t.hbm.dumpSlot = u.hbm.dumpSlot
  dump_none : u.service.dump = none → t.service.dump = none
  written_eq : t.par K.DUMPS_WRITTEN = u.par K.DUMPS_WRITTEN
  fault_eq : t.boot.fault = u.boot.fault

/-- The state in which a reset is in progress, and nothing else has changed. -/
def State.marked (s : State) (r : ResetRun) : State :=
  s.modResets (fun q => { q with
    cur := some { r with phase := 1, mark := s.now, limit := s.parMs K.AO_STALL_TIMEOUT }
    waiting := if r.domain = .warm then [] else q.waiting })

theorem State.marked_begun (s : State) (r : ResetRun) : s.Begun r (s.marked r) :=
  ⟨rfl, rfl, rfl, rfl, rfl, rfl, rfl, id, rfl, rfl⟩

namespace State.Begun

variable {u s t : State} {r : ResetRun} (h : u.Begun r s)
include h

theorem shed (hst : s.Shed t) : u.Begun r t where
  cur_eq := by rw [hst.resets_eq, h.cur_eq]
  last_eq := by rw [hst.resets_eq, h.last_eq]
  lasted_eq := by rw [hst.resets_eq, h.lasted_eq]
  now_eq := hst.now_eq.trans h.now_eq
  pending_eq := hst.pending_eq.trans h.pending_eq
  part_eq := hst.part_eq.trans h.part_eq
  dumpSlot_eq := by rw [hst.hbm_eq, h.dumpSlot_eq]
  dump_none hnone := by
    rw [hst.service_eq]
    exact h.dump_none hnone
  written_eq := (hst.par_eq _ rfl (by decide)).trans h.written_eq
  fault_eq := by rw [hst.boot_eq, h.fault_eq]

/-- Whatever leaves the resets, the time, the dump and the boot state. -/
theorem of_eq (hservice : t.service.resets = s.service.resets ∧ t.service.dump = s.service.dump) (hnow : t.now = s.now)
    (hpending : t.pending = s.pending) (hpart : t.part = s.part) (hslot : t.hbm.dumpSlot = s.hbm.dumpSlot)
    (hwritten : t.par K.DUMPS_WRITTEN = s.par K.DUMPS_WRITTEN) (hboot : t.boot = s.boot) : u.Begun r t where
  cur_eq := by rw [hservice.1, h.cur_eq]
  last_eq := by rw [hservice.1, h.last_eq]
  lasted_eq := by rw [hservice.1, h.lasted_eq]
  now_eq := hnow.trans h.now_eq
  pending_eq := hpending.trans h.pending_eq
  part_eq := hpart.trans h.part_eq
  dumpSlot_eq := hslot.trans h.dumpSlot_eq
  dump_none hnone := hservice.2.trans (h.dump_none hnone)
  written_eq := hwritten.trans h.written_eq
  fault_eq := by rw [hboot, h.fault_eq]

theorem bump {k : Nat} (n : Nat) (hk : K.DUMPS_WRITTEN ≠ k) : u.Begun r (s.bump k n) :=
  h.of_eq ⟨rfl, rfl⟩ rfl rfl rfl rfl (by rw [State.bump_par, if_neg hk]) rfl

theorem report (kind : Nat) (c : Option (Nat × Nat)) (detail : Nat) : u.Begun r (s.report kind c detail) :=
  h.shed (.report s kind c detail)

end State.Begun

/-! ### The domains of a reset (R482, R483, R185) -/

section
variable (s : State)

/-- A loader that is reset touches pages, the command that it serves, and free values. -/
theorem State.loaderReset_frame (x : Nat) : let t := s.loaderReset x
    t = { s with free := t.free, ctxs := t.ctxs, clusters := t.clusters, posts := t.posts, mem := t.mem } := by
  unfold State.loaderReset
  split
  · rfl
  next c _ =>
    extract_lets pages d n t
    unfold t
    split_ifs
    · rfl
    · have hpages : ∃ q, (pages.take (n - 1)).foldl (fun s p => s.modCl p.1 (fun l => l.spoil p.2)) d.2 =
          { d.2 with clusters := q } := by
        generalize pages.take (n - 1) = l
        generalize d.2 = u
        induction l generalizing u with
        | nil => exact ⟨_, rfl⟩
        | cons a l ih =>
          obtain ⟨q, hq⟩ := ih (u.modCl a.1 (fun l => l.spoil a.2))
          exact ⟨q, hq⟩
      obtain ⟨q, hq⟩ := hpages
      rw [hq, State.finish_frame]
      rfl

theorem State.loadersReset_frame : let t := s.loadersReset
    t = { s with free := t.free, ctxs := t.ctxs, clusters := t.clusters, posts := t.posts, mem := t.mem } := by
  unfold State.loadersReset
  generalize List.range 16 = l
  induction l generalizing s with
  | nil => rfl
  | cons x l ih =>
    rw [List.foldl_cons, ih (s.loaderReset x), s.loaderReset_frame x]

theorem State.loadersReset_of_idle (h : ∀ x < 16, s.curCmd x 1 = none) : s.loadersReset = s := by
  have hidle : ∀ l : List Nat, (∀ x ∈ l, s.curCmd x 1 = none) → l.foldl State.loaderReset s = s := by
    intro l
    induction l with
    | nil => exact fun _ => rfl
    | cons x l ih =>
      intro hl
      have hx : s.loaderReset x = s := by rw [State.loaderReset, hl x (.head _)]
      rw [List.foldl_cons, hx]
      exact ih fun y hy => hl y (.tail _ hy)
  exact hidle _ fun x hx => h x (List.mem_range.mp hx)

theorem State.foldl_setStack_frame {c : State → Nat → Bool} {f : Stack → Stack} (l : List Nat) :
    ∃ w, l.foldl (fun s h => if c s h then s else s.setStack h (f (s.stack h))) s =
      { s with hbm := { s.hbm with sites := w } } := by
  induction l generalizing s with
  | nil => exact ⟨_, rfl⟩
  | cons a l ih =>
    rw [List.foldl_cons]
    split_ifs
    · exact ih s
    · obtain ⟨w, hw⟩ := ih (s.setStack a (f (s.stack a)))
      exact ⟨w, hw⟩

end

/-! ### The package's clearing (R483) -/

/-- `t` is `s` after a package warm reset has cleared it, before its boot. -/
structure State.Emptied (s t : State) : Prop where
  clusters : t.clusters = []
  cores : t.cores = []
  side : t.side = []
  pkg : t.pkg = []
  keys : t.keys = []
  posts : t.posts = []
  moves : t.moves = []
  accesses : t.accesses = []
  closed : ∀ x, (t.cx x).st = .closed
  boot : t.boot = { s.boot with ready := false, writing := false, staged := none,
                                attest := { s.boot.attest with building := false, want := none } }
  resets : t.service.resets = s.service.resets
  time : t.service.time = s.service.time
  coreUp : t.service.mgmt.coreUp = false
  dump : t.service.dump = none
  cap : t.power.cap = 5
  now : t.now = s.now
  pending : t.pending = s.pending
  part : t.part = s.part
  defence : t.defence = s.defence
  mem : t.mem.hbm = s.mem.hbm ∧ t.mem.service = s.mem.service
  dumpSlot : t.hbm.dumpSlot = s.hbm.dumpSlot
  par : ∀ k, keptAtWarm k = true → t.par k = s.par k

theorem Ctx.get_cleared (l : Tbl Ctx) (x : Nat) :
    (Tbl.get (l.map (fun (p : Nat × Ctx) => (p.1, ({ gen := p.2.gen } : Ctx)))) {} x).st = .closed := by
  induction l with
  | nil => rfl
  | cons p l ih =>
    rw [List.map_cons, Tbl.get]
    split_ifs
    · rfl
    · exact ih

theorem State.clearPackage_emptied (s : State) : s.Emptied s.clearPackage := by
  unfold State.clearPackage
  extract_lets train counters
  unfold train
  obtain ⟨w, hw⟩ := State.foldl_setStack_frame (c := fun s h => (s.stack h).mode = .failed)
    (f := fun x => { x with mode := .training }) _ s.part.hbmSites
  simp only [decide_eq_true_eq] at hw
  dsimp only
  rw [hw]
  refine ⟨rfl, rfl, rfl, rfl, rfl, rfl, rfl, rfl, Ctx.get_cleared s.ctxs, rfl, rfl, rfl, rfl, rfl, rfl, rfl, rfl, rfl, rfl,
    ⟨rfl, rfl⟩, rfl, fun k hk => ?_⟩
  exact (Tbl.get_filter s.od (s.odDflt k) k keptAtWarm).trans (if_pos hk)

/-! ### A reset at work -/

section
variable (s : State) (r : ResetRun)

/-- The management core's reset, before its loader's. -/
def State.coreless : State :=
  (((s.marked r).modMgmt (fun m => { m with coreUp := false })).bump K.MGMT_RESETS 1).report 0x0C none r.unit

theorem State.performReset_mgmt (h : r.domain = .mgmt) : s.performReset r = (s.coreless r).loadersReset := by
  unfold State.performReset
  dsimp only
  rw [h]
  simp only [State.coreless, State.marked, h]

/-- The package without contexts. -/
def State.contextless : State := (List.range 16).foldl (fun s x => s.teardown x false 6) (s.marked r)

/-- The package cleared, in the spare state. -/
def State.warmReset : State :=
  { (((s.contextless r).capTime.bump K.WARM_RESETS 1).clearPackage) with
    service := { (((s.contextless r).capTime.bump K.WARM_RESETS 1).clearPackage).service with spare := ⟨true, 3, 0, none⟩ } }

theorem State.performReset_warm (h : r.domain = .warm) :
    s.performReset r = ((s.warmReset r).bump K.SPARE_DROPS 1).report 0x0F none 3 := by
  unfold State.performReset
  dsimp only
  rw [h]
  simp only [State.warmReset, State.contextless, State.marked, h]

/-- The state without the contexts that hold a cluster of the reset's domain. -/
def State.vacated : State :=
  ((s.marked r).holders r.clusters).foldl (fun s x => s.teardown x false r.domain.code) (s.marked r)

theorem State.performReset_core (h : r.domain = .core) : s.performReset r =
    (((s.vacated r).bump K.CORE_RESETS 1).clearCore r.unit).modCl (r.unit / 8) (fun l => { l with testDue := true }) := by
  unfold State.performReset State.vacated State.marked
  simp only [h]

theorem State.performReset_cluster (h : r.domain = .cluster) :
    s.performReset r = ((s.vacated r).bump K.CLUSTER_RESETS 1).clearCluster (r.unit / 8) := by
  unfold State.performReset State.vacated State.marked
  simp only [h]

theorem State.performReset_die (h : r.domain = .die) :
    s.performReset r = ((s.vacated r).saveRecovery.bump K.DIE_RESETS 1).clearDie (r.unit / 64) := by
  unfold State.performReset State.vacated State.marked
  simp only [h]

theorem State.performReset_port (h : r.domain = .port) : s.performReset r = (s.vacated r).retrainPort r.unit := by
  unfold State.performReset State.vacated State.marked
  simp only [h]

theorem State.vacated_of_none (h : s.holders r.clusters = []) : s.vacated r = s.marked r := by
  have hnone : (s.marked r).holders r.clusters = [] := h
  rw [State.vacated, hnone]
  rfl

theorem State.vacated_shed : (s.marked r).Shed (s.vacated r) := (State.Shed.teardowns _ _ _ _).1

theorem State.contextless_shed : (s.marked r).Shed (s.contextless r) := (State.Shed.teardowns _ _ _ _).1

/-- A context of the domain is closed. -/
theorem State.vacated_closed {x c : Nat} (hx : x < 16) (hopen : (s.cx x).st = .opened ∨ (s.cx x).st = .stopped)
    (hc : c ∈ r.clusters) (hholds : s.holds x c = true) : ((s.vacated r).cx x).st = .closed := by
  refine (State.Shed.teardowns false r.domain.code ((s.marked r).holders r.clusters) (s.marked r)).2 x ?_ ?_
  · refine List.mem_filter.mpr ⟨List.mem_range.mpr hx, ?_⟩
    have hany : r.clusters.any (fun c => s.holds x c) = true := List.any_eq_true.mpr ⟨c, hc, hholds⟩
    have hst : decide ((s.cx x).st ≠ .closed) = true := by
      obtain h | h := hopen <;> simp [h]
    exact Bool.and_eq_true_iff.mpr ⟨hst, hany⟩
  · intro hst
    have hst' : (s.cx x).st = .teardown := hst
    obtain h | h := hopen <;> simp [h] at hst'

end

/-! ### What is cleared (R482) -/

section
variable (s : State)

/-- A cluster whose cores are all `o`, which is `l` of the time, and whose semaphores are 0. -/
def State.clearedTo (c : Nat) (o : Core) (l : Nat → Cluster) : State :=
  let t := (List.range 8).foldl (fun s n => s.setCo (8 * c + n) o) s
  let u := t.setCl c (l t.now)
  { u with side := u.side.filter (fun (p : Nat × BitVec 24) => p.1 / 4096 ≠ c) }

theorem State.clearCluster_eq (c : Nat) :
    s.clearCluster c = s.clearedTo c {} (fun t => { testDue := true, idleSince := t }) := rfl

theorem mem_coreNumbers (c k : Nat) : k ∈ (List.range 8).map (8 * c + ·) ↔ k / 8 = c := by
  simp only [List.mem_map, List.mem_range]
  constructor
  · rintro ⟨n, hn, rfl⟩
    omega
  · intro hk
    exact ⟨k % 8, Nat.mod_lt _ (by decide), by omega⟩

theorem State.foldl_setCo_cores (o : Core) (c : Nat) :
    ∃ x, (List.range 8).foldl (fun s n => s.setCo (8 * c + n) o) s = { s with cores := x } := by
  obtain ⟨x, hx⟩ := State.foldl_modCo_cores (fun _ => o) ((List.range 8).map (8 * c + ·)) s
  rw [List.foldl_map] at hx
  exact ⟨x, hx⟩

theorem State.foldl_setCo_co (o : Core) (c k : Nat) :
    ((List.range 8).foldl (fun s n => s.setCo (8 * c + n) o) s).co k = if k / 8 = c then o else s.co k := by
  have hnodup : ((List.range 8).map (8 * c + ·)).Nodup :=
    List.nodup_range.map fun a b h => Nat.add_left_cancel h
  have hcores := State.foldl_modCo_co (fun _ => o) hnodup s k
  rw [List.foldl_map] at hcores
  simp only [mem_coreNumbers] at hcores
  exact hcores

section
variable (c : Nat) (o : Core) (l : Nat → Cluster)

theorem State.clearedTo_frame : let t := s.clearedTo c o l
    t = { s with clusters := t.clusters, cores := t.cores, side := t.side } := by
  obtain ⟨x, hx⟩ := s.foldl_setCo_cores o c
  unfold State.clearedTo
  rw [hx]
  rfl

theorem State.clearedTo_co (k : Nat) : (s.clearedTo c o l).co k = if k / 8 = c then o else s.co k := by
  obtain ⟨x, hx⟩ := s.foldl_setCo_cores o c
  have hcore := s.foldl_setCo_co o c k
  rw [hx] at hcore
  unfold State.clearedTo
  rw [hx]
  exact hcore

theorem State.clearedTo_cl (i : Nat) : (s.clearedTo c o l).cl i = if i = c then l s.now else s.cl i := by
  obtain ⟨x, hx⟩ := s.foldl_setCo_cores o c
  unfold State.clearedTo
  rw [hx]
  exact State.setCl_cl { s with cores := x } c (l s.now) i

theorem State.clearedTo_sem {n : Nat} (hn : n < 4096) : (s.clearedTo c o l).sem (.side c n) = 0 := by
  obtain ⟨x, hx⟩ := s.foldl_setCo_cores o c
  have hcluster : (c * 4096 + n) / 4096 = c := by omega
  have hside : (s.clearedTo c o l).sem (.side c n) =
      Tbl.get (s.side.filter (fun p => decide (p.1 / 4096 ≠ c))) 0 (c * 4096 + n) := by
    unfold State.clearedTo
    rw [hx]
    rfl
  rw [hside, Tbl.get_filter s.side 0 (c * 4096 + n) (fun k => decide (k / 4096 ≠ c)), if_neg (by simp [hcluster])]

end

end

end Sys2Proof.Machine
end

section
/-!
PROOFS. What the reset of each domain leaves in its domain (spec/16_hang_reset_recovery.md R482, R483, R488).
-/

namespace Sys2Proof.Machine

open Sys2Proof.Claims

/-! ### A compute die is cleared (R482, R373) -/

section
variable (s : State)

theorem State.foldl_clearCluster_frame (d : Nat) (l : List Nat) :
    let t := l.foldl (fun s c => s.clearCluster (8 * d + c)) s
    t = { s with clusters := t.clusters, cores := t.cores, side := t.side } := by
  induction l generalizing s with
  | nil => rfl
  | cons c l ih =>
    rw [List.foldl_cons, ih (s.clearCluster (8 * d + c)), s.clearCluster_eq, s.clearedTo_frame]

theorem State.foldl_clearCluster_co (d : Nat) (l : List Nat) (k : Nat) :
    (l.foldl (fun s c => s.clearCluster (8 * d + c)) s).co k = if k / 8 ∈ l.map (8 * d + ·) then {} else s.co k := by
  induction l generalizing s with
  | nil => rfl
  | cons c l ih =>
    rw [List.foldl_cons, ih, s.clearCluster_eq, s.clearedTo_co, List.map_cons]
    by_cases hk : k / 8 = 8 * d + c
    · simp [hk]
    · simp [hk]

theorem State.foldl_setDrawer_frame (d : Nat) (l : List Nat) :
    ∃ w, l.foldl (fun s x => s.setDrawer x d {}) s = { s with drawers := w } := by
  induction l generalizing s with
  | nil => exact ⟨_, rfl⟩
  | cons x l ih =>
    obtain ⟨w, hw⟩ := ih (s.setDrawer x d {})
    exact ⟨w, hw⟩

/-- The stacks of a list go into training, without those that have failed or are in repair. -/
def State.toTraining (s : State) (hs : List Nat) : State :=
  hs.foldl (fun s h => if (s.stack h).mode = .failed || (s.stack h).mode = .repair then s
    else s.setStack h { s.stack h with mode := .training }) s

theorem State.toTraining_frame (hs : List Nat) : let t := s.toTraining hs
    t = { s with hbm := { s.hbm with sites := t.hbm.sites } } := by
  obtain ⟨w, hw⟩ := State.foldl_setStack_frame (c := fun s h => (s.stack h).mode = .failed || (s.stack h).mode = .repair)
    (f := fun x => { x with mode := .training }) s hs
  rw [State.toTraining, hw]

theorem State.toTraining_stack (hs : List Nat) (i : Nat) : (s.toTraining hs).stack i =
    if i ∈ hs ∧ (s.stack i).mode ≠ .failed ∧ (s.stack i).mode ≠ .repair then { s.stack i with mode := .training }
    else s.stack i := by
  unfold State.toTraining
  induction hs generalizing s with
  | nil => simp
  | cons h hs ih =>
    rw [List.foldl_cons, ih]
    by_cases hi : i = h
    · subst hi
      by_cases hout : (s.stack i).mode = .failed ∨ (s.stack i).mode = .repair
      · obtain hout | hout := hout <;> simp [hout]
      · rw [not_or] at hout
        simp [hout, State.setStack_stack]
    · split_ifs <;> simp_all [State.setStack_stack]

variable (d : Nat)

/-- The die without what its clusters, shelves and drawers hold. -/
def State.dieEmptied : State :=
  let t := (List.range 8).foldl (fun s c => s.clearCluster (8 * d + c)) s
  (List.range 16).foldl (fun s x => s.setDrawer x d {})
    { t with mem := { t.mem with shelf := t.mem.shelf.lose d } }

theorem State.clearDie_eq : s.clearDie d =
    (s.dieEmptied d).toTraining ((dieSites d).filter (fun h => s.part.hbmSites.contains h)) := by
  have hpart : (s.dieEmptied d).part = s.part := by
    unfold State.dieEmptied
    dsimp only
    generalize (List.range 8) = l
    obtain ⟨w, hw⟩ := State.foldl_setDrawer_frame { l.foldl (fun s c => s.clearCluster (8 * d + c)) s with
      mem := { (l.foldl (fun s c => s.clearCluster (8 * d + c)) s).mem with
        shelf := (l.foldl (fun s c => s.clearCluster (8 * d + c)) s).mem.shelf.lose d } } d (List.range 16)
    rw [hw, s.foldl_clearCluster_frame d l]
  rw [← hpart]
  rfl

theorem State.dieEmptied_frame : let t := s.dieEmptied d
    t = { s with clusters := t.clusters, cores := t.cores, side := t.side, drawers := t.drawers,
                 mem := { s.mem with shelf := s.mem.shelf.lose d } } := by
  unfold State.dieEmptied
  generalize List.range 8 = l
  dsimp only
  obtain ⟨w, hw⟩ := State.foldl_setDrawer_frame { l.foldl (fun s c => s.clearCluster (8 * d + c)) s with
    mem := { (l.foldl (fun s c => s.clearCluster (8 * d + c)) s).mem with
      shelf := (l.foldl (fun s c => s.clearCluster (8 * d + c)) s).mem.shelf.lose d } } d (List.range 16)
  rw [hw, s.foldl_clearCluster_frame d l]

theorem State.dieEmptied_co {k : Nat} (hk : k / 64 = d) : (s.dieEmptied d).co k = {} := by
  have hmem : k / 8 ∈ (List.range 8).map (8 * d + ·) :=
    List.mem_map.mpr ⟨k / 8 % 8, List.mem_range.mpr (by omega), by omega⟩
  have hcore := s.foldl_clearCluster_co d (List.range 8) k
  rw [if_pos hmem] at hcore
  unfold State.dieEmptied
  revert hcore
  generalize List.range 8 = l
  intro hcore
  dsimp only
  obtain ⟨w, hw⟩ := State.foldl_setDrawer_frame { l.foldl (fun s c => s.clearCluster (8 * d + c)) s with
    mem := { (l.foldl (fun s c => s.clearCluster (8 * d + c)) s).mem with
      shelf := (l.foldl (fun s c => s.clearCluster (8 * d + c)) s).mem.shelf.lose d } } d (List.range 16)
  rw [hw]
  exact hcore

theorem State.clearDie_frame : let t := s.clearDie d
    t = { s with clusters := t.clusters, cores := t.cores, side := t.side, drawers := t.drawers,
                 mem := { s.mem with shelf := s.mem.shelf.lose d }, hbm := { s.hbm with sites := t.hbm.sites } } := by
  rw [s.clearDie_eq d]
  generalize (dieSites d).filter (fun h => s.part.hbmSites.contains h) = l
  dsimp only
  rw [State.toTraining_frame, s.dieEmptied_frame d]

theorem State.clearDie_co {k : Nat} (hk : k / 64 = d) : (s.clearDie d).co k = {} := by
  have hcores (u : State) (hs : List Nat) : (u.toTraining hs).co k = u.co k := by
    rw [State.toTraining_frame]
    rfl
  rw [s.clearDie_eq d, hcores, s.dieEmptied_co d hk]

theorem State.clearDie_stack (h : Nat) : (s.clearDie d).stack h =
    if (h ∈ dieSites d ∧ h ∈ s.part.hbmSites) ∧ (s.stack h).mode ≠ .failed ∧ (s.stack h).mode ≠ .repair then
      { s.stack h with mode := .training } else s.stack h := by
  have hstack : (s.dieEmptied d).stack h = s.stack h := by
    rw [State.stack, s.dieEmptied_frame d]
    rfl
  rw [s.clearDie_eq d, State.toTraining_stack, hstack]
  simp [List.mem_filter]

theorem Store.lose_lost (m : Store) (region : Nat) :
    Tbl.get (m.lose region).lost 0 region = Tbl.get m.lost 0 region + 1 := by
  rw [Store.lose, Tbl.get_put, if_pos rfl]

end

/-! ### What a reset that has begun its work leaves -/

section
variable (s : State) (r : ResetRun)

theorem State.vacated_begun : s.Begun r (s.vacated r) := (s.marked_begun r).shed (s.vacated_shed r)

theorem State.capTime_frame : let t := s.capTime
    t = { s with od := t.od } := by
  unfold State.capTime
  split <;> rfl

theorem State.capTime_par {k : Nat} (hk : k ≠ K.POWER_CAP_TIME) : s.capTime.par k = s.par k := by
  unfold State.capTime
  split
  · rw [State.bump_par, if_neg hk]
  · rfl

/-- A package warm reset that is counted, and clears the package. -/
theorem State.Begun.cleared {u : State} (h : s.Begun r u) :
    s.Begun r (u.capTime.bump K.WARM_RESETS 1).clearPackage := by
  have hcounted : s.Begun r (u.capTime.bump K.WARM_RESETS 1) := by
    have hwritten : (u.capTime.bump K.WARM_RESETS 1).par K.DUMPS_WRITTEN = u.par K.DUMPS_WRITTEN := by
      rw [State.bump_par, if_neg (by decide), State.capTime_par _ (by decide)]
    have hframe := u.capTime_frame
    refine h.of_eq ⟨?_, ?_⟩ ?_ ?_ ?_ ?_ hwritten ?_
    all_goals rw [hframe]; rfl
  have hempty := (u.capTime.bump K.WARM_RESETS 1).clearPackage_emptied
  exact {
    cur_eq := (congrArg Resets.cur hempty.resets).trans hcounted.cur_eq
    last_eq := (congrArg Resets.last hempty.resets).trans hcounted.last_eq
    lasted_eq := (congrArg Resets.lasted hempty.resets).trans hcounted.lasted_eq
    now_eq := hempty.now.trans hcounted.now_eq
    pending_eq := hempty.pending.trans hcounted.pending_eq
    part_eq := hempty.part.trans hcounted.part_eq
    dumpSlot_eq := hempty.dumpSlot.trans hcounted.dumpSlot_eq
    dump_none := fun _ => hempty.dump
    written_eq := (hempty.par _ (by decide)).trans hcounted.written_eq
    fault_eq := (congrArg Boot.fault hempty.boot).trans hcounted.fault_eq }

theorem State.Begun.spare {u : State} (h : s.Begun r u) (x : Spare) :
    s.Begun r { u with service := { u.service with spare := x } } := h.of_eq ⟨rfl, rfl⟩ rfl rfl rfl rfl rfl rfl

theorem State.Begun.coreless {u : State} (h : s.Begun r u) (n : Nat) : s.Begun r
    (((u.modMgmt (fun m => { m with coreUp := false })).bump K.MGMT_RESETS 1).report 0x0C none n) := by
  have hdown : s.Begun r (u.modMgmt (fun m => { m with coreUp := false })) :=
    h.of_eq ⟨rfl, rfl⟩ rfl rfl rfl rfl rfl rfl
  exact (hdown.bump (k := K.MGMT_RESETS) 1 (by decide)).report _ _ _

theorem State.Begun.loaders {u : State} (h : s.Begun r u) : s.Begun r u.loadersReset := by
  obtain ⟨f, c, l, p, m, hframe⟩ : ∃ f c l p m, u.loadersReset =
      { u with free := f, ctxs := c, clusters := l, posts := p, mem := m } := ⟨_, _, _, _, _, u.loadersReset_frame⟩
  rw [hframe]
  exact h.of_eq ⟨rfl, rfl⟩ rfl rfl rfl rfl rfl rfl

theorem State.Begun.saveRecovery {u : State} (h : s.Begun r u) : s.Begun r u.saveRecovery :=
  h.of_eq ⟨rfl, rfl⟩ rfl rfl rfl rfl rfl rfl

theorem State.Begun.clearCore {u : State} (h : s.Begun r u) (k c : Nat) (f : Cluster → Cluster) :
    s.Begun r ((u.clearCore k).modCl c f) := h.of_eq ⟨rfl, rfl⟩ rfl rfl rfl rfl rfl rfl

theorem State.clearCluster_fields (c : Nat) :
    ∃ l k x, s.clearCluster c = { s with clusters := l, cores := k, side := x } :=
  ⟨_, _, _, (s.clearCluster_eq c).trans (s.clearedTo_frame c _ _)⟩

theorem State.Begun.clearCluster {u : State} (h : s.Begun r u) (c : Nat) : s.Begun r (u.clearCluster c) := by
  obtain ⟨l, k, x, hframe⟩ := u.clearCluster_fields c
  rw [hframe]
  exact h.of_eq ⟨rfl, rfl⟩ rfl rfl rfl rfl rfl rfl

theorem State.Begun.clearDie {u : State} (h : s.Begun r u) (d : Nat) : s.Begun r (u.clearDie d) := by
  obtain ⟨l, k, x, w, m, q, hframe⟩ : ∃ l k x w m q, u.clearDie d = { u with
      clusters := l, cores := k, side := x, drawers := w, mem := m, hbm := { u.hbm with sites := q } } :=
    ⟨_, _, _, _, _, _, u.clearDie_frame d⟩
  rw [hframe]
  exact h.of_eq ⟨rfl, rfl⟩ rfl rfl rfl rfl rfl rfl

theorem State.warmReset_begun : s.Begun r (s.warmReset r) := by
  have hbegun : s.Begun r (s.contextless r) := (s.marked_begun r).shed (s.contextless_shed r)
  exact State.Begun.spare s r (hbegun.cleared s r) ⟨true, 3, 0, none⟩

theorem State.retrainPort_frame (q : Nat) : let t := s.retrainPort q
    t = { s with od := t.od, links := { s.links with ports := t.links.ports } } := by
  by_cases h : (s.port q).mode = .active
  · rw [State.retrainPort_of_active h]
    rfl
  · rw [State.retrainPort_of_other h]

theorem State.retrainPort_par (q : Nat) {k : Nat} (hk : k ≠ K.PORT_RETRAINS) : (s.retrainPort q).par k = s.par k := by
  by_cases h : (s.port q).mode = .active
  · rw [State.retrainPort_of_active h, State.bump_par, if_neg hk]
    rfl
  · rw [State.retrainPort_of_other h]

theorem State.performReset_begun : s.Begun r (s.performReset r) := by
  have hvacated := s.vacated_begun r
  cases hdomain : r.domain with
  | core =>
    rw [s.performReset_core r hdomain]
    exact (hvacated.bump 1 (by decide)).clearCore s r _ _ _
  | cluster =>
    rw [s.performReset_cluster r hdomain]
    exact (hvacated.bump 1 (by decide)).clearCluster s r _
  | die =>
    rw [s.performReset_die r hdomain]
    exact ((State.Begun.saveRecovery s r hvacated).bump 1 (by decide)).clearDie s r _
  | warm =>
    rw [s.performReset_warm r hdomain]
    exact ((s.warmReset_begun r).bump 1 (by decide)).report _ _ _
  | mgmt =>
    rw [s.performReset_mgmt r hdomain]
    exact ((s.marked_begun r).coreless s r r.unit).loaders s r
  | port =>
    have hframe := (s.vacated r).retrainPort_frame r.unit
    have hwritten := (s.vacated r).retrainPort_par r.unit (k := K.DUMPS_WRITTEN) (by decide)
    rw [s.performReset_port r hdomain]
    refine hvacated.of_eq ⟨?_, ?_⟩ ?_ ?_ ?_ ?_ hwritten ?_
    all_goals rw [hframe]

theorem State.clearCluster_kept (c : Nat) : let t := s.clearCluster c
    (∀ k, t.par k = s.par k) ∧ t.ctxs = s.ctxs ∧ t.mem = s.mem ∧ t.now = s.now := by
  obtain ⟨l, k, x, hframe⟩ := s.clearCluster_fields c
  rw [hframe]
  exact ⟨fun _ => rfl, rfl, rfl, rfl⟩

/-! ### Each domain after its reset (R482, R483) -/

variable {s r}

theorem State.performReset_coreCleared (h : r.domain = .core) : let t := s.performReset r
    t.co r.unit = {} ∧ (t.cl (r.unit / 8)).testDue = true ∧ t.par K.CORE_RESETS = ((s.vacated r).par K.CORE_RESETS + 1) % 2 ^ 64 ∧
      t.ctxs = (s.vacated r).ctxs ∧ t.mem = (s.vacated r).mem := by
  rw [s.performReset_core r h]
  generalize s.vacated r = u
  refine ⟨?_, ?_, State.bump_par_same _ _ _, rfl, rfl⟩
  · rw [State.modCl_co, State.clearCore, State.setCo_co, if_pos rfl]
  · rw [State.modCl_cl, if_pos rfl]

theorem State.performReset_clusterCleared (h : r.domain = .cluster) : let t := s.performReset r
    (∀ k, k / 8 = r.unit / 8 → t.co k = {}) ∧ t.cl (r.unit / 8) = { testDue := true, idleSince := t.now } ∧
      (∀ n < 4096, t.sem (.side (r.unit / 8) n) = 0) ∧
      t.par K.CLUSTER_RESETS = ((s.vacated r).par K.CLUSTER_RESETS + 1) % 2 ^ 64 ∧
      t.ctxs = (s.vacated r).ctxs ∧ t.mem = (s.vacated r).mem := by
  rw [s.performReset_cluster r h]
  generalize s.vacated r = u
  generalize r.unit / 8 = c
  obtain ⟨hpar, hctxs, hmem, hnow⟩ := (u.bump K.CLUSTER_RESETS 1).clearCluster_kept c
  refine ⟨fun k hk => ?_, ?_, fun n hn => ?_, ?_, hctxs, hmem⟩
  · rw [State.clearCluster_eq, State.clearedTo_co, if_pos hk]
  · rw [hnow, State.clearCluster_eq, State.clearedTo_cl, if_pos rfl]
  · rw [State.clearCluster_eq]
    exact State.clearedTo_sem _ c _ _ hn
  · rw [hpar, State.bump_par_same]

theorem State.performReset_dieCleared (h : r.domain = .die) : let t := s.performReset r
    (∀ k, k / 64 = r.unit / 64 → t.co k = {}) ∧
      (∀ h ∈ dieSites (r.unit / 64), h ∈ s.part.hbmSites → (s.stack h).mode ≠ .failed → (s.stack h).mode ≠ .repair →
        (t.stack h).mode = .training) ∧
      (∀ h, (s.stack h).mode = .repair → t.stack h = s.stack h) ∧
      t.par K.DIE_RESETS = ((s.vacated r).par K.DIE_RESETS + 1) % 2 ^ 64 ∧ t.ctxs = (s.vacated r).ctxs ∧
      t.mem = { (s.vacated r).mem with shelf := (s.vacated r).mem.shelf.lose (r.unit / 64),
                                       service := (s.vacated r).mem.service.lose 4 } := by
  have hpart : (s.vacated r).part = s.part := (s.vacated_begun r).part_eq
  have hstack (h : Nat) : (s.vacated r).stack h = s.stack h := by
    rw [State.stack, (s.vacated_shed r).hbm_eq]
    rfl
  rw [s.performReset_die r h]
  simp only [← hpart, ← hstack]
  generalize s.vacated r = u
  generalize r.unit / 64 = d
  have hframe := (u.saveRecovery.bump K.DIE_RESETS 1).clearDie_frame d
  have hstacks := (u.saveRecovery.bump K.DIE_RESETS 1).clearDie_stack d
  have hpar := u.saveRecovery.bump_par_same K.DIE_RESETS 1
  refine ⟨fun k hk => State.clearDie_co _ _ hk, fun h hdie hsite hok hrepair => ?_, fun h hrepair => ?_, ?_, ?_, ?_⟩
  · rw [hstacks, if_pos ⟨⟨hdie, hsite⟩, hok, hrepair⟩]
  · rw [hstacks, if_neg fun hcontra => hcontra.2.2 hrepair]
    rfl
  · rw [hframe]
    exact hpar
  · rw [hframe]
    rfl
  · rw [hframe]
    rfl

theorem State.performReset_warmCleared (h : r.domain = .warm) : let t := s.performReset r
    warmCleared s t ∧ t.service.time = s.service.time ∧ t.defence = s.defence ∧ t.service.spare.cause = 3 ∧
      t.mem.hbm = (s.contextless r).mem.hbm ∧ t.mem.service = (s.contextless r).mem.service := by
  have hnow : (s.performReset r).now = s.now := (s.performReset_begun r).now_eq
  have hshed := s.contextless_shed r
  have htime : (s.contextless r).service.time = s.service.time := hshed.time_eq
  have hdefence : (s.contextless r).defence = s.defence := hshed.unharmed.defence_eq
  revert hnow
  rw [s.performReset_warm r h, State.warmReset]
  clear hshed
  generalize s.contextless r = u at htime hdefence ⊢
  have hempty := (u.capTime.bump K.WARM_RESETS 1).clearPackage_emptied
  have hkept : (u.capTime.bump K.WARM_RESETS 1).service = u.service ∧ (u.capTime.bump K.WARM_RESETS 1).defence = u.defence ∧
      (u.capTime.bump K.WARM_RESETS 1).mem = u.mem := by
    refine ⟨?_, ?_, ?_⟩ <;> rw [u.capTime_frame] <;> rfl
  obtain ⟨hservice, hdefence', hmem⟩ := hkept
  generalize u.capTime.bump K.WARM_RESETS 1 = v at hempty hservice hdefence' hmem ⊢
  generalize v.clearPackage = w at hempty ⊢
  generalize hx : ({ w with service := { w.service with spare := ⟨true, 3, 0, none⟩ } } : State).bump K.SPARE_DROPS 1 = x
  intro hnow
  have hframe := (x.report_told 0x0F none 3).frame
  refine ⟨⟨?_, ?_, ?_, ?_, ?_, ?_, ?_, ?_, ?_, ?_, ?_, ?_, ?_, hnow⟩, ?_, ?_, ?_, ?_, ?_⟩
  all_goals rw [hframe, ← hx]
  · exact hempty.clusters
  · exact hempty.cores
  · exact hempty.side
  · exact hempty.pkg
  · exact hempty.keys
  · exact hempty.posts
  · exact hempty.moves
  · exact hempty.accesses
  · exact congrArg Boot.ready hempty.boot
  · exact hempty.coreUp
  · rfl
  · exact hempty.cap
  · exact hempty.closed
  · exact (hempty.time.trans (congrArg _ hservice)).trans htime
  · exact (hempty.defence.trans hdefence').trans hdefence
  · rfl
  · exact hempty.mem.1.trans (congrArg Memory.hbm hmem)
  · exact hempty.mem.2.trans (congrArg Memory.service hmem)

end

end Sys2Proof.Machine
end

section
/-!
PROOFS. How a reset starts, waits for its dump, and takes down its domain: the commands that reset a core, a cluster, a
die, the package or a port (spec/16_hang_reset_recovery.md R481 to R483, R485).
-/

namespace Sys2Proof.Machine

open Sys2Proof.Claims

/-! ### A reset begins: its dump first, or its work (R482, R485) -/

/-- `t` is `s` after a reset of the domain of `r` has started; whether it waits for its dump is open. -/
structure State.Started (s : State) (r : ResetRun) (t : State) : Prop where
  cur : ∃ q, t.service.resets.cur = some q ∧ q.domain = r.domain
  last_eq : t.service.resets.last = s.service.resets.last
  lasted_eq : t.service.resets.lasted = s.service.resets.lasted
  now_eq : t.now = s.now
  pending_eq : t.pending = s.pending
  part_eq : t.part = s.part
  fault_eq : t.boot.fault = s.boot.fault

section
variable {s : State} {r : ResetRun}

theorem State.Begun.started {t : State} (h : s.Begun r t) : s.Started r t :=
  ⟨⟨_, h.cur_eq, rfl⟩, h.last_eq, h.lasted_eq, h.now_eq, h.pending_eq, h.part_eq, h.fault_eq⟩

/-- Does the reset order a dump by itself (R485)? -/
def State.ordersDump (s : State) (r : ResetRun) : Bool :=
  !r.served && (match r.domain.trigger with | some t => bit (s.par K.DUMP_TRIGGERS) t | none => false)

/-- The state in which a reset waits for the dump that runs. -/
def State.awaiting (s : State) (r : ResetRun) : State :=
  s.modResets (fun q => { q with cur := some { r with phase := 0 } })

/-- The state after a reset has started its dump, where it orders one. -/
def State.dumping (s : State) (r : ResetRun) : State :=
  if s.ordersDump r then s.startDump (r.domain.trigger.getD 0) true else s

theorem State.beginReset_eq : s.beginReset r =
    if (s.dumping r).service.dump.isSome && r.domain ≠ .port then (s.dumping r).awaiting r
    else (s.dumping r).performReset r := rfl

theorem State.dumping_frame : let t := s.dumping r
    t = { s with od := t.od, clusters := t.clusters, service := { s.service with dump := t.service.dump } } := by
  unfold State.dumping
  split_ifs
  · exact State.startDump_frame
  · rfl

theorem State.beginReset_started (s : State) (r : ResetRun) : s.Started r (s.beginReset r) := by
  have hframe := State.dumping_frame (s := s) (r := r)
  obtain ⟨o, c, d, hdumping⟩ : ∃ o c d, s.dumping r =
      { s with od := o, clusters := c, service := { s.service with dump := d } } := ⟨_, _, _, hframe⟩
  rw [State.beginReset_eq, hdumping]
  split_ifs
  · exact ⟨⟨_, rfl, rfl⟩, rfl, rfl, rfl, rfl, rfl, rfl⟩
  · have hbegun := State.performReset_begun { s with od := o, clusters := c, service := { s.service with dump := d } } r
    exact ⟨⟨_, hbegun.cur_eq, rfl⟩, hbegun.last_eq, hbegun.lasted_eq, hbegun.now_eq, hbegun.pending_eq, hbegun.part_eq,
      hbegun.fault_eq⟩

/-- A reset waits while a dump runs, its own or another. -/
theorem State.beginReset_of_dump (hport : r.domain ≠ .port) (h : (s.dumping r).service.dump ≠ none) :
    s.beginReset r = (s.dumping r).awaiting r := by
  rw [State.beginReset_eq, if_pos (by simp [hport, Option.isSome_iff_ne_none, h])]

theorem State.beginReset_of_none (h : (s.dumping r).service.dump = none) :
    s.beginReset r = (s.dumping r).performReset r := by
  rw [State.beginReset_eq, if_neg (by simp [h])]

variable {n : Nat} (hserved : r.served = false) (htrigger : r.domain.trigger = some n)
include hserved htrigger

theorem State.ordersDump_eq : s.ordersDump r = bit (s.par K.DUMP_TRIGGERS) n := by
  rw [State.ordersDump, hserved, htrigger]
  rfl

theorem State.dumping_dump (h : s.service.dump ≠ none ∨ (bit (s.par K.DUMP_TRIGGERS) n = true ∧ s.dumpSlot ≠ none)) :
    (s.dumping r).service.dump ≠ none := by
  unfold State.dumping
  rw [State.ordersDump_eq hserved htrigger]
  cases hdump : s.service.dump with
  | some d =>
    split_ifs
    · rw [State.startDump_of_running hdump]
      simp
    · simp [hdump]
  | none =>
    obtain ⟨hbit, hslot⟩ := h.resolve_left (not_not.mpr hdump)
    obtain ⟨m, hm⟩ := Option.ne_none_iff_exists'.mp hslot
    obtain ⟨o, c, hstart⟩ := State.startDump_of_slot (trigger := r.domain.trigger.getD 0) (before := true) hdump hm
    rw [if_pos hbit, hstart]
    simp

/-- Without a dump the reset works at once, at most with a dump counted as dropped. -/
theorem State.beginReset_works (hdump : s.service.dump = none)
    (h : bit (s.par K.DUMP_TRIGGERS) n = false ∨ s.dumpSlot = none) :
    ∃ u, (u = s ∨ u = s.bump K.DUMPS_DROPPED 1) ∧ s.beginReset r = u.performReset r := by
  have hdumping : s.dumping r = s ∨ s.dumping r = s.bump K.DUMPS_DROPPED 1 := by
    unfold State.dumping
    rw [State.ordersDump_eq hserved htrigger]
    split_ifs with hbit
    · exact .inr (State.startDump_of_full hdump (h.resolve_left (by simp [hbit])))
    · exact .inl rfl
  refine ⟨_, hdumping, State.beginReset_of_none ?_⟩
  obtain heq | heq := hdumping <;> rw [heq] <;> exact hdump

end

/-! ### The rows of resets (R481) -/

/-- The reset that a row starts. -/
def rowRun (r : ResetRow) (s : State) : ResetRun :=
  { domain := r.domain, unit := r.unit, began := s.now, mark := s.now }

section
variable {core : Fin 256} {cl : Fin 32} {die : Fin 4} {r : ResetRow} (hr : r ∈ resetRows core cl die)
include hr

theorem exec_resetRow (s : State) : exec r.cmd s = s.ends (s.whenLive (fun s => s.resetWrite r.domain r.unit)) := by
  simp only [resetRows, List.mem_cons, List.not_mem_nil, or_false] at hr
  obtain rfl | rfl | rfl | rfl := hr <;> rfl

theorem resetRow_trigger : r.domain.trigger = some r.trigger := by
  simp only [resetRows, List.mem_cons, List.not_mem_nil, or_false] at hr
  obtain rfl | rfl | rfl | rfl := hr <;> rfl

theorem resetRow_domain : r.domain = .core ∨ r.domain = .cluster ∨ r.domain = .die ∨ r.domain = .warm := by
  simp only [resetRows, List.mem_cons, List.not_mem_nil, or_false] at hr
  obtain rfl | rfl | rfl | rfl := hr <;> simp

theorem resetRow_clusters (s : State) : (rowRun r s).clusters = r.clusters := by
  simp only [resetRows, List.mem_cons, List.not_mem_nil, or_false] at hr
  obtain rfl | rfl | rfl | rfl := hr
  · rfl
  · exact congrArg (fun c => [c]) (Nat.mul_div_cancel_left (n := 8) cl.val (by decide))
  · have hdie : 64 * die.val / 64 = die.val := Nat.mul_div_cancel_left die.val (by decide)
    simp only [ResetRun.clusters, rowRun, hdie]
  · rfl

end

/-! ### What the reset of a domain leaves, in one place -/

section
variable {s u : State} (hu : u = s ∨ u = s.bump K.DUMPS_DROPPED 1) (r : ResetRun)
include hu

/-- A counter of resets after teardowns: it is as it was, but for the reset's own count. -/
theorem State.vacated_counted {t : State} {k : Nat} (hcalm : calmKey k = true) (htorn : k ≠ K.TEARDOWNS)
    (hdropped : k ≠ K.DUMPS_DROPPED) (h : t.par k = ((u.vacated r).par k + 1) % 2 ^ 64) : counted s t k 1 := by
  have hvacated : (u.vacated r).par k = u.par k := (u.vacated_shed r).par_eq k hcalm htorn
  have hsame : u.par k = s.par k := by
    obtain rfl | rfl := hu
    · rfl
    · rw [State.bump_par, if_neg hdropped]
  rw [counted, h, hvacated, hsame]

theorem State.vacated_lost : (u.vacated r).mem.shelf.lost = s.mem.shelf.lost := by
  rw [(u.vacated_shed r).unharmed.lost_eq]
  obtain rfl | rfl := hu <;> rfl

theorem State.vacated_cx {x c : Nat} (hx : x < 16) (hopen : (s.cx x).st = .opened ∨ (s.cx x).st = .stopped)
    (hc : c ∈ r.clusters) (hholds : s.holds x c = true) : ((u.vacated r).cx x).st = .closed := by
  refine State.vacated_closed u r hx ?_ hc ?_
  · obtain rfl | rfl := hu <;> exact hopen
  · obtain rfl | rfl := hu
    · exact hholds
    · have hkey : K.CONTEXT_CLUSTERS + x ≠ K.DUMPS_DROPPED := by
        simp only [K.CONTEXT_CLUSTERS, K.DUMPS_DROPPED]
        omega
      rw [State.holds, State.bump_par, if_neg hkey]
      exact hholds

end

section
variable {s : State}

theorem State.foldl_teardown_of_closed (h : s.allClosed = true) (soft : Bool) (n : Nat) :
    (List.range 16).foldl (fun s x => s.teardown x soft n) s = s := by
  have hclosed : ∀ x ∈ List.range 16, (s.cx x).st = .closed := by
    simpa [State.allClosed] using h
  revert hclosed
  generalize List.range 16 = l
  intro hclosed
  induction l with
  | nil => rfl
  | cons x l ih =>
    rw [List.foldl_cons, State.teardown_of_closed (.inl (hclosed x (.head _)))]
    exact ih fun y hy => hclosed y (.tail _ hy)

theorem State.holders_of_closed (h : s.allClosed = true) (cs : List Nat) : s.holders cs = [] := by
  have hclosed : ∀ x < 16, (s.cx x).st = .closed := by
    simpa [State.allClosed] using h
  refine List.filter_eq_nil_iff.mpr fun x hx => ?_
  simp [hclosed x (List.mem_range.mp hx)]

end

/-! ### A row's reset at work -/

section
variable {core : Fin 256} {cl : Fin 32} {die : Fin 4} {r : ResetRow} (hr : r ∈ resetRows core cl die)
  {s u : State} (hu : u = s ∨ u = s.bump K.DUMPS_DROPPED 1)
include hr hu

/-- The domain looks as R482 and R483 say. -/
theorem resetRow_done : r.done s (u.performReset (rowRun r s)) := by
  have hlost := State.vacated_lost hu (rowRun r s)
  have hcounted := @State.vacated_counted s u hu (rowRun r s)
  have hcore := State.performReset_coreCleared (s := u) (r := rowRun r s)
  have hcluster := State.performReset_clusterCleared (s := u) (r := rowRun r s)
  have hdie := State.performReset_dieCleared (s := u) (r := rowRun r s)
  have hwarm := State.performReset_warmCleared (s := u) (r := rowRun r s)
  simp only [resetRows, List.mem_cons, List.not_mem_nil, or_false] at hr
  obtain rfl | rfl | rfl | rfl := hr
  case inl =>
    obtain ⟨hco, hdue, hcount, -, hmem⟩ := hcore rfl
    exact ⟨hco, hdue, hcounted rfl (by decide) (by decide) hcount, (congrArg (·.shelf.lost) hmem).trans hlost⟩
  case inr.inl =>
    obtain ⟨hco, hcl, hside, hcount, -, hmem⟩ := hcluster rfl
    have hunit : 8 * cl.val / 8 = cl.val := Nat.mul_div_cancel_left (n := 8) cl.val (by decide)
    simp only [rowRun, hunit] at hco hcl hside
    exact ⟨hco, hcl, hside, hcounted rfl (by decide) (by decide) hcount, (congrArg (·.shelf.lost) hmem).trans hlost⟩
  case inr.inr.inl =>
    obtain ⟨hco, hstacks, -, hcount, -, hmem⟩ := hdie rfl
    have hunit : 64 * die.val / 64 = die.val := Nat.mul_div_cancel_left (n := 64) die.val (by decide)
    simp only [rowRun, hunit] at hco hstacks
    have hpart : u.part = s.part := by obtain rfl | rfl := hu <;> rfl
    have hstack (h : Nat) : u.stack h = s.stack h := by obtain rfl | rfl := hu <;> rfl
    simp only [hpart, hstack] at hstacks
    refine ⟨hco, hstacks, hcounted rfl (by decide) (by decide) hcount, ?_⟩
    have hshelf := congrArg (·.shelf.lost) hmem
    simp only [rowRun, hunit] at hshelf hlost
    refine (congrArg (Tbl.get · 0 die.val) hshelf).trans ((Store.lose_lost _ _).trans ?_)
    exact congrArg (Tbl.get · 0 die.val + 1) hlost
  case inr.inr.inr =>
    obtain ⟨hcleared, htime, hdefence, hcause, -, -⟩ := hwarm rfl
    have hsame : u.now = s.now ∧ u.service.time = s.service.time ∧ u.defence = s.defence := by
      obtain rfl | rfl := hu <;> exact ⟨rfl, rfl, rfl⟩
    obtain ⟨hnow, htime', hdefence'⟩ := hsame
    obtain ⟨hclusters, hcores, hside, hpkg, hkeys, hposts, hmoves, haccesses, hready, hdown, hspare, hcap, hclosed, hkept⟩ :=
      hcleared
    exact ⟨⟨hclusters, hcores, hside, hpkg, hkeys, hposts, hmoves, haccesses, hready, hdown, hspare, hcap, hclosed,
      hkept.trans hnow⟩, htime.trans htime', hdefence.trans hdefence', hcause⟩

/-- Every context of the domain is closed. -/
theorem resetRow_closed {x c : Nat} (hx : x < 16) (hopen : (s.cx x).st = .opened ∨ (s.cx x).st = .stopped)
    (hc : c ∈ r.clusters) (hholds : s.holds x c = true) : ((u.performReset (rowRun r s)).cx x).st = .closed := by
  have hclusters := resetRow_clusters hr s
  have hclosed := State.vacated_cx hu (rowRun r s) hx hopen (hclusters.symm ▸ hc) hholds
  have hkept {t : State} (h : t.ctxs = (u.vacated (rowRun r s)).ctxs) : (t.cx x).st = .closed := by
    rw [State.cx, h]
    exact hclosed
  obtain hdomain | hdomain | hdomain | hdomain := resetRow_domain hr
  · exact hkept (State.performReset_coreCleared (s := u) (r := rowRun r s) hdomain).2.2.2.1
  · exact hkept (State.performReset_clusterCleared (s := u) (r := rowRun r s) hdomain).2.2.2.2.1
  · exact hkept (State.performReset_dieCleared (s := u) (r := rowRun r s) hdomain).2.2.2.2.1
  · obtain ⟨⟨-, -, -, -, -, -, -, -, -, -, -, -, hall, -⟩, -⟩ :=
      State.performReset_warmCleared (s := u) (r := rowRun r s) hdomain
    exact hall x

/-- With every context CLOSED, no memory changes but the recovery area (R384). -/
theorem resetRow_mem (h : s.allClosed = true) : let t := u.performReset (rowRun r s)
    t.mem.hbm = s.mem.hbm ∧ t.mem.service = if r.domain = .die then s.mem.service.lose 4 else s.mem.service := by
  have hclosed : u.allClosed = true := by obtain rfl | rfl := hu <;> exact h
  have hmemory : u.mem = s.mem := by obtain rfl | rfl := hu <;> rfl
  have hvacated : (u.vacated (rowRun r s)).mem = s.mem := by
    rw [State.vacated_of_none _ _ (State.holders_of_closed hclosed _)]
    exact hmemory
  obtain hdomain | hdomain | hdomain | hdomain := resetRow_domain hr
  · have hmem := (State.performReset_coreCleared (s := u) (r := rowRun r s) hdomain).2.2.2.2
    simp [hmem, hvacated, hdomain]
  · have hmem := (State.performReset_clusterCleared (s := u) (r := rowRun r s) hdomain).2.2.2.2.2
    simp [hmem, hvacated, hdomain]
  · have hmem := (State.performReset_dieCleared (s := u) (r := rowRun r s) hdomain).2.2.2.2.2
    simp [hmem, hvacated, hdomain]
  · obtain ⟨-, -, -, -, hhbm, hservice⟩ := State.performReset_warmCleared (s := u) (r := rowRun r s) hdomain
    have hcontextless : (u.contextless (rowRun r s)).mem = s.mem := by
      have hmarked : (u.marked (rowRun r s)).allClosed = true := hclosed
      rw [State.contextless, State.foldl_teardown_of_closed hmarked]
      exact hmemory
    simp [hhbm, hservice, hcontextless, hdomain]

end

/-! ### The commands of resets (R481, R482, R485) -/

section
variable {core : Fin 256} {cl : Fin 32} {die : Fin 4} {r : ResetRow} (hr : r ∈ resetRows core cl die)
  {s : State} (hlive : s.live = true)
include hr hlive

theorem exec_resetRow_of_refused (h : s.resetAllowed r.domain = false) : exec r.cmd s = .next s := by
  refine exec_next_of_eq (exec_resetRow hr s) ?_ rfl rfl
  rw [State.whenLive_of_live hlive, State.resetWrite, if_pos (by simp [h])]

omit hr in
theorem resetRow_begins (h : s.resetAllowed r.domain = true) :
    s.whenLive (fun s => s.resetWrite r.domain r.unit) = s.beginReset (rowRun r s) := by
  rw [State.whenLive_of_live hlive, State.resetWrite, if_neg (by simp [h])]
  rfl

theorem exec_resetRow_of_dump (hallowed : s.resetAllowed r.domain = true)
    (h : s.service.dump ≠ none ∨ (bit (s.par K.DUMP_TRIGGERS) r.trigger = true ∧ s.dumpSlot ≠ none)) :
    ∃ t, exec r.cmd s = .next t ∧
      t.service.resets.cur = some ⟨r.domain, r.unit, s.now, 0, s.now, 0, false, none⟩ ∧
      t.service.dump ≠ none ∧ t = { s with od := t.od, clusters := t.clusters, service := t.service } := by
  have htrigger := resetRow_trigger hr
  have hport : (rowRun r s).domain ≠ .port := fun hcontra => by
    rw [show r.domain = .port from hcontra] at htrigger
    cases htrigger
  have hdump := State.dumping_dump (s := s) (r := rowRun r s) rfl htrigger h
  obtain ⟨o, c, d, hdumping⟩ : ∃ o c d, s.dumping (rowRun r s) =
      { s with od := o, clusters := c, service := { s.service with dump := d } } := ⟨_, _, _, State.dumping_frame⟩
  have hbegin := (resetRow_begins hlive hallowed).trans (State.beginReset_of_dump hport hdump)
  rw [hdumping] at hbegin hdump
  exact ⟨_, exec_next_of_eq (exec_resetRow hr s) hbegin rfl rfl, rfl, hdump, rfl⟩

theorem exec_resetRow_of_none (hallowed : s.resetAllowed r.domain = true) (hdump : s.service.dump = none)
    (h : bit (s.par K.DUMP_TRIGGERS) r.trigger = false ∨ s.dumpSlot = none) :
    ∃ t, exec r.cmd s = .next t ∧ t.service.resets.cur =
        some ⟨r.domain, r.unit, s.now, 1, s.now, s.parMs K.AO_STALL_TIMEOUT, false, none⟩ ∧
      r.done s t ∧ t.now = s.now ∧
      (∀ x < 16, ((s.cx x).st = .opened ∨ (s.cx x).st = .stopped) → (∃ c ∈ r.clusters, s.holds x c = true) →
        (t.cx x).st = .closed) ∧
      (s.allClosed = true → t.mem.hbm = s.mem.hbm ∧
        t.mem.service = if r.domain = .die then s.mem.service.lose 4 else s.mem.service) := by
  obtain ⟨u, hu, hworks⟩ := State.beginReset_works (s := s) (r := rowRun r s) rfl (resetRow_trigger hr) hdump h
  have hbegun := u.performReset_begun (rowRun r s)
  have hsame : u.now = s.now ∧ u.pending = s.pending ∧ u.part = s.part ∧
      u.parMs K.AO_STALL_TIMEOUT = s.parMs K.AO_STALL_TIMEOUT := by
    obtain rfl | rfl := hu
    · exact ⟨rfl, rfl, rfl, rfl⟩
    · exact ⟨rfl, rfl, rfl, congrArg (· * unitsPerMs) ((s.bump_par _ _ _).trans (if_neg (by decide)))⟩
  obtain ⟨hnow, hpending, hpart, hlimit⟩ := hsame
  refine ⟨_, exec_next_of_eq (exec_resetRow hr s) ((resetRow_begins hlive hallowed).trans hworks)
    (hbegun.pending_eq.trans hpending) (hbegun.part_eq.trans hpart), ?_, resetRow_done hr hu, hbegun.now_eq.trans hnow,
    fun x hx hopen ⟨c, hc, hholds⟩ => resetRow_closed hr hu hx hopen hc hholds, resetRow_mem hr hu⟩
  rw [hbegun.cur_eq, hnow, hlimit]
  rfl

end

end Sys2Proof.Machine
end

section
/-!
PROOFS. How a reset ends and the next one begins; what waited for a path goes on (spec/16_hang_reset_recovery.md R482,
R483, R497).
-/

namespace Sys2Proof.Machine

open Sys2Proof.Claims

/-! ### What stands when a domain returns to service -/

/-- `t` is `s` with the time and what resets hold as they were. -/
structure State.Kept (s t : State) : Prop where
  now_eq : t.now = s.now
  pending_eq : t.pending = s.pending
  part_eq : t.part = s.part
  resets_eq : t.service.resets = s.service.resets

namespace State.Kept

theorem refl (s : State) : s.Kept s := ⟨rfl, rfl, rfl, rfl⟩

theorem trans {s t u : State} (hst : s.Kept t) (htu : t.Kept u) : s.Kept u :=
  ⟨htu.now_eq.trans hst.now_eq, htu.pending_eq.trans hst.pending_eq, htu.part_eq.trans hst.part_eq,
    htu.resets_eq.trans hst.resets_eq⟩

theorem ite {s t u : State} {p : Prop} [Decidable p] (ht : s.Kept t) (hu : s.Kept u) : s.Kept (if p then t else u) := by
  split <;> assumption

theorem foldl {α : Type} {f : State → α → State} (hf : ∀ (s : State) (a : α), s.Kept (f s a)) (as : List α) (s : State) :
    s.Kept (as.foldl f s) := by
  induction as generalizing s with
  | nil => exact refl s
  | cons a as ih => exact (hf s a).trans (ih (f s a))

theorem of_serviced {s t : State} (h : s.Serviced t) : s.Kept t :=
  ⟨h.now_eq, by rw [h.frame], h.part_eq, congrArg Service.resets h.service_eq⟩

theorem of_calm {s t : State} {C : Prop} (h : s.Calm C t) : s.Kept t :=
  ⟨h.now_eq, h.pending_eq, h.part_eq, congrArg Service.resets h.service_eq⟩

theorem bump (s : State) (k n : Nat) : s.Kept (s.bump k n) := ⟨rfl, rfl, rfl, rfl⟩

theorem modBoot (s : State) (f : Boot → Boot) : s.Kept (s.modBoot f) := ⟨rfl, rfl, rfl, rfl⟩

theorem modMgmt (s : State) (f : Mgmt → Mgmt) : s.Kept (s.modMgmt f) := ⟨rfl, rfl, rfl, rfl⟩

theorem setStack (s : State) (h : Nat) (x : Stack) : s.Kept (s.setStack h x) := ⟨rfl, rfl, rfl, rfl⟩

theorem storeNv (s : State) (k : Nat) (v : List Nat) : s.Kept (s.storeNv k v) := by
  rw [s.storeNv_frame k v]
  exact ⟨rfl, rfl, rfl, rfl⟩

theorem report (s : State) (kind : Nat) (c : Option (Nat × Nat)) (detail : Nat) : s.Kept (s.report kind c detail) := by
  rw [(s.report_told kind c detail).frame]
  exact ⟨rfl, rfl, rfl, rfl⟩

theorem romRecovery (s : State) (cause : Nat) : s.Kept (s.romRecovery cause) := modBoot _ _

theorem storeTrip (s : State) (w : Power) (k : Nat) (v : List Nat) :
    s.Kept (State.storeNv { s with power := w } k v) :=
  trans (t := { s with power := w }) ⟨rfl, rfl, rfl, rfl⟩ (storeNv _ k v)

theorem bootFrom5 (s : State) (b : BootIn) (cold : Bool) : s.Kept (s.bootFrom5 b cold) := by
  unfold State.bootFrom5
  extract_lets cause h v s1 s2 s3 s4 s5 trip
  have hrunning : s.Kept s3 :=
    ((modBoot s _).trans (modMgmt s1 _)).trans (of_serviced (.trainStacks s2 b s2.part.hbmSites cold))
  have htested : s3.Kept s4 := foldl (fun s d => of_serviced (.testDie s b d)) (List.range 4) s3
  have hready : s.Kept s5 := (hrunning.trans htested).trans (modBoot s4 _)
  exact ite ((romRecovery s cause).trans (modBoot _ _)) (ite (hready.trans (storeTrip s5 _ _ _)) hready)

theorem bootFrom4 (s : State) (b : BootIn) (cold : Bool) : s.Kept (s.bootFrom4 b cold) := by
  have hstaged (u : State) : u.Kept u.stageFlash := ⟨rfl, rfl, rfl, rfl⟩
  unfold State.bootFrom4
  extract_lets u
  have hflash : s.Kept u := modBoot s _
  exact ite ((hflash.trans (hstaged u)).trans (bootFrom5 u.stageFlash b cold))
    ((hflash.trans (romRecovery u 2)).trans (modBoot (u.romRecovery 2) _))

theorem repairSite (s : State) (b : BootIn) (site : Nat) (hard : Bool) : s.Kept (s.repairSite b site hard) := by
  unfold State.repairSite
  extract_lets cands x done n upd rows src s1 s2
  have hlisted : s.Kept s1 := ⟨rfl, rfl, rfl, rfl⟩
  exact ((hlisted.trans (setStack s1 site _)).trans (bump s2 _ _)).trans (storeNv (s2.bump K.HBM_REPAIRS n) _ _)

end State.Kept

/-! ### What waited for a path goes on (R482) -/

/-- Messages, requests and transfers go on: the time, resets, the boot state and the stacks stand. -/
structure State.Passed (s t : State) : Prop where
  kept : s.Kept t
  boot_eq : t.boot = s.boot
  hbm_eq : t.hbm = s.hbm

namespace State.Passed

theorem trans {s t u : State} (hst : s.Passed t) (htu : t.Passed u) : s.Passed u :=
  ⟨hst.kept.trans htu.kept, htu.boot_eq.trans hst.boot_eq, htu.hbm_eq.trans hst.hbm_eq⟩

theorem foldl {α : Type} {f : State → α → State} (hf : ∀ (s : State) (a : α), s.Passed (f s a)) (as : List α)
    (s : State) : s.Passed (as.foldl f s) := by
  induction as generalizing s with
  | nil => exact ⟨.refl s, rfl, rfl⟩
  | cons a as ih => exact (hf s a).trans (ih (f s a))

theorem of_calm {s t : State} {C : Prop} (h : s.Calm C t) : s.Passed t := ⟨.of_calm h, h.boot_eq, h.hbm_eq⟩

theorem queueMgmt (s : State) (q : Nat) (m : Msg) : s.Passed (s.queueMgmt q m) := by
  unfold State.queueMgmt
  dsimp only
  split_ifs <;> exact ⟨⟨rfl, rfl, rfl, rfl⟩, rfl, rfl⟩

theorem queueWaiting (s : State) : s.Passed s.queueWaiting := by
  have hinbox (u : State) (l : List (Nat × Msg)) : u.Passed { u with links := { u.links with inbox := l } } :=
    ⟨⟨rfl, rfl, rfl, rfl⟩, rfl, rfl⟩
  unfold State.queueWaiting
  exact (hinbox s _).trans (foldl (fun s (p : Nat × Msg) => queueMgmt s p.1 p.2) _ _)

theorem pathsOpen (s : State) : s.Passed s.pathsOpen := by
  unfold State.pathsOpen
  extract_lets u
  have hrequests : s.Passed u := .of_calm (.foldl (fun _ _ h => h.pumpReqs) (.refl s True))
  exact (hrequests.trans (queueWaiting u)).trans (.of_calm (.foldl (fun _ _ h => h.settle) (.refl _ False)))

end State.Passed

/-! ### The package's reset comes (R497) -/

/-- `t` is `s` with a reset of the package in progress or to come. -/
structure State.Warms (s t : State) : Prop where
  comes : warmComes s t
  now_eq : t.now = s.now
  pending_eq : t.pending = s.pending
  part_eq : t.part = s.part
  fault_eq : t.boot.fault = s.boot.fault

/-- A reset that waits behind the one in progress. -/
theorem State.queueReset_of_cur {s : State} {q : ResetRun} (hcur : s.service.resets.cur = some q) (r : ResetRun) :
    ∃ o c d, s.queueReset r = { s with od := o, clusters := c, service := { s.service with
      dump := d
      resets := { s.service.resets with
        waiting := s.service.resets.waiting ++ [{ r with served := decide (q.phase = 0) }] } } } := by
  obtain ⟨o, c, d, hdump⟩ : ∃ o c d, s.startDump (r.domain.trigger.getD 7) true =
      { s with od := o, clusters := c, service := { s.service with dump := d } } := ⟨_, _, _, State.startDump_frame⟩
  rw [State.queueReset, hcur]
  dsimp only
  rw [hdump]
  split_ifs
  · exact ⟨o, c, d, rfl⟩
  · exact ⟨s.od, s.clusters, s.service.dump, rfl⟩

theorem State.forceWarm_warms (s : State) : s.Warms s.forceWarm := by
  unfold State.forceWarm
  extract_lets r
  split
  next hcur =>
    have hstarted := s.beginReset_started r
    obtain ⟨q, hq, hdomain⟩ := hstarted.cur
    exact ⟨⟨fun _ => ⟨q, hq, hdomain⟩, q, by simp [hq], hdomain⟩, hstarted.now_eq, hstarted.pending_eq, hstarted.part_eq,
      hstarted.fault_eq⟩
  next q hcur =>
    have hsome (p : Prop) : s.service.resets.cur = none → p := fun hnone => by simp [hcur] at hnone
    split_ifs with hwarm hphase hwaits
    · have hdomain : q.domain = .warm := by
        simp only [Bool.and_eq_true, decide_eq_true_eq] at hwarm
        exact hwarm.1
      exact ⟨⟨hsome _, q, by simp [hcur], hdomain⟩, rfl, rfl, rfl, rfl⟩
    · obtain ⟨w, hw, hdomain⟩ := List.any_eq_true.mp hwaits
      exact ⟨⟨hsome _, w, by simp [hw], of_decide_eq_true hdomain⟩, rfl, rfl, rfl, rfl⟩
    · obtain ⟨o, c, d, hqueue⟩ := State.queueReset_of_cur hcur r
      rw [hqueue]
      exact ⟨⟨hsome _, { r with served := decide (q.phase = 0) }, by simp, rfl⟩, rfl, rfl, rfl, rfl⟩
    · have hstarted := State.beginReset_started (s.modResets (fun t => { t with cur := none })) r
      obtain ⟨w, hw, hdomain⟩ := hstarted.cur
      exact ⟨⟨hsome _, w, by simp [hw], hdomain⟩, hstarted.now_eq, hstarted.pending_eq, hstarted.part_eq,
      hstarted.fault_eq⟩

/-- A reset at work of another domain gives way to the package's. -/
theorem State.forceWarm_of_work {s : State} {q : ResetRun} (hcur : s.service.resets.cur = some q) (hphase : q.phase ≠ 0)
    (hdomain : q.domain ≠ .warm) : ∃ w, s.forceWarm.service.resets.cur = some w ∧ w.domain = .warm := by
  have hforce : s.forceWarm = (s.modResets (fun t => { t with cur := none })).beginReset
      { domain := .warm, unit := 0, began := s.now, mark := s.now } := by
    simp [State.forceWarm, hcur, hphase, hdomain]
  rw [hforce]
  exact (State.beginReset_started _ _).cur

/-! ### The next reset (R497) -/

section
variable {s : State}

theorem State.nextReset_of_nil (h : s.service.resets.waiting = []) : s.nextReset = s := by
  rw [State.nextReset, h]
  split
  · next heq => cases heq
  · rfl

theorem State.nextReset_of_cur {q : ResetRun} (h : s.service.resets.cur = some q) : s.nextReset = s := by
  rw [State.nextReset, h]

theorem State.nextReset_started {q : ResetRun} {l : List ResetRun} (hcur : s.service.resets.cur = none)
    (h : s.service.resets.waiting = q :: l) : s.Started q s.nextReset := by
  have hnext : s.nextReset = (s.modResets (fun t => { t with waiting := l })).beginReset q := by
    rw [State.nextReset, hcur, h]
  obtain ⟨hc, hlast, hlasted, hnow, hpending, hpart, hfault⟩ :=
    State.beginReset_started (s.modResets (fun t => { t with waiting := l })) q
  rw [hnext]
  exact ⟨hc, hlast, hlasted, hnow, hpending, hpart, hfault⟩

end

/-! ### The end of a reset (R482) -/

section
variable (s : State) (b : BootIn) (r : ResetRun)

/-- The reset is over, at its time. -/
def State.resetOver : State :=
  State.modResets { s with now := s.now + 4000 * b.took.toNat } (fun q => { q with
    cur := none
    last := r.domain.code
    lasted := s.now + 4000 * b.took.toNat - r.began })

/-- The domain returns to service. -/
def State.returned : State :=
  match r.domain with
  | .die =>
    let t := ((s.resetOver b r).trainStacks b ((dieSites (r.unit / 64)).filter
      (fun h => (s.resetOver b r).part.hbmSites.contains h)) false).testDie b (r.unit / 64)
    match r.repair with
    | some (h, hard) => t.repairSite b h hard
    | none => t
  | .warm => ((s.resetOver b r).bootFrom4 b false).modBoot (fun x => { x with fault := false })
  | .mgmt =>
    if (s.resetOver b r).stagedHash = (s.resetOver b r).boot.fwHash then
      (s.resetOver b r).modMgmt (fun m => { m with
        coreUp := true
        beat := (s.resetOver b r).now
        watch := (s.resetOver b r).parMs K.MGMT_WATCHDOG })
    else (s.resetOver b r).forceWarm
  | _ => s.resetOver b r

variable {s r} (hcur : s.service.resets.cur = some r) (hphase : r.phase ≠ 0)
include hcur hphase

theorem State.resetEnd_eq : ∃ n, s.resetEnd b = if r.domain = .mgmt ∨ r.domain = .port then s.returned b r
    else (s.returned b r).report 0x0D none n := by
  refine ⟨r.domain.code + r.unitField <<< 4 + ((s.returned b r).service.resets.lasted / 4000 % 2 ^ 32) <<< 32, ?_⟩
  unfold State.resetEnd State.returned State.resetOver
  rw [hcur]
  cases hdomain : r.domain
  all_goals simp only [hphase, if_false, hdomain, reduceCtorEq, or_self, or_true, true_or, if_true] <;> rfl

end

section
variable (s : State) (b : BootIn) (r : ResetRun)

/-- The die trained and tested, before a repair. -/
def State.dieReturned : State :=
  ((s.resetOver b r).trainStacks b ((dieSites (r.unit / 64)).filter
    (fun h => (s.resetOver b r).part.hbmSites.contains h)) false).testDie b (r.unit / 64)

theorem State.dieReturned_kept : (s.resetOver b r).Kept (s.dieReturned b r) := by
  unfold State.dieReturned
  generalize s.resetOver b r = u
  exact (State.Kept.of_serviced (.trainStacks u b _ false)).trans (.of_serviced (.testDie _ b _))

variable {s r}

theorem State.returned_of_die (h : r.domain = .die) : s.returned b r = match r.repair with
    | some (h, hard) => (s.dieReturned b r).repairSite b h hard
    | none => s.dieReturned b r := by
  rw [State.returned, h]
  rfl

theorem State.returned_of_warm (h : r.domain = .warm) : s.returned b r =
    ((s.resetOver b r).bootFrom4 b false).modBoot (fun x => { x with fault := false }) := by
  rw [State.returned, h]

theorem State.returned_of_part (h : r.domain = .core ∨ r.domain = .cluster ∨ r.domain = .port) :
    s.returned b r = s.resetOver b r := by
  obtain h | h | h := h <;> rw [State.returned, h]

theorem State.returned_kept (h : r.domain ≠ .mgmt) : (s.resetOver b r).Kept (s.returned b r) := by
  cases hdomain : r.domain with
  | mgmt => exact absurd hdomain h
  | die =>
    rw [State.returned_of_die b hdomain]
    have hdie := s.dieReturned_kept b r
    split
    · exact hdie.trans (.repairSite _ b _ _)
    · exact hdie
  | warm =>
    rw [State.returned_of_warm b hdomain]
    exact (State.Kept.bootFrom4 _ b false).trans (.modBoot _ _)
  | core =>
    rw [State.returned_of_part b (by simp [hdomain])]
    exact .refl _
  | cluster =>
    rw [State.returned_of_part b (by simp [hdomain])]
    exact .refl _
  | port =>
    rw [State.returned_of_part b (by simp [hdomain])]
    exact .refl _

end

/-! ### The stacks of a die that returns (R372) -/

/-- The stack is in service, or has failed. -/
def Stack.Trained (x : Stack) : Prop := x.mode = .inService ∨ x.mode = .failed

section
variable (s : State) (b : BootIn)

theorem State.trainStack_eq (h n : Nat) : ∃ a x, Stack.Trained x ∧
    s.trainStack h n = (s.bump K.HBM_RETRAINS a).setStack h x := by
  refine ⟨_, _, ?_, rfl⟩
  split
  · exact .inr rfl
  · exact .inl rfl

theorem State.trainStack_stack (h n i : Nat) : (i = h ∧ ((s.trainStack h n).stack i).Trained) ∨
    (i ≠ h ∧ (s.trainStack h n).stack i = s.stack i) := by
  obtain ⟨a, x, hx, heq⟩ := s.trainStack_eq h n
  rw [heq, State.setStack_stack]
  by_cases hi : i = h
  · rw [if_pos hi]
    exact .inl ⟨hi, hx⟩
  · rw [if_neg hi]
    exact .inr ⟨hi, rfl⟩

theorem State.trainStacks_trained (hs : List Nat) (i : Nat) (h : i ∈ hs ∨ (s.stack i).Trained) :
    ((s.trainStacks b hs false).stack i).Trained := by
  unfold State.trainStacks
  induction hs generalizing s with
  | nil => exact h.resolve_left (List.not_mem_nil)
  | cons a hs ih =>
    rw [List.foldl_cons]
    refine ih _ ?_
    by_cases hfailed : (s.stack a).mode = .failed
    · rw [if_pos (by simp [hfailed])]
      obtain hmem | htrained := h
      · obtain rfl | hmem := List.mem_cons.mp hmem
        · exact .inr (.inr hfailed)
        · exact .inl hmem
      · exact .inr htrained
    · rw [if_neg (by simp [hfailed])]
      obtain ⟨-, htrained⟩ | ⟨hne, hsame⟩ := s.trainStack_stack a (b.failed.getD a 0).toNat i
      · exact .inr htrained
      · refine h.imp (fun hmem => (List.mem_cons.mp hmem).resolve_left hne) fun htrained => ?_
        exact (congrArg Stack.Trained hsame).mpr htrained

theorem State.runTests_hbm (c en : Nat) (fails : List (BitVec 128)) : (s.runTests c en fails).hbm = s.hbm := by
  have htested := State.testFails_frame (s.testRun c en) c fails
  rw [State.runTests_eq, ← State.testRun, htested, State.testRun_frame]

theorem State.testDie_hbm (d : Nat) : (s.testDie b d).hbm = s.hbm := by
  unfold State.testDie
  generalize List.range 8 = l
  induction l generalizing s with
  | nil => rfl
  | cons c l ih =>
    rw [List.foldl_cons, ih]
    exact s.runTests_hbm _ _ _

variable {s} {r : ResetRun}

theorem State.returned_trained (hdomain : r.domain = .die) (hrepair : r.repair = none) {h : Nat}
    (hdie : h ∈ dieSites (r.unit / 64)) (hsite : h ∈ s.part.hbmSites) : ((s.returned b r).stack h).Trained := by
  rw [State.returned_of_die b hdomain, hrepair]
  dsimp only
  unfold State.dieReturned
  rw [State.stack, State.testDie_hbm]
  refine State.trainStacks_trained _ b _ h (.inl (List.mem_filter.mpr ⟨hdie, ?_⟩))
  exact List.contains_iff_mem.mpr hsite

end

/-! ### RESET_DONE (R482) -/

section
variable {s : State} (b : BootIn)

theorem State.resetDone_passed : ((s.resetEnd b).nextReset).Passed (s.resetDone b) := by
  unfold State.resetDone
  extract_lets t
  split
  · exact .pathsOpen t
  · exact ⟨.refl t, rfl, rfl⟩

theorem State.resetDone_of_path (h : s.stoppedDie = none) : s.resetDone b = (s.resetEnd b).nextReset := by
  unfold State.resetDone
  rw [h]
  rfl

theorem exec_resetDone_of_eq (h : s.resetEnd b = s) (hnext : s.nextReset = s) : exec (.resetDone b) s = .next s := by
  refine exec_next_of_eq (i := .resetDone b) rfl ?_ rfl rfl
  unfold State.resetDone
  rw [h, hnext]
  cases hdie : s.stoppedDie <;> simp [hdie]

theorem exec_resetDone_of_none (hcur : s.service.resets.cur = none) (hwaiting : s.service.resets.waiting = []) :
    exec (.resetDone b) s = .next s :=
  exec_resetDone_of_eq b (by rw [State.resetEnd, hcur]) (State.nextReset_of_nil hwaiting)

variable {r : ResetRun} (hcur : s.service.resets.cur = some r)
include hcur

theorem exec_resetDone_of_waiting (hphase : r.phase = 0) : exec (.resetDone b) s = .next s :=
  exec_resetDone_of_eq b (by rw [State.resetEnd, hcur]; exact if_pos hphase) (State.nextReset_of_cur hcur)

theorem State.stoppedDie_of_domain (h : r.domain ≠ .die) : s.stoppedDie = none := by
  rw [State.stoppedDie, hcur]
  simp [h]

variable (hphase : r.phase ≠ 0)
include hphase

theorem State.resetEnd_kept (h : r.domain ≠ .mgmt) : (s.resetOver b r).Kept (s.resetEnd b) := by
  obtain ⟨n, hn⟩ := State.resetEnd_eq b hcur hphase
  rw [hn]
  exact .ite (State.returned_kept b h) ((State.returned_kept b h).trans (.report _ _ _ _))

theorem State.resetEnd_of_quiet (h : r.domain = .mgmt ∨ r.domain = .port) : s.resetEnd b = s.returned b r := by
  obtain ⟨n, hn⟩ := State.resetEnd_eq b hcur hphase
  rw [hn, if_pos h]

theorem State.resetEnd_of_told (h : ¬ (r.domain = .mgmt ∨ r.domain = .port)) :
    ∃ n, s.resetEnd b = (s.returned b r).report 0x0D none n := by
  obtain ⟨n, hn⟩ := State.resetEnd_eq b hcur hphase
  exact ⟨n, by rw [hn, if_neg h]⟩

/-- The management core is up again, unless its image is another one. -/
theorem State.resetEnd_of_mgmt (h : r.domain = .mgmt) :
    s.resetEnd b = if s.stagedHash = s.boot.fwHash then
      (s.resetOver b r).modMgmt (fun m => { m with
        coreUp := true, beat := s.now + 4000 * b.took.toNat, watch := s.parMs K.MGMT_WATCHDOG })
      else (s.resetOver b r).forceWarm := by
  rw [State.resetEnd_of_quiet b hcur hphase (.inl h), State.returned, h]
  rfl

end

section
variable {s : State} (b : BootIn) {r : ResetRun} (hcur : s.service.resets.cur = some r) (hphase : r.phase ≠ 0)
include hcur hphase

/-- The end of a reset, and the beginning of the next, take the time given. -/
theorem State.nextReset_resetEnd : let t := (s.resetEnd b).nextReset
    t.now = s.now + 4000 * b.took.toNat ∧ t.pending = s.pending ∧ t.part = s.part ∧
      (r.domain ≠ .mgmt → t.service.resets.last = r.domain.code ∧ t.service.resets.lasted = t.now - r.began ∧
        ∀ q l, s.service.resets.waiting = q :: l → ∃ q', t.service.resets.cur = some q' ∧ q'.domain = q.domain) ∧
      (r.domain = .warm → t.boot.fault = false) := by
  by_cases hmgmt : r.domain = .mgmt
  · have hend := State.resetEnd_of_mgmt b hcur hphase hmgmt
    have hother : r.domain ≠ .warm := by simp [hmgmt]
    have hfacts : (s.resetEnd b).now = s.now + 4000 * b.took.toNat ∧ (s.resetEnd b).pending = s.pending ∧
        (s.resetEnd b).part = s.part ∧
        ((s.resetEnd b).service.resets.cur = none ∨ ∃ q, (s.resetEnd b).service.resets.cur = some q) := by
      rw [hend]
      split
      · exact ⟨rfl, rfl, rfl, .inl rfl⟩
      · have hwarms := (s.resetOver b r).forceWarm_warms
        obtain ⟨q, hq, -⟩ := hwarms.comes.1 rfl
        exact ⟨hwarms.now_eq, hwarms.pending_eq, hwarms.part_eq, .inr ⟨q, hq⟩⟩
    obtain ⟨hnow, hpending, hpart, hnone | ⟨q, hq⟩⟩ := hfacts
    · cases hwaiting : (s.resetEnd b).service.resets.waiting with
      | nil =>
        rw [State.nextReset_of_nil hwaiting]
        exact ⟨hnow, hpending, hpart, fun h => absurd hmgmt h, fun h => absurd h hother⟩
      | cons q l =>
        have hstarted := State.nextReset_started hnone hwaiting
        exact ⟨hstarted.now_eq.trans hnow, hstarted.pending_eq.trans hpending, hstarted.part_eq.trans hpart,
          fun h => absurd hmgmt h, fun h => absurd h hother⟩
    · rw [State.nextReset_of_cur hq]
      exact ⟨hnow, hpending, hpart, fun h => absurd hmgmt h, fun h => absurd h hother⟩
  · have hkept := State.resetEnd_kept b hcur hphase hmgmt
    have hnone : (s.resetEnd b).service.resets.cur = none := congrArg Resets.cur hkept.resets_eq
    have hlast : (s.resetEnd b).service.resets.last = r.domain.code := congrArg Resets.last hkept.resets_eq
    have hlasted : (s.resetEnd b).service.resets.lasted = s.now + 4000 * b.took.toNat - r.began :=
      congrArg Resets.lasted hkept.resets_eq
    have hwaiting : (s.resetEnd b).service.resets.waiting = s.service.resets.waiting :=
      (congrArg Resets.waiting hkept.resets_eq :)
    have hfault : r.domain = .warm → (s.resetEnd b).boot.fault = false := fun hwarm => by
      obtain ⟨n, hn⟩ := State.resetEnd_of_told b hcur hphase (by simp [hwarm])
      rw [hn, (State.report_told _ 0x0D none n).frame, State.returned_of_warm b hwarm]
      rfl
    cases hqueue : s.service.resets.waiting with
    | nil =>
      rw [State.nextReset_of_nil (hwaiting.trans hqueue)]
      refine ⟨hkept.now_eq, hkept.pending_eq, hkept.part_eq, fun _ => ⟨hlast, ?_, fun q l h => by cases h⟩, hfault⟩
      rw [hlasted, hkept.now_eq]
      rfl
    | cons q l =>
      have hstarted := State.nextReset_started hnone (hwaiting.trans hqueue)
      refine ⟨hstarted.now_eq.trans hkept.now_eq, hstarted.pending_eq.trans hkept.pending_eq,
        hstarted.part_eq.trans hkept.part_eq, fun _ => ⟨hstarted.last_eq.trans hlast, ?_, fun q' l' h => ?_⟩,
        fun hwarm => hstarted.fault_eq.trans (hfault hwarm)⟩
      · rw [hstarted.lasted_eq, hlasted, hstarted.now_eq, hkept.now_eq]
        rfl
      · obtain ⟨rfl, -⟩ := List.cons.inj h
        exact hstarted.cur

end

/-! ### LINK_PORT_RESET (R481, R397) -/

section
variable {s : State} (hlive : s.live = true) (q : Fin 27)
include hlive

theorem exec_linkPortReset_of_refused (h : 9 * s.part.ioDies ≤ q.val ∨ s.service.resets.cur ≠ none) :
    exec (.linkPortReset q) s = .next s := by
  refine exec_next_of_eq (i := .linkPortReset q) rfl ?_ rfl rfl
  rw [State.whenLive_of_live hlive]
  split_ifs with hport
  · obtain ⟨w, hcur⟩ := Option.ne_none_iff_exists'.mp (h.resolve_left (not_le.mpr hport))
    have hrefused : s.resetAllowed .port = false := by
      simp [State.resetAllowed, hcur]
    rw [State.resetWrite, if_pos (by simp [hrefused])]
  · rfl

theorem exec_linkPortReset_of_allowed (hport : q.val < 9 * s.part.ioDies) (hcur : s.service.resets.cur = none) :
    ∃ t, exec (.linkPortReset q) s = .next t ∧
      t.service.resets.cur = some ⟨.port, q, s.now, 1, s.now, s.parMs K.AO_STALL_TIMEOUT, false, none⟩ ∧
      t.port q = (if (s.port q).mode = .active then retrained (s.port q) else s.port q) ∧
      t.ctxs = s.ctxs ∧ t.mem = s.mem ∧ t.cores = s.cores := by
  obtain ⟨r, hr⟩ : ∃ r : ResetRun, r = { domain := .port, unit := q.val, began := s.now, mark := s.now } := ⟨_, rfl⟩
  have hdomain : r.domain = .port := by rw [hr]
  have hdumping : s.dumping r = s := by
    rw [State.dumping, State.ordersDump, hdomain]
    simp [Domain.trigger]
  have hallowed : s.resetAllowed .port = true := by simp [State.resetAllowed, hcur]
  have hnone : s.holders r.clusters = [] := by
    rw [ResetRun.clusters, hdomain]
    simp [State.holders]
  have hreset : s.whenLive (fun s => if q.val < 9 * s.part.ioDies then s.resetWrite .port q.val else s) =
      (s.marked r).retrainPort q := by
    have hwrite : s.resetWrite .port q.val = s.beginReset r := by
      rw [State.resetWrite, if_neg (by simp [hallowed]), hr]
    rw [State.whenLive_of_live hlive, if_pos hport, hwrite, State.beginReset_eq, hdumping, if_neg (by simp [hdomain]),
      State.performReset_port s r hdomain, State.vacated_of_none s r hnone, hr]
  by_cases hactive : (s.port q).mode = .active
  · have hmode : ((s.marked r).port q).mode = .active := hactive
    rw [State.retrainPort_of_active hmode] at hreset
    refine ⟨_, exec_next_of_eq (i := .linkPortReset q) rfl hreset rfl rfl, by rw [hr]; rfl, ?_, rfl, rfl, rfl⟩
    rw [if_pos hactive]
    exact State.setPort_port_same _ _ _
  · have hmode : ((s.marked r).port q).mode ≠ .active := hactive
    rw [State.retrainPort_of_other hmode] at hreset
    exact ⟨_, exec_next_of_eq (i := .linkPortReset q) rfl hreset rfl rfl, by rw [hr]; rfl, (if_neg hactive).symm, rfl,
      rfl, rfl⟩

end

/-! ### The statement -/

section
variable {s : State} (b : BootIn) {r : ResetRun} (hcur : s.service.resets.cur = some r) (hphase : r.phase ≠ 0)
  (hwaiting : s.service.resets.waiting = [])
include hcur hphase hwaiting

/-- With no reset that waits, the state at the end of a reset is that of its own end. -/
theorem State.resetDone_of_alone (h : r.domain ≠ .die) (hmgmt : r.domain ≠ .mgmt) : s.resetDone b = s.resetEnd b := by
  have hkept := State.resetEnd_kept b hcur hphase hmgmt
  have hqueue : (s.resetEnd b).service.resets.waiting = s.service.resets.waiting :=
    (congrArg Resets.waiting hkept.resets_eq :)
  rw [State.resetDone_of_path b (State.stoppedDie_of_domain hcur h), State.nextReset_of_nil (hqueue.trans hwaiting)]

theorem State.resetDone_cur (hmgmt : r.domain ≠ .mgmt) : (s.resetDone b).service.resets.cur = none := by
  have hkept := State.resetEnd_kept b hcur hphase hmgmt
  have hqueue : (s.resetEnd b).service.resets.waiting = s.service.resets.waiting :=
    (congrArg Resets.waiting hkept.resets_eq :)
  have hnext := State.nextReset_of_nil (hqueue.trans hwaiting)
  rw [(State.resetDone_passed b).kept.resets_eq, hnext, hkept.resets_eq]
  rfl

theorem State.resetDone_of_units (h : r.domain = .core ∨ r.domain = .cluster) : let t := s.resetDone b
    t.cores = s.cores ∧ t.ctxs = s.ctxs ∧ t.reports.next = (s.reports.next + 1) % 2 ^ 32 := by
  have hdie : r.domain ≠ .die := by obtain h | h := h <;> simp [h]
  have hmgmt : r.domain ≠ .mgmt := by obtain h | h := h <;> simp [h]
  have hport : r.domain ≠ .port := by obtain h | h := h <;> simp [h]
  obtain ⟨n, hn⟩ := State.resetEnd_of_told b hcur hphase (by simp [hmgmt, hport])
  rw [State.resetDone_of_alone b hcur hphase hwaiting hdie hmgmt, hn, State.returned_of_part b (by tauto)]
  refine ⟨?_, ?_, ?_⟩
  · rw [(State.report_told _ _ _ _).frame]
    rfl
  · rw [(State.report_told _ _ _ _).frame]
    rfl
  · rw [State.report_next]
    rfl

theorem State.resetDone_of_port (h : r.domain = .port) :
    s.resetDone b = { s with now := (s.resetDone b).now, service := (s.resetDone b).service } := by
  rw [State.resetDone_of_alone b hcur hphase hwaiting (by simp [h]) (by simp [h]),
    State.resetEnd_of_quiet b hcur hphase (.inr h), State.returned_of_part b (by simp [h])]
  rfl

theorem State.resetDone_of_die (h : r.domain = .die) (hrepair : r.repair = none) {i : Nat}
    (hdie : i ∈ dieSites (r.unit / 64)) (hsite : i ∈ s.part.hbmSites) : ((s.resetDone b).stack i).Trained := by
  have hmgmt : r.domain ≠ .mgmt := by simp [h]
  have hkept := State.resetEnd_kept b hcur hphase hmgmt
  have hqueue : (s.resetEnd b).service.resets.waiting = s.service.resets.waiting :=
    (congrArg Resets.waiting hkept.resets_eq :)
  have hnext := State.nextReset_of_nil (hqueue.trans hwaiting)
  obtain ⟨n, hn⟩ := State.resetEnd_of_told b hcur hphase (by simp [h])
  have hstack : (s.resetDone b).stack i = (s.returned b r).stack i := by
    rw [State.stack, (State.resetDone_passed b).hbm_eq, hnext, hn, (State.report_told _ _ _ _).frame]
    rfl
  rw [hstack]
  exact State.returned_trained b h hrepair hdie hsite

theorem State.resetDone_of_mgmt (h : r.domain = .mgmt) (hhash : s.stagedHash = s.boot.fwHash) : let t := s.resetDone b
    t.service.resets.cur = none ∧ t.service.mgmt.coreUp = true ∧ t.service.mgmt.beat = t.now ∧
      t.service.mgmt.watch = s.parMs K.MGMT_WATCHDOG := by
  have hend := State.resetEnd_of_mgmt b hcur hphase h
  rw [if_pos hhash] at hend
  have hnext : (s.resetEnd b).nextReset = s.resetEnd b := State.nextReset_of_nil (by rw [hend]; exact hwaiting)
  rw [State.resetDone_of_path b (State.stoppedDie_of_domain hcur (by simp [h])), hnext, hend]
  exact ⟨rfl, rfl, rfl, rfl⟩

end

/-- Settles O45. What a die's reset leaves in the recovery area is the model's choice (log 55), and so are the times of
the resets (log 1) and their place behind a dump that runs (log 67, log 152). -/
theorem resetsTakeDownTheirDomain : Obligations.ResetsTakeDownTheirDomain := by
  refine ⟨fun core cl die s hlive r hr => ⟨fun hrefused => ?refused, fun hallowed => ⟨fun hdump => ?waits,
    fun hdump htrigger => ?works⟩⟩, fun q s hlive => ⟨fun hport hcur => ?port, fun h => ?noPort⟩,
    fun b s => ⟨fun hcur hwaiting => ?none, fun r hcur => ⟨fun hphase => ?waiting, fun hphase => ?done⟩⟩⟩
  case refused => exact exec_resetRow_of_refused hr hlive hrefused
  case waits => exact exec_resetRow_of_dump hr hlive hallowed hdump
  case works => exact exec_resetRow_of_none hr hlive hallowed hdump htrigger
  case port => exact exec_linkPortReset_of_allowed hlive q hport hcur
  case noPort => exact exec_linkPortReset_of_refused hlive q h
  case none => exact exec_resetDone_of_none b hcur hwaiting
  case waiting => exact exec_resetDone_of_waiting b hcur hphase
  case done =>
    obtain ⟨hnow, hpending, hpart, hlast, hfault⟩ := State.nextReset_resetEnd b hcur hphase
    have hpassed := State.resetDone_passed (s := s) b
    have hkept := hpassed.kept
    refine ⟨s.resetDone b, exec_next_of_eq (i := .resetDone b) rfl rfl (hkept.pending_eq.trans hpending)
      (hkept.part_eq.trans hpart), hkept.now_eq.trans hnow, fun hmgmt => ?_, fun hwarm => ?_, fun hwaiting =>
      ⟨State.resetDone_cur b hcur hphase hwaiting, State.resetDone_of_units b hcur hphase hwaiting,
        State.resetDone_of_port b hcur hphase hwaiting, fun d hdie hrepair hd h hsite hstack => ?_,
        State.resetDone_of_mgmt b hcur hphase hwaiting⟩⟩
    · rw [hkept.resets_eq, hkept.now_eq]
      exact hlast hmgmt
    · rw [hpassed.boot_eq]
      exact hfault hwarm
    · subst hd
      exact State.resetDone_of_die b hcur hphase hwaiting hdie hrepair hsite hstack

end Sys2Proof.Machine
end

section
/-!
PROOFS. The management core is watched: heartbeats, its reset by command or watchdog, the limit, and a reset that stalls
(spec/16_hang_reset_recovery.md R488 to R490).
-/

namespace Sys2Proof.Machine

open Sys2Proof.Claims

/-! ### A reset of the management core (R488) -/

section
variable {s : State} {r : ResetRun} (h : r.domain = .mgmt)
include h

theorem State.performReset_coreDown : let t := s.performReset r
    t.cores = s.cores ∧ t.service.mgmt.fails = s.service.mgmt.fails ∧
      ((∀ x < 16, s.curCmd x 1 = none) → t.ctxs = s.ctxs) ∧ t.service.mgmt.coreUp = false ∧
      counted s t K.MGMT_RESETS 1 ∧ reported s t 0x0C r.unit := by
  obtain ⟨p, q, w, hcoreless⟩ : ∃ p q w, s.coreless r = { (s.marked r).modMgmt (fun m => { m with coreUp := false }) with
      od := p, links := q, reports := w } := ⟨_, _, _, (State.report_told _ _ _ _).frame⟩
  obtain ⟨f, c, l, x, m, hframe⟩ : ∃ f c l x m, (s.coreless r).loadersReset =
      { s.coreless r with free := f, ctxs := c, clusters := l, posts := x, mem := m } :=
    ⟨_, _, _, _, _, (s.coreless r).loadersReset_frame⟩
  have hcounted : (s.coreless r).par K.MGMT_RESETS = (s.par K.MGMT_RESETS + 1) % 2 ^ 64 := by
    rw [State.coreless, (State.report_told _ _ _ _).par_eq _ (by decide), State.bump_par_same]
    rfl
  have hreported : reported s (s.coreless r) 0x0C r.unit :=
    State.report_reported (((s.marked r).modMgmt (fun m => { m with coreUp := false })).bump K.MGMT_RESETS 1) 0x0C r.unit
      (by decide)
  rw [s.performReset_mgmt r h]
  refine ⟨?_, ?_, fun hidle => ?_, ?_, ?_, ?_⟩
  · rw [hframe, hcoreless]
    rfl
  · rw [hframe, hcoreless]
    rfl
  · rw [State.loadersReset_of_idle, hcoreless]
    · rfl
    · rw [hcoreless]
      exact hidle
  · rw [hframe, hcoreless]
    rfl
  · rw [hframe]
    exact hcounted
  · rw [hframe]
    exact hreported

/-- The core's reset starts: cores and failures stand, and so do the contexts where no loader works. -/
theorem State.beginReset_coreDown : let t := s.beginReset r
    t.cores = s.cores ∧ t.service.mgmt.fails = s.service.mgmt.fails ∧
      ((∀ x < 16, s.curCmd x 1 = none) → t.ctxs = s.ctxs) := by
  obtain ⟨o, c, d, hdumping⟩ : ∃ o c d, s.dumping r =
      { s with od := o, clusters := c, service := { s.service with dump := d } } := ⟨_, _, _, State.dumping_frame⟩
  rw [State.beginReset_eq, hdumping]
  split
  · exact ⟨rfl, rfl, fun _ => rfl⟩
  · obtain ⟨hcores, hfails, hctxs, -⟩ := State.performReset_coreDown
      (s := { s with od := o, clusters := c, service := { s.service with dump := d } }) h
    exact ⟨hcores, hfails, hctxs⟩

theorem State.beginReset_of_quiet (hserved : r.served = false) (hdump : s.service.dump = none)
    (hbit : bit (s.par K.DUMP_TRIGGERS) 4 = false) : s.beginReset r = s.performReset r := by
  have hdumping : s.dumping r = s := by
    rw [State.dumping, State.ordersDump_eq hserved (n := 4) (by rw [h]; rfl), if_neg (by simp [hbit])]
  rw [State.beginReset_of_none (by rw [hdumping]; exact hdump), hdumping]

end

/-! ### The failures that count (R489) -/

section
variable {s : State}

/-- The state at a time, with the failures of the management core recorded. -/
def State.failedAt (s : State) (now : Nat) : State :=
  State.modMgmt { s with now := now } (fun m => { m with fails := countedFails s now })

/-- The core's reset that follows a failure. -/
def State.coreRun (s : State) (now cause : Nat) : ResetRun :=
  { domain := .mgmt, unit := cause + min (countedFails s now).length 15 <<< 2, began := now, mark := now }

theorem State.mgmtReset_of_limit {now : Nat} (h : s.par K.MGMT_FAIL_LIMIT ≤ (countedFails s now).length) (cause : Nat) :
    State.mgmtReset { s with now := now } cause =
      ((s.failedAt now).modMgmt (fun m => { m with fails := [] })).forceWarm := if_pos h

theorem State.mgmtReset_of_few {now : Nat} (h : (countedFails s now).length < s.par K.MGMT_FAIL_LIMIT) (cause : Nat) :
    State.mgmtReset { s with now := now } cause = (s.failedAt now).queueReset (s.coreRun now cause) :=
  if_neg (not_le.mpr h)

/-- Below the limit the core is reset, at once or behind the reset in progress. -/
theorem State.mgmtReset_few {now : Nat} (h : (countedFails s now).length < s.par K.MGMT_FAIL_LIMIT) (cause : Nat) :
    ∃ t q, State.mgmtReset { s with now := now } cause = t ∧ t.pending = s.pending ∧ t.part = s.part ∧
      q.domain = .mgmt ∧ t.now = now ∧ t.service.mgmt.fails = countedFails s now ∧ t.cores = s.cores ∧
      (s.service.resets.cur = none → t.service.resets.cur = some q) ∧
      (s.service.resets.cur ≠ none → t.service.resets.cur = s.service.resets.cur ∧
        t.service.resets.waiting = s.service.resets.waiting ++ [q] ∧ t.ctxs = s.ctxs ∧ t.reports = s.reports) ∧
      ((∀ x < 16, s.curCmd x 1 = none) → t.ctxs = s.ctxs) ∧
      (s.service.resets.cur = none → s.service.dump = none → bit (s.par K.DUMP_TRIGGERS) 4 = false →
        t.service.mgmt.coreUp = false ∧ counted s t K.MGMT_RESETS 1 ∧ q.phase = 1 ∧
        reported s t 0x0C (cause + 4 * min (countedFails s now).length 15)) := by
  rw [State.mgmtReset_of_few h]
  cases hcur : s.service.resets.cur with
  | none =>
    have hqueue : (s.failedAt now).queueReset (s.coreRun now cause) = (s.failedAt now).beginReset (s.coreRun now cause) := by
      rw [State.queueReset, show (s.failedAt now).service.resets.cur = none from hcur]
    have hstarted := (s.failedAt now).beginReset_started (s.coreRun now cause)
    obtain ⟨q, hq, hdomain⟩ := hstarted.cur
    obtain ⟨hcores, hfails, hctxs⟩ := State.beginReset_coreDown (s := s.failedAt now) (r := s.coreRun now cause) rfl
    rw [hqueue]
    refine ⟨_, q, rfl, hstarted.pending_eq, hstarted.part_eq, hdomain, hstarted.now_eq, hfails, hcores, fun _ => hq,
      fun hcontra => absurd rfl hcontra, hctxs, fun _ hdump hbit => ?_⟩
    have hquiet := State.beginReset_of_quiet (s := s.failedAt now) (r := s.coreRun now cause) rfl rfl hdump hbit
    obtain ⟨-, -, -, hdown, hcounted, hreported⟩ :=
      State.performReset_coreDown (s := s.failedAt now) (r := s.coreRun now cause) rfl
    have hbegun := (s.failedAt now).performReset_begun (s.coreRun now cause)
    rw [hquiet] at hq ⊢
    obtain rfl := Option.some.inj (hbegun.cur_eq.symm.trans hq)
    have hunit : cause + 4 * min (countedFails s now).length 15 = (s.coreRun now cause).unit := by
      change _ = cause + min (countedFails s now).length 15 <<< 2
      rw [Nat.shiftLeft_eq]
      omega
    rw [hunit]
    exact ⟨hdown, hcounted, rfl, hreported⟩
  | some w =>
    obtain ⟨o, c, d, hqueue⟩ := State.queueReset_of_cur (s := s.failedAt now) hcur (s.coreRun now cause)
    rw [hqueue]
    exact ⟨_, { s.coreRun now cause with served := decide (w.phase = 0) }, rfl, rfl, rfl, rfl, rfl, rfl, rfl,
      fun hcontra => by simp at hcontra, fun _ => ⟨hcur, rfl, rfl, rfl⟩, fun _ => rfl, fun hcontra => by simp at hcontra⟩

/-- At the limit the package is reset. -/
theorem State.mgmtReset_limit {now : Nat} (h : s.par K.MGMT_FAIL_LIMIT ≤ (countedFails s now).length) (cause : Nat) :
    ∃ t, State.mgmtReset { s with now := now } cause = t ∧ t.pending = s.pending ∧ t.part = s.part ∧ warmComes s t ∧
      t.now = now := by
  have hwarms := ((s.failedAt now).modMgmt (fun m => { m with fails := [] })).forceWarm_warms
  exact ⟨_, State.mgmtReset_of_limit h cause, hwarms.pending_eq, hwarms.part_eq, hwarms.comes, hwarms.now_eq⟩

end

/-! ### The commands (R488, R489) -/

section
variable {s : State} (hlive : s.live = true)
include hlive

/-- A row that resets the core does so under its condition, at its time. -/
theorem exec_mgmtRow {r : Instr × Nat × Bool × Nat} (hr : r ∈ mgmtRows s) :
    (r.2.2.1 = false → exec r.1 s = .next s) ∧
      (r.2.2.1 = true → exec r.1 s = s.ends (State.mgmtReset { s with now := r.2.1 } r.2.2.2)) := by
  simp only [mgmtRows, List.mem_cons, List.not_mem_nil, or_false] at hr
  obtain rfl | rfl := hr
  case inl =>
    have hallowed : s.resetAllowed .mgmt = s.service.resets.cur.isNone := Bool.and_true _
    have hwrite : exec .mgmtCoreReset s = s.ends (if s.service.resets.cur.isNone then s.mgmtReset 2 else s) := by
      rw [← hallowed]
      exact congrArg s.ends (State.whenLive_of_live hlive _)
    exact ⟨fun h => exec_next_of_eq hwrite (if_neg (ne_true_of_eq_false h)) rfl rfl,
      fun h => hwrite.trans (congrArg s.ends (if_pos h))⟩
  case inr =>
    have hwatch : exec .mgmtWatchdogExpiry s = s.ends s.watchdog := congrArg s.ends (State.whenLive_of_live hlive _)
    exact ⟨fun h => exec_next_of_eq hwatch (if_neg (ne_true_of_eq_false h)) rfl rfl,
      fun h => hwatch.trans (congrArg s.ends (if_pos h))⟩

theorem exec_mgmtFailLimitReached : let now := max s.now (s.service.mgmt.beat + s.service.mgmt.watch)
    ((countedFails s now).length < s.par K.MGMT_FAIL_LIMIT → exec .mgmtFailLimitReached s = .next s) ∧
      (s.par K.MGMT_FAIL_LIMIT ≤ (countedFails s now).length → s.service.mgmt.coreUp = true → s.coreResetDue = false →
        exec .mgmtFailLimitReached s = s.ends (State.mgmtReset { s with now := now } 1)) := by
  intro now
  have hexec : exec .mgmtFailLimitReached s = s.ends (if s.failsOut then s.watchdog else s) :=
    congrArg s.ends (State.whenLive_of_live hlive _)
  have hout : s.failsOut = decide (s.par K.MGMT_FAIL_LIMIT ≤ (countedFails s now).length) := by
    rw [countedFails, List.length_append]
    rfl
  refine ⟨fun h => exec_next_of_eq hexec (if_neg (by simpa [hout] using h)) rfl rfl, fun h hup hdue => ?_⟩
  rw [hexec, if_pos (by simpa [hout] using h)]
  exact congrArg s.ends (if_pos (by simp [hup, hdue]))

end

/-! ### A reset that stalls (R490) -/

section
variable {s : State}

theorem exec_aoStallTimeout_of_none (h : s.service.resets.cur = none) : exec .aoStallTimeout s = .next s :=
  exec_next_of_eq rfl (by rw [State.stalled, h]) rfl rfl

variable {r : ResetRun} (hcur : s.service.resets.cur = some r)
include hcur

theorem exec_aoStallTimeout_of_waiting (h : r.phase = 0) : exec .aoStallTimeout s = .next s :=
  exec_next_of_eq rfl (by rw [State.stalled, hcur]; exact if_pos h) rfl rfl

theorem exec_aoStallTimeout_of_work (hphase : r.phase ≠ 0) :
    ∃ t, exec .aoStallTimeout s = .next t ∧ t.now = max s.now (r.mark + r.limit) ∧
      (r.domain = .warm → t.service.resets.cur = none ∧ t.boot.mode = .rom ∧ t.boot.cause = 7 ∧ t.boot.fault = true) ∧
      (r.domain ≠ .warm → ∃ q, t.service.resets.cur = some q ∧ q.domain = .warm) := by
  obtain ⟨n, hstalled⟩ : ∃ n, s.stalled = if r.domain = .warm then
      (((((s.reach (r.mark + r.limit)).report 0x0D none n).modResets (fun q => { q with cur := none })).romRecovery 7).modBoot
        (fun x => { x with fault := true }))
      else ((s.reach (r.mark + r.limit)).report 0x0D none n).forceWarm := by
    refine ⟨r.domain.code + r.unitField <<< 4 + 1 <<< 12
      + (((s.reach (r.mark + r.limit)).now - r.began) / 4000 % 2 ^ 32) <<< 32, ?_⟩
    rw [State.stalled, hcur]
    exact if_neg hphase
  have hkept := State.Kept.report (s.reach (r.mark + r.limit)) 0x0D none n
  generalize (s.reach (r.mark + r.limit)).report 0x0D none n = u at hkept hstalled
  by_cases hwarm : r.domain = .warm
  · rw [if_pos hwarm] at hstalled
    exact ⟨_, exec_next_of_eq (i := .aoStallTimeout) rfl hstalled hkept.pending_eq hkept.part_eq, hkept.now_eq,
      fun _ => ⟨rfl, rfl, rfl, rfl⟩, fun h => absurd hwarm h⟩
  · rw [if_neg hwarm] at hstalled
    have hwarms := u.forceWarm_warms
    have hwork : u.service.resets.cur = some r := (congrArg Resets.cur hkept.resets_eq).trans hcur
    exact ⟨_, exec_next_of_eq (i := .aoStallTimeout) rfl hstalled (hwarms.pending_eq.trans hkept.pending_eq)
      (hwarms.part_eq.trans hkept.part_eq), hwarms.now_eq.trans hkept.now_eq, fun h => absurd h hwarm,
      fun _ => State.forceWarm_of_work hwork hphase hwarm⟩

end

/-- Settles O46. The times are the model's choice (log 1), and so is the place of a reset behind another (log 68,
log 137). -/
theorem managementCoreIsWatched : Obligations.ManagementCoreIsWatched := by
  refine fun s => ⟨fun hlive hup => ?beat, fun hlive hdown => ?noBeat, fun hlive r hr => ⟨(exec_mgmtRow hlive hr).1,
    fun hcond => ⟨fun hfew => ?few, fun hlimit => ?limit⟩⟩, fun hlive => ⟨(exec_mgmtFailLimitReached hlive).1,
    fun hlimit hup hdue => ?reached⟩, exec_aoStallTimeout_of_none, fun r hcur => ⟨exec_aoStallTimeout_of_waiting hcur,
    exec_aoStallTimeout_of_work hcur⟩⟩
  case beat =>
    exact exec_next_of_eq (i := .mgmtHeartbeat) rfl ((State.whenLive_of_live hlive _).trans (if_pos hup)) rfl rfl
  case noBeat =>
    exact exec_next_of_eq (i := .mgmtHeartbeat) rfl ((State.whenLive_of_live hlive _).trans (if_neg (by simp [hdown])))
      rfl rfl
  case few =>
    obtain ⟨t, q, heq, hpending, hpart, hrest⟩ := State.mgmtReset_few hfew r.2.2.2
    exact ⟨t, q, exec_next_of_eq ((exec_mgmtRow hlive hr).2 hcond) heq hpending hpart, hrest⟩
  case limit =>
    obtain ⟨t, heq, hpending, hpart, hrest⟩ := State.mgmtReset_limit hlimit r.2.2.2
    exact ⟨t, exec_next_of_eq ((exec_mgmtRow hlive hr).2 hcond) heq hpending hpart, hrest⟩
  case reached =>
    obtain ⟨t, heq, hpending, hpart, hrest⟩ := State.mgmtReset_limit hlimit 1
    exact ⟨t, exec_next_of_eq ((exec_mgmtFailLimitReached hlive).2 hlimit hup hdue) heq hpending hpart, hrest⟩

end Sys2Proof.Machine
end

section
/-!
PROOFS. Dumps start and end, reports are sent again and acknowledged, and a fence brings the spare state
(spec/16_hang_reset_recovery.md R484, R485, R487, R491, R492, R495).
-/

namespace Sys2Proof.Machine

open Sys2Proof.Claims

/-! ### Slots and the start of a dump (R385, R484) -/

section
variable {s : State}

theorem State.dumpSlot_unlocked {n : Nat} (h : s.dumpSlot = some n) : n < 4 ∧ bit (s.par K.DUMP_SLOT_LOCKS) n = false := by
  obtain ⟨i, -, rfl⟩ := List.mem_map.mp (List.mem_of_find?_eq_some h)
  have hunlocked := List.find?_some h
  exact ⟨Nat.mod_lt _ (by decide), by simpa using hunlocked⟩

theorem State.dumpSlot_of_locked (h : ∀ n < 4, bit (s.par K.DUMP_SLOT_LOCKS) n = true) : s.dumpSlot = none := by
  refine List.find?_eq_none.mpr fun n hn => ?_
  obtain ⟨i, -, rfl⟩ := List.mem_map.mp hn
  simp [h _ (Nat.mod_lt _ (by decide))]

theorem State.dumpSlot_of_unlocked {n : Nat} (hn : n < 4) (h : bit (s.par K.DUMP_SLOT_LOCKS) n = false) :
    ∃ m, s.dumpSlot = some m := by
  refine Option.isSome_iff_exists.mp (List.find?_isSome.mpr ⟨n, List.mem_map.mpr ⟨(n + 4 - s.hbm.dumpSlot % 4) % 4, ?_, ?_⟩, ?_⟩)
  · exact List.mem_range.mpr (Nat.mod_lt _ (by decide))
  · omega
  · simp [h]

end

/-! ### The end of a dump (R484, R485, R522) -/

/-- Free values have been drawn, and nothing else has changed. -/
def State.Drawn (s t : State) : Prop := t = { s with free := t.free }

namespace State.Drawn

theorem refl (s : State) : s.Drawn s := rfl

theorem trans {s t u : State} (hst : s.Drawn t) (htu : t.Drawn u) : s.Drawn u := by
  unfold State.Drawn at *
  rw [htu, hst]

theorem foldl_fst {α β : Type} {f : State × β → α → State × β} (hf : ∀ (p : State × β) a, p.1.Drawn (f p a).1) (l : List α)
    (p : State × β) : p.1.Drawn (l.foldl f p).1 := by
  induction l generalizing p with
  | nil => exact refl _
  | cons a l ih => exact (hf p a).trans (ih (f p a))

theorem ite_fst {s : State} {α : Type} {c : Prop} {_ : Decidable c} {p q : State × α} (hp : s.Drawn p.1)
    (hq : s.Drawn q.1) : s.Drawn (if c then p else q).1 := by
  split <;> assumption

theorem draw (s : State) : s.Drawn s.draw.2 := rfl

theorem openBytes (s : State) (n : Nat) : s.Drawn (s.openBytes n).1 := by
  unfold State.openBytes
  exact foldl_fst (f := fun (acc : State × List Nat) (_ : Nat) => (acc.1.draw.2, acc.2 ++ toBytes 8 acc.1.draw.1))
    (fun p _ => draw p.1) _ (s, [])

theorem counter (s : State) (l : Cluster) (k i : Nat) : s.Drawn (s.counter l k i).1 := by
  unfold State.counter
  exact ite_fst (draw s) (ite_fst (refl s) (ite_fst (draw s) (refl s)))

theorem sample (s : State) (c : Nat) (fin : Bool) : s.Drawn (s.sample c fin).1 := by
  have hcounter (r t : State) (l : Cluster) (k i : Nat) (h : r.Drawn t) : r.Drawn (t.counter l k i).1 :=
    h.trans (counter t l k i)
  unfold State.sample
  refine foldl_fst (β := Nat) (fun p k => foldl_fst (β := Nat) (fun p i => ?_) _ p) _ _
  exact hcounter _ _ _ _ _ (refl _)

theorem shownSample (s : State) (c : Nat) : s.Drawn (s.shownSample c).1 := by
  unfold State.shownSample
  split
  · exact sample s c false
  · exact refl s

theorem dumpSection (s : State) (typ unit : Nat) : s.Drawn (s.section typ unit).1 := by
  unfold State.section
  split
  case h_4 => exact openBytes s 256
  case h_6 => exact shownSample s unit
  case h_9 => exact openBytes s (256 * 80)
  case h_14 => exact openBytes s 256
  all_goals exact refl s

end State.Drawn

/-- What a dump writes is service memory; free values are drawn for it. -/
def State.Written (s t : State) : Prop := t = { s with free := t.free, mem := { s.mem with service := t.mem.service } }

namespace State.Written

theorem refl (s : State) : s.Written s := rfl

theorem trans {s t u : State} (hst : s.Written t) (htu : t.Written u) : s.Written u := by
  unfold State.Written at *
  rw [htu, hst]

theorem writeSection (s : State) (a : Nat) (q : Nat × Nat × Nat) : s.Written (s.writeSection a q).1 := by
  have hdrawn := State.Drawn.dumpSection s q.1 q.2.1
  obtain ⟨m, hm⟩ : ∃ m, (s.writeSection a q).1 = { (s.section q.1 q.2.1).1 with
      mem := { (s.section q.1 q.2.1).1.mem with service := m } } := ⟨_, rfl⟩
  rw [State.Drawn] at hdrawn
  rw [State.Written, hm, hdrawn]

theorem sections (l : List (Nat × Nat × Nat)) (p : State × Nat) :
    p.1.Written (l.foldl (fun acc q => acc.1.writeSection acc.2 q) p).1 := by
  induction l generalizing p with
  | nil => exact refl _
  | cons q l ih => exact (writeSection p.1 p.2 q).trans (ih _)

end State.Written

section
variable {s : State} {d : DumpRun}

/-- The state in which a dump has been written, and none runs. -/
def State.dumped (s : State) (m : Store) (d : DumpRun) : State :=
  { s with
    mem := { s.mem with service := m }
    hbm := { s.hbm with dumpSlot := (d.slot + 1) % 4 }
    service := { s.service with dump := none } }

/-- The sections of a dump are written from an offset on. -/
def State.dumpSections (s : State) (truncated : Bool) (a : Nat) : State × Nat :=
  (if truncated then s.sections.take (s.draw.1 % (s.sections.length + 1)) else s.sections).foldl
    (fun acc q => acc.1.writeSection acc.2 q) (if truncated then s.draw.2 else s, a)

theorem State.dumpSections_written (s : State) (truncated : Bool) (a : Nat) : s.Written (s.dumpSections truncated a).1 := by
  have hstart : s.Written (if truncated then s.draw.2 else s) := by
    split <;> exact rfl
  exact hstart.trans (State.Written.sections _ (_, a))

/-- A dump is counted, twice where it is cut off, and reported. -/
def State.dumpTold (s : State) (truncated : Bool) (n : Nat) : State :=
  (if truncated then (s.bump K.DUMPS_WRITTEN 1).bump K.DUMPS_TRUNCATED 1 else s.bump K.DUMPS_WRITTEN 1).report 0x0E none n

theorem State.endDump_of_none (h : s.service.dump = none) (truncated : Bool) : s.endDump truncated = s := by
  rw [State.endDump, h]

theorem State.endDump_of_some (h : s.service.dump = some d) (truncated : Bool) : ∃ u m n, s.Written u ∧
    s.endDump truncated = (u.dumped m d).dumpTold truncated n := by
  have hwritten := s.dumpSections_written truncated (0x20000000 + d.slot * 0x80000000 + 64)
  rw [State.endDump, h]
  exact ⟨_, _, _, hwritten, rfl⟩

end

theorem State.dumpTold_facts (s : State) (truncated : Bool) (n : Nat) : let t := s.dumpTold truncated n
    (t = { s with od := t.od, links := t.links, reports := t.reports }) ∧ counted s t K.DUMPS_WRITTEN 1 ∧
      t.reports.next = (s.reports.next + 1) % 2 ^ 32 := by
  have htold (u : State) (hu : u = { s with od := u.od }) (hcounted : counted s u K.DUMPS_WRITTEN 1) :
      let t := u.report 0x0E none n
      (t = { s with od := t.od, links := t.links, reports := t.reports }) ∧ counted s t K.DUMPS_WRITTEN 1 ∧
        t.reports.next = (s.reports.next + 1) % 2 ^ 32 := by
    refine ⟨?_, ((u.report_told 0x0E none n).par_eq _ (by decide)).trans hcounted, ?_⟩
    · rw [(u.report_told 0x0E none n).frame, hu]
    · rw [u.report_next, hu]
  unfold State.dumpTold
  split
  · exact htold _ rfl (((s.bump K.DUMPS_WRITTEN 1).bump_par _ _ _).trans
      ((if_neg (by decide)).trans (s.bump_par_same _ _)))
  · exact htold _ rfl (s.bump_par_same _ _)

/-- What the end of a dump leaves of the part. -/
theorem State.endDump_facts {s : State} {d : DumpRun} (h : s.service.dump = some d) (truncated : Bool) :
    let t := s.endDump truncated
    t.service.resets = s.service.resets ∧ t.service.dump = none ∧ t.hbm.dumpSlot = (d.slot + 1) % 4 ∧
      counted s t K.DUMPS_WRITTEN 1 ∧ t.reports.next = (s.reports.next + 1) % 2 ^ 32 ∧ t.mem.hbm = s.mem.hbm ∧
      t.mem.shelf = s.mem.shelf ∧ t.cores = s.cores ∧ t.ctxs = s.ctxs ∧ t.now = s.now ∧ t.pending = s.pending ∧
      t.part = s.part := by
  obtain ⟨u, m, n, hwritten, hend⟩ := State.endDump_of_some h truncated
  obtain ⟨hframe, hcounted, hnext⟩ := State.dumpTold_facts (u.dumped m d) truncated n
  rw [State.Written] at hwritten
  generalize u.free = f, u.mem.service = w at hwritten
  subst hwritten
  rw [hend]
  refine ⟨?_, ?_, ?_, hcounted, hnext, ?_, ?_, ?_, ?_, ?_, ?_, ?_⟩
  all_goals rw [hframe]; rfl

/-! ### The dump of a reset ends (R485) -/

section
variable {s : State}

theorem State.resumeReset_of_none (h : s.service.resets.cur = none) : s.resumeReset = s := by
  rw [State.resumeReset, h]

theorem State.resumeReset_of_work {r : ResetRun} (h : s.service.resets.cur = some r) (hphase : r.phase ≠ 0) :
    s.resumeReset = s := by
  rw [State.resumeReset, h]
  exact if_neg (by simp [hphase])

theorem State.resumeReset_of_waiting {r : ResetRun} (h : s.service.resets.cur = some r) (hphase : r.phase = 0)
    (hdump : s.service.dump = none) : s.resumeReset = s.performReset r := by
  rw [State.resumeReset, h]
  exact if_pos (by simp [hphase, hdump])

/-- The reset that waited for a dump goes on when the dump ends. -/
theorem State.resumeReset_endDump {d : DumpRun} {r : ResetRun} (hdump : s.service.dump = some d)
    (hcur : s.service.resets.cur = some r) (hphase : r.phase = 0) (truncated : Bool) :
    let t := (s.endDump truncated).resumeReset
    ∃ q, t.service.dump = none ∧ t.hbm.dumpSlot = (d.slot + 1) % 4 ∧ counted s t K.DUMPS_WRITTEN 1 ∧ t.now = s.now ∧
      t.service.resets.cur = some q ∧ q.domain = r.domain ∧ q.phase = 1 ∧ t.pending = s.pending ∧ t.part = s.part := by
  obtain ⟨hresets, hnone, hslot, hcounted, -, -, -, -, -, hnow, hpending, hpart⟩ := State.endDump_facts hdump truncated
  have hbegun := (s.endDump truncated).performReset_begun r
  have hwork : (s.endDump truncated).service.resets.cur = some r := by rw [hresets, hcur]
  rw [State.resumeReset_of_waiting hwork hphase hnone]
  exact ⟨_, hbegun.dump_none hnone, hbegun.dumpSlot_eq.trans hslot, hbegun.written_eq.trans hcounted,
    hbegun.now_eq.trans hnow, hbegun.cur_eq, rfl, rfl, hbegun.pending_eq.trans hpending, hbegun.part_eq.trans hpart⟩

theorem State.dumpLate_of_none (h : s.service.dump = none ∨ s.service.resets.cur = none) : s.dumpLate = s := by
  unfold State.dumpLate
  split
  next hdump hcur => obtain h | h := h <;> simp_all
  next => rfl

theorem State.dumpLate_of_some {d : DumpRun} {r : ResetRun} (hdump : s.service.dump = some d)
    (hcur : s.service.resets.cur = some r) : s.dumpLate =
      if r.phase ≠ 0 then s else ((s.reach (max d.start r.began + 50 * unitsPerMs)).endDump true).resumeReset := by
  rw [State.dumpLate, hdump, hcur]

end

/-! ### Reports are sent again and acknowledged (R491, R492) -/

section
variable (s : State)

theorem State.sendReports_told (l : List (Nat × Nat)) (f : State → Nat × Nat → BitVec 256) :
    let t := l.foldl (fun s p => s.sendReport (f s p)) s
    s.Told t ∧ t.reports = s.reports := by
  induction l generalizing s with
  | nil => exact ⟨.refl s, rfl⟩
  | cons p l ih =>
    obtain ⟨htold, hreports⟩ := s.sendReport_told (f s p)
    obtain ⟨hrest, hkept⟩ := ih (s.sendReport (f s p))
    exact ⟨htold.trans hrest, hkept.trans hreports⟩

variable {s}

theorem State.resendReports_of_none (h : s.reports.unacked = []) : s.resendReports = s := by
  rw [State.resendReports, h]

/-- The records that are due leave again, and their times are set anew. -/
theorem State.resendReports_of_some {p : Nat × Nat} {l : List (Nat × Nat)} (h : s.reports.unacked = p :: l) :
    ∃ v, (s.reach p.2).Told v ∧ v.reports = s.reports ∧ s.resendReports =
      { v with reports := { v.reports with unacked := v.reports.unacked.map (fun p =>
        if p.2 ≤ v.now then (p.1, v.now + v.parMs K.REPORT_RESEND) else p) } } := by
  obtain ⟨htold, hreports⟩ := State.sendReports_told (s.reach p.2)
    ((s.reach p.2).reports.unacked.filter (fun (q : Nat × Nat) => decide (q.2 ≤ (s.reach p.2).now)))
    (fun s q => Tbl.get s.reports.ring 0 (q.1 % 64))
  refine ⟨_, htold, hreports, ?_⟩
  rw [State.resendReports, h]

theorem State.resendReports_facts {p : Nat × Nat} {l : List (Nat × Nat)} (h : s.reports.unacked = p :: l) :
    let t := s.resendReports
    t.now = max s.now p.2 ∧ t.reports.next = s.reports.next ∧ t.reports.ring = s.reports.ring ∧
      t.reports.unacked = s.reports.unacked.map (fun u =>
        if u.2 ≤ t.now then (u.1, t.now + s.parMs K.REPORT_RESEND) else u) ∧
      t.pending = s.pending ∧ t.part = s.part := by
  obtain ⟨v, htold, hreports, heq⟩ := State.resendReports_of_some h
  have hnow : v.now = max s.now p.2 := by rw [htold.frame]; rfl
  have hresend : v.parMs K.REPORT_RESEND = s.parMs K.REPORT_RESEND :=
    congrArg (· * unitsPerMs) (htold.par_eq _ (by decide))
  rw [heq]
  dsimp only
  rw [hreports, hnow, hresend]
  refine ⟨rfl, rfl, rfl, rfl, ?_, ?_⟩ <;> rw [htold.frame] <;> rfl

theorem State.ackReports_mem (n : BitVec 32) (u : Nat × Nat) : u ∈ (s.ackReports n.toNat).reports.unacked ↔
    u ∈ s.reports.unacked ∧ 2 ^ 31 ≤ (n.toNat + 2 ^ 32 - u.1) % 2 ^ 32 := by
  unfold State.ackReports
  rw [List.mem_filter]
  simp only [Bool.not_eq_true', decide_eq_false_iff_not, not_lt]

end

/-! ### The spare state (R495) -/

section
variable (s : State)

/-- The part without its job contexts. -/
def State.jobless (s : State) (domain : Nat) : State :=
  ((List.range 16).filter (fun x => s.jobSize x ≠ 0 && (s.cx x).st ≠ .closed)).foldl
    (fun s x => s.teardown x false domain) s

theorem State.enterSpare_eq (cause given domain : Nat) : ∃ l n, s.enterSpare cause given domain =
    (({ (s.jobless domain).setPar K.JOB_MEMBERSHIP 0 with
        links := { (s.jobless domain).links with eps := l }
        service := { (s.jobless domain).service with spare := ⟨true, cause, given, none⟩ } } : State).bump
      K.SPARE_DROPS 1).report 0x0F none n := ⟨_, _, rfl⟩

theorem State.jobless_closed {x : Nat} (hx : x < 16) (hjob : s.jobSize x ≠ 0) (hst : (s.cx x).st ≠ .teardown)
    (domain : Nat) : ((s.jobless domain).cx x).st = .closed := by
  obtain ⟨hshed, hclosed⟩ := State.Shed.teardowns false domain
    ((List.range 16).filter (fun x => s.jobSize x ≠ 0 && (s.cx x).st ≠ .closed)) s
  by_cases hdown : (s.cx x).st = .closed
  · obtain heq | heq := hshed.st_eq x
    · exact heq.trans hdown
    · exact heq
  · exact hclosed x (List.mem_filter.mpr ⟨List.mem_range.mpr hx, by simp [hjob, hdown]⟩) hst

theorem State.enterSpare_facts (cause given : Nat) : let t := s.enterSpare cause given 0
    t.service.spare = ⟨true, cause, given, none⟩ ∧ t.par K.JOB_MEMBERSHIP = 0 ∧ t.now = s.now ∧
      counted s t K.SPARE_DROPS 1 ∧
      (∀ x < 16, s.jobSize x ≠ 0 → (s.cx x).st ≠ .teardown → (t.cx x).st = .closed) ∧
      t.pending = s.pending ∧ t.part = s.part := by
  have hshed : s.Shed (s.jobless 0) := (State.Shed.teardowns _ _ _ _).1
  have hclosed := fun x hx hjob hst => s.jobless_closed (x := x) hx hjob hst 0
  obtain ⟨l, n, heq⟩ := s.enterSpare_eq cause given 0
  have hdrops : (s.jobless 0).par K.SPARE_DROPS = s.par K.SPARE_DROPS := hshed.par_eq _ (by decide) (by decide)
  have hnow := hshed.now_eq
  have hpending := hshed.pending_eq
  have hpart := hshed.part_eq
  rw [heq]
  clear heq hshed
  generalize s.jobless 0 = u at *
  obtain ⟨v, hv⟩ : ∃ v : State, v = { u.setPar K.JOB_MEMBERSHIP 0 with
    links := { u.links with eps := l }
    service := { u.service with spare := ⟨true, cause, given, none⟩ } } := ⟨_, rfl⟩
  have hset (k : Nat) : v.par k = (u.setPar K.JOB_MEMBERSHIP 0).par k := by
    rw [hv]
    rfl
  have hmember : v.par K.JOB_MEMBERSHIP = 0 := by rw [hset, State.setPar_par, if_pos rfl]
  have hcount : v.par K.SPARE_DROPS = u.par K.SPARE_DROPS := by rw [hset, State.setPar_par, if_neg (by decide)]
  rw [← hv]
  have htold := (v.bump K.SPARE_DROPS 1).report_told 0x0F none n
  refine ⟨?_, ?_, ?_, ?_, fun x hx hjob hst => ?_, ?_, ?_⟩
  · rw [htold.frame, hv]
    rfl
  · rw [htold.par_eq _ (by decide), State.bump_par, if_neg (by decide), hmember]
  · rw [htold.frame, hv]
    exact hnow
  · rw [counted, htold.par_eq _ (by decide), State.bump_par_same, hcount, hdrops]
  · rw [State.cx, htold.frame, hv]
    exact hclosed x hx hjob hst
  · rw [htold.frame, hv]
    exact hpending
  · rw [htold.frame, hv]
    exact hpart

end

/-- Settles O47. The times are the model's choice (log 1), and so are the slot of a dump (log 69) and what a row whose
condition does not hold leaves (log 8). -/
theorem dumpsReportsAndFences : Obligations.DumpsReportsAndFences := by
  refine ⟨fun s hlive => ⟨fun d hdump => ?joins, fun hdump hslot => ?starts, fun hdump hlocked => ?drops⟩,
    fun s => ⟨fun hdump hcur => ?noDump, fun d r hdump hcur hphase => ?resumes, fun d hdump hphase => ?ends,
      fun h => ?noLate, fun d r hdump hcur => ⟨fun hphase => ?notLate, fun hphase => ?late⟩⟩,
    fun s hanswer => ⟨fun hnone => ?noReport, fun p l hunacked => ?resends, fun n => ?acknowledged⟩,
    fun v s hlive => ⟨fun hwait => ?noWait, fun cmd cause given time hcmd => ?spare⟩⟩
  case joins =>
    exact exec_next_of_eq (i := .dumpCtrl) rfl ((State.whenLive_of_live hlive _).trans (State.startDump_of_running hdump))
      rfl rfl
  case starts =>
    obtain ⟨n, hn, hunlocked⟩ := hslot
    obtain ⟨m, hm⟩ := State.dumpSlot_of_unlocked hn hunlocked
    obtain ⟨o, c, hstart⟩ := State.startDump_of_slot (trigger := 0xFF) (before := false) hdump hm
    obtain ⟨hm4, hfree⟩ := State.dumpSlot_unlocked hm
    exact ⟨_, m, exec_next_of_eq (i := .dumpCtrl) rfl ((State.whenLive_of_live hlive _).trans hstart) rfl rfl, rfl, hm4,
      hfree, rfl⟩
  case drops =>
    have hfull := State.startDump_of_full (trigger := 0xFF) (before := false) hdump (State.dumpSlot_of_locked hlocked)
    exact ⟨_, exec_next_of_eq (i := .dumpCtrl) rfl ((State.whenLive_of_live hlive _).trans hfull) rfl rfl,
      State.bump_par_same _ _ _, rfl⟩
  case noDump =>
    exact exec_next_of_eq (i := .dumpEnd) rfl
      (by rw [State.endDump_of_none hdump, State.resumeReset_of_none hcur]) rfl rfl
  case resumes =>
    obtain ⟨q, hnone, hslot, hcounted, hnow, hq, hdomain, hwork, hpending, hpart⟩ :=
      State.resumeReset_endDump hdump hcur hphase false
    exact ⟨_, q, exec_next_of_eq (i := .dumpEnd) rfl rfl hpending hpart, hnone, hslot, hcounted, hnow, hq, hdomain, hwork⟩
  case ends =>
    obtain ⟨hresets, hnone, hslot, hcounted, hnext, hhbm, hshelf, hcores, hctxs, hnow, hpending, hpart⟩ :=
      State.endDump_facts hdump false
    have hresume : (s.endDump false).resumeReset = s.endDump false := by
      cases hcur : s.service.resets.cur with
      | none => exact State.resumeReset_of_none (by rw [hresets, hcur])
      | some r => exact State.resumeReset_of_work (by rw [hresets, hcur]) (hphase r hcur)
    exact ⟨_, exec_next_of_eq (i := .dumpEnd) rfl hresume hpending hpart, hresets, hnone, hslot, hcounted, hnext, hhbm,
      hshelf, hcores, hctxs, hnow⟩
  case noLate => exact exec_next_of_eq (i := .dumpTruncation) rfl (State.dumpLate_of_none h) rfl rfl
  case notLate =>
    exact exec_next_of_eq (i := .dumpTruncation) rfl ((State.dumpLate_of_some hdump hcur).trans (if_pos hphase)) rfl rfl
  case late =>
    obtain ⟨q, hnone, -, -, hnow, hq, hdomain, hwork, hpending, hpart⟩ :=
      State.resumeReset_endDump (s := s.reach (max d.start r.began + 50 * unitsPerMs)) hdump hcur hphase true
    exact ⟨_, q, exec_next_of_eq (i := .dumpTruncation) rfl
      ((State.dumpLate_of_some hdump hcur).trans (if_neg (not_not.mpr hphase))) hpending hpart, hnone, hnow, hq, hdomain,
      hwork⟩
  case noReport =>
    exact exec_next_of_eq (i := .reportResend) rfl ((if_pos hanswer).trans (State.resendReports_of_none hnone)) rfl rfl
  case resends =>
    obtain ⟨hnow, hnext, hring, hlist, hpending, hpart⟩ := State.resendReports_facts hunacked
    exact ⟨_, exec_next_of_eq (i := .reportResend) rfl (if_pos hanswer) hpending hpart, hnow, hnext, hring, hlist⟩
  case acknowledged =>
    exact ⟨_, exec_next_of_eq (i := .reportAck n) rfl (if_pos hanswer) rfl rfl, State.ackReports_mem n,
      List.filter_sublist, rfl⟩
  case noWait =>
    exact exec_next_of_eq (i := .fenceNoticeWaitExpiry) rfl
      ((State.whenLive_of_live hlive _).trans (by rw [State.fenceWaitEnd, hwait])) rfl rfl
  case spare =>
    obtain ⟨rfl, rfl, rfl, rfl⟩ | ⟨u, w, rfl, hwait, rfl, rfl, rfl⟩ := hcmd
    · obtain ⟨hspare, hmember, hnow, hcounted, hclosed, hpending, hpart⟩ := s.enterSpare_facts 1 v.toNat
      exact ⟨_, exec_next_of_eq (i := .fenceNotice v) rfl (State.whenLive_of_live hlive _) hpending hpart, hspare, hmember,
        hnow, hcounted, hclosed⟩
    · obtain ⟨hspare, hmember, hnow, hcounted, hclosed, hpending, hpart⟩ := (s.reach (u + w)).enterSpare_facts 2 0
      exact ⟨_, exec_next_of_eq (i := .fenceNoticeWaitExpiry) rfl
        ((State.whenLive_of_live hlive _).trans (by rw [State.fenceWaitEnd, hwait])) hpending hpart, hspare, hmember, hnow,
        hcounted, hclosed⟩

end Sys2Proof.Machine
end

section
/-!
PROOFS. A port receives codewords and the flits in them, and sends a pair in turn (spec/13_ryuryn_links.md R388 to R393).
-/

namespace Sys2Proof.Machine

open Sys2Proof.Claims

/-! ### What a port that receives leaves of the part -/

/-- The counters of messages and flits that receiving moves. -/
def streamCounter (k : Nat) : Bool :=
  [K.BAD_MESSAGES, K.DEEP_CROSSING_DROPS, K.MGMT_QUEUE_DROPS, K.FLIT_RETRIES, K.PORT_RETRAINS].contains k

/-- `t` is `s` after a port has received: the queue of commands, the part and all other counters stand. -/
structure State.Streamed (s t : State) : Prop where
  pending_eq : t.pending = s.pending
  part_eq : t.part = s.part
  par_eq : ∀ k, streamCounter k = false → t.par k = s.par k

namespace State.Streamed

theorem refl (s : State) : s.Streamed s := ⟨rfl, rfl, fun _ _ => rfl⟩

theorem trans {s t u : State} (hst : s.Streamed t) (htu : t.Streamed u) : s.Streamed u :=
  ⟨htu.pending_eq.trans hst.pending_eq, htu.part_eq.trans hst.part_eq,
    fun k hk => (htu.par_eq k hk).trans (hst.par_eq k hk)⟩

theorem ite {s t u : State} {p : Prop} [Decidable p] (ht : s.Streamed t) (hu : s.Streamed u) :
    s.Streamed (if p then t else u) := by
  split <;> assumption

theorem setPort (s : State) (q : Nat) (p : Port) : s.Streamed (s.setPort q p) := ⟨rfl, rfl, fun _ _ => rfl⟩

theorem setInbox (s : State) (l : List (Nat × Msg)) : s.Streamed { s with links := { s.links with inbox := l } } :=
  ⟨rfl, rfl, fun _ _ => rfl⟩

theorem bump (s : State) {k : Nat} (n : Nat) (hk : streamCounter k = true) : s.Streamed (s.bump k n) where
  pending_eq := rfl
  part_eq := rfl
  par_eq i hi := by
    have hne : i ≠ k := fun h => by simp [h, hk] at hi
    rw [State.bump_par, if_neg hne]

theorem queueMgmt (s : State) (q : Nat) (m : Msg) : s.Streamed (s.queueMgmt q m) := by
  unfold State.queueMgmt
  extract_lets l
  exact ite (setInbox s _) (ite (bump s 1 (by decide)) (ite (bump s 1 (by decide)) ⟨rfl, rfl, fun _ _ => rfl⟩))

theorem sendOn (s : State) (q : Nat) (p : Port) : s.Streamed (s.sendOn q p) := by
  rw [s.sendOn_frame q p]
  exact ⟨rfl, rfl, fun _ _ => rfl⟩

theorem takeSlots (q n : Nat) (s : State) : s.Streamed (State.takeSlots q n s) := by
  induction n generalizing s with
  | zero => exact refl s
  | succ n ih =>
    rw [State.takeSlots]
    split
    · exact refl s
    · extract_lets c len
      refine ite ((setPort s q _).trans (ih _)) (ite (refl s) (ite (ite ?_ ?_) ?_))
      · exact ((setPort s q _).trans (queueMgmt _ q _)).trans (ih _)
      · exact ((setPort s q _).trans (setInbox _ _)).trans (ih _)
      · exact ((setPort s q _).trans (bump _ 1 (by decide))).trans (ih _)

theorem takeFlit (s : State) (q n : Nat) (bad : Bool) (slots : List (BitVec 128)) : s.Streamed (s.takeFlit q n bad slots) := by
  unfold State.takeFlit
  exact ite (ite (setPort s q _) ((setPort s q _).trans (takeSlots q 4096 _))) (ite (refl s) (setPort s q _))

theorem codeword (s : State) (q : Nat) (ok : Bool) (ctl data : Nat) : s.Streamed (s.codeword q ok ctl data) := by
  have hflits (f : Nat → Nat × Bool × List (BitVec 128)) (l : List Nat) (u : State) :
      u.Streamed (l.foldl (fun s i => s.takeFlit q (f i).1 (f i).2.1 (f i).2.2) u) := by
    induction l generalizing u with
    | nil => exact refl u
    | cons i l ih => exact (takeFlit u q _ _ _).trans (ih _)
  unfold State.codeword
  extract_lets p no w k u
  exact (setPort s q _).trans (hflits (fun i => (_, _, _)) _ u)

theorem retrainPort (s : State) (q : Nat) : s.Streamed (s.retrainPort q) := by
  unfold State.retrainPort
  exact ite (refl s) ((setPort s q _).trans (bump _ 1 (by decide)))

theorem resend (s : State) (q n : Nat) : s.Streamed (s.resend q n) := by
  unfold State.resend
  extract_lets p
  split
  · exact refl s
  · exact (setPort s q _).trans (bump _ _ (by decide))

theorem control (s : State) (q w : Nat) : s.Streamed (s.control q w) := by
  unfold State.control
  split
  · exact (setPort s q _).trans (sendOn _ q _)
  · exact resend s q _
  · exact retrainPort s q
  · exact refl s

theorem sendPair (s : State) (q : Nat) : s.Streamed (s.sendPair q) := by
  unfold State.sendPair
  exact ite (refl s) (setPort s q _)

end State.Streamed

/-! ### The flits of a port in sequence (R392) -/

/-- Where a port stands in the stream that it receives: the flit that is due, the bits of a flit that have arrived, and
whether some of them were lost. -/
def Port.receipt (p : Port) : Nat × Nat × Bool := (p.rxSeq, p.rxBits, p.rxBad)

section
variable (s : State) (q : Nat)

theorem State.setPort_receipt {p : Port} (h : p.receipt = (s.port q).receipt) :
    ((s.setPort q p).port q).receipt = (s.port q).receipt := by
  rw [State.setPort_port_same, h]

theorem State.queueMgmt_port (m : Msg) (j : Nat) : (s.queueMgmt q m).port j = s.port j := by
  unfold State.queueMgmt
  dsimp only
  split_ifs <;> rfl

theorem State.takeSlots_receipt (n : Nat) : ((State.takeSlots q n s).port q).receipt = (s.port q).receipt := by
  induction n generalizing s with
  | zero => rfl
  | succ n ih =>
    have hset (p : Port) (h : p.receipt = (s.port q).receipt) :
        ((State.takeSlots q n (s.setPort q p)).port q).receipt = (s.port q).receipt :=
      (ih _).trans (s.setPort_receipt q h)
    rw [State.takeSlots]
    split
    · rfl
    · extract_lets c len
      split_ifs
      · exact hset _ rfl
      · rfl
      · rw [ih, State.queueMgmt_port, State.setPort_port_same]
        rfl
      · rw [ih]
        exact s.setPort_receipt q rfl
      · rw [ih]
        exact s.setPort_receipt q rfl

theorem State.takeFlit_receipt (n : Nat) (bad : Bool) (slots : List (BitVec 128)) :
    ((s.takeFlit q n bad slots).port q).receipt =
      (if n = (s.port q).rxSeq ∧ bad = false then ((s.port q).rxSeq + 1) % 4096 else (s.port q).rxSeq,
        (s.port q).rxBits, (s.port q).rxBad) := by
  unfold State.takeFlit
  dsimp only
  by_cases hdue : n = (s.port q).rxSeq
  · cases bad with
    | true =>
      rw [if_pos hdue, if_pos rfl, if_neg (by simp)]
      exact s.setPort_receipt q rfl
    | false =>
      rw [if_pos hdue, if_neg (by simp), if_pos ⟨hdue, rfl⟩, State.takeSlots_receipt, State.setPort_port_same, ← hdue]
      rfl
  · have hother : ¬ (n = (s.port q).rxSeq ∧ bad = false) := fun h => hdue h.1
    rw [if_neg hdue, if_neg hother]
    split
    · rfl
    · exact s.setPort_receipt q rfl

/-- A damaged flit brings no message, and leaves the flit that is due. -/
theorem State.takeFlit_of_bad (n : Nat) (slots : List (BitVec 128)) : let t := s.takeFlit q n true slots
    (t.port q).receipt = (s.port q).receipt ∧ t.links.inbox = s.links.inbox := by
  refine ⟨?_, ?_⟩
  · rw [State.takeFlit_receipt, if_neg (by simp)]
    rfl
  · unfold State.takeFlit
    by_cases hdue : n = (s.port q).rxSeq
    · dsimp only
      rw [if_pos hdue, if_pos rfl]
      rfl
    · dsimp only
      rw [if_neg hdue]
      split <;> rfl

/-! ### Codewords (R388 to R391) -/

/-- The flits of a codeword that could not be corrected are all damaged. -/
theorem State.codeword_of_uncorrected (ctl data : Nat) : let t := s.codeword q false ctl data
    (t.port q).rxSeq = (s.port q).rxSeq ∧ t.links.inbox = s.links.inbox := by
  have hflits (f : Nat → Nat × List (BitVec 128)) (l : List Nat) (u : State) :
      let t := l.foldl (fun s i => s.takeFlit q (f i).1 true (f i).2) u
      (t.port q).receipt = (u.port q).receipt ∧ t.links.inbox = u.links.inbox := by
    induction l generalizing u with
    | nil => exact ⟨rfl, rfl⟩
    | cons i l ih =>
      obtain ⟨hreceipt, hinbox⟩ := u.takeFlit_of_bad q (f i).1 (f i).2
      obtain ⟨hrest, hkept⟩ := ih (u.takeFlit q (f i).1 true (f i).2)
      exact ⟨hrest.trans hreceipt, hkept.trans hinbox⟩
  unfold State.codeword
  extract_lets p no w k u
  obtain ⟨hreceipt, hinbox⟩ := hflits (fun i => ((no + i) % 4096, flitSlots (w >>> (2048 * i)))) (List.range k) u
  have hport : (u.port q).rxSeq = (s.port q).rxSeq := by
    unfold u
    rw [State.setPort_port_same]
  exact ⟨(congrArg Prod.fst hreceipt).trans hport, hinbox⟩

/-- A codeword that begins with the flit that is due completes two flits. -/
theorem State.codeword_of_due {ctl : Nat} (data : Nat) (hdue : bits ctl 12 1 = (s.port q).rxSeq)
    (hlow : (s.port q).rxBits < 1044) (hgood : (s.port q).rxBad = false) :
    ((s.codeword q true ctl data).port q).receipt =
      (((s.port q).rxSeq + 2) % 4096, ((s.port q).rxBits + 5100) % 2048, false) := by
  have htwo : ((s.port q).rxBits + 5100) / 2048 = 2 := by omega
  have hseq : (s.port q).rxSeq < 4096 := by
    rw [← hdue, bits]
    exact Nat.mod_lt _ (by decide)
  unfold State.codeword
  extract_lets p no w k u
  have hno : no = (s.port q).rxSeq := hdue
  have hk : k = 2 := htwo
  obtain ⟨b, hb⟩ : ∃ b, b = ((s.port q).rxBits + 5100) % 2048 := ⟨_, rfl⟩
  have hport : (u.port q).rxSeq = no ∧ (u.port q).rxBits = b ∧ (u.port q).rxBad = false := by
    unfold u
    rw [State.setPort_port_same, hb]
    exact ⟨hno.symm, rfl, rfl⟩
  obtain ⟨hseq', hbits, hbad⟩ := hport
  rw [← hb]
  have hfirst (slots : List (BitVec 128)) : ((u.takeFlit q no false slots).port q).receipt =
      ((no + 1) % 4096, b, false) := by
    rw [State.takeFlit_receipt, hseq', if_pos ⟨rfl, rfl⟩, hbits, hbad]
  have hsecond (v : State) (hv : (v.port q).receipt = ((no + 1) % 4096, b, false)) (slots : List (BitVec 128)) :
      ((v.takeFlit q ((no + 1) % 4096) false slots).port q).receipt = ((no + 2) % 4096, b, false) := by
    simp only [Port.receipt, Prod.mk.injEq] at hv
    have hstep : ((no + 1) % 4096 + 1) % 4096 = (no + 2) % 4096 := by omega
    rw [State.takeFlit_receipt, hv.1, if_pos ⟨rfl, rfl⟩, hstep, hv.2.1, hv.2.2]
  have hstart : (no + 0) % 4096 = no := Nat.mod_eq_of_lt (hno ▸ hseq)
  have hundamaged (i : Nat) : (!true || (decide (i = 0) && p.rxBad)) = false := by
    rw [show p.rxBad = false from hgood]
    simp
  rw [hk, show List.range 2 = [0, 1] from rfl, List.foldl_cons, List.foldl_cons, List.foldl_nil, hundamaged, hundamaged,
    hstart, ← hno]
  exact hsecond _ (hfirst _) _

end

/-! ### Control fields, and the pair that is sent (R388, R389, R391) -/

section
variable (s : State) (q : Nat)

theorem Port.ack_rxSeq (p : Port) (n : Nat) : (p.ack n).rxSeq = p.rxSeq := by
  unfold Port.ack
  split <;> rfl

theorem Port.Sent.rxSeq_eq {p r : Port} (h : p.Sent r) : r.rxSeq = p.rxSeq := by
  rw [h]

theorem State.resend_rxSeq (n : Nat) : ((s.resend q n).port q).rxSeq = (s.port q).rxSeq := by
  unfold State.resend
  extract_lets p
  split
  · rfl
  · exact (congrArg Port.rxSeq (s.setPort_port_same q _) :)

theorem State.retrainPort_rxSeq : ((s.retrainPort q).port q).rxSeq = (s.port q).rxSeq := by
  by_cases h : (s.port q).mode = .active
  · rw [State.retrainPort_of_active h]
    exact (congrArg Port.rxSeq (s.setPort_port_same q _) :)
  · rw [State.retrainPort_of_other h]

theorem State.control_rxSeq (w : Nat) : ((s.control q w).port q).rxSeq = (s.port q).rxSeq := by
  unfold State.control
  split
  · rw [State.pumpPort, State.sendOn_port, if_pos rfl, (Port.Sent.pump _ _ _).rxSeq_eq, State.setPort_port_same]
    exact Port.ack_rxSeq _ _
  · exact s.resend_rxSeq q _
  · exact s.retrainPort_rxSeq q
  · rfl

theorem Port.fill_sent (p : Port) : p.Sent p.fill := by
  have hflits (l : List Nat) (p : Port) :
      p.Sent (l.foldl (fun p _ => if 2048 ≤ p.retry.length then p else p.flit) p) := by
    induction l generalizing p with
    | nil => exact .refl p
    | cons i l ih =>
      have hflit : p.Sent (if 2048 ≤ p.retry.length then p else p.flit) := by
        split
        · exact .refl p
        · exact .flit p
      exact hflit.trans (ih _)
  exact hflits _ p

theorem Port.field_rxSeq (p : Port) : p.field.rxSeq = p.rxSeq := by
  unfold Port.field
  extract_lets f r
  split <;> rfl

theorem Port.field_ctl (p : Port) : p.field.ctl.length = p.ctl.length + 1 := by
  unfold Port.field
  extract_lets f r
  split
  · exact List.length_append
  · exact List.length_append

theorem State.sendPair_rxSeq : ((s.sendPair q).port q).rxSeq = (s.port q).rxSeq := by
  unfold State.sendPair
  extract_lets p
  split
  · rfl
  · rw [State.setPort_port_same, Port.field_rxSeq, Port.field_rxSeq]
    exact p.fill_sent.rxSeq_eq

theorem State.sendPair_inbox : (s.sendPair q).links.inbox = s.links.inbox := by
  unfold State.sendPair
  extract_lets p
  split <;> rfl

/-- A port that is ACTIVE has sent a pair. -/
theorem State.sendPair_ctl (h : ((s.sendPair q).port q).mode = .active) : ((s.sendPair q).port q).ctl.length = 2 := by
  unfold State.sendPair at h ⊢
  extract_lets p at h ⊢
  by_cases hmode : p.mode = .active
  · rw [if_neg (not_not.mpr hmode), State.setPort_port_same, Port.field_ctl, Port.field_ctl]
    rfl
  · rw [if_pos hmode] at h
    exact absurd h hmode

/-! ### What the decoder makes of a codeword (R390) -/

/-- The symbols that the decoder corrects. -/
def corrections (e : Option (Fin 16)) : Nat := (e.map (·.val)).getD 0

/-- The codewords that it cannot correct. -/
def losses (e : Option (Fin 16)) : Nat := if e = none then 1 else 0

variable {s q}

/-- `t` is `s` after the decoder has counted symbols and codewords. -/
structure State.Decoded (s : State) (q : Nat) (corrected lost : Nat) (t : State) : Prop where
  corrected_eq : s.par K.FEC_CORRECTED_SYMBOLS < 2 ^ 64 → counted s t K.FEC_CORRECTED_SYMBOLS corrected
  lost_eq : s.par K.FEC_UNCORRECTED_CODEWORDS < 2 ^ 64 → counted s t K.FEC_UNCORRECTED_CODEWORDS lost
  receipt_eq : (t.port q).receipt = (s.port q).receipt
  mode_eq : (t.port q).mode = (s.port q).mode
  inbox_eq : t.links.inbox = s.links.inbox
  service_eq : t.service = s.service
  pending_eq : t.pending = s.pending
  part_eq : t.part = s.part

theorem State.Decoded.trans {t u : State} {a b c d : Nat} (hst : s.Decoded q a b t) (htu : t.Decoded q c d u) :
    s.Decoded q (a + c) (b + d) u where
  corrected_eq hs := by
    have hfirst := hst.corrected_eq hs
    have hsecond := htu.corrected_eq (hfirst ▸ Nat.mod_lt _ (by decide))
    rw [counted, hsecond, hfirst, Nat.mod_add_mod, Nat.add_assoc]
  lost_eq hs := by
    have hfirst := hst.lost_eq hs
    have hsecond := htu.lost_eq (hfirst ▸ Nat.mod_lt _ (by decide))
    rw [counted, hsecond, hfirst, Nat.mod_add_mod, Nat.add_assoc]
  receipt_eq := htu.receipt_eq.trans hst.receipt_eq
  mode_eq := htu.mode_eq.trans hst.mode_eq
  inbox_eq := htu.inbox_eq.trans hst.inbox_eq
  service_eq := htu.service_eq.trans hst.service_eq
  pending_eq := htu.pending_eq.trans hst.pending_eq
  part_eq := htu.part_eq.trans hst.part_eq

variable (s q) in
theorem State.decoded_decoded (e : Option (Fin 16)) : s.Decoded q (corrections e) (losses e) (s.decoded q e) := by
  have hzero {k : Nat} (h : s.par k < 2 ^ 64) : s.par k = (s.par k + 0) % 2 ^ 64 := (Nat.mod_eq_of_lt h).symm
  have hport (p : Port) (k n : Nat) : ((s.setPort q p).bump k n).port q = p := s.setPort_port_same q p
  unfold State.decoded
  extract_lets
  cases e with
  | none =>
    exact ⟨fun h => ((State.bump_par _ _ _ _).trans (if_neg (by decide))).trans (hzero h),
      fun _ => State.bump_par_same _ _ _, by rw [hport]; rfl, by rw [hport], rfl, rfl, rfl, rfl⟩
  | some k =>
    dsimp only
    split
    next hk =>
      have hcorrections : corrections (some k) = 0 := hk
      rw [hcorrections]
      exact ⟨hzero, hzero, rfl, rfl, rfl, rfl, rfl, rfl⟩
    next hk =>
      exact ⟨fun _ => State.bump_par_same _ _ _,
        fun h => ((State.bump_par _ _ _ _).trans (if_neg (by decide))).trans (hzero h), by rw [hport]; rfl, by rw [hport],
        rfl, rfl, rfl, rfl⟩

end

/-! ### A pair of codewords (R388, R390) -/

section
variable (s : State) (q : Nat) (c : CodePair)

/-- The port has decoded a pair. -/
def State.pairDecoded : State := (s.decoded q c.errA).decoded q c.errB

/-- Both codewords have arrived at an ACTIVE port. -/
def State.pairTaken : State :=
  ((s.pairDecoded q c).codeword q c.errA.isSome c.ctlA.toNat c.dataA.toNat).codeword q c.errB.isSome c.ctlB.toNat
    c.dataB.toNat

/-- The port has acted on the control fields that it could read. -/
def State.pairActed : State :=
  let u := if c.errA.isSome then (s.pairTaken q c).control q c.ctlA.toNat else s.pairTaken q c
  if c.errB.isSome then u.control q c.ctlB.toNat else u

theorem State.pairDecoded_decoded :
    s.Decoded q (corrections c.errA + corrections c.errB) (losses c.errA + losses c.errB) (s.pairDecoded q c) :=
  (s.decoded_decoded q c.errA).trans (State.decoded_decoded _ q c.errB)

theorem State.pairActed_streamed : (s.pairDecoded q c).Streamed (s.pairActed q c) := by
  have htaken : (s.pairDecoded q c).Streamed (s.pairTaken q c) := (State.Streamed.codeword _ q _ _ _).trans (.codeword _ q _ _ _)
  unfold State.pairActed
  extract_lets u
  have hu : (s.pairDecoded q c).Streamed u := .ite (htaken.trans (.control _ q _)) htaken
  exact .ite (hu.trans (.control u q _)) hu

theorem State.pairActed_rxSeq : ((s.pairActed q c).port q).rxSeq = ((s.pairTaken q c).port q).rxSeq := by
  unfold State.pairActed
  extract_lets u
  have hu : (u.port q).rxSeq = ((s.pairTaken q c).port q).rxSeq := by
    unfold u
    split
    · exact State.control_rxSeq _ q _
    · rfl
  split
  · exact (State.control_rxSeq u q _).trans hu
  · exact hu

variable {s q}

theorem State.codewords_of_off (h : s.answering = false ∨ s.part.hasPort q = false ∨
    ((s.port q).mode ≠ .active ∧ (s.port q).mode ≠ .training ∧ (s.port q).mode ≠ .retraining)) : s.codewords q c = s := by
  refine if_pos ?_
  obtain h | h | ⟨hactive, htraining, hretraining⟩ := h
  · simp [h]
  · simp [h]
  · simp [hactive, htraining, hretraining]

variable (hanswer : s.answering = true) (hport : s.part.hasPort q = true)
  (hmode : (s.port q).mode = .active ∨ (s.port q).mode = .training ∨ (s.port q).mode = .retraining)
include hanswer hport hmode

theorem State.codewords_of_on : s.codewords q c =
    if (s.port q).mode ≠ .active then s.pairDecoded q c else (s.pairActed q c).sendPair q := by
  have hon : ¬ ((!s.answering || !s.part.hasPort q || ((s.port q).mode ≠ .active && (s.port q).mode ≠ .training &&
      (s.port q).mode ≠ .retraining)) = true) := by
    obtain h | h | h := hmode <;> simp [hanswer, hport, h]
  exact if_neg hon

theorem State.codewords_streamed : (s.pairDecoded q c).Streamed (s.codewords q c) := by
  rw [State.codewords_of_on c hanswer hport hmode]
  exact .ite (.refl _) ((s.pairActed_streamed q c).trans (.sendPair _ q))

end

/-! ### What a pair leaves of the flit that is due (R392) -/

section
variable (s : State) (q : Nat) (c : CodePair)

/-- A pair that could not be corrected. -/
theorem State.sendPair_of_uncorrected (hA : c.errA = none) (hB : c.errB = none) :
    let t := (s.pairActed q c).sendPair q
    (t.port q).rxSeq = (s.port q).rxSeq ∧ t.links.inbox = s.links.inbox := by
  have hdecoded := s.pairDecoded_decoded q c
  have hacted : s.pairActed q c = s.pairTaken q c := by
    unfold State.pairActed
    rw [hA, hB]
    rfl
  obtain ⟨hseqA, hinboxA⟩ := (s.pairDecoded q c).codeword_of_uncorrected q c.ctlA.toNat c.dataA.toNat
  obtain ⟨hseqB, hinboxB⟩ := ((s.pairDecoded q c).codeword q false c.ctlA.toNat c.dataA.toNat).codeword_of_uncorrected q
    c.ctlB.toNat c.dataB.toNat
  have htaken : s.pairTaken q c = ((s.pairDecoded q c).codeword q false c.ctlA.toNat c.dataA.toNat).codeword q false
      c.ctlB.toNat c.dataB.toNat := by
    unfold State.pairTaken
    rw [hA, hB]
    rfl
  refine ⟨?_, ?_⟩
  · rw [State.sendPair_rxSeq, hacted, htaken, hseqB, hseqA]
    exact congrArg Prod.fst hdecoded.receipt_eq
  · rw [State.sendPair_inbox, hacted, htaken, hinboxB, hinboxA, hdecoded.inbox_eq]

/-- A pair that begins with the flit that is due brings four. -/
theorem State.sendPair_of_due (hA : c.errA ≠ none) (hB : c.errB ≠ none) (hbits : (s.port q).rxBits = 0)
    (hbad : (s.port q).rxBad = false) (hdueA : bits c.ctlA.toNat 12 1 = (s.port q).rxSeq)
    (hdueB : bits c.ctlB.toNat 12 1 = ((s.port q).rxSeq + 2) % 4096) :
    (((s.pairActed q c).sendPair q).port q).rxSeq = ((s.port q).rxSeq + 4) % 4096 := by
  have hreceipt := (s.pairDecoded_decoded q c).receipt_eq
  simp only [Port.receipt, Prod.mk.injEq] at hreceipt
  obtain ⟨hseq, hb, hg⟩ := hreceipt
  have hfirst := (s.pairDecoded q c).codeword_of_due q c.dataA.toNat (hdueA.trans hseq.symm)
    (by rw [hb, hbits]; decide) (hg.trans hbad)
  have htaken : s.pairTaken q c = ((s.pairDecoded q c).codeword q true c.ctlA.toNat c.dataA.toNat).codeword q true
      c.ctlB.toNat c.dataB.toNat := by
    unfold State.pairTaken
    rw [Option.isSome_iff_ne_none.mpr hA, Option.isSome_iff_ne_none.mpr hB]
  rw [hseq, hb, hbits] at hfirst
  simp only [Port.receipt, Prod.mk.injEq] at hfirst
  obtain ⟨hseqA, hbA, hgA⟩ := hfirst
  have hsecond := State.codeword_of_due ((s.pairDecoded q c).codeword q true c.ctlA.toNat c.dataA.toNat) q
    c.dataB.toNat (hdueB.trans hseqA.symm) (by rw [hbA]; decide) hgA
  rw [State.sendPair_rxSeq, State.pairActed_rxSeq, htaken]
  refine (congrArg Prod.fst hsecond).trans ?_
  rw [hseqA]
  omega

end

end Sys2Proof.Machine
end

section
/-!
PROOFS. Messages that pass through, and faults of the links inside the package (spec/13_ryuryn_links.md R415, R417;
spec/01_swipin_package.md R16, R17).
-/

namespace Sys2Proof.Machine

open Sys2Proof.Claims

/-! ### A message with one hop more (R405, R415) -/

/-- A common slot with its HOPS raised by 1. -/
def hopped (h : BitVec 128) : BitVec 128 := BitVec.ofNat 128 (setBits h.toNat 109 106 (bits h.toNat 109 106 + 1))

theorem Msg.hop_cons (h : BitVec 128) (r : List (BitVec 128)) : Msg.hop (h :: r) = hopped h :: r := rfl

theorem Msg.common_hopped {h : BitVec 128} {r : List (BitVec 128)} (hhops : (Msg.common (h :: r)).hops < 15) :
    Msg.common (hopped h :: r) = { Msg.common (h :: r) with hops := (Msg.common (h :: r)).hops + 1 } := by
  have hlt := h.isLt
  simp only [Msg.common, Msg.slot, List.getD_cons_zero, bits, Nat.shiftRight_eq_div_pow] at hhops
  simp only [Msg.common, Msg.slot, List.getD_cons_zero, hopped, setBits, bits, BitVec.toNat_ofNat,
    Nat.shiftRight_eq_div_pow, Nat.shiftLeft_eq, Common.mk.injEq]
  generalize h.toNat = v at hlt hhops ⊢
  refine ⟨?_, ?_, ?_, ?_, ?_, ?_, ?_, ?_, ?_, ?_, ?_⟩ <;> omega

/-! ### MESSAGE_FORWARD (R415) -/

section
variable {s : State} {m : List (BitVec 128)}

theorem State.forward_of_left (h : s.answering = false ∨ s.ioOf m ≠ none ∨ Msg.stays m = true) : s.forward m = s := by
  refine if_pos ?_
  obtain h | h | h := h
  · simp [h]
  · simp [Option.isSome_iff_ne_none.mpr h]
  · simp [h]

variable (s m) in
/-- Is the path between the port where a message stands and the one by which it leaves stopped? -/
def State.passWaits : Bool :=
  match standsAt s m, leavesBy s m with
  | some i, some q => s.pathWaits (4 + i / 9) (4 + q / 9)
  | _, _ => false

theorem State.passWaits_iff : s.passWaits m = true ↔ forwardWaits s m := by
  unfold State.passWaits forwardWaits
  split
  next i q hi hq => simp [hi, hq]
  next hnone =>
    refine iff_of_false (by simp) ?_
    rintro ⟨i, out, hi, hout, -⟩
    exact hnone i out hi hout

variable (s m) in
/-- A message that leaves its receive buffer is dropped or passes. -/
def State.passOn : State :=
  if (Msg.common m).hops = 15 then (s.takeMsg m).bump K.HOP_LIMIT_DROPS 1
  else
    match leavesBy s m with
    | none => (s.takeMsg m).bump K.NO_ROUTE_DROPS 1
    | some q =>
      if (s.takeMsg m).power.state = .deep && ((standsAt s m).map (fun p => p / 9)).getD (q / 9) ≠ q / 9 then
        (s.takeMsg m).bump K.DEEP_CROSSING_DROPS 1
      else ((s.takeMsg m).toPort q (Msg.hop m)).bump K.PASS_THROUGH_MESSAGES 1

theorem State.takeMsg_leavesBy : leavesBy (s.takeMsg m) m = leavesBy s m := by
  unfold leavesBy
  simp only [State.takeMsg_route, State.takeMsg_choosePort]

variable (hanswer : s.answering = true) (hother : s.ioOf m = none) (hpasses : Msg.stays m = false)
include hanswer hother hpasses

theorem State.forward_eq : s.forward m = if s.passWaits m then s else s.passOn m := by
  have hon : ¬ ((!s.answering || (s.ioOf m).isSome || Msg.stays m) = true) := by simp [hanswer, hother, hpasses]
  have hleaves : leavesBy (s.takeMsg m) m = leavesBy s m := State.takeMsg_leavesBy
  refine (if_neg hon).trans ?_
  unfold State.passOn
  rw [← hleaves]
  rfl

theorem State.forward_of_free (hfree : ¬ forwardWaits s m) : s.forward m = s.passOn m := by
  rw [State.forward_eq hanswer hother hpasses, if_neg (fun h => hfree (State.passWaits_iff.mp h))]

end

theorem State.forward_of_waits {s : State} {m : List (BitVec 128)} (h : forwardWaits s m) : s.forward m = s := by
  by_cases hleft : s.answering = false ∨ s.ioOf m ≠ none ∨ Msg.stays m = true
  · exact State.forward_of_left hleft
  · simp only [not_or, Bool.not_eq_false, not_not, Bool.not_eq_true] at hleft
    obtain ⟨hanswer, hother, hpasses⟩ := hleft
    rw [State.forward_eq hanswer hother hpasses, if_pos (State.passWaits_iff.mpr h)]

section
variable {s : State} {m : List (BitVec 128)}

theorem State.takeMsg_bump_counted (k : Nat) : counted s ((s.takeMsg m).bump k 1) k 1 := by
  rw [counted, State.bump_par_same, State.takeMsg_par]

theorem State.takeMsg_bump_frame (k : Nat) : let t := (s.takeMsg m).bump k 1
    t = { s.takeMsg m with od := t.od, pending := s.pending, part := s.part } := by
  have hframe := s.takeMsg_frame m
  have hpending : (s.takeMsg m).pending = s.pending := by rw [hframe]
  have hpart : (s.takeMsg m).part = s.part := by rw [hframe]
  dsimp only
  rw [← hpending, ← hpart]
  rfl

/-- A message that is dropped under a counter. -/
theorem exec_messageForward_of_drop (q : Fin 27) {k : Nat} (h : s.forward m = (s.takeMsg m).bump k 1) :
    ∃ t, exec (.messageForward q m) s = .next t ∧ counted s t k 1 ∧
      t = { s.takeMsg m with od := t.od, pending := s.pending, part := s.part } := by
  have hframe := s.takeMsg_frame m
  exact ⟨_, exec_next_of_eq (i := .messageForward q m) rfl h (by rw [hframe]; rfl) (by rw [hframe]; rfl),
    State.takeMsg_bump_counted k, State.takeMsg_bump_frame k⟩

/-- A message that passes joins the port by which it leaves. -/
theorem exec_messageForward_of_pass (q : Fin 27) {h : BitVec 128} {r : List (BitVec 128)} {out : Nat}
    (hforward : s.forward (h :: r) =
      ((s.takeMsg (h :: r)).toPort out (hopped h :: r)).bump K.PASS_THROUGH_MESSAGES 1) :
    ∃ t n, exec (.messageForward q (h :: r)) s = .next t ∧ counted s t K.PASS_THROUGH_MESSAGES 1 ∧
      t.port out = Port.pump s.vcWeights n { (s.takeMsg (h :: r)).port out with
        out := ((s.takeMsg (h :: r)).port out).out ++ [hopped h :: r] } := by
  have htaken := s.takeMsg_frame (h :: r)
  have hsent := (s.takeMsg (h :: r)).toPort_frame out (hopped h :: r)
  obtain ⟨n, hport⟩ := (s.takeMsg (h :: r)).toPort_port out (hopped h :: r) out
  have hweights : (s.takeMsg (h :: r)).vcWeights = s.vcWeights := by
    rw [htaken]
    rfl
  have hpar : ((s.takeMsg (h :: r)).toPort out (hopped h :: r)).par K.PASS_THROUGH_MESSAGES =
      s.par K.PASS_THROUGH_MESSAGES := by
    rw [hsent]
    exact s.takeMsg_par (h :: r) _
  refine ⟨_, n, exec_next_of_eq (i := .messageForward q (h :: r)) rfl hforward ?_ ?_, ?_, ?_⟩
  · rw [State.bump_pending, hsent, htaken]
  · rw [State.bump_part, hsent, htaken]
  · rw [counted, State.bump_par_same, hpar]
  · rw [if_pos rfl, hweights] at hport
    exact hport

end

/-! ### Links inside the package fail (R17) -/

section
variable {s : State} (link : Nat)

/-- FAULT_L is driven, and the fault reported. -/
def State.faulted (s : State) (link : Nat) : State := (s.modBoot (fun b => { b with fault := true })).report 0x0B none link

theorem State.faulted_frame : ∃ o l q, s.faulted link =
    { s.modBoot (fun b => { b with fault := true }) with od := o, links := l, reports := q } :=
  ⟨_, _, _, (State.report_told _ 0x0B none link).frame⟩

/-- The dump that a fault orders has started. -/
def State.faultDumped (s : State) (link : Nat) : State :=
  if bit ((s.faulted link).par K.DUMP_TRIGGERS) 5 then (s.faulted link).startDump 5 false else s.faulted link

theorem State.packageFault_of_live (h : s.live = true) : s.packageFault link = (s.faultDumped link).forceWarm :=
  if_neg (by simp [h])

theorem State.faultDumped_fault : (s.faultDumped link).boot.fault = true ∧ (s.faultDumped link).pending = s.pending ∧
    (s.faultDumped link).part = s.part := by
  obtain ⟨o, l, q, hfaulted⟩ := s.faulted_frame link
  obtain ⟨p, c, d, hdump⟩ : ∃ p c d, (s.faulted link).startDump 5 false =
      { s.faulted link with od := p, clusters := c, service := { (s.faulted link).service with dump := d } } :=
    ⟨_, _, _, State.startDump_frame⟩
  unfold State.faultDumped
  split
  · rw [hdump, hfaulted]
    exact ⟨rfl, rfl, rfl⟩
  · rw [hfaulted]
    exact ⟨rfl, rfl, rfl⟩

/-- A reset of the package comes, in progress or waiting. -/
theorem State.packageFault_facts (h : s.live = true) : let t := s.packageFault link
    t.boot.fault = true ∧ (∃ r ∈ t.service.resets.cur.toList ++ t.service.resets.waiting, r.domain = .warm) ∧
      t.pending = s.pending ∧ t.part = s.part := by
  obtain ⟨hfault, hpending, hpart⟩ := s.faultDumped_fault link
  have hwarms := (s.faultDumped link).forceWarm_warms
  rw [State.packageFault_of_live link h]
  exact ⟨hwarms.fault_eq.trans hfault, hwarms.comes.2, hwarms.pending_eq.trans hpending, hwarms.part_eq.trans hpart⟩

/-- Without a dump and without another reset, the package is cleared at once. -/
theorem State.packageFault_cleared (h : s.live = true) (hfive : bit (s.par K.DUMP_TRIGGERS) 5 = false)
    (hthree : bit (s.par K.DUMP_TRIGGERS) 3 = false) (hdump : s.service.dump = none)
    (hcur : s.service.resets.cur = none) : let t := s.packageFault link
    (∃ r, t.service.resets.cur = some r ∧ r.domain = .warm ∧ r.phase = 1) ∧ warmCleared s t := by
  obtain ⟨o, l, q, hfaulted⟩ := s.faulted_frame link
  have htriggers : (s.faulted link).par K.DUMP_TRIGGERS = s.par K.DUMP_TRIGGERS :=
    (State.report_told _ 0x0B none link).par_eq _ (by decide)
  have hsame : (s.faulted link).service = s.service ∧ (s.faulted link).now = s.now := by
    rw [hfaulted]
    exact ⟨rfl, rfl⟩
  obtain ⟨hservice, hnow⟩ := hsame
  rw [State.packageFault_of_live link h, State.faultDumped, htriggers, if_neg (by simp [hfive])]
  rw [← htriggers] at hthree
  rw [← hservice] at hdump hcur
  generalize s.faulted link = u at hnow hthree hdump hcur
  obtain ⟨r, hr⟩ : ∃ r : ResetRun, r = { domain := .warm, unit := 0, began := u.now, mark := u.now } := ⟨_, rfl⟩
  have hdomain : r.domain = .warm := by rw [hr]
  have hforce : u.forceWarm = u.performReset r := by
    have hdumping : u.dumping r = u := by
      rw [State.dumping, State.ordersDump_eq (by rw [hr]) (n := 3) (by rw [hdomain]; rfl), if_neg (by simp [hthree])]
    rw [State.forceWarm, hcur, hr]
    dsimp only
    rw [← hr, State.beginReset_of_none (by rw [hdumping]; exact hdump), hdumping]
  have hbegun := u.performReset_begun r
  obtain ⟨⟨h1, h2, h3, h4, h5, h6, h7, h8, h9, h10, h11, h12, h13, h14⟩, -⟩ := State.performReset_warmCleared (s := u) hdomain
  rw [hforce]
  exact ⟨⟨_, hbegun.cur_eq, hdomain, rfl⟩, h1, h2, h3, h4, h5, h6, h7, h8, h9, h10, h11, h12, h13, h14.trans hnow⟩

end

/-- Settles O41. That a port sends a pair as it receives one, what waits for a path and where a package reset stands among
others are the model's choice (log 58, log 140, log 68). -/
theorem linksCarryCodewordsAndMessages : Obligations.LinksCarryCodewordsAndMessages := by
  refine ⟨fun q c s => ⟨fun h => ?off, fun hanswer hport hmode hcorrected hlost => ?pair, fun n bad slots => ?flit⟩,
    fun q m s => ⟨fun h => ?left, fun h => ?waits, fun hanswer hother hpasses hfree => ⟨fun hhops => ?limit,
      fun hhops hnone => ?noRoute, fun out i hhops hout hdeep hstands hcross => ?crossing,
      fun out h r hm hhops hout hnear => ?passes⟩⟩,
    fun s => ⟨fun h => ?noRetry, fun h => ?retry⟩, fun link s => ⟨fun h => ?noFault, fun hlive => ?fault⟩⟩
  case off => exact exec_next_of_eq (i := .codewordReceive q c) rfl (State.codewords_of_off c h) rfl rfl
  case pair =>
    have hdecoded := s.pairDecoded_decoded q c
    have hstreamed := State.codewords_streamed c hanswer hport hmode
    have heq := State.codewords_of_on c hanswer hport hmode
    refine ⟨_, exec_next_of_eq (i := .codewordReceive q c) rfl rfl (hstreamed.pending_eq.trans hdecoded.pending_eq)
      (hstreamed.part_eq.trans hdecoded.part_eq), (hstreamed.par_eq _ (by decide)).trans (hdecoded.corrected_eq hcorrected),
      (hstreamed.par_eq _ (by decide)).trans (hdecoded.lost_eq hlost), fun hquiet => ?_, fun hactive hstays => ?_,
      fun hactive hA hB => ?_, fun hactive hA hB hbits hbad hdueA hdueB => ?_⟩
    · rw [heq, if_pos hquiet]
      exact ⟨congrArg Prod.fst hdecoded.receipt_eq, hdecoded.inbox_eq, hdecoded.service_eq⟩
    · rw [heq, if_neg (not_not.mpr hactive)] at hstays ⊢
      exact State.sendPair_ctl _ _ hstays
    · rw [heq, if_neg (not_not.mpr hactive)]
      exact s.sendPair_of_uncorrected q c hA hB
    · rw [heq, if_neg (not_not.mpr hactive)]
      exact s.sendPair_of_due q c hA hB hbits hbad hdueA hdueB
  case flit => exact congrArg Prod.fst (s.takeFlit_receipt q n bad slots)
  case left => exact exec_next_of_eq (i := .messageForward q m) rfl (State.forward_of_left h) rfl rfl
  case waits => exact exec_next_of_eq (i := .messageForward q m) rfl (State.forward_of_waits h) rfl rfl
  case limit =>
    exact exec_messageForward_of_drop q ((State.forward_of_free hanswer hother hpasses hfree).trans (if_pos hhops))
  case noRoute =>
    refine exec_messageForward_of_drop q ((State.forward_of_free hanswer hother hpasses hfree).trans ?_)
    rw [State.passOn, if_neg (by omega), hnone]
  case crossing =>
    have hpower : (s.takeMsg m).power = s.power := by rw [s.takeMsg_frame m]
    refine exec_messageForward_of_drop q ((State.forward_of_free hanswer hother hpasses hfree).trans ?_)
    rw [State.passOn, if_neg (by omega), hout]
    exact if_pos (by simp [hpower, hdeep, hstands, hcross])
  case passes =>
    subst hm
    have hpower : (s.takeMsg (h :: r)).power = s.power := by rw [s.takeMsg_frame (h :: r)]
    have hforward : s.forward (h :: r) =
        ((s.takeMsg (h :: r)).toPort out (hopped h :: r)).bump K.PASS_THROUGH_MESSAGES 1 := by
      rw [State.forward_of_free hanswer hother hpasses hfree, State.passOn, if_neg (by omega), hout]
      refine if_neg ?_
      rw [hpower]
      cases hstands : standsAt s (h :: r) with
      | none => simp
      | some i =>
        by_cases hdeep : s.power.state = .deep
        · simp [hnear hdeep i hstands]
        · simp [hdeep]
    obtain ⟨t, n, hexec, hcounted, hport⟩ := exec_messageForward_of_pass q hforward
    exact ⟨t, n, hopped h, hexec, hcounted, Msg.common_hopped hhops, hport⟩
  case noRetry => exact exec_next_of_eq (i := .dieLinkRetry) rfl (if_neg (by simp [h])) rfl rfl
  case retry =>
    exact ⟨_, exec_next_of_eq (i := .dieLinkRetry) rfl (if_pos h) rfl rfl, State.bump_par_same _ _ _, rfl⟩
  case noFault => exact exec_next_of_eq (i := .packageFault link) rfl (if_pos (by simp [h])) rfl rfl
  case fault =>
    obtain ⟨hfault, hcomes, hpending, hpart⟩ := State.packageFault_facts link.toNat hlive
    exact ⟨_, exec_next_of_eq (i := .packageFault link) rfl rfl hpending hpart, hfault, hcomes,
      State.packageFault_cleared link.toNat hlive⟩

end Sys2Proof.Machine
end

section
/-!
PROOFS. What the traffic generators write, and how they start, stop and end (spec/12_external_memory.md R379).
-/

namespace Sys2Proof.Machine

open Sys2Proof.Claims

/-! ### Bytes read -/

theorem Store.read_eq (m : Store) (a n : Nat) :
    m.read a n = (List.range n).map (fun i => (m.byte (a + i)).toNat) := by
  unfold Store.read
  refine List.map_congr_left fun i hi => ?_
  have hin : (decide (a ≤ a + i) && decide (a + i < a + n)) = true := by
    have := List.mem_range.mp hi
    simp [this]
  rw [Store.byte, cellGet, cellGet, Tbl.get_filter m.cells _ _ (fun k => decide (a ≤ k) && decide (k < a + n)), if_pos hin]

theorem toBytes_getD_lt (n v i : Nat) : (toBytes n v).getD i 0 < 256 := by
  induction n generalizing v i with
  | zero => simp [toBytes]
  | succ n ih =>
    cases i with
    | zero => exact Nat.mod_lt _ (by decide)
    | succ i => exact ih (v / 256) i

/-! ### The bursts of a range (R362, R379) -/

section
variable (c : TgCfg)

/-- The pseudo-channels and bursts of a range. -/
def TgCfg.places : List (Nat × Nat) := c.pcs.flatMap (fun pc => (List.range c.bursts).map (fun i => (pc, i)))

theorem TgCfg.mem_places {q : Nat × Nat} : q ∈ c.places ↔ q.1 ∈ c.pcs ∧ q.2 < c.bursts := by
  simp only [TgCfg.places, List.mem_flatMap, List.mem_map, List.mem_range]
  constructor
  · rintro ⟨pc, hpc, i, hi, rfl⟩
    exact ⟨hpc, hi⟩
  · rintro ⟨hpc, hi⟩
    exact ⟨q.1, hpc, q.2, hi, rfl⟩

theorem TgCfg.pcs_le {pc : Nat} (h : pc ∈ c.pcs) : pc ≤ 1 := by
  unfold TgCfg.pcs at h
  split at h <;> simp at h <;> omega

theorem TgCfg.bursts_le : c.bursts ≤ 25165824 := by
  unfold TgCfg.bursts pcBytes stackBytes
  dsimp only
  split <;> omega

/-- One burst of a run of `m` accesses. -/
def TgCfg.place (h ch m : Nat) (st : Store) (q : Nat × Nat) : Store :=
  match tgHeld c.bursts m q.2 0 c.passes with
  | some v => st.write (c.addr h ch q.1 q.2) (toBytes 32 v)
  | none => st

variable (h ch m : Nat)

theorem TgCfg.place_out {q : Nat × Nat} {a : Nat} (hout : ¬ (c.addr h ch q.1 q.2 ≤ a ∧ a < c.addr h ch q.1 q.2 + 32))
    (st : Store) : (c.place h ch m st q).byte a = st.byte a := by
  unfold TgCfg.place
  split
  next v hv => rw [Store.byte_write, toBytes_length, if_neg hout]
  next => rfl

/-- Outside the range no byte changes. -/
theorem TgCfg.places_out {a : Nat} (hout : ¬ tgCovers c h ch a) (st : Store) :
    (c.places.foldl (c.place h ch m) st).byte a = st.byte a := by
  have hplaces : ∀ q ∈ c.places, ¬ (c.addr h ch q.1 q.2 ≤ a ∧ a < c.addr h ch q.1 q.2 + 32) := fun q hq hcovers =>
    hout ⟨q.1, (c.mem_places.mp hq).1, q.2, (c.mem_places.mp hq).2, hcovers⟩
  revert hplaces
  generalize c.places = l
  intro hplaces
  induction l generalizing st with
  | nil => rfl
  | cons q l ih =>
    rw [List.foldl_cons, ih _ (fun r hr => hplaces r (.tail _ hr)), c.place_out h ch m (hplaces q (.head _))]

/-- What a run of as many accesses as a loop takes has written in a burst. -/
theorem TgCfg.held_of_writing (hpattern : c.pattern < 7) (hmode : c.mode ≤ 1) {n i : Nat} (hi : i < n) :
    tgHeld n (n * (c.passes.map (fun p => p.2.1)).sum) i 0 c.passes = some (c.data i) := by
  have hpasses : c.passes = [(false, 1, some c.data), (false, 1, none)] ∨ c.passes = [(false, 1, some c.data)] := by
    unfold TgCfg.passes
    rw [if_neg (by omega)]
    obtain hzero | hone : c.mode = 0 ∨ c.mode = 1 := by omega
    · rw [hzero]
      exact .inl rfl
    · rw [hone]
      exact .inr rfl
  obtain hpasses | hpasses := hpasses
  · have hwritten : 0 + 1 * i + 1 ≤ n * 2 := by omega
    rw [hpasses]
    simp [tgHeld]
    omega
  · rw [hpasses]
    simp [tgHeld]
    omega

variable (halign : c.start % 32 = 0)
include halign

/-- Two bursts of an aligned range share no byte. -/
theorem TgCfg.addr_disjoint {pc pc' i i' y : Nat} (hpc : pc ≤ 1) (hpc' : pc' ≤ 1)
    (hy : c.addr h ch pc i ≤ y ∧ y < c.addr h ch pc i + 32)
    (hy' : c.addr h ch pc' i' ≤ y ∧ y < c.addr h ch pc' i' + 32) : pc = pc' ∧ i = i' := by
  unfold TgCfg.addr at hy hy'
  dsimp only at hy hy'
  generalize h * 2 ^ 36 = base at hy hy'
  omega

/-- A run that writes its pattern leaves it in every burst. -/
theorem TgCfg.places_in (hpattern : c.pattern < 7) (hmode : c.mode ≤ 1) {pc n : Nat} (hpc : pc ∈ c.pcs)
    (hn : n < c.bursts) (st : Store) :
    (c.places.foldl (c.place h ch (c.bursts * (c.passes.map (fun p => p.2.1)).sum)) st).read (c.addr h ch pc n) 32 =
      toBytes 32 (c.data n) := by
  have hwrites : c.places.foldl (c.place h ch (c.bursts * (c.passes.map (fun p => p.2.1)).sum)) st =
      c.places.foldl (fun st q => st.write (c.addr h ch q.1 q.2) (toBytes 32 (c.data q.2))) st := by
    refine List.foldl_ext _ _ _ fun st q hq => ?_
    rw [TgCfg.place, c.held_of_writing hpattern hmode (c.mem_places.mp hq).2]
  have hbyte : ∀ j < 32, ((c.places.foldl (c.place h ch (c.bursts * (c.passes.map (fun p => p.2.1)).sum)) st).byte
      (c.addr h ch pc n + j)).toNat = (toBytes 32 (c.data n)).getD j 0 := by
    intro j hj
    rw [hwrites, Store.byte_foldl_write (fun q : Nat × Nat => c.addr h ch q.1 q.2) (fun q => toBytes 32 (c.data q.2))
      (fun q => q = (pc, n)) _ (BitVec.ofNat 8 ((toBytes 32 (c.data n)).getD j 0)) c.places ?_,
      if_pos ⟨(pc, n), c.mem_places.mpr ⟨hpc, hn⟩, rfl⟩, BitVec.toNat_ofNat,
      Nat.mod_eq_of_lt (toBytes_getD_lt _ _ _)]
    intro q hq m
    rw [Store.byte_write, toBytes_length]
    by_cases hqeq : q = (pc, n)
    · subst hqeq
      rw [if_pos ⟨Nat.le_add_right _ _, Nat.add_lt_add_left hj _⟩, if_pos rfl, Nat.add_sub_cancel_left]
    · rw [if_neg fun hcovers => hqeq ?_, if_neg hqeq]
      obtain ⟨hpceq, hneq⟩ := c.addr_disjoint h ch halign (c.pcs_le (c.mem_places.mp hq).1) (c.pcs_le hpc) hcovers
        (i' := n) (by omega)
      exact Prod.ext hpceq hneq
  rw [Store.read_eq]
  refine List.ext_getElem (by simp [toBytes_length]) fun j hj hj' => ?_
  rw [List.getElem_map, List.getElem_range, hbyte j (by simpa [toBytes_length] using hj'), List.getD_eq_getElem _ _ hj']

end

/-! ### The status of a generator -/

theorem bits_status {st b e tail : Nat} (hst : st < 16) (hb : b < 2 ^ 64) (he : e < 2 ^ 32) (htail : tail < 2 ^ 140) :
    bits (BitVec.ofNat 256 (st <<< 252 + b <<< 160 + e <<< 128 + tail)).toNat 255 252 = st := by
  simp only [bits, BitVec.toNat_ofNat, Nat.shiftLeft_eq, Nat.shiftRight_eq_div_pow]
  omega

theorem bits_state {st : Nat} (hst : st < 16) : bits (BitVec.ofNat 256 (st <<< 252)).toNat 255 252 = st := by
  simp only [bits, BitVec.toNat_ofNat, Nat.shiftLeft_eq, Nat.shiftRight_eq_div_pow]
  omega

/-- The first burst found wrong, as the status tells it. -/
theorem firstWrong_lt {a pc : Nat} (ha : a < 2 ^ 42) (hpc : pc ≤ 1) (d v w : Nat) :
    a <<< 88 + pc <<< 87 + bits d (32 * w + 31) (32 * w) <<< 32 + bits v (32 * w + 31) (32 * w) < 2 ^ 140 := by
  have hbits (v : Nat) : bits v (32 * w + 31) (32 * w) < 2 ^ 32 := by
    have hwidth : 32 * w + 31 + 1 - 32 * w = 32 := by omega
    rw [bits, hwidth]
    exact Nat.mod_lt _ (by decide)
  have hd := hbits d
  have hv := hbits v
  simp only [Nat.shiftLeft_eq]
  omega

theorem TgCfg.status_st {c : TgCfg} {st b e : Nat} {wrong : List (Nat × Nat × Nat)} (hst : st < 16)
    (hstart : c.start < 2 ^ 40) (hwrong : ∀ q ∈ wrong, q.1 ≤ 1 ∧ q.2.1 < c.bursts) :
    bits (c.status st b wrong e).toNat 255 252 = st := by
  have hb := Nat.mod_lt b (Nat.two_pow_pos 64)
  have he : min e (2 ^ 32 - 1) < 2 ^ 32 := by omega
  unfold TgCfg.status
  refine bits_status hst hb he ?_
  cases wrong with
  | nil => exact Nat.two_pow_pos 140
  | cons q l =>
    obtain ⟨pc, i, v⟩ := q
    obtain ⟨hpc, hi⟩ := hwrong (pc, i, v) (.head _)
    have hi' : i < c.bursts := hi
    have hbursts := c.bursts_le
    exact firstWrong_lt (by omega) hpc _ _ _

theorem tgReport_st {st : Nat} (hst : st < 16) (found : BitVec 256) : bits (tgReport st found).toNat 255 252 = st := by
  have hlt := found.isLt
  simp only [tgReport, setBits, bits, BitVec.toNat_ofNat, Nat.shiftLeft_eq, Nat.shiftRight_eq_div_pow]
  omega

section
variable {s : State}

theorem State.tgWrong_mem {h ch : Nat} {c : TgCfg} {q : Nat × Nat × Nat} (hq : q ∈ s.tgWrong h ch c) :
    q.1 ≤ 1 ∧ q.2.1 < c.bursts := by
  unfold State.tgWrong at hq
  obtain ⟨l, hl, hmem⟩ := List.mem_flatten.mp hq
  obtain ⟨pc, hpc, rfl⟩ := List.mem_map.mp hl
  obtain ⟨i, hi, rfl⟩ := List.mem_map.mp (List.mem_filter.mp hmem).1
  exact ⟨c.pcs_le hpc, List.mem_range.mp hi⟩

theorem tgCfg_start_lt (w : Nat) : (tgCfg w).start < 2 ^ 40 := Nat.mod_lt _ (Nat.two_pow_pos 40)

theorem State.setGen_gen (i : Nat) (g : TrafficGen) (j : Nat) : (s.setGen i g).gen j = if j = i then g else s.gen j :=
  Tbl.get_put _ _ _ _ _

/-! ### What a run leaves in memory -/

theorem State.tgWrite_eq (h ch : Nat) (c : TgCfg) (m : Nat) : s.tgWrite h ch c m = { s with mem := { s.mem with
    hbm := c.places.foldl (c.place h ch (min m (c.bursts * (c.passes.map (fun p => p.2.1)).sum))) s.mem.hbm } } := by
  unfold State.tgWrite TgCfg.places
  rw [List.foldl_flatMap]
  simp only [List.foldl_map]
  rfl

/-- What a generator leaves when it stops or ends: its status, the bursts counted and the bytes of its range. -/
structure State.Generated (s : State) (i st m : Nat) (t : State) : Prop where
  st_eq : (t.gen i).st = st
  other_eq : ∀ j, j ≠ i → t.gen j = s.gen j
  shelf_eq : t.mem.shelf = s.mem.shelf
  service_eq : t.mem.service = s.mem.service
  hbm_eq : let c := tgCfg (s.gen i).setup
    t.mem.hbm = c.places.foldl (c.place (i / 32) (i % 32) (min m (c.bursts * (c.passes.map (fun p => p.2.1)).sum))) s.mem.hbm
  pending_eq : t.pending = s.pending
  part_eq : t.part = s.part

theorem State.Generated.byte_eq {i st m : Nat} {t : State} (h : s.Generated i st m t) {a : Nat}
    (hout : ¬ tgCovers (tgCfg (s.gen i).setup) (i / 32) (i % 32) a) : t.mem.hbm.byte a = s.mem.hbm.byte a := by
  rw [h.hbm_eq]
  exact TgCfg.places_out _ _ _ _ hout _

/-- A run that is written, counted and reported. -/
def State.tgEnded (s : State) (i m n : Nat) (w : BitVec 256) : State :=
  ((s.tgWrite (i / 32) (i % 32) (tgCfg (s.gen i).setup) m).bump (K.HBM_BURSTS_P0 + 3) n).setGen i
    { s.gen i with status := w }

theorem State.tgEnded_generated {i st m n : Nat} {w : BitVec 256} (hst : bits w.toNat 255 252 = st) :
    s.Generated i st m (s.tgEnded i m n w) where
  st_eq := by
    rw [State.tgEnded, State.setGen_gen, if_pos rfl]
    exact hst
  other_eq j hj := by
    rw [State.tgEnded, State.setGen_gen, if_neg hj, State.tgWrite_eq]
    rfl
  shelf_eq := by
    rw [State.tgEnded, State.tgWrite_eq]
    rfl
  service_eq := by
    rw [State.tgEnded, State.tgWrite_eq]
    rfl
  hbm_eq := by
    rw [State.tgEnded, State.tgWrite_eq]
    rfl
  pending_eq := rfl
  part_eq := rfl

end

/-! ### The commands of the generators (R379) -/

section
variable {s : State}

/-- A generator that is set by itself. -/
theorem State.setGen_frame (i : Nat) (g : TrafficGen) :
    s.setGen i g = { s with hbm := { s.hbm with gens := (s.setGen i g).hbm.gens } } := rfl

theorem exec_hbmTgStart {g : TrafficGen} (h : s.tgStart = s.setGen s.tgSelect g) :
    ∃ t, exec .hbmTgStart s = .next t ∧ t.gen s.tgSelect = g ∧
      t = { s with hbm := { s.hbm with gens := t.hbm.gens } } ∧ ∀ j, j ≠ s.tgSelect → t.gen j = s.gen j :=
  ⟨_, exec_next_of_eq (i := .hbmTgStart) rfl h rfl rfl, (State.setGen_gen _ _ _).trans (if_pos rfl), State.setGen_frame _ _,
    fun _ hj => (State.setGen_gen _ _ _).trans (if_neg hj)⟩

theorem State.tgStart_of_refused (hst : (s.gen s.tgSelect).st ≠ 1)
    (h : s.live = false ∨ s.powered = false ∨ s.tgRefused = true) :
    s.tgStart = s.setGen s.tgSelect { s.gen s.tgSelect with status := BitVec.ofNat 256 (3 <<< 252) } := by
  refine (if_neg hst).trans (if_pos ?_)
  obtain h | h | h := h <;> simp [h]

theorem State.tgStart_of_allowed (hst : (s.gen s.tgSelect).st ≠ 1) (hlive : s.live = true) (hpowered : s.powered = true)
    (h : s.tgRefused = false) : s.tgStart = s.setGen s.tgSelect { s.gen s.tgSelect with
      status := BitVec.ofNat 256 (1 <<< 252), setup := (s.gen s.tgSelect).cfg, found := none } :=
  (if_neg hst).trans (if_neg (by simp [hlive, hpowered, h]))

theorem State.tgStop_of_idle (h : s.live = false ∨ (s.gen s.tgSelect).st ≠ 1) : s.tgStop = s := by
  refine if_pos ?_
  obtain h | h := h <;> simp [h]

/-- The status that a run which ends or stops reports. -/
def TgCfg.told (c : TgCfg) (st n e : Nat) (wrong : List (Nat × Nat × Nat)) (found : Option (BitVec 256)) : BitVec 256 :=
  match found with
  | none => c.status st n wrong e
  | some v => tgReport st v

theorem TgCfg.told_st {c : TgCfg} {st n e : Nat} {wrong : List (Nat × Nat × Nat)} (hst : st < 16) (hstart : c.start < 2 ^ 40)
    (hwrong : ∀ q ∈ wrong, q.1 ≤ 1 ∧ q.2.1 < c.bursts) (found : Option (BitVec 256)) :
    bits (c.told st n e wrong found).toNat 255 252 = st := by
  cases found with
  | none => exact TgCfg.status_st hst hstart hwrong
  | some v => exact tgReport_st hst v

/-- The bursts that a checking run finds wrong. -/
def State.tgFound (s : State) (h ch : Nat) (c : TgCfg) : List (Nat × Nat × Nat) := if c.checks then s.tgWrong h ch c else []

theorem State.tgFound_mem {h ch : Nat} {c : TgCfg} : ∀ q ∈ s.tgFound h ch c, q.1 ≤ 1 ∧ q.2.1 < c.bursts := by
  intro q hq
  unfold State.tgFound at hq
  split at hq
  · exact State.tgWrong_mem hq
  · cases hq

theorem State.tgStop_generated (hlive : s.live = true) (hst : (s.gen s.tgSelect).st = 1) :
    ∃ m, s.Generated s.tgSelect 4 m s.tgStop := by
  obtain ⟨n, e, hstop⟩ : ∃ n e, s.tgStop = s.draw.2.tgEnded s.tgSelect s.draw.1 n
      ((tgCfg (s.gen s.tgSelect).setup).told 4 n e
        ((s.draw.2.tgFound (s.tgSelect / 32) (s.tgSelect % 32) (tgCfg (s.gen s.tgSelect).setup)).filter
          (fun q => decide (q.2.1 < s.draw.1))) (s.gen s.tgSelect).found) :=
    ⟨_, _, if_neg (by simp [hlive, hst])⟩
  have hstatus := TgCfg.told_st (c := tgCfg (s.gen s.tgSelect).setup) (st := 4) (n := n) (e := e) (by decide)
    (tgCfg_start_lt _) (wrong := (s.draw.2.tgFound (s.tgSelect / 32) (s.tgSelect % 32)
      (tgCfg (s.gen s.tgSelect).setup)).filter (fun q => decide (q.2.1 < s.draw.1)))
    (fun q hq => State.tgFound_mem q (List.mem_filter.mp hq).1) (s.gen s.tgSelect).found
  obtain ⟨hst', hother, hshelf, hservice, hhbm, hpending, hpart⟩ :=
    State.tgEnded_generated (s := s.draw.2) (i := s.tgSelect) (m := s.draw.1) (n := n) hstatus
  rw [hstop]
  exact ⟨s.draw.1, hst', hother, hshelf, hservice, hhbm, hpending, hpart⟩

theorem State.tgDone_of_idle {h ch : Nat} {found : Option (BitVec 256)}
    (hidle : (s.gen (h * 32 + ch)).st ≠ 1 ∨ (tgCfg (s.gen (h * 32 + ch)).setup).loops = 0) : s.tgDone h ch found = s := by
  refine if_pos ?_
  obtain hidle | hidle := hidle <;> simp [hidle]

theorem State.tgDone_generated {h ch : Nat} (hch : ch < 32) (found : Option (BitVec 256))
    (hst : (s.gen (h * 32 + ch)).st = 1) (hloops : (tgCfg (s.gen (h * 32 + ch)).setup).loops ≠ 0) :
    s.Generated (h * 32 + ch) 2 ((tgCfg (s.gen (h * 32 + ch)).setup).bursts *
      ((tgCfg (s.gen (h * 32 + ch)).setup).passes.map (fun p => p.2.1)).sum) (s.tgDone h ch found) := by
  have hsite : (h * 32 + ch) / 32 = h := by omega
  have hchannel : (h * 32 + ch) % 32 = ch := by omega
  obtain ⟨n, e, hdone⟩ : ∃ n e, s.tgDone h ch found = s.tgEnded (h * 32 + ch)
      ((tgCfg (s.gen (h * 32 + ch)).setup).bursts * ((tgCfg (s.gen (h * 32 + ch)).setup).passes.map (fun p => p.2.1)).sum) n
      ((tgCfg (s.gen (h * 32 + ch)).setup).told 2 n e (s.tgFound h ch (tgCfg (s.gen (h * 32 + ch)).setup))
        (found <|> (s.gen (h * 32 + ch)).found)) := by
    simp only [State.tgEnded, hsite, hchannel]
    exact ⟨_, _, if_neg (by simp [hst, hloops])⟩
  rw [hdone]
  exact State.tgEnded_generated (TgCfg.told_st (by decide) (tgCfg_start_lt _) State.tgFound_mem _)

end

/-! ### HBM_REPAIR_CMD (R377) -/

section
variable {s : State} {v : Nat}

/-- A site of the part belongs to one of its dies. -/
theorem Part.dieSites_of_hbmSites {p : Part} {h : Nat} (hsite : h ∈ p.hbmSites) :
    ∃ d, (List.range 4).find? (fun d => (dieSites d).contains h) = some d := by
  have hlt : h < 12 := by
    unfold Part.hbmSites at hsite
    split_ifs at hsite <;> simp at hsite <;> omega
  have hall : ∀ h < 12, ((List.range 4).find? (fun d => (dieSites d).contains h)).isSome = true := by decide
  exact Option.isSome_iff_exists.mp (hall h hlt)

theorem State.repairCmd_of_refused (h : s.repairRefused v = true) : s.repairCmd v = s := if_pos h

/-- The reset that a repair orders. -/
def State.repairRun (s : State) (v d : Nat) : ResetRun :=
  { domain := .die, unit := 64 * d, began := s.now, mark := s.now, repair := some (bits v 3 0, bit v 4) }

/-- The site is in repair, and what must outlive its die's reset is saved. -/
def State.repairing (s : State) (v : Nat) : State :=
  ((s.setStack (bits v 3 0) { s.stack (bits v 3 0) with mode := .repair }).saveRecovery.bumpFree (K.HBM_BURSTS_P0 + 3))

theorem State.repairCmd_of_allowed {d : Nat} (h : s.repairRefused v = false)
    (hd : (List.range 4).find? (fun d => (dieSites d).contains (bits v 3 0)) = some d) :
    s.repairCmd v = (s.repairing v).beginReset (s.repairRun v d) := by
  refine (if_neg (by simp [h])).trans ?_
  rw [hd]
  rfl

theorem State.repairing_stack : ((s.repairing v).stack (bits v 3 0)).mode = .repair := by
  have hset := State.setStack_stack (s := s) (bits v 3 0) { s.stack (bits v 3 0) with mode := .repair } (bits v 3 0)
  rw [if_pos rfl] at hset
  exact (congrArg Stack.mode hset :)

/-- A die reset that starts keeps a stack in repair, and carries its repair. -/
theorem State.beginReset_repair {r : ResetRun} (hdomain : r.domain = .die) {h : Nat} (hrepair : (s.stack h).mode = .repair) :
    ((s.beginReset r).stack h).mode = .repair ∧ ∃ q, (s.beginReset r).service.resets.cur = some q ∧ q.domain = .die ∧
      q.unit = r.unit ∧ q.repair = r.repair := by
  obtain ⟨o, c, d, hdumping⟩ : ∃ o c d, s.dumping r =
      { s with od := o, clusters := c, service := { s.service with dump := d } } := ⟨_, _, _, State.dumping_frame⟩
  have hstack : ((s.dumping r).stack h).mode = .repair := by
    rw [hdumping]
    exact hrepair
  rw [State.beginReset_eq]
  split
  · exact ⟨hstack, _, rfl, hdomain, rfl, rfl⟩
  · obtain ⟨-, -, hkept, -⟩ := State.performReset_dieCleared (s := s.dumping r) hdomain
    rw [hkept h hstack]
    exact ⟨hstack, _, (State.performReset_begun _ _).cur_eq, hdomain, rfl, rfl⟩

theorem exec_hbmRepairCmd_of_allowed (v : BitVec 16) (h : s.repairRefused v.toNat = false) :
    ∃ t r d, exec (.hbmRepairCmd v) s = .next t ∧ (t.stack (v.toNat % 16)).mode = .repair ∧
      t.service.resets.cur = some r ∧ r.domain = .die ∧ r.unit = 64 * d ∧ d < 4 ∧ v.toNat % 16 ∈ dieSites d ∧
      r.repair = some (v.toNat % 16, bit v.toNat 4) := by
  have hsite : bits v.toNat 3 0 ∈ s.part.hbmSites := by
    have hall := h
    simp only [State.repairRefused, Bool.or_eq_false_iff, Bool.not_eq_false', List.contains_iff_mem] at hall
    exact hall.1.1.1.2
  have hbits : bits v.toNat 3 0 = v.toNat % 16 := by simp [bits]
  obtain ⟨d, hd⟩ := Part.dieSites_of_hbmSites hsite
  have hmem := List.find?_some hd
  have hlt := List.mem_range.mp (List.mem_of_find?_eq_some hd)
  have hcmd := State.repairCmd_of_allowed h hd
  have hstarted := (s.repairing v.toNat).beginReset_started (s.repairRun v.toNat d)
  obtain ⟨hmode, q, hq, hdomain, hunit, hrepair⟩ :=
    State.beginReset_repair (r := s.repairRun v.toNat d) rfl (s.repairing_stack (v := v.toNat))
  rw [← hbits]
  exact ⟨_, q, d, exec_next_of_eq (i := .hbmRepairCmd v) rfl hcmd hstarted.pending_eq hstarted.part_eq, hmode, hq, hdomain,
    hunit, hlt, List.contains_iff_mem.mp hmem, hrepair⟩

end

/-- Settles O39. The site's repair mode until its reset, and that a generator without power refuses, are the model's
choice (log 56, log 57). -/
theorem repairsAndTrafficGenerators : Obligations.RepairsAndTrafficGenerators := by
  refine ⟨fun v s => ⟨fun h => ?refused, exec_hbmRepairCmd_of_allowed v⟩,
    fun s => ⟨fun hst => ⟨fun h => ?startRefused, fun hlive hpowered h => ?start⟩, fun hst => ?startRunning,
      fun h => ?stopIdle, fun hlive hst => ?stop⟩,
    fun h ch found s => ⟨fun hidle => ?doneIdle, fun hst hloops => ?done⟩⟩
  case refused => exact exec_next_of_eq (i := .hbmRepairCmd v) rfl (State.repairCmd_of_refused h) rfl rfl
  case startRefused =>
    obtain ⟨t, hexec, hgen, hframe, hother⟩ := exec_hbmTgStart (State.tgStart_of_refused hst h)
    refine ⟨t, hexec, ?_, ?_, hframe, hother⟩
    · rw [hgen]
      exact bits_state (by decide)
    · rw [hgen]
  case start =>
    obtain ⟨t, hexec, hgen, hframe, hother⟩ := exec_hbmTgStart (State.tgStart_of_allowed hst hlive hpowered h)
    refine ⟨t, hexec, ?_, ?_, ?_, hframe, hother⟩
    · rw [hgen]
      exact bits_state (by decide)
    · rw [hgen]
    · rw [hgen]
  case startRunning => exact exec_next_of_eq (i := .hbmTgStart) rfl (if_pos hst) rfl rfl
  case stopIdle => exact exec_next_of_eq (i := .hbmTgStop) rfl (State.tgStop_of_idle h) rfl rfl
  case stop =>
    obtain ⟨m, hstopped⟩ := State.tgStop_generated hlive hst
    exact ⟨_, exec_next_of_eq (i := .hbmTgStop) rfl rfl hstopped.pending_eq hstopped.part_eq, hstopped.st_eq,
      hstopped.other_eq, hstopped.shelf_eq, hstopped.service_eq, fun _ hout => hstopped.byte_eq hout⟩
  case doneIdle => exact exec_next_of_eq (i := .hbmTgDone h ch found) rfl (State.tgDone_of_idle hidle) rfl rfl
  case done =>
    have hdone := State.tgDone_generated (s := s) ch.isLt found hst hloops
    have hsite : (h.val * 32 + ch.toNat) / 32 = h.val := by have := ch.isLt; omega
    have hchannel : (h.val * 32 + ch.toNat) % 32 = ch.toNat := by have := ch.isLt; omega
    refine ⟨_, exec_next_of_eq (i := .hbmTgDone h ch found) rfl rfl hdone.pending_eq hdone.part_eq, hdone.st_eq,
      hdone.other_eq, hdone.shelf_eq, hdone.service_eq, fun a hout => hdone.byte_eq (by rwa [hsite, hchannel]),
      fun hpattern hmode halign pc hpc n hn => ?_⟩
    rw [hdone.hbm_eq, hsite, hchannel, Nat.min_self]
    exact TgCfg.places_in _ _ _ halign hpattern hmode hpc hn _

end Sys2Proof.Machine
end

section
/-!
PROOFS. How a context's steps end: by a COMMIT, an ABORT, a REPLAY, a timeout or a new membership
(spec/11_step_transactions.md R341 to R344, R348, R353, R355).
-/

namespace Sys2Proof.Machine

open Sys2Proof.Claims

/-! ### What a rollback leaves (R344) -/

/-- `t` is `s` after what befell the context `x`: the part that stands, settings and other contexts are as before. -/
structure State.Befell (x : Nat) (s t : State) : Prop where
  still_eq : t.still = s.still
  par_eq : ∀ k, calmKey k = true → t.par k = s.par k
  other : ∀ y, y ≠ x → (s.cx y).Calm (t.cx y)

namespace State.Befell

variable {x : Nat} {s t u : State}

theorem refl (x : Nat) (s : State) : State.Befell x s s := ⟨rfl, fun _ _ => rfl, fun _ _ => .refl _⟩

theorem trans (hst : State.Befell x s t) (htu : State.Befell x t u) : State.Befell x s u where
  still_eq := htu.still_eq.trans hst.still_eq
  par_eq k hk := (htu.par_eq k hk).trans (hst.par_eq k hk)
  other y hy := (hst.other y hy).trans (htu.other y hy)

theorem of_calm (h : s.Calm True t) : State.Befell x s t :=
  ⟨h.still_eq, fun k hk => h.par_eq trivial k hk, fun y _ => h.cx trivial y⟩

theorem modCx (x : Nat) (s : State) (f : Ctx → Ctx) : State.Befell x s (s.modCx x f) where
  still_eq := rfl
  par_eq _ _ := rfl
  other y hy := by
    rw [State.modCx_cx, if_neg hy]
    exact .refl _

theorem now_eq (h : State.Befell x s t) : t.now = s.now := (congrArg State.now h.still_eq :)
theorem pending_eq (h : State.Befell x s t) : t.pending = s.pending := (congrArg State.pending h.still_eq :)
theorem part_eq (h : State.Befell x s t) : t.part = s.part := (congrArg State.part h.still_eq :)
theorem service_eq (h : State.Befell x s t) : t.service = s.service := (congrArg State.service h.still_eq :)

end State.Befell

theorem Ctx.Calm.steps_nil {c d : Ctx} (h : c.Calm d) (hnil : c.steps = []) : d.steps = [] := by
  have hsteps := h.steps_eq
  rw [hnil] at hsteps
  exact List.map_eq_nil_iff.mp hsteps

/-- `t` is `s` after a rollback of the context `x` to its step `u`. -/
structure State.RolledTo (x : Nat) (u : Step) (s t : State) : Prop where
  befell : State.Befell x s t
  steps_nil : (t.cx x).steps = []
  rolled_eq : (t.cx x).rolled = some (u.num, u.attempt)
  st_eq : (t.cx x).st = (s.cx x).st
  lastCommitted_eq : (t.cx x).lastCommitted = (s.cx x).lastCommitted
  orphaned_eq : (t.cx x).orphaned = (s.cx x).orphaned

section
variable {s : State} {x : Nat}

/-- The commands in progress are taken out, and every step is being rolled back. -/
def State.rolling (s : State) (x : Nat) : State :=
  (s.dropCmds x).modCx x (fun c => { c with steps := c.steps.map (fun u => { u with st := .rollingBack }) })

/-- The steps of a context that has been rolled back are gone. -/
def Ctx.rolledTo (c : Ctx) (t : Step) (all : List Step) : Ctx :=
  { c with
    steps := []
    aborting := true
    expectRolled := true
    logArrived := none
    rolled := some (t.num, t.attempt)
    logNext := ((all.find? (fun u => u.logUsed ≠ 0)).map (·.logFirst)).getD c.logNext
    verdicts := []
    closedSteps := c.closedSteps ++ all.map (fun u => (u.num, false)) }

theorem State.rolling_cx (y : Nat) : (s.rolling x).cx y = if y = x then { s.cx x with
    cur := none, running := [], wait := none, steps := (s.cx x).steps.map (fun u => { u with st := .rollingBack }) }
    else s.cx y := by
  unfold State.rolling State.dropCmds
  rw [State.modCx_cx, State.modCx_cx, State.modCx_cx]
  split <;> simp

theorem State.rollback_of_nil (h : (s.cx x).steps = []) (v : VMsg) : s.rollback x v = s := by
  rw [State.rollback, h]

/-- A rollback undoes the work of the steps, takes them out of the context, and lets go on what waited. -/
theorem State.rollback_stages {t : Step} {later : List Step} (h : (s.cx x).steps = t :: later) (v : VMsg) :
    ∃ w, (s.rolling x).Calm True w ∧ (w.modCx x (fun c => c.rolledTo t (t :: later))).Calm True (s.rollback x v) := by
  unfold State.rollback
  extract_lets cmds s1 s2 far
  split
  next hnil => exact absurd (h.symm.trans hnil) (List.cons_ne_nil _ _)
  next t' later' hcons =>
    obtain ⟨rfl, rfl⟩ := List.cons.inj (hcons.symm.trans h)
    extract_lets all nums s3 links s4 s5 s6 s7 s8 s9 s10
    have hstopped : (s.rolling x).Calm True s2 := (State.Calm.refl _ _).stopClusters
    have hkilled : (s.rolling x).Calm True s3 := .foldl (fun _ _ h => h.killXfer) hstopped
    have hundone : (s.rolling x).Calm True s5 := .foldl (fun _ _ h => h.undoRestore) (State.Calm.grantHeld hkilled.frame)
    have hplans : (s.rolling x).Calm True s7 := hundone.restoreSems.closeDrawers.rollPlans
    have hended : (s.rolling x).Calm True s8 := .foldl (fun _ _ h => h.completeCmd) hplans
    refine ⟨s9, hended.modMir.setCopy, ?_⟩
    have hcounted : s10.Calm True (s10.bump K.STEPS_ABORTED all.length) := (State.Calm.refl _ _).bump (by rfl)
    have hrecorded : s10.Calm True ((s10.bump K.STEPS_ABORTED all.length).recordVerdict x v) :=
      hcounted.modCx (by exact fun _ => ⟨rfl, rfl, rfl, rfl, rfl, id, id, id⟩)
    exact hrecorded.releaseWrites.startIdle

theorem State.rollback_rolledTo {t : Step} {later : List Step} (h : (s.cx x).steps = t :: later) (v : VMsg) :
    State.RolledTo x t s (s.rollback x v) := by
  obtain ⟨w, hwork, hend⟩ := State.rollback_stages h v
  have hstart : State.Befell x s (s.rolling x) := (State.Befell.modCx x s _).trans (.modCx x _ _)
  have hbefell := ((hstart.trans (.of_calm hwork)).trans (.modCx x w _)).trans (.of_calm hend)
  have hcx := hend.cx trivial x
  have hrolling := hwork.cx trivial x
  rw [State.modCx_cx, if_pos rfl] at hcx
  rw [State.rolling_cx, if_pos rfl] at hrolling
  exact {
    befell := hbefell
    steps_nil := hcx.steps_nil rfl
    rolled_eq := hcx.rolled_eq
    st_eq := hcx.st_eq.trans hrolling.st_eq
    lastCommitted_eq := hcx.lastCommitted_eq.trans hrolling.lastCommitted_eq
    orphaned_eq := hcx.orphaned_eq.trans hrolling.orphaned_eq }

/-- A rollback leaves no step, and the rest of the context where it was. -/
theorem State.rollback_facts (v : VMsg) : State.Befell x s (s.rollback x v) ∧ ((s.rollback x v).cx x).steps = [] ∧
    ((s.rollback x v).cx x).orphaned = (s.cx x).orphaned := by
  cases h : (s.cx x).steps with
  | nil =>
    rw [State.rollback_of_nil h]
    exact ⟨.refl x s, h, rfl⟩
  | cons t later =>
    have hrolled := State.rollback_rolledTo h v
    exact ⟨hrolled.befell, hrolled.steps_nil, hrolled.orphaned_eq⟩

end

/-! ### VERDICT_TIMEOUT (R353) -/

section
variable {s : State} {x : Nat}

theorem State.verdictTimeout_of_none (h : (s.cx x).steps.filter
    (fun t => (t.st = .sealed || t.st = .replaying) && !t.final) = []) : s.verdictTimeout x = s := by
  unfold State.verdictTimeout
  dsimp only
  rw [h]
  rfl

theorem State.verdictTimeout_of_due {u : Step} (hlive : s.live = true) (h : firstDue ((s.cx x).steps.filter
    (fun t => (t.st = .sealed || t.st = .replaying) && !t.final)) (fun t => t.sealedAt + t.limit) = some u) :
    s.verdictTimeout x = (s.reach (u.sealedAt + u.limit)).verdictExpired x u := by
  unfold State.verdictTimeout
  dsimp only
  rw [h]
  exact if_pos hlive

theorem State.verdictExpired_facts (t : Step) : let r := s.verdictExpired x t
    (r.cx x).steps = [] ∧ (r.cx x).orphaned = true ∧ r.now = s.now ∧ r.pending = s.pending ∧ r.part = s.part := by
  unfold State.verdictExpired
  extract_lets newest u w
  obtain ⟨hbefell, hsteps, -⟩ := State.rollback_facts (s := s) (x := x) (s.localVerdict x t.num t.attempt 7)
  have hreport : w.Calm True (w.report 0x07 (some (x, newest)) 0) := (State.Calm.refl _ _).report
  have hcx := hreport.cx trivial x
  have hw : w.cx x = { u.cx x with orphaned := true, stepped := false } :=
    State.modCx_cx_same u x (fun c => { c with orphaned := true, stepped := false })
  rw [hw] at hcx
  have hfence (r : State) : (r.startFenceWait x).ctxs = r.ctxs ∧ (r.startFenceWait x).now = r.now ∧
      (r.startFenceWait x).pending = r.pending ∧ (r.startFenceWait x).part = r.part := by
    unfold State.startFenceWait
    split <;> exact ⟨rfl, rfl, rfl, rfl⟩
  obtain ⟨hctxs, hnow, hpending, hpart⟩ := hfence (w.report 0x07 (some (x, newest)) 0)
  have hsame : ((w.report 0x07 (some (x, newest)) 0).startFenceWait x).cx x = (w.report 0x07 (some (x, newest)) 0).cx x := by
    rw [State.cx, hctxs]
    rfl
  refine ⟨?_, ?_, ?_, ?_, ?_⟩
  · rw [hsame]
    exact hcx.steps_nil hsteps
  · rw [hsame]
    exact hcx.orphaned_eq
  · exact (hnow.trans hreport.now_eq).trans hbefell.now_eq
  · exact (hpending.trans hreport.pending_eq).trans hbefell.pending_eq
  · exact (hpart.trans hreport.part_eq).trans hbefell.part_eq

end

/-! ### VERDICT_APPLY (R341, R343, R344, R348) -/

section
variable {s : State} {x n : Nat}

theorem State.applyVerdicts_of_none (h : ∀ u r, (s.cx x).steps = u :: r → u.verdict = none) :
    State.applyVerdicts x n s = s := by
  cases n with
  | zero => rfl
  | succ n =>
    rw [State.applyVerdicts]
    split
    · rfl
    next u r hsteps => rw [h u r hsteps]

variable {u : Step} {r : List Step} {v : VMsg} (hsteps : (s.cx x).steps = u :: r) (hverdict : u.verdict = some v)
include hsteps hverdict

theorem State.applyVerdicts_of_copy (hcode : v.code = 1)
    (hcopy : (s.mir x).copy.isSome = true ∨ (s.mir x).ckpt.isSome = true) : State.applyVerdicts x (n + 1) s = s := by
  simp only [State.applyVerdicts, hsteps, hverdict, hcode]
  exact if_pos (by obtain h | h := hcopy <;> simp [h])

theorem State.applyVerdicts_of_commit (hcode : v.code = 1) (hcopy : (s.mir x).copy = none) (hckpt : (s.mir x).ckpt = none)
    (hlast : ((s.commitStep x u v).cx x).steps = []) : State.applyVerdicts x (n + 1) s = s.commitStep x u v := by
  simp only [State.applyVerdicts, hsteps, hverdict, hcode, hcopy, hckpt, hlast, List.head?_nil]
  exact State.applyVerdicts_of_none fun w r hw => by simp [hlast] at hw

theorem State.applyVerdicts_of_replay (hcode : v.code = 2) (hsealed : u.st = .sealed) :
    State.applyVerdicts x (n + 1) s = s.replayStep x u v := by
  simp only [State.applyVerdicts, hsteps, hverdict, hcode]
  exact if_pos hsealed

theorem State.applyVerdicts_of_abort (hcode : v.code = 3) : State.applyVerdicts x (n + 1) s = s.abortStep x u v := by
  simp only [State.applyVerdicts, hsteps, hverdict, hcode]

end

section
variable {s : State} {x : Nat}

theorem State.Calm.awaitDone {r : State} (h : r.Calm True s) {num : Nat} : r.Calm True (s.awaitDone x num) := by
  unfold State.awaitDone
  split
  · exact h
  · exact .whenever h fun h => (h.modCx (by exact fun _ => ⟨rfl, rfl, rfl, rfl, rfl, id, fun _ => rfl, id⟩)).completeCmd

/-- The context after a COMMIT of a step. -/
def Ctx.committed (c : Ctx) (t : Step) : Ctx :=
  { c with
    lastCommitted := t.num
    steps := c.steps.filter (fun u => u.num ≠ t.num)
    expectRolled := false
    logArrived := if c.logArrived = some t.num then none else c.logArrived
    closedSteps := c.closedSteps ++ [(t.num, true)] }

theorem State.commitStep_stages (t : Step) (v : VMsg) :
    ∃ w, s.Calm True w ∧ (w.modCx x (fun c => c.committed t)).Calm True (s.commitStep x t v) := by
  unfold State.commitStep
  extract_lets w bad s1 s2 s3
  have hhealth : s.Calm True s1 := .whenever (.refl s True) fun h => h.health
  have hcounted : s.Calm True (s1.bump K.STEPS_COMMITTED 1) := hhealth.bump (by rfl)
  have hrecorded : s.Calm True s2 := hcounted.modCx (by exact fun _ => ⟨rfl, rfl, rfl, rfl, rfl, id, id, id⟩)
  exact ⟨s2, hrecorded, (State.Calm.refl s3 True).closeDrawers.startAtCommit.releaseWrites.awaitDone.announceReplay⟩

/-- A COMMIT of the only step. -/
theorem State.commitStep_alone {u : Step} (h : (s.cx x).steps = [u]) (v : VMsg) : let t := s.commitStep x u v
    State.Befell x s t ∧ (t.cx x).steps = [] ∧ (t.cx x).lastCommitted = u.num := by
  obtain ⟨w, hwork, hend⟩ := State.commitStep_stages (s := s) (x := x) u v
  have hbefell : State.Befell x s (s.commitStep x u v) :=
    ((State.Befell.of_calm hwork).trans (.modCx x w _)).trans (.of_calm hend)
  have hcx := hend.cx trivial x
  have hnums : (w.cx x).steps.map Step.stands = [u.stands] := by
    rw [(hwork.cx trivial x).steps_eq, h]
    rfl
  have hnone : (w.cx x).steps.filter (fun t => t.num ≠ u.num) = [] := by
    refine List.filter_eq_nil_iff.mpr fun t ht => ?_
    have hstands : t.stands ∈ [u.stands] := hnums ▸ List.mem_map_of_mem ht
    simpa [Step.stands] using congrArg Prod.fst (List.mem_singleton.mp hstands)
  rw [State.modCx_cx, if_pos rfl] at hcx
  exact ⟨hbefell, hcx.steps_nil hnone, hcx.lastCommitted_eq⟩

/-- A REPLAY of a step. -/
theorem State.replayStep_stages (t : Step) (v : VMsg) : ∃ w o, s.Calm True w ∧
    (w.modCx x (fun c => c.modStep t.num t.attempt (fun u => { u with
      st := .replaying, verdict := none, sealedAt := w.now, owed := o }))).Calm True (s.replayStep x t v) := by
  unfold State.replayStep
  extract_lets me owes s1 s2
  have hrecorded : s.Calm True (s.recordVerdict x v) :=
    (State.Calm.refl s True).modCx (by exact fun _ => ⟨rfl, rfl, rfl, rfl, rfl, id, id, id⟩)
  have hlogged : s1.Calm True s2 := .whenever (.refl s1 True) fun h => h.modMir.startLog
  exact ⟨s.recordVerdict x v, b2n owes, hrecorded, .ite hlogged.recordMiss hlogged.tryReplay.announceReplay⟩

theorem Step.modNamed_name (num attempt : Nat) {f : Step → Step} (hf : ∀ w, (f w).num = w.num ∧ (f w).attempt = w.attempt)
    (w : Step) : ((Step.modNamed num attempt f w).num, (Step.modNamed num attempt f w).attempt) = (w.num, w.attempt) := by
  unfold Step.modNamed
  split
  · rw [(hf w).1, (hf w).2]
  · rfl

theorem State.replayStep_facts (t : Step) (v : VMsg) : let r := s.replayStep x t v
    State.Befell x s r ∧ (r.cx x).steps.map (fun w => (w.num, w.attempt)) =
        (s.cx x).steps.map (fun w => (w.num, w.attempt)) ∧
      ∀ w ∈ stepsNamed r x t.num t.attempt, w.st = .replaying := by
  obtain ⟨w, o, hwork, hend⟩ := State.replayStep_stages (s := s) (x := x) t v
  obtain ⟨f, hf⟩ : ∃ f : Step → Step, f = fun u => { u with
      st := .replaying, verdict := none, sealedAt := w.now, owed := o } := ⟨_, rfl⟩
  rw [← hf] at hend
  have hbefell : State.Befell x s (s.replayStep x t v) :=
    ((State.Befell.of_calm hwork).trans (.modCx x w _)).trans (.of_calm hend)
  have hcx := (hend.cx trivial x).steps_eq
  rw [State.modCx_cx, if_pos rfl, Ctx.modStep_steps] at hcx
  have hname (l : List Step) : l.map (fun w => (w.num, w.attempt)) = (l.map Step.stands).map (fun p => (p.1, p.2.1)) := by
    rw [List.map_map]
    rfl
  refine ⟨hbefell, ?_, fun r hr => ?_⟩
  · rw [hname, hcx, ← hname, List.map_map, hname (s.cx x).steps, ← (hwork.cx trivial x).steps_eq, ← hname]
    exact List.map_congr_left fun u _ => Step.modNamed_name _ _ (fun w => by rw [hf]; exact ⟨rfl, rfl⟩) u
  · rw [Claims.stepsNamed, List.mem_filter] at hr
    obtain ⟨hmem, hnamed⟩ := hr
    have hstands : r.stands ∈ ((w.cx x).steps.map (Step.modNamed t.num t.attempt f)).map Step.stands :=
      hcx ▸ List.mem_map_of_mem hmem
    rw [List.map_map] at hstands
    obtain ⟨u, -, hu⟩ := List.mem_map.mp hstands
    have hst : (Step.modNamed t.num t.attempt f u).stands = r.stands := hu
    have hsame := Step.modNamed_name t.num t.attempt (f := f) (fun w => by rw [hf]; exact ⟨rfl, rfl⟩) u
    simp only [Step.stands, Prod.mk.injEq] at hst hsame
    have hthis : (u.num = t.num && u.attempt = t.attempt) = true := by
      rw [← hsame.1, ← hsame.2, hst.1, hst.2.1]
      exact hnamed
    rw [← hst.2.2, Step.modNamed, if_pos hthis, hf]

end

section
variable {s : State} {x : Nat}

theorem Ctx.Calm.steps_cons {c d : Ctx} (h : c.Calm d) {u : Step} {r : List Step} (hsteps : c.steps = u :: r) :
    ∃ w l, d.steps = w :: l ∧ w.num = u.num ∧ w.attempt = u.attempt := by
  have heq := h.steps_eq
  rw [hsteps, List.map_cons] at heq
  obtain ⟨w, l, hd, hw, -⟩ := List.map_eq_cons_iff.mp heq
  simp only [Step.stands, Prod.mk.injEq] at hw
  exact ⟨w, l, hd, hw.1, hw.2.1⟩

/-- An ABORT rolls every step back. -/
theorem State.abortStep_facts {u : Step} {r : List Step} (hsteps : (s.cx x).steps = u :: r) (v : VMsg) :
    let t := s.abortStep x u v
    State.Befell x s t ∧ (t.cx x).steps = [] ∧ (t.cx x).lastCommitted = (s.cx x).lastCommitted ∧
      (t.cx x).rolled = some (u.num, u.attempt) := by
  unfold State.abortStep
  extract_lets w suspect s1 s2
  have hcharged : s.Calm True s1 := .whenever (.refl s True) fun h => h.health
  have hblamed : s.Calm True s2 := .whenever hcharged fun h => h.health
  obtain ⟨t, l, hl, hnum, hattempt⟩ := (hblamed.cx trivial x).steps_cons hsteps
  have hrolled := State.rollback_rolledTo hl v
  refine ⟨(State.Befell.of_calm hblamed).trans hrolled.befell, hrolled.steps_nil,
    hrolled.lastCommitted_eq.trans (hblamed.cx trivial x).lastCommitted_eq, ?_⟩
  rw [hrolled.rolled_eq, hnum, hattempt]

end

/-! ### A new membership (R355) -/

section
variable {s : State} {x : Nat}

theorem State.rejoin_befell (s : State) (x : Nat) : State.Befell x s (s.rejoin x) := by
  unfold State.rejoin
  split
  · exact .refl x s
  · extract_lets c newest v u w
    have hu : State.Befell x s u := by
      unfold u
      split
      · exact .of_calm (.whenever (.refl s True) fun h => h.sealReplay)
      · exact .refl x s
    exact (hu.trans (State.rollback_facts v).1).trans (.modCx x w _)

/-- The context of a job that is there has no step, and is not ORPHANED. -/
theorem State.rejoin_cx (hjob : s.jobSize x ≠ 0) (hst : (s.cx x).st = .opened ∨ (s.cx x).st = .stopped) :
    ((s.rejoin x).cx x).steps = [] ∧ ((s.rejoin x).cx x).orphaned = false := by
  have hthere : ¬ ((s.jobSize x = 0 || (s.cx x).st = .closed || (s.cx x).st = .teardown) = true) := by
    obtain h | h := hst <;> simp [hjob, h]
  unfold State.rejoin
  rw [if_neg hthere]
  extract_lets c newest v u w
  have hsteps : (w.cx x).steps = [] := (State.rollback_facts v).2.1
  rw [State.modCx_cx_same]
  split
  · exact ⟨hsteps, rfl⟩
  next h => exact ⟨hsteps, by simpa using h⟩

theorem State.jobSize_of_befell {t : State} {y : Nat} (h : State.Befell x s t) (hy : y < 16) : t.jobSize y = s.jobSize y := by
  have hkey : calmKey (K.JOB_POSITION + y) = true := by
    simp only [calmKey, K.JOB_POSITION, Bool.or_eq_true, decide_eq_true_eq]
    exact .inl (by omega)
  rw [State.jobSize, h.par_eq _ hkey, State.jobSize]

/-- Each context of a list has met the new membership, and no other. -/
theorem State.foldl_rejoin {l : List Nat} (hl : l.Nodup) (s : State) : let t := l.foldl (fun s x => s.rejoin x) s
    t.still = s.still ∧ (∀ k, calmKey k = true → t.par k = s.par k) ∧ (∀ y, y ∉ l → (s.cx y).Calm (t.cx y)) ∧
      ∀ y ∈ l, y < 16 → s.jobSize y ≠ 0 → ((s.cx y).st = .opened ∨ (s.cx y).st = .stopped) →
        (t.cx y).steps = [] ∧ (t.cx y).orphaned = false := by
  induction l generalizing s with
  | nil => exact ⟨rfl, fun _ _ => rfl, fun _ _ => .refl _, fun _ hy => by cases hy⟩
  | cons x l ih =>
    obtain ⟨hx, hnodup⟩ := List.nodup_cons.mp hl
    have hfirst := s.rejoin_befell x
    obtain ⟨hstill, hpar, hother, hjoined⟩ := ih hnodup (s.rejoin x)
    refine ⟨hstill.trans hfirst.still_eq, fun k hk => (hpar k hk).trans (hfirst.par_eq k hk), fun y hy => ?_,
      fun y hy hlt hjob hst => ?_⟩
    · rw [List.mem_cons, not_or] at hy
      exact (hfirst.other y hy.1).trans (hother y hy.2)
    · by_cases hyx : y = x
      · subst hyx
        obtain ⟨hsteps, horphaned⟩ := State.rejoin_cx hjob hst
        have hcalm := hother y hx
        exact ⟨hcalm.steps_nil hsteps, hcalm.orphaned_eq.trans horphaned⟩
      · have hyl : y ∈ l := (List.mem_cons.mp hy).resolve_left hyx
        refine hjoined y hyl hlt ?_ ?_
        · rwa [State.jobSize_of_befell hfirst hlt]
        · rwa [(hfirst.other y hyx).st_eq]

/-- The membership written, with the fence wait ended. -/
def State.joined (s : State) (v : Nat) : State :=
  { s.setPar K.JOB_MEMBERSHIP v with service := { s.service with spare := { s.service.spare with wait := none } } }

theorem State.writeMembership_of_same (hanswer : s.answering = true) {v : Nat} (h : s.par K.JOB_MEMBERSHIP = v) :
    s.writeMembership v = s.joined v := (if_neg (by simp [hanswer])).trans (if_pos h)

theorem State.writeMembership_of_new (hanswer : s.answering = true) {v : Nat} (h : s.par K.JOB_MEMBERSHIP ≠ v) :
    s.writeMembership v = (List.range 16).foldl (fun s x => s.rejoin x)
      { s.joined v with defence := { (s.joined v).defence with barred := false } } :=
  (if_neg (by simp [hanswer])).trans (if_neg h)

theorem exec_jobMembershipWrite_of_new (hanswer : s.answering = true) (v : BitVec 16)
    (h : s.par K.JOB_MEMBERSHIP ≠ v.toNat) :
    ∃ t, exec (.jobMembershipWrite v) s = .next t ∧ t.par K.JOB_MEMBERSHIP = v.toNat ∧ t.service.spare.wait = none ∧
      ∀ x, x < 16 → s.jobSize x ≠ 0 → ((s.cx x).st = .opened ∨ (s.cx x).st = .stopped) →
        (t.cx x).steps = [] ∧ (t.cx x).orphaned = false := by
  obtain ⟨u, hu⟩ : ∃ u : State, u = { s.joined v.toNat with
    defence := { (s.joined v.toNat).defence with barred := false } } := ⟨_, rfl⟩
  have hwrite := State.writeMembership_of_new hanswer h
  rw [← hu] at hwrite
  obtain ⟨hstill, hpar, -, hjoined⟩ := State.foldl_rejoin List.nodup_range u
  have hset (k : Nat) : u.par k = if k = K.JOB_MEMBERSHIP then v.toNat else s.par k := by
    rw [hu]
    exact State.setPar_par s _ _ _
  have hjob {x : Nat} (hx : x < 16) : u.jobSize x = s.jobSize x := by
    have hkey : K.JOB_POSITION + x ≠ K.JOB_MEMBERSHIP := by
      simp only [K.JOB_POSITION, K.JOB_MEMBERSHIP]
      omega
    rw [State.jobSize, hset, if_neg hkey, State.jobSize]
  refine ⟨_, exec_next_of_eq (i := .jobMembershipWrite v) rfl hwrite ?_ ?_, ?_, ?_, fun x hx hsize hst => ?_⟩
  · exact (congrArg State.pending hstill).trans (by rw [hu]; rfl)
  · exact (congrArg State.part hstill).trans (by rw [hu]; rfl)
  · rw [hpar _ (by decide), hset, if_pos rfl]
  · have hservice : _ = u.service := (congrArg State.service hstill :)
    refine (congrArg (fun q : Service => q.spare.wait) hservice).trans ?_
    rw [hu]
    rfl
  · refine hjoined x (List.mem_range.mpr hx) hx (by rwa [hjob hx]) ?_
    rw [hu]
    exact hst

end

/-- Settles O38. That a COMMIT waits for a copy, the deadline's time, and what of several a row takes first are the
model's choice (log 149, log 1, log 46). -/
theorem verdictsCommitAbortAndTimeOut : Obligations.VerdictsCommitAbortAndTimeOut := by
  refine ⟨fun x s hlive => ⟨fun hnone => ?none, fun u v r hsteps hverdict hcode hcopy => ?copies,
      fun u v hsteps hverdict hcode hcopy hckpt => ?commit, fun u v r hsteps hverdict hcode => ?abort,
      fun u v r hsteps hverdict hcode hsealed => ?replay, fun hwaits => ?noTimeout, fun u hdue => ?timeout⟩,
    fun v s hanswer => ?silent, fun v s hanswer => ?membership⟩
  case none =>
    exact exec_next_of_eq (i := .verdictApply x) rfl ((if_pos hlive).trans (State.applyVerdicts_of_none hnone)) rfl rfl
  case copies =>
    exact exec_next_of_eq (i := .verdictApply x) rfl
      ((if_pos hlive).trans (State.applyVerdicts_of_copy hsteps hverdict hcode hcopy)) rfl rfl
  case commit =>
    obtain ⟨hbefell, hnil, hcommitted⟩ := State.commitStep_alone hsteps v
    exact ⟨_, exec_next_of_eq (i := .verdictApply x) rfl
      ((if_pos hlive).trans (State.applyVerdicts_of_commit hsteps hverdict hcode hcopy hckpt hnil)) hbefell.pending_eq
      hbefell.part_eq, hnil, hcommitted⟩
  case abort =>
    obtain ⟨hbefell, hnil, hcommitted, hrolled⟩ := State.abortStep_facts hsteps v
    exact ⟨_, exec_next_of_eq (i := .verdictApply x) rfl
      ((if_pos hlive).trans (State.applyVerdicts_of_abort hsteps hverdict hcode)) hbefell.pending_eq hbefell.part_eq, hnil,
      hcommitted, hrolled⟩
  case replay =>
    obtain ⟨hbefell, hnames, hreplaying⟩ := State.replayStep_facts (s := s) (x := x.val) u v
    exact ⟨_, exec_next_of_eq (i := .verdictApply x) rfl
      ((if_pos hlive).trans (State.applyVerdicts_of_replay hsteps hverdict hcode hsealed)) hbefell.pending_eq
      hbefell.part_eq, hnames, hreplaying⟩
  case noTimeout =>
    exact exec_next_of_eq (i := .verdictTimeout x) rfl (State.verdictTimeout_of_none hwaits) rfl rfl
  case timeout =>
    obtain ⟨hnil, horphaned, hnow, hpending, hpart⟩ :=
      State.verdictExpired_facts (s := s.reach (u.sealedAt + u.limit)) (x := x.val) u
    exact ⟨_, exec_next_of_eq (i := .verdictTimeout x) rfl (State.verdictTimeout_of_due hlive hdue) hpending hpart, hnil,
      horphaned, hnow⟩
  case silent => exact exec_next_of_eq (i := .jobMembershipWrite v) rfl (if_pos (by simp [hanswer])) rfl rfl
  case membership =>
    by_cases hsame : s.par K.JOB_MEMBERSHIP = v.toNat
    · refine ⟨_, exec_next_of_eq (i := .jobMembershipWrite v) rfl (State.writeMembership_of_same hanswer hsame) rfl rfl,
        (State.setPar_par s _ _ _).trans (if_pos rfl), rfl, fun _ => rfl, fun hnew => absurd hsame hnew⟩
    · obtain ⟨t, hexec, hpar, hwait, hjoined⟩ := exec_jobMembershipWrite_of_new hanswer v hsame
      exact ⟨t, hexec, hpar, hwait, fun h => absurd h hsame, fun _ => hjoined⟩

end Sys2Proof.Machine
end

section
/-!
PROOFS. How the steps of a context open (spec/11_step_transactions.md R322 to R328, R350, R351).
-/

namespace Sys2Proof.Machine

open Sys2Proof.Claims

section
variable {s t u : State} {x : Nat} {c : Cmd}

/-! ### What a completion reads -/

/-- A state with the same memory, posts and stream settings is completed upon alike. -/
theorem completes_of_same {status code sect slot : Nat} (hpart : u.part = s.part) (hmem : u.mem = s.mem) (hposts : u.posts = s.posts)
    (hpar : ∀ k, k + x ≠ K.STEP_CFG + x → u.par (k + x) = s.par (k + x))
    (h : Completes u t x c status code sect slot) : Completes s t x c status code sect slot := by
  have hkey (k : Nat) (hk : k ≠ K.STEP_CFG) : u.par (k + x) = s.par (k + x) := hpar k (by omega)
  have hholds (d : Nat) : u.holds x d = s.holds x d := by
    rw [State.holds, hkey K.CONTEXT_CLUSTERS (by decide), State.holds]
  have hwrite (a : Nat) (bs : List Nat) : (u.writeSpace 0 a bs).mem = (s.writeSpace 0 a bs).mem := by
    unfold State.writeSpace
    rw [hmem, hpart]
    rfl
  unfold Completes foreignAdd at *
  rwa [hholds, hkey K.CONTEXT_STREAM_BASE (by decide), hkey K.CONTEXT_STREAM_CFG (by decide), hposts, hwrite] at h

/-! ### What an opening writes (R323, R326, R328, R443) -/

theorem State.writeVerify_frame (s : State) (x n : Nat) : ∃ od, s.writeVerify x n = { s with od := od } := by
  unfold State.writeVerify
  split
  · exact ⟨_, rfl⟩
  · exact ⟨_, rfl⟩

theorem State.writeVerify_par (s : State) (n : Nat) {k : Nat} (hk : k ≠ K.STEP_CFG + x) :
    (s.writeVerify x n).par k = s.par k := by
  unfold State.writeVerify
  split
  · rfl
  · rw [State.setPar_par, if_neg hk]

/-- The package semaphores of the context's range as they stand. -/
theorem State.freshStep_shadowPkg (s : State) (n attempt d i : Nat) (hi : i < 16384) (hrange : s.inPkgRange x i = true) :
    Tbl.get (s.freshStep x n attempt).shadowPkg 0 (d * 16384 + i) = s.sem (.pkg d i) := by
  have hmod : (d * 16384 + i) % 16384 = i := by omega
  exact (Tbl.get_filter s.pkg 0 _ fun k => s.inPkgRange x (k % 16384)).trans (if_pos (by rw [hmod]; exact hrange))

/-! ### What was held for the step (R309, R325) -/

theorem State.grantHeld_frame (s : State) (x : Nat) : ∃ l, s.grantHeld x = { s with links := l } := by
  unfold State.grantHeld
  induction List.range 27 generalizing s with
  | nil => exact ⟨_, rfl⟩
  | cons q qs ih =>
    rw [List.foldl_cons]
    dsimp only
    split
    · exact ih s
    · exact ih (s.setPort q _)

/-- With nothing held for the context, only credits move. -/
theorem State.landHeld_of_none (h : s.links.held.all (fun h => h.ctx ≠ x) = true) :
    ∃ l, s.landHeld x = { s with links := l } := by
  have hmine : s.links.held.filter (fun h => h.ctx = x) = [] := by
    rw [List.filter_eq_nil_iff]
    intro m hm
    simpa using List.all_eq_true.mp h m hm
  unfold State.landHeld
  rw [hmine]
  exact State.grantHeld_frame _ x

theorem State.addHeldSums_of_none (h : ∀ p, (s.plan p).sums = []) : s.addHeldSums x = s := by
  unfold State.addHeldSums
  refine List.foldl_fixed' (fun p => ?_) _
  split
  · rw [h, List.length_nil, State.addSums, ite_self]
  · rfl

/-- The context with the step opened. -/
def Ctx.withStep (c : Ctx) (t : Step) : Ctx :=
  { c with seed := t.seed, trap := 0, steps := c.steps ++ [t], stepped := true, expectRolled := false }

/-- A step opens, and what else moves is credits. -/
theorem State.openStep_of_none (n : Nat) (hheld : s.links.held.all (fun h => h.ctx ≠ x) = true)
    (hplan : ∀ p, (s.plan p).sums = [] ∧ (s.plan p).held = []) : ∃ l, s.openStep x n =
      { (s.writeVerify x n).modCx x (fun c => c.withStep ((s.writeVerify x n).freshStep x n ((s.cx x).attemptOf n))) with
        links := l } := by
  obtain ⟨od, hod⟩ := s.writeVerify_frame x n
  obtain ⟨v, hv⟩ : ∃ v : State, v = (s.writeVerify x n).modCx x (fun c => c.withStep
    ((s.writeVerify x n).freshStep x n ((s.cx x).attemptOf n))) := ⟨_, rfl⟩
  have hopen : s.openStep x n = ((v.landHeld x).addHeldSums x).regather := by
    rw [hv]
    unfold State.openStep
    dsimp only
    rw [hod]
    rfl
  have hlinks : v.links = s.links := by rw [hv, hod]; rfl
  have hplans (p : Nat) : v.plan p = s.plan p := by rw [hv, hod]; rfl
  obtain ⟨l, hl⟩ := State.landHeld_of_none (s := v) (x := x) (by rw [hlinks]; exact hheld)
  have hlands (p : Nat) : (v.landHeld x).plan p = s.plan p := by rw [hl]; exact hplans p
  refine ⟨l, ?_⟩
  rw [hopen, State.addHeldSums_of_none fun p => by rw [hlands]; exact (hplan p).1,
    State.regather_of_none fun p => by rw [hlands]; exact (hplan p).2, hl, hv]

/-- A command's end leaves queue, part, semaphores, clusters and cores. -/
theorem State.finish_leaves (s : State) (x : Nat) (c : Cmd) (status : Nat) : let t := s.finish x c status 0 0 0
    t.pending = s.pending ∧ t.part = s.part ∧ t.side = s.side ∧ t.pkg = s.pkg ∧ t.clusters = s.clusters ∧
      t.cores = s.cores ∧ t.cx x = { s.cx x with cur := none, progress := true } := by
  have hcx := (s.finish_cx x c status 0 0 0 x).trans (if_pos rfl)
  have hframe := s.finish_frame x c status 0 0 0
  dsimp only at hframe ⊢
  refine ⟨?_, ?_, ?_, ?_, ?_, ?_, hcx⟩
  all_goals rw [hframe]

/-! ### STEP.OPEN (R322, R323, R327) -/

theorem State.stepOpen_of_waits (hc : s.curCmd x 0x10 = some c) (hwaits : (s.cx x).openWaits = true) : s.stepOpen x = s := by
  simp only [State.stepOpen, hc, hwaits, Bool.or_true, if_true]

/-- A STEP.OPEN that is refused completes with the status of the first check that it fails. -/
theorem State.stepOpen_of_refused (hc : s.curCmd x 0x10 = some c) (hreplay : c.replay = false)
    (hwaits : (s.cx x).openWaits = false)
    (h : (s.mir x).barred = true ∨ (s.cx x).expects c.step = false ∨ s.stepConfigBad x = true) :
    s.stepOpen x = s.finish x c (if (s.mir x).barred = false ∧ (s.cx x).expects c.step = false then 8 else 0xA) 0 0 0 := by
  simp only [State.stepOpen, hc, hreplay, hwaits, Bool.or_false, Bool.false_eq_true, if_false]
  cases hbarred : (s.mir x).barred
  case true => rfl
  case false =>
    cases hexpects : (s.cx x).expects c.step
    case false => rfl
    case true =>
      have hbad : s.stepConfigBad x = true := by simpa [hbarred, hexpects] using h
      simp [hbad]

theorem State.stepOpen_of_good (hc : s.curCmd x 0x10 = some c) (hreplay : c.replay = false)
    (hwaits : (s.cx x).openWaits = false) (hbarred : (s.mir x).barred = false) (hexpects : (s.cx x).expects c.step = true)
    (hgood : s.stepConfigBad x = false) : s.stepOpen x = (s.openStep x c.step).finish x c 1 0 0 0 := by
  simp [State.stepOpen, hc, hreplay, hwaits, hbarred, hexpects, hgood]

/-! ### REPLAY_STEP_OPEN (R350, R351) -/

theorem State.replayOpen_of_waits (hc : s.curCmd x 0x10 = some c) (hwaits : (s.cx x).replayWaits = true) :
    s.replayOpen x = s := by
  simp only [State.replayOpen, hc, hwaits, Bool.or_true, if_true]

theorem State.replayOpen_of_refused (hc : s.curCmd x 0x10 = some c) (hreplay : c.replay = true)
    (hwaits : (s.cx x).replayWaits = false) (h : (s.mir x).barred = true ∨ s.stepConfigBad x = true) :
    s.replayOpen x = s.finish x c 0xA 0 0 0 := by
  simp only [State.replayOpen, hc, hreplay, hwaits, Bool.not_true, Bool.or_false, Bool.false_eq_true, if_false]
  exact if_pos (by simpa using h)

/-- The replay step that a STEP.OPEN with REPLAY makes. -/
def State.replayOpening (s : State) (x : Nat) (c : Cmd) : Step :=
  { s.freshStep x c.step ((((s.cx c.jobctx).steps.find? (fun t => t.num = c.step)).map (·.attempt)).getD 0) with
    replay := some (c.suspect, c.jobctx)
    verify := false }

theorem State.replayOpen_of_good (hc : s.curCmd x 0x10 = some c) (hreplay : c.replay = true)
    (hwaits : (s.cx x).replayWaits = false) (hbarred : (s.mir x).barred = false) (hgood : s.stepConfigBad x = false) :
    s.replayOpen x = (s.modCx x (fun q => { q with seed := (s.replayOpening x c).seed, replay := some (s.replayOpening x c) })
      ).finish x c 1 0 0 0 := by
  simp only [State.replayOpen, hc, hreplay, hwaits, hbarred, hgood, Bool.not_true, Bool.or_false, Bool.false_eq_true, if_false]
  rfl

end

/-- Settles O35: with nothing held, an opening writes its context, STEP_CFG and credits alone. -/
theorem stepsOpenInOrder : Obligations.StepsOpenInOrder := by
  intro x s c hc
  have hop : c.op ≠ 4 := by simp [State.curCmd_op hc]
  refine ⟨fun _ hwaits => ?waits, fun hreplay hwaits hbad => ?refused,
    fun hreplay hwaits hbarred hexpects hgood hheld hplan => ?opens, fun _ hwaits => ?replayWaits,
    fun hreplay hwaits hbad => ?replayRefused, fun hreplay hwaits hbarred hgood => ?replayOpens⟩
  case waits => exact exec_next_of_eq (i := .stepOpen x) rfl (State.stepOpen_of_waits hc hwaits) rfl rfl
  case refused =>
    obtain ⟨hpending, hpart, hside, hpkg, hclusters, hcores, hcx⟩ := s.finish_leaves x c
      (if (s.mir x).barred = false ∧ (s.cx x).expects c.step = false then 8 else 0xA)
    exact ⟨_, exec_next_of_eq (i := .stepOpen x) rfl (State.stepOpen_of_refused hc hreplay hwaits hbad) hpending hpart,
      (congrArg Ctx.steps hcx :), s.finish_completes x c _ 0 0 0 hop, hside, hpkg, hclusters, hcores⟩
  case opens =>
    obtain ⟨l, hopen⟩ := State.openStep_of_none c.step hheld hplan
    obtain ⟨od, hod⟩ := s.writeVerify_frame x c.step
    have hpar {k : Nat} (hk : k ≠ K.STEP_CFG + x) := s.writeVerify_par c.step hk
    generalize hv : s.writeVerify x c.step = v at hopen hod hpar
    generalize hu : v.freshStep x c.step ((s.cx x).attemptOf c.step) = u at hopen
    obtain ⟨w, hw⟩ : ∃ w : State, w = { v.modCx x (fun c => c.withStep u) with links := l } := ⟨_, rfl⟩
    rw [← hw] at hopen
    have hwcx : w.cx x = (s.cx x).withStep u := by
      rw [hw]
      exact (v.modCx_cx_same x fun c => c.withStep u).trans (by rw [hod]; rfl)
    have hwpar (k : Nat) : w.par k = v.par k := by rw [hw]; rfl
    obtain ⟨hpending, hpart, hside, hpkg, -, -, hcx⟩ := w.finish_leaves x c 1
    have hdone : Completes s (w.finish x c 1 0 0 0) x c 1 0 0 0 := by
      refine completes_of_same ?_ ?_ ?_ (fun k hk => (hwpar _).trans (hpar hk)) (w.finish_completes x c 1 0 0 0 hop)
      all_goals rw [hw, hod]; rfl
    obtain ⟨hnum, hst, hattempt, hfailed, hchecks, hblocks⟩ : u.num = c.step ∧ u.st = .opened ∧
        u.attempt = (s.cx x).attemptOf c.step ∧ u.failed = false ∧ u.checks = 0 ∧ u.blocks = 0 := by
      rw [← hu]
      exact ⟨rfl, rfl, rfl, rfl, rfl, rfl⟩
    have hrange (i : Nat) : v.inPkgRange x i = s.inPkgRange x i := by
      unfold State.inPkgRange
      rw [hpar (by unfold K.CONTEXT_SEMS K.STEP_CFG; omega)]
    refine ⟨w.finish x c 1 0 0 0, u, exec_next_of_eq (i := .stepOpen x) rfl
      ((State.stepOpen_of_good hc hreplay hwaits hbarred hexpects hgood).trans (by rw [hopen])) (hpending.trans ?_)
      (hpart.trans ?_), ?steps, hnum, hst, hattempt, hfailed, hchecks,
      hblocks, ?seed, ?trap, hdone, fun n i hi hin => ?shadow, hside.trans ?_, hpkg.trans ?_⟩
    case steps => rw [hcx, hwcx]; rfl
    case seed => rw [← hu, ← hpar (by unfold K.ROUND_SEED_CTX0 K.STEP_CFG; omega)]; rfl
    case trap => rw [hcx, hwcx]; rfl
    case shadow =>
      rw [← hu, State.freshStep_shadowPkg v c.step _ n i hi ((hrange i).trans hin), hod]
      rfl
    all_goals rw [hw, hod]; rfl
  case replayWaits => exact exec_next_of_eq (i := .replayStepOpen x) rfl (State.replayOpen_of_waits hc hwaits) rfl rfl
  case replayRefused =>
    obtain ⟨hpending, hpart, hside, hpkg, -, -, hcx⟩ := s.finish_leaves x c 0xA
    exact ⟨_, exec_next_of_eq (i := .replayStepOpen x) rfl (State.replayOpen_of_refused hc hreplay hwaits hbad) hpending hpart,
      s.finish_completes x c _ 0 0 0 hop, (congrArg Ctx.steps hcx :), (congrArg Ctx.replay hcx :), hside, hpkg⟩
  case replayOpens =>
    generalize hw : s.modCx x (fun q => { q with
      seed := (s.replayOpening x c).seed, replay := some (s.replayOpening x c) }) = w
    have hwcx : w.cx x = { s.cx x with seed := (s.replayOpening x c).seed, replay := some (s.replayOpening x c) } := by
      rw [← hw]
      exact s.modCx_cx_same x _
    obtain ⟨hpending, hpart, hside, hpkg, -, -, hcx⟩ := w.finish_leaves x c 1
    rw [hwcx] at hcx
    have hdone : Completes s (w.finish x c 1 0 0 0) x c 1 0 0 0 := by
      refine completes_of_same ?_ ?_ ?_ ?_ (w.finish_completes x c 1 0 0 0 hop)
      case refine_4 => intros; rw [← hw]; rfl
      all_goals rw [← hw]; rfl
    refine ⟨w.finish x c 1 0 0 0, s.replayOpening x c, exec_next_of_eq (i := .replayStepOpen x) rfl
      ((State.replayOpen_of_good hc hreplay hwaits hbarred hgood).trans (by rw [hw])) (hpending.trans ?_)
      (hpart.trans ?_), (congrArg Ctx.steps hcx :), (congrArg Ctx.replay hcx :), rfl, rfl, rfl, rfl, hdone,
      hside.trans ?_, hpkg.trans ?_⟩
    all_goals rw [← hw]; rfl

end Sys2Proof.Machine
end

section
/-!
PROOFS. A WRITE of ARRAY_FILL_GAP reaches the cores whose hold still runs (spec/18_object_dictionary.md R535,
spec/04_tensor_array.md R120).
-/

namespace Sys2Proof.Machine

open Sys2Proof.Claims

/-- A WRITE of 16 to ARRAY_FILL_GAP (R530). -/
def fillGapWrite : List (BitVec 128) :=
  Msg.make ⟨1, 0, 0, 0, 0xFFFFFF, 0, 0, 0, 0, 0, 7⟩
    [BitVec.ofNat 128 (2 <<< 120 + K.ARRAY_FILL_GAP <<< 88 + 0x123 <<< 64 + 2 <<< 20), 16]

/-- The part while the hold of core 0's last ARRAY.WARM still runs (R122). -/
def State.holding : State := { State.reset with cores := [(0, { holdTill := 100 })] }

theorem itsTurn_fillGapWrite : itsTurn State.holding 0 fillGapWrite State.holding := by
  refine ⟨⟨?_, ?_, ?_, ?_⟩, ?_, .inl ⟨?_, ?_, ?_, ?_⟩⟩
  case refine_7 => rfl
  all_goals decide +kernel

theorem mgmtWrite_fillGapWrite : ∃ t, exec (.mgmtWrite 0 fillGapWrite) State.holding = .next t ∧ (t.co 0).fillGap = 16 :=
  ⟨_, rfl, by decide +kernel⟩

/-- Refutes O50: ARRAY_FILL_GAP does more than hold its value. A write while core 0 holds is the gap that begins there when
the hold ends, so the write changes that core. -/
theorem not_managementRequestsAreAnswered : ¬ Obligations.ManagementRequestsAreAnswered := by
  rintro ⟨-, hturn⟩
  obtain ⟨-, hpassed⟩ := hturn 0 fillGapWrite State.holding State.holding itsTurn_fillGapWrite
  obtain ⟨-, -, hwrite⟩ := hpassed ⟨K.ARRAY_FILL_GAP, 1, .u16, 2, .rw, false, false, false, 64, 0, 1024, 65535⟩
    (by decide +kernel) (by decide +kernel) (by decide +kernel)
  obtain ⟨t, ht, -, -, -, hcores, -⟩ := hwrite (by decide +kernel) (by decide +kernel)
  obtain ⟨u, hu, hgap⟩ := mgmtWrite_fillGapWrite
  obtain rfl : t = u := Host.Outcome.next.inj (ht.symm.trans hu)
  have hco : t.co 0 = State.holding.co 0 := by rw [State.co, hcores, State.co]
  rw [hco] at hgap
  exact absurd hgap (by decide +kernel)

end Sys2Proof.Machine
end

section
/-!
PROOFS. A management request whose turn has come, and the reply that it gets (spec/18_object_dictionary.md R529 to R534).
-/

namespace Sys2Proof.Machine

open Sys2Proof.Claims

/-! ### A request's turn (R534) -/

/-- A request whose turn has come is counted and acts on the state behind it. -/
theorem State.serve_of_turn {s o : State} {q : Nat} {m : List (BitVec 128)} (h : itsTurn s q m o) {ops : Nat → Bool}
    (hop : ops (MReq.read q m).op = true) (act : MReq → State → State) :
    s.serve q m ops act = act (MReq.read q m) (o.bump K.MGMT_REQUESTS 1) := by
  obtain ⟨⟨hanswer, htype, hfor, hport⟩, hform, hturn⟩ := h
  rw [rightForm, Bool.and_eq_true, decide_eq_true_eq] at hform
  obtain ⟨hwell, hlength⟩ := hform
  have hslots : m.length = 2 + ceilDiv (MReq.read q m).length 16 := hlength
  have htake : s.takeRequest q m = some o := by
    obtain ⟨hempty, ho, hdeep, hpath⟩ | ⟨l, hqueue, ho⟩ := hturn
    · rw [State.takeRequest, hempty, ho]
      obtain hdeep | hdeep := hdeep
      · simp [hpath, hdeep]
      · simp [hpath, Nat.not_le.mpr hdeep]
    · rw [State.takeRequest, hqueue, ho]
      exact if_pos rfl
  unfold State.serve
  simp only [hanswer, htype, hfor, hop, hport, hwell, htake, ← hslots, Bool.not_true, ne_eq, not_true_eq_false,
    decide_false, Bool.or_false, Bool.false_eq_true, if_false]

/-! ### The reply (R528, R530, R532) -/

theorem mgmtMsg_common {a g : Nat} (n : Nat) (ha : a < 2 ^ 24) (hg : g < 2 ^ 16) :
    let h : BitVec 128 := Common.word ⟨1, 0, n, 0, a, 0, 0, 0, 0, 0, g⟩
    (Msg.common [h]).mtype = 1 ∧ (Msg.common [h]).vc = 0 ∧ (Msg.common [h]).daddr = a ∧ (Msg.common [h]).tag = g := by
  simp only [Msg.common, Msg.slot, List.getD_cons_zero, Common.word, bits, BitVec.toNat_ofNat, Nat.shiftRight_eq_div_pow,
    Nat.shiftLeft_eq]
  refine ⟨?_, ?_, ?_, ?_⟩ <;> omega

/-- The second slot of a management message, by its fields. -/
def replyWord (op status index sub a sel n segment : Nat) : Nat :=
  op <<< 120 + status <<< 112 + index <<< 96 + sub <<< 88 + a <<< 64 + sel <<< 32 + n <<< 20 + segment <<< 10

theorem bits_replyWord {op status index sub a sel n segment : Nat} (hop : op < 256) (hstatus : status < 256)
    (hindex : index < 2 ^ 16) (hsub : sub < 256) (ha : a < 2 ^ 24) (hsel : sel < 2 ^ 32) (hn : n < 2 ^ 11)
    (hsegment : segment < 2 ^ 10) : let w := BitVec.ofNat 128 (replyWord op status index sub a sel n segment)
    bits w.toNat 127 120 = op ∧ bits w.toNat 119 112 = status ∧ bits w.toNat 111 96 = index ∧ bits w.toNat 95 88 = sub ∧
      bits w.toNat 63 32 = sel ∧ bits w.toNat 30 20 = n := by
  simp only [replyWord, bits, BitVec.toNat_ofNat, Nat.shiftRight_eq_div_pow, Nat.shiftLeft_eq]
  refine ⟨?_, ?_, ?_, ?_, ?_, ?_⟩ <;> omega

/-- The state of the links and the settings that a reply reads. -/
structure State.Alike (s t : State) : Prop where
  part_eq : t.part = s.part
  ports_eq : t.links.ports = s.links.ports
  par_eq : ∀ k, k ≠ K.MGMT_REQUESTS → t.par k = s.par k

/-- The fields of a request keep within their widths. -/
structure MReq.Fits (r : MReq) : Prop where
  saddr_lt : r.saddr < 2 ^ 24
  tag_lt : r.tag < 2 ^ 16
  index_lt : r.index < 2 ^ 16
  sub_lt : r.sub < 256
  segment_lt : r.segment < 2 ^ 10

theorem MReq.read_fits (q : Nat) (m : List (BitVec 128)) : (MReq.read q m).Fits :=
  ⟨bits_lt _ 87 64, bits_lt _ 15 0, bits_lt _ 111 96, bits_lt _ 95 88, bits_lt _ 19 10⟩

section
variable {s o : State} {r : MReq}

theorem State.reply_of_ok (s : State) (r : MReq) (sel : Nat) (data : List Nat) :
    s.reply r 0 sel data = s.sendReply r.port (s.replyMsg r 0 sel data) := rfl

/-- A reply that says OK changes the links alone, or is counted as dropped. -/
theorem State.reply_ok_replied (s : State) (r : MReq) (sel : Nat) (data : List Nat) :
    s.Replied (s.reply r 0 sel data) := by
  rw [State.reply_of_ok]
  exact s.sendReply_replied _ _

/-- The slots of the reply to a request that succeeds. -/
theorem State.replyMsg_eq (s : State) (r : MReq) (sel : Nat) (data : List Nat) : s.replyMsg r 0 sel data =
    Common.word ⟨1, 0, 1 + (1 + (slotsOf data).length), 0, r.saddr, 0, 0, 0, 0, 0, r.tag⟩ ::
      BitVec.ofNat 128 (replyWord ((r.op + 0x80) % 256) 0 r.index r.sub (s.ioAddr 0) (sel % 2 ^ 32) data.length r.segment) ::
        slotsOf data := by
  rw [State.replyMsg, mgmtMsg, Msg.make, List.length_cons, replyWord, Nat.add_comm (slotsOf data).length]

/-- The reply to a request that succeeds joins the port of the request. -/
theorem State.reply_replied (h : o.Alike s) (hr : r.Fits) {sel : Nat} {data : List Nat} (hsel : sel < 2 ^ 32)
    (hdata : data.length < 2 ^ 11) : replied o (s.reply r 0 sel data) r 0 sel data := by
  intro hport hactive
  have hweights : s.vcWeights = o.vcWeights := by
    unfold State.vcWeights
    rw [h.par_eq _ (by decide)]
  have hsame : s.port r.port = o.port r.port := by rw [State.port, h.ports_eq, State.port]
  have hsends : (s.part.hasPort r.port && (s.port r.port).mode = .active) = true := by
    rw [h.part_eq, hport, hsame, hactive]
    rfl
  rw [State.reply_of_ok, State.sendReply, if_pos hsends, State.replyMsg_eq]
  obtain ⟨n, hn⟩ := s.toPort_port r.port (s.replyMsg r 0 sel data) r.port
  rw [if_pos rfl, hsame, hweights, State.replyMsg_eq] at hn
  obtain ⟨hmtype, hvc, hdaddr, htag⟩ := mgmtMsg_common (1 + (1 + (slotsOf data).length)) hr.saddr_lt hr.tag_lt
  refine ⟨n, _, _, hn, hmtype, hvc, hdaddr, htag, fun hfabric => ?_⟩
  have haddr : s.ioAddr 0 < 2 ^ 24 := by rwa [State.ioAddr, Nat.add_zero, h.par_eq _ (by decide)]
  have hword := bits_replyWord (Nat.mod_lt (r.op + 0x80) (by decide : 0 < 256)) (by decide : 0 < 256) hr.index_lt
    hr.sub_lt haddr (Nat.mod_lt sel (Nat.two_pow_pos 32)) hdata hr.segment_lt
  rw [Nat.mod_eq_of_lt hsel] at hword ⊢
  exact hword

end

end Sys2Proof.Machine
end

section
/-!
PROOFS. Images: their staging, check, write and start, and the announcements of ROM recovery
(spec/20_boot_security_board.md R582 to R586).
-/

namespace Sys2Proof.Machine

open Sys2Proof.Claims

/-! ### The flash (R586) -/

theorem Boot.eraseFlash_get (b : Boot) (a n y : Nat) : Tbl.get (b.eraseFlash a n).flash 0xFF y =
    if a ≤ y ∧ y < a + n then 0xFF else Tbl.get b.flash 0xFF y := by
  have hfilter := Tbl.get_filter b.flash 0xFF y fun k => decide (k < a) || decide (a + n ≤ k)
  refine hfilter.trans ?_
  by_cases hin : a ≤ y ∧ y < a + n
  · rw [if_pos hin, if_neg]
    simp only [Bool.or_eq_true, decide_eq_true_eq]
    omega
  · rw [if_neg hin, if_pos]
    simp only [Bool.or_eq_true, decide_eq_true_eq]
    omega

theorem get_foldl_put (bs : List Nat) (a k y : Nat) (f : Tbl Nat) :
    Tbl.get ((bs.zipIdx k).foldl (fun m p => Tbl.put m 0xFF (a + p.2) (p.1 % 256)) f) 0xFF y =
      if a + k ≤ y ∧ y < a + k + bs.length then bs.getD (y - (a + k)) 0 % 256 else Tbl.get f 0xFF y := by
  induction bs generalizing k f with
  | nil => exact (if_neg (by rw [List.length_nil]; omega)).symm
  | cons x bs ih =>
    rw [List.zipIdx_cons, List.foldl_cons, ih, Tbl.get_put, List.length_cons]
    obtain hlow | hhere | hhigh := Nat.lt_trichotomy y (a + k)
    · rw [if_neg (by omega), if_neg (by omega), if_neg (by omega)]
    · rw [if_neg (by omega), if_pos hhere, if_pos (by omega), hhere, Nat.sub_self, List.getD_cons_zero]
    · obtain ⟨j, rfl⟩ : ∃ j, y = a + (k + 1) + j := ⟨y - (a + (k + 1)), by omega⟩
      rw [show a + (k + 1) + j - (a + k) = j + 1 by omega, Nat.add_sub_cancel_left, List.getD_cons_succ,
        if_neg (show a + (k + 1) + j ≠ a + k by omega)]
      exact if_congr (by omega) rfl rfl

theorem Boot.writeFlash_get (b : Boot) (a : Nat) (bs : List Nat) (y : Nat) : Tbl.get (b.writeFlash a bs).flash 0xFF y =
    if a ≤ y ∧ y < a + bs.length then bs.getD (y - a) 0 % 256 else Tbl.get b.flash 0xFF y :=
  get_foldl_put bs a 0 y b.flash

/-! ### A boot from its step 5 (R578, R582, R583) -/

theorem Boot.Reserved.with_attest {b c : Boot} (h : b.Reserved c) (a : Attest) :
    { c with attest := a } = { b with flash := c.flash, attest := a } := by rw [h.1]

theorem Boot.attestBoot_frame (b : Boot) : ∃ f a, b.attestBoot = { b with flash := f, attest := a } := by
  unfold Boot.attestBoot
  extract_lets gen d e
  have hd : b.Reserved d := by
    unfold d
    split
    · exact .writeCert b _
    · exact .refl b
  have he : b.Reserved e := hd.trans (.reserve d)
  exact ⟨_, _, he.with_attest _⟩

/-- Storing the trip record leaves what the boot has reached, and the requests that wait. -/
theorem State.storeTrip_leaves (s : State) (w : Power) (k : Nat) (v : List Nat) :
    let t := ({ s with power := w } : State).storeNv k v
    t.boot.mode = s.boot.mode ∧ t.boot.ready = s.boot.ready ∧ t.boot.last = s.boot.last ∧ t.boot.staged = s.boot.staged ∧
      t.service.mgmt.queue = s.service.mgmt.queue := by
  obtain ⟨f, hf⟩ : ∃ f, (({ s with power := w } : State).storeNv k v).boot = { s.boot with flash := f } := ⟨_, rfl⟩
  dsimp only
  rw [hf, State.storeNv_mgmt]
  exact ⟨rfl, rfl, rfl, rfl, rfl⟩

theorem State.modBoot_service (s : State) (f : Boot → Boot) : (s.modBoot f).service = s.service := rfl

/-- The step that reserves a batch is the last of the boot. -/
theorem State.attested_boot {s t : State} {c : Boot} (hboot : s.boot = c)
    (ht : t = s.modBoot (fun x => { x.attestBoot with ready := true, last := 11 })) :
    t.boot.mode = c.mode ∧ t.boot.ready = true ∧ t.boot.last = 11 ∧ t.boot.staged = c.staged ∧ t.service = s.service := by
  obtain ⟨f, a, hattest⟩ := c.attestBoot_frame
  have hready : t.boot = { c with flash := f, attest := a, ready := true, last := 11 } := by
    rw [ht, State.modBoot, hboot, hattest]
  rw [hready]
  exact ⟨rfl, rfl, rfl, rfl, ht ▸ s.modBoot_service _⟩

section
variable {s : State} {b : BootIn} {cold : Bool}

theorem State.bootFrom5_of_bad (h : s.verifyImage ≠ 0) :
    s.bootFrom5 b cold = (s.romRecovery s.verifyImage).modBoot (fun x => { x with last := 4 }) := if_pos h

/-- An image that is verified starts: the part runs, and the requests that wait stay. -/
theorem State.bootFrom5_of_good (h : s.verifyImage = 0) : let t := s.bootFrom5 b cold
    t.boot.mode = .running ∧ t.boot.ready = true ∧ t.boot.last = 11 ∧
      t.boot.staged = (if s.boot.writing then s.boot.staged else none) ∧
      t.service.mgmt.queue = s.service.mgmt.queue := by
  unfold State.bootFrom5
  extract_lets cause hash v s1 s2 s3 s4 s5 trip old t
  clear_value hash v
  have htested : s2.Serviced s4 :=
    (State.Serviced.trainStacks s2 b s2.part.hbmSites cold).trans (.foldl (fun s d => .testDie s b d) (List.range 4) s3)
  have hboot : s4.boot = s1.boot := by rw [htested.frame]; rfl
  have hready : s5.boot.mode = .running ∧ s5.boot.ready = true ∧ s5.boot.last = 11 ∧
      s5.boot.staged = (if s.boot.writing then s.boot.staged else none) ∧ s5.service = s4.service :=
    State.attested_boot hboot rfl
  obtain ⟨hmode, hup, hlast, hstaged, hservice⟩ := hready
  have hqueue : s5.service.mgmt.queue = s.service.mgmt.queue := by
    rw [hservice, htested.service_eq]
    rfl
  have hend : t = s5 ∨ ∃ w k v, t = ({ s5 with power := w } : State).storeNv k v := by
    unfold t
    rw [if_neg (not_not.mpr h)]
    split
    · exact .inr ⟨_, _, _, rfl⟩
    · exact .inl rfl
  clear_value t old trip s5
  obtain ht | ⟨w, k, v, ht⟩ := hend
  · rw [ht]
    exact ⟨hmode, hup, hlast, hstaged, hqueue⟩
  · obtain ⟨hmode', hup', hlast', hstaged', hqueue'⟩ := s5.storeTrip_leaves w k v
    rw [ht]
    exact ⟨hmode'.trans hmode, hup'.trans hup, hlast'.trans hlast, hstaged'.trans hstaged, hqueue'.trans hqueue⟩

end

/-! ### A request about an image in its turn (R534, R584) -/

/-- `v` is `s` while the request whose turn leaves `o` acts on the image: it changes boot and memory, the counters and
what the management channel holds. -/
structure State.Turned (s o v : State) : Prop where
  frame : v = { s with od := v.od, mem := v.mem, boot := v.boot, service := { s.service with mgmt := v.service.mgmt } }
  alike : o.Alike v

namespace State.Turned

variable {s o v : State}

theorem modBoot (h : s.Turned o v) (f : Boot → Boot) : s.Turned o (v.modBoot f) :=
  ⟨by rw [State.modBoot, h.frame], ⟨h.alike.part_eq, h.alike.ports_eq, h.alike.par_eq⟩⟩

theorem setMem (h : s.Turned o v) (m : Memory) : s.Turned o { v with mem := m } :=
  ⟨by rw [h.frame], ⟨h.alike.part_eq, h.alike.ports_eq, h.alike.par_eq⟩⟩

theorem pending_eq (h : s.Turned o v) : v.pending = s.pending := by rw [h.frame]
theorem part_eq (h : s.Turned o v) : v.part = s.part := by rw [h.frame]
theorem now_eq (h : s.Turned o v) : v.now = s.now := by rw [h.frame]

end State.Turned

section
variable {s o v : State} {q : Nat} {m : List (BitVec 128)} {r : MReq}

/-- The turn itself only counts the request. -/
theorem turned_of_itsTurn (h : itsTurn s q m o) : let v := o.bump K.MGMT_REQUESTS 1
    s.Turned o v ∧ v.boot = s.boot ∧ v.mem = s.mem := by
  obtain ⟨-, -, ⟨-, rfl, -⟩ | ⟨l, -, rfl⟩⟩ := h
  · exact ⟨⟨rfl, ⟨rfl, rfl, fun k hk => (State.bump_par _ _ _ _).trans (if_neg hk)⟩⟩, rfl, rfl⟩
  · exact ⟨⟨rfl, ⟨rfl, rfl, fun k hk => (State.bump_par _ _ _ _).trans (if_neg hk)⟩⟩, rfl, rfl⟩

theorem State.Replied.leaves {s t : State} (h : s.Replied t) :
    t.pending = s.pending ∧ t.part = s.part ∧ t.boot = s.boot ∧ t.mem = s.mem ∧ t.now = s.now := by
  rw [h.frame]
  exact ⟨rfl, rfl, rfl, rfl, rfl⟩

/-- A command that ends with the reply OK, once its turn has come. -/
theorem exec_of_reply {i : Instr} {ops : Nat → Bool} {act : MReq → State → State} {w : State} {sel : Nat}
    (hturn : itsTurn s q m o) (hexec : exec i s = s.ends (s.serve q m ops act)) (hop : ops (MReq.read q m).op = true)
    (hact : act (MReq.read q m) (o.bump K.MGMT_REQUESTS 1) = w.reply (MReq.read q m) 0 sel []) (hw : s.Turned o w) :
    ∃ t, exec i s = .next t ∧ (sel < 2 ^ 32 → replied o t (MReq.read q m) 0 sel []) ∧ t.boot = w.boot ∧ t.mem = w.mem := by
  obtain ⟨hpending, hpart, hboot, hmem, -⟩ := (w.reply_ok_replied (MReq.read q m) sel []).leaves
  exact ⟨_, exec_next_of_eq hexec ((State.serve_of_turn hturn hop act).trans hact) (hpending.trans hw.pending_eq)
    (hpart.trans hw.part_eq), fun hsel => State.reply_replied hw.alike (MReq.read_fits q m) hsel (by decide), hboot, hmem⟩

theorem State.noStaging_of_boot (h : v.boot = s.boot) : v.noStaging = s.noStaging := by rw [State.noStaging, h, State.noStaging]

theorem State.verifyImage_of_same (hpart : v.part = s.part) (hmem : v.mem = s.mem) (hboot : v.boot = s.boot) :
    v.verifyImage = s.verifyImage := by
  unfold State.verifyImage State.staging
  rw [hpart, hmem, hboot]

theorem State.checkImage_of_same (hpart : v.part = s.part) (hmem : v.mem = s.mem) (hboot : v.boot = s.boot) :
    v.checkImage = s.checkImage := State.verifyImage_of_same hpart hmem (by rw [State.modBoot, hboot, State.modBoot])

/-! ### Staging (R584) -/

theorem State.imageBegin_of_good (hlength : r.length = 0) (hsegment : r.segment = 0) (hlow : 4097 ≤ r.sel)
    (hhigh : r.sel ≤ 67108864) (hwriting : v.boot.writing = false) (hstaging : v.noStaging = false) :
    v.imageBegin r = (v.setStaged (some ⟨r.sel, [], none⟩)).reply r 0 0 [] := by
  have hrange : ¬ (r.sel < 4097 ∨ 67108864 < r.sel) := by omega
  simp [State.imageBegin, hlength, hsegment, hrange, hwriting, hstaging]

/-- The image with a chunk staged. -/
def State.chunked (s : State) (r : MReq) (g : Staged) : State :=
  ({ s with mem := { s.mem with service := s.mem.service.write (1024 * r.sel) r.data } } : State).setStaged
    (some ⟨g.length, insertNat r.sel g.chunks, none⟩)

theorem State.Turned.chunked (h : s.Turned o v) (r : MReq) (g : Staged) : s.Turned o (v.chunked r g) := by
  unfold State.chunked
  exact (h.setMem _).modBoot _

theorem State.imageData_of_good {g : Staged} (hlow : 1 ≤ r.length) (hhigh : r.length ≤ 1024) (hsegment : r.segment = 0)
    (hin : 1024 * r.sel + r.length ≤ g.length) (hstaged : v.boot.staged = some g) (hstaging : v.noStaging = false) :
    v.imageData r = (v.chunked r g).reply r 0 (insertNat r.sel g.chunks).length [] := by
  have hlength : ¬ (r.length = 0 ∨ 1024 < r.length) := by omega
  simp [State.imageData, State.chunked, hlength, hsegment, Nat.not_lt.mpr hin, hstaged, hstaging]

theorem length_insertNat_le (n : Nat) (l : List Nat) : (insertNat n l).length ≤ l.length + 1 := by
  induction l with
  | nil => exact le_rfl
  | cons x l ih =>
    unfold insertNat
    split_ifs
    · exact le_rfl
    · exact Nat.le_succ _
    · exact Nat.succ_le_succ ih

theorem State.imageCheck_of_good {g : Staged} (hlength : r.length = 0) (hsegment : r.segment = 0)
    (hwhole : (g.length + 1023) / 1024 ≤ g.chunks.length) (hstaged : v.boot.staged = some g)
    (hstaging : v.noStaging = false) :
    v.imageCheck r = (v.setStaged (some { g with verdict := some v.checkImage })).reply r 0 v.checkImage [] := by
  have hchunks : ¬ g.chunks.length < ceilDiv g.length 1024 := Nat.not_lt.mpr hwhole
  simp [State.imageCheck, hlength, hsegment, hchunks, hstaged, hstaging]

/-! ### The write of an image (R584, R586) -/

theorem State.passed_of_good {g : Staged} (hstaged : v.boot.staged = some g) (hverdict : g.verdict = some 0)
    (hstaging : v.noStaging = false) : v.passed = true := by simp [State.passed, hstaged, hverdict, hstaging]

/-- The write of an image has begun: the first sector is erased. -/
def Boot.flashing (b : Boot) : Boot := { b.eraseFlash 0 0x10000 with writing := true, progress := 0 }

theorem State.imageFlash_of_good (hlength : r.length = 0) (hsegment : r.segment = 0) (hpassed : v.passed = true)
    (hflash : bit v.boot.flashStatus 9 = true) (hwriting : v.boot.writing = false) :
    v.imageFlash r = (v.modBoot Boot.flashing).reply r 0 0 [] := by
  simp only [State.imageFlash, hlength, hsegment, hpassed, hflash, hwriting]
  rfl

theorem Boot.flashing_get (b : Boot) (a : Nat) :
    Tbl.get b.flashing.flash 0xFF a = if a < 0x10000 then 0xFF else Tbl.get b.flash 0xFF a :=
  (b.eraseFlash_get 0 0x10000 a).trans (if_congr (by omega) rfl rfl)

/-- The flash once the sectors behind the first hold a body. -/
def Boot.bodied (b : Boot) (body : List Nat) : Boot :=
  (b.eraseFlash 0x10000 (ceilDiv body.length 0x10000 * 0x10000)).writeFlash 0x10000 body

theorem Boot.bodied_get (b : Boot) (body : List Nat) {a : Nat} (ha : a < 0x10000) :
    Tbl.get (b.bodied body).flash 0xFF a = Tbl.get b.flash 0xFF a := by
  rw [Boot.bodied, Boot.writeFlash_get, if_neg (by omega), Boot.eraseFlash_get, if_neg (by omega)]

/-- The write of an image has ended. -/
def Boot.flashed (b : Boot) (ok : Bool) : Boot :=
  { b with
    writing := false
    progress := if ok then 100 else b.progress
    flashStatus := setBits b.flashStatus 10 10 (b2n (!ok)) }

theorem State.flashEnd_of_good {g : Staged} (hstaged : s.boot.staged = some g) (hwriting : s.boot.writing = true) :
    ∃ body, s.flashEnd true =
      s.modBoot (fun b => ((b.bodied body).writeFlash 0 (s.staging 0 (min 0x10000 g.length))).flashed true) := by
  refine ⟨s.staging 0x10000 (min g.length g.length - 0x10000), ?_⟩
  unfold State.flashEnd
  rw [hstaged]
  dsimp only
  rw [hwriting]
  rfl

theorem State.flashEnd_of_bad {g : Staged} (hstaged : s.boot.staged = some g) (hwriting : s.boot.writing = true) :
    ∃ body, s.flashEnd false = s.draw.2.modBoot (fun b => (b.bodied body).flashed false) := by
  refine ⟨s.draw.2.staging 0x10000 (min (0x10000 + s.draw.1 % (g.length + 1)) g.length - 0x10000), ?_⟩
  unfold State.flashEnd
  rw [hstaged]
  dsimp only
  rw [hwriting]
  rfl

theorem bit_setBits_same (v i : Nat) (b : Bool) : bit (setBits v i i (b2n b)) i = b := by
  have hlow : v % 2 ^ i < 2 ^ i := Nat.mod_lt _ (Nat.two_pow_pos i)
  have hsplit : setBits v i i (b2n b) = 2 ^ i * (2 * (v >>> (i + 1)) + b2n b % 2) + v % 2 ^ i := by
    rw [setBits, Nat.shiftLeft_eq, Nat.shiftLeft_eq, Nat.add_sub_cancel_left, Nat.pow_one, pow_succ]
    ring
  rw [bit, hsplit, Nat.shiftRight_eq_div_pow, Nat.mul_add_div (Nat.two_pow_pos i), Nat.div_eq_of_lt hlow, Nat.add_zero,
    Nat.mul_add_mod]
  cases b <;> rfl

end

end Sys2Proof.Machine
end

section
/-!
PROOFS. The start of a staged image, and the announcements of ROM recovery (spec/20_boot_security_board.md R583, R584).
-/

namespace Sys2Proof.Machine

open Sys2Proof.Claims

/-! ### IMAGE_START (R584) -/

section
variable {s v : State} {r : MReq} {b : BootIn}

/-- The part as its boot goes on from step 5: the reply has left, and no request waits. -/
def State.restarted (v : State) (r : MReq) (b : BootIn) : State :=
  { (v.reply r 0 0 []).modMgmt (fun m => { m with queue := [] }) with
    now := (v.reply r 0 0 []).now + 4000 * b.took.toNat }

theorem State.imageStart_of_good (hlength : r.length = 0) (hsegment : r.segment = 0) (hpassed : v.passed = true) :
    ∃ cold, v.imageStart b r = (v.restarted r b).bootFrom5 b cold := by
  refine ⟨!((v.reply r 0 0 []).modMgmt (fun m => { m with queue := [] })).live, ?_⟩
  simp only [State.imageStart, hlength, hsegment, hpassed]
  rfl

theorem State.restarted_stands (v : State) (r : MReq) (b : BootIn) : let u := v.restarted r b
    u.pending = v.pending ∧ u.part = v.part ∧ u.boot = v.boot ∧ u.mem = v.mem ∧ u.now = v.now + 4000 * b.took.toNat ∧
      u.service.mgmt.queue = [] := by
  obtain ⟨hpending, hpart, hboot, hmem, hnow⟩ := (v.reply_ok_replied r 0 []).leaves
  exact ⟨hpending, hpart, hboot, hmem, congrArg (· + 4000 * b.took.toNat) hnow, rfl⟩

/-- The outcome of a boot from step 5: the part runs, or stands in ROM recovery. -/
theorem State.bootFrom5_outcome (s : State) (b : BootIn) (cold : Bool) : let t := s.bootFrom5 b cold
    t.service.mgmt.queue = s.service.mgmt.queue ∧ (s.boot.writing = false → t.boot.staged = none) ∧
      (s.verifyImage = 0 → t.boot.mode = .running ∧ t.boot.ready = true ∧ t.boot.last = 11) ∧
      (s.verifyImage ≠ 0 → t.boot.mode = .rom ∧ t.boot.cause = s.verifyImage) := by
  by_cases hgood : s.verifyImage = 0
  · obtain ⟨hmode, hready, hlast, hstaged, hqueue⟩ := State.bootFrom5_of_good (b := b) (cold := cold) hgood
    exact ⟨hqueue, fun hwriting => hstaged.trans (if_neg (by simp [hwriting])), fun _ => ⟨hmode, hready, hlast⟩,
      fun hbad => absurd hgood hbad⟩
  · dsimp only
    rw [State.bootFrom5_of_bad hgood]
    exact ⟨rfl, fun hwriting => if_neg (by simp [hwriting]), fun h => absurd h hgood, fun _ => ⟨rfl, rfl⟩⟩

end

/-! ### ANNOUNCE (R583) -/

section
variable {s t : State}

/-- The announcement of a part by a port, when that is ACTIVE. -/
def State.announceAt (s : State) (p : Nat) : State :=
  if s.part.hasPort p && (s.port p).mode = .active then s.toPort p (s.announcement 0xFFFFFF) else s

theorem State.announceAt_sent (s : State) (p : Nat) : s.Sent (s.announceAt p) := by
  unfold State.announceAt
  split
  · exact .toPort s _ _
  · exact .refl s

theorem State.announceAt_port (s : State) {p q : Nat} (h : q ≠ p) : (s.announceAt p).port q = s.port q := by
  unfold State.announceAt
  split
  · obtain ⟨n, hn⟩ := s.toPort_port p (s.announcement 0xFFFFFF) q
    exact hn.trans (if_neg h)
  · rfl

theorem State.announceAt_port_same {p : Nat} (hport : s.part.hasPort p = true) (hactive : (s.port p).mode = .active) :
    ∃ n, (s.announceAt p).port p =
      Port.pump s.vcWeights n { s.port p with out := (s.port p).out ++ [s.announcement 0xFFFFFF] } := by
  rw [State.announceAt, if_pos (by simp [hport, hactive])]
  obtain ⟨n, hn⟩ := s.toPort_port p (s.announcement 0xFFFFFF) p
  exact ⟨n, hn.trans (if_pos rfl)⟩

theorem State.Sent.vcWeights_eq (h : s.Sent t) : t.vcWeights = s.vcWeights := by
  unfold State.vcWeights
  rw [h.par_eq]

theorem State.Sent.announcement_eq (h : s.Sent t) (d : Nat) : t.announcement d = s.announcement d := by
  have hboot : t.boot = s.boot := by rw [h.frame]
  unfold State.announcement State.ioAddr
  rw [h.par_eq, hboot]

/-- Every ACTIVE port of a list has taken the announcement, and no other has. -/
theorem State.foldl_announceAt {l : List Nat} (hl : l.Nodup) (s : State) : let t := l.foldl (fun s p => s.announceAt p) s
    (∀ p, p ∉ l → t.port p = s.port p) ∧ ∀ p ∈ l, s.part.hasPort p = true → (s.port p).mode = .active →
      ∃ n, t.port p = Port.pump s.vcWeights n { s.port p with out := (s.port p).out ++ [s.announcement 0xFFFFFF] } := by
  induction l generalizing s with
  | nil => exact ⟨fun _ _ => rfl, fun _ hp => by cases hp⟩
  | cons q l ih =>
    obtain ⟨hq, hnodup⟩ := List.nodup_cons.mp hl
    have hfirst := s.announceAt_sent q
    have hpart : (s.announceAt q).part = s.part := by rw [hfirst.frame]
    obtain ⟨hother, htold⟩ := ih hnodup (s.announceAt q)
    refine ⟨fun p hp => ?_, fun p hp hport hactive => ?_⟩
    · rw [List.mem_cons, not_or] at hp
      exact (hother p hp.2).trans (s.announceAt_port hp.1)
    · by_cases hpq : p = q
      · subst hpq
        obtain ⟨n, hn⟩ := State.announceAt_port_same hport hactive
        exact ⟨n, (hother p hq).trans hn⟩
      · have hsame := s.announceAt_port hpq
        obtain ⟨n, hn⟩ := htold p ((List.mem_cons.mp hp).resolve_left hpq) (by rw [hpart, hport]) (by rw [hsame, hactive])
        rw [hsame, hfirst.vcWeights_eq, hfirst.announcement_eq] at hn
        exact ⟨n, hn⟩

/-- The part when its next announcement is due. -/
def State.announcing (s : State) : State :=
  (s.reach s.boot.announce).modBoot (fun b => { b with announce := max s.now s.boot.announce + 1000 * unitsPerMs })

/-- The part once every ACTIVE port has taken its announcement. -/
def State.announced (s : State) : State := (List.range 27).foldl (fun s p => s.announceAt p) s.announcing

theorem State.announced_sent (s : State) : s.announcing.Sent s.announced :=
  .foldl (fun s p => s.announceAt_sent p) (List.range 27) s.announcing

theorem State.announce_of_rom (h : s.boot.mode = .rom) : let a := bits (s.par K.REPORT_ADDRESS) 23 0
    s.announce = if a = 0 then s.announced else
      match (s.announced.route a).bind (fun mask => s.announced.choosePort mask 0) with
      | none => s.announced.bump K.MGMT_SEND_DROPS 1
      | some p => s.announced.toPort p (s.announced.announcement a) := by
  have hpar : s.announced.par K.REPORT_ADDRESS = s.par K.REPORT_ADDRESS := s.announced_sent.par_eq _
  dsimp only
  rw [← hpar]
  exact if_neg (not_not.mpr h)

/-- Whether it is told to REPORT_ADDRESS too or not, what stands is as when the ports had been told. -/
theorem State.announce_leaves (h : s.boot.mode = .rom) : let t := s.announce
    t.pending = s.pending ∧ t.part = s.part ∧ t.now = s.announcing.now ∧ t.boot = s.announcing.boot := by
  obtain ⟨u, hu⟩ : ∃ u, u = s.announced := ⟨_, rfl⟩
  have hstands : u.pending = s.pending ∧ u.part = s.part ∧ u.now = s.announcing.now ∧ u.boot = s.announcing.boot := by
    rw [hu, s.announced_sent.frame]
    exact ⟨rfl, rfl, rfl, rfl⟩
  dsimp only
  rw [State.announce_of_rom h, ← hu]
  split
  · exact hstands
  · split
    · exact hstands
    · rw [State.toPort_frame]
      exact hstands

theorem exec_announce_of_rom (h : s.boot.mode = .rom) : ∃ t, exec .announce s = .next t ∧
    t.now = max s.now s.boot.announce ∧ t.boot = { s.boot with announce := t.now + 4000000000 } ∧
    (bits (s.par K.REPORT_ADDRESS) 23 0 = 0 → ∀ p < 27, s.part.hasPort p = true → (s.port p).mode = .active → ∃ n,
      t.port p = Port.pump s.vcWeights n { s.port p with out := (s.port p).out ++ [s.announcement 0xFFFFFF] }) := by
  obtain ⟨hpending, hpart, hnow, hboot⟩ := State.announce_leaves h
  refine ⟨_, exec_next_of_eq (i := .announce) rfl rfl hpending hpart, hnow, by rw [hnow, hboot]; rfl, fun haddr p hp => ?_⟩
  rw [State.announce_of_rom h, if_pos haddr]
  exact (State.foldl_announceAt List.nodup_range s.announcing).2 p (List.mem_range.mpr hp)

end

/-! ### The requests of an image, in their turn (R584, R586) -/

section
variable {s o : State} {q : Fin 27} {m : List (BitVec 128)} {g : Staged}

theorem exec_imageBegin (hturn : itsTurn s q m o) (hop : (MReq.read q m).op = 0x11) (hlength : (MReq.read q m).length = 0)
    (hsegment : (MReq.read q m).segment = 0) (hlow : 4097 ≤ (MReq.read q m).sel) (hhigh : (MReq.read q m).sel ≤ 67108864)
    (hwriting : s.boot.writing = false) (hstaging : s.noStaging = false) : ∃ t, exec (.imageBegin q m) s = .next t ∧
      replied o t (MReq.read q m) 0 0 [] ∧ t.boot = { s.boot with staged := some ⟨(MReq.read q m).sel, [], none⟩ } ∧
      t.mem = s.mem := by
  obtain ⟨hv, hboot, hmem⟩ := turned_of_itsTurn hturn
  obtain ⟨t, ht, hreplied, htboot, htmem⟩ := exec_of_reply (i := .imageBegin q m) (act := State.imageBegin) hturn rfl
    (by simp [hop]) (State.imageBegin_of_good hlength hsegment hlow hhigh (by rw [hboot, hwriting])
      ((State.noStaging_of_boot hboot).trans hstaging)) (hv.modBoot _)
  exact ⟨t, ht, hreplied (by decide), htboot.trans (by rw [State.setStaged, State.modBoot, hboot]), htmem.trans hmem⟩

theorem exec_imageData (hturn : itsTurn s q m o) (hstaged : s.boot.staged = some g) (hstaging : s.noStaging = false)
    (hchunks : g.chunks.length ≤ 65536) (hop : (MReq.read q m).op = 0x12)
    (hdata : (MReq.read q m).data.length = (MReq.read q m).length) (hlow : 1 ≤ (MReq.read q m).length)
    (hhigh : (MReq.read q m).length ≤ 1024) (hsegment : (MReq.read q m).segment = 0)
    (hin : 1024 * (MReq.read q m).sel + (MReq.read q m).length ≤ g.length) : let r := MReq.read q m
    ∃ t ch, exec (.imageData q m) s = .next t ∧ replied o t r 0 ch.length [] ∧
      t.boot = { s.boot with staged := some ⟨g.length, ch, none⟩ } ∧ (∀ n, n ∈ ch ↔ n ∈ g.chunks ∨ n = r.sel) ∧
      (∀ n < r.length, (t.mem.service.byte (1024 * r.sel + n)).toNat = r.data.getD n 0 % 256) ∧
      (∀ a, (a < 1024 * r.sel ∨ 1024 * r.sel + r.length ≤ a) → t.mem.service.byte a = s.mem.service.byte a) ∧
      t.mem.hbm = s.mem.hbm ∧ t.mem.shelf = s.mem.shelf := by
  obtain ⟨hv, hboot, hmem⟩ := turned_of_itsTurn hturn
  obtain ⟨t, ht, hreplied, htboot, htmem⟩ := exec_of_reply (i := .imageData q m) (act := State.imageData) hturn rfl
    (by simp [hop]) (State.imageData_of_good hlow hhigh hsegment hin (by rw [hboot, hstaged])
      ((State.noStaging_of_boot hboot).trans hstaging)) (hv.chunked _ g)
  have hwritten : t.mem = { s.mem with
      service := s.mem.service.write (1024 * (MReq.read q m).sel) (MReq.read q m).data } := htmem.trans (by rw [← hmem]; rfl)
  have hcount := length_insertNat_le (MReq.read q m).sel g.chunks
  refine ⟨t, insertNat (MReq.read q m).sel g.chunks, ht, hreplied (by omega), htboot.trans ?_,
    fun n => mem_insertNat.trans or_comm, fun n hn => ?_, fun a ha => ?_, by rw [hwritten], by rw [hwritten]⟩
  · rw [State.chunked, State.setStaged, State.modBoot, hboot]
  · rw [hwritten, Store.byte_write, if_pos (by omega), Nat.add_sub_cancel_left, BitVec.toNat_ofNat]
  · rw [hwritten]
    exact Store.byte_write_out _ _ _ _ (by rwa [hdata])

theorem exec_imageCheck (hturn : itsTurn s q m o) (hstaged : s.boot.staged = some g) (hstaging : s.noStaging = false)
    (hop : (MReq.read q m).op = 0x13) (hlength : (MReq.read q m).length = 0) (hsegment : (MReq.read q m).segment = 0)
    (hwhole : (g.length + 1023) / 1024 ≤ g.chunks.length) : ∃ t, exec (.imageCheck q m) s = .next t ∧
      t.boot = { s.boot with staged := some { g with verdict := some s.checkImage } } ∧ t.mem = s.mem := by
  obtain ⟨hv, hboot, hmem⟩ := turned_of_itsTurn hturn
  have hcheck := State.checkImage_of_same hv.part_eq hmem hboot
  obtain ⟨t, ht, -, htboot, htmem⟩ := exec_of_reply (i := .imageCheck q m) (act := State.imageCheck) hturn rfl
    (by simp [hop]) (State.imageCheck_of_good hlength hsegment hwhole (by rw [hboot, hstaged])
      ((State.noStaging_of_boot hboot).trans hstaging)) (hv.modBoot _)
  exact ⟨t, ht, htboot.trans (by rw [State.setStaged, State.modBoot, hboot, hcheck]), htmem.trans hmem⟩

theorem exec_imageFlash (hturn : itsTurn s q m o) (hstaged : s.boot.staged = some g) (hstaging : s.noStaging = false)
    (hop : (MReq.read q m).op = 0x14) (hlength : (MReq.read q m).length = 0) (hsegment : (MReq.read q m).segment = 0)
    (hverdict : g.verdict = some 0) (hflash : bit s.boot.flashStatus 9 = true) (hwriting : s.boot.writing = false) :
    ∃ t, exec (.imageFlash q m) s = .next t ∧ t.boot = s.boot.flashing ∧ t.mem = s.mem := by
  obtain ⟨hv, hboot, hmem⟩ := turned_of_itsTurn hturn
  obtain ⟨t, ht, -, htboot, htmem⟩ := exec_of_reply (i := .imageFlash q m) (act := State.imageFlash) (sel := 0) hturn rfl
    (by simp [hop]) (State.imageFlash_of_good hlength hsegment
      (State.passed_of_good (by rw [hboot, hstaged]) hverdict ((State.noStaging_of_boot hboot).trans hstaging))
      (by rw [hboot, hflash]) (by rw [hboot, hwriting])) (hv.modBoot _)
  exact ⟨t, ht, htboot.trans (by rw [State.modBoot, hboot]), htmem.trans hmem⟩

theorem exec_imageStart (b : BootIn) (hturn : itsTurn s q m o) (hstaged : s.boot.staged = some g)
    (hstaging : s.noStaging = false) (hop : (MReq.read q m).op = 0x15) (hlength : (MReq.read q m).length = 0)
    (hsegment : (MReq.read q m).segment = 0) (hverdict : g.verdict = some 0) : ∃ t, exec (.imageStart q m b) s = .next t ∧
      t.now = s.now + 4000 * b.took.toNat ∧ t.service.mgmt.queue = [] ∧ (s.boot.writing = false → t.boot.staged = none) ∧
      (s.verifyImage = 0 → t.boot.mode = .running ∧ t.boot.ready = true ∧ t.boot.last = 11) ∧
      (s.verifyImage ≠ 0 → t.boot.mode = .rom ∧ t.boot.cause = s.verifyImage) := by
  obtain ⟨hv, hboot, hmem⟩ := turned_of_itsTurn hturn
  have hpassed := State.passed_of_good (v := o.bump K.MGMT_REQUESTS 1) (by rw [hboot, hstaged]) hverdict
    ((State.noStaging_of_boot hboot).trans hstaging)
  obtain ⟨cold, hstart⟩ := State.imageStart_of_good (b := b) hlength hsegment hpassed
  obtain ⟨hpending, hpart, hub, hum, hnow, hqueue⟩ := (o.bump K.MGMT_REQUESTS 1).restarted_stands (MReq.read q m) b
  generalize (o.bump K.MGMT_REQUESTS 1).restarted (MReq.read q m) b = u at *
  have hkept := State.Kept.bootFrom5 u b cold
  have hverify := State.verifyImage_of_same (hpart.trans hv.part_eq) (hum.trans hmem) (hub.trans hboot)
  obtain ⟨hempty, hstays, hgood, hbad⟩ := u.bootFrom5_outcome b cold
  rw [hverify] at hgood hbad
  rw [hub, hboot] at hstays
  exact ⟨_, exec_next_of_eq (i := .imageStart q m b) rfl
      ((State.serve_of_turn hturn (by simp [hop]) (State.imageStart b)).trans hstart)
      (hkept.pending_eq.trans (hpending.trans hv.pending_eq)) (hkept.part_eq.trans (hpart.trans hv.part_eq)),
    hkept.now_eq.trans (hnow.trans (by rw [hv.now_eq])), hempty.trans hqueue, hstays, hgood, hbad⟩

/-! ### IMAGE_FLASH_END (R586) -/

theorem exec_imageFlashEnd_of_none (ok : Bool)
    (h : s.answering = false ∨ s.boot.writing = false ∨ s.boot.staged = none) : exec (.imageFlashEnd ok) s = .next s := by
  refine exec_next_of_eq (i := .imageFlashEnd ok) rfl ?_ rfl rfl
  split
  next hanswer =>
    unfold State.flashEnd
    split
    · rfl
    next hstaged =>
      have hwriting : s.boot.writing = false := by simpa [hanswer, hstaged] using h
      rw [hwriting]
      rfl
  next => rfl

theorem exec_imageFlashEnd_of_good (hanswer : s.answering = true) (hwriting : s.boot.writing = true)
    (hstaged : s.boot.staged = some g) : ∃ t, exec (.imageFlashEnd true) s = .next t ∧ t.boot.writing = false ∧
      bit t.boot.flashStatus 10 = false ∧ t = { s with free := t.free, boot := t.boot } ∧ t.boot.progress = 100 ∧
      ∀ a < min 0x10000 g.length, Tbl.get t.boot.flash 0xFF a = (s.mem.service.byte a).toNat := by
  obtain ⟨body, hend⟩ := State.flashEnd_of_good hstaged hwriting
  refine ⟨_, exec_next_of_eq (i := .imageFlashEnd true) rfl ((if_pos hanswer).trans hend) rfl rfl, rfl,
    bit_setBits_same _ 10 false, rfl, rfl, fun a ha => ?_⟩
  have hlength : (s.staging 0 (min 0x10000 g.length)).length = min 0x10000 g.length := by
    rw [State.staging, Store.read_eq, List.length_map, List.length_range]
  refine ((s.boot.bodied body).writeFlash_get 0 _ a).trans ?_
  rw [if_pos (by omega), State.staging, Store.read_eq, Nat.sub_zero, List.getD_eq_getElem _ _ (by simpa using ha)]
  simp only [List.getElem_map, List.getElem_range, Nat.zero_add]
  exact Nat.mod_eq_of_lt (s.mem.service.byte a).isLt

theorem exec_imageFlashEnd_of_bad (hanswer : s.answering = true) (hwriting : s.boot.writing = true)
    (hstaged : s.boot.staged = some g) : ∃ t, exec (.imageFlashEnd false) s = .next t ∧ t.boot.writing = false ∧
      bit t.boot.flashStatus 10 = true ∧ t = { s with free := t.free, boot := t.boot } ∧
      ∀ a < 0x10000, Tbl.get t.boot.flash 0xFF a = Tbl.get s.boot.flash 0xFF a := by
  obtain ⟨body, hend⟩ := State.flashEnd_of_bad hstaged hwriting
  exact ⟨_, exec_next_of_eq (i := .imageFlashEnd false) rfl ((if_pos hanswer).trans hend) rfl rfl, rfl,
    bit_setBits_same _ 10 true, rfl, fun a ha => s.boot.bodied_get body ha⟩

end

/-- Settles O52: each request acts on the image once its turn has come, and its reply leaves that as it is. -/
theorem imagesAreStagedCheckedAndWritten : Obligations.ImagesAreStagedCheckedAndWritten := by
  refine ⟨fun q m b s o hturn => ⟨fun hop hlength hsegment hlow hhigh hwriting hstaging => ?begins,
    fun g hstaged hstaging hchunks => ⟨?data, ?check, ?flash, ?start⟩⟩,
    fun ok s => ⟨fun h => ?idle, fun g hanswer hwriting hstaged => ?ended⟩, fun s => ⟨fun h => ?silent, fun h => ?announces⟩⟩
  case begins => exact exec_imageBegin hturn hop hlength hsegment hlow hhigh hwriting hstaging
  case data =>
    intro hop hdata hlow hhigh hsegment hin
    exact exec_imageData hturn hstaged hstaging hchunks hop hdata hlow hhigh hsegment hin
  case check =>
    intro hop hlength hsegment hwhole
    exact exec_imageCheck hturn hstaged hstaging hop hlength hsegment hwhole
  case flash =>
    intro hop hlength hsegment hverdict hflash hwriting
    obtain ⟨t, ht, hboot, hmem⟩ := exec_imageFlash hturn hstaged hstaging hop hlength hsegment hverdict hflash hwriting
    refine ⟨t, ht, by rw [hboot]; rfl, by rw [hboot]; rfl, fun a ha => ?_, fun a ha => ?_, hmem⟩
    · rw [hboot, Boot.flashing_get, if_pos ha]
    · rw [hboot, Boot.flashing_get, if_neg (Nat.not_lt.mpr ha)]
  case start =>
    intro hop hlength hsegment hverdict
    exact exec_imageStart b hturn hstaged hstaging hop hlength hsegment hverdict
  case idle => exact exec_imageFlashEnd_of_none ok h
  case ended =>
    cases ok
    case true =>
      obtain ⟨t, ht, hover, hbit, hframe, hprogress, hfirst⟩ := exec_imageFlashEnd_of_good hanswer hwriting hstaged
      exact ⟨t, ht, hover, hbit, hframe, fun _ => ⟨hprogress, hfirst⟩, fun h => absurd h (by decide)⟩
    case false =>
      obtain ⟨t, ht, hover, hbit, hframe, hkept⟩ := exec_imageFlashEnd_of_bad hanswer hwriting hstaged
      exact ⟨t, ht, hover, hbit, hframe, fun h => absurd h (by decide), fun _ => hkept⟩
  case silent => exact exec_next_of_eq (i := .announce) rfl (if_pos h) rfl rfl
  case announces => exact exec_announce_of_rom h

end Sys2Proof.Machine
end
